-- ==== Sys2Proof/Word.lean ====
section
/-! DEFINITION. The plainest words of the TBC-24 model: a byte of the loop or the trunk, a text of
characters, and the 16-flag class mask of R22 and R38. -/

namespace Sys2Proof

/-- One byte of a loop segment or a trunk frame (R186). -/
abbrev Byte := BitVec 8

/-- A text of characters, one byte each. -/
abbrev Text := List Byte

/-- A class mask: 16 flags, flag `c` for class `c` (R22, R38). -/
abbrev ClassMask := BitVec 16

/-- Class `c` is in the mask. A number above 15 is no class and is in no mask. -/
def ClassMask.has (m : ClassMask) (c : Nat) : Bool := m.getLsbD c

/-- The mask with class `c` added (R35, step 2). -/
def ClassMask.add (m : ClassMask) (c : Nat) : ClassMask := m ||| BitVec.twoPow 16 c

end Sys2Proof
end

