-- ==== Sys2Proof/Machine/Vocabulary.lean ====
section
/-! DEFINITION. The manual's vocabulary: the named states, outcomes, conditions and records of
chapters 1 to 12, as plain data. Syntax.lean builds the commands from it, State.lean the state. -/

namespace Sys2Proof

/-! ### Loop, drops and signalling (chapter 1) -/

/-- The type of a drop in the drop table (R2). -/
inductive DropType where
  | teller | printer
  deriving DecidableEq, Repr, Inhabited

/-- The four states of a drop (section 1.4). -/
inductive DropState where
  | absent | active | degraded | fenced
  deriving DecidableEq, Repr, Inhabited

/-- The loop state (R12, R13). -/
inductive LoopState where
  | running | loopFault
  deriving DecidableEq, Repr, Inhabited

/-- The four signalling values of an upstream half (section 1.6). -/
structure Signals where
  drawerOpen  : Bool
  keyOperate  : Bool
  bookIn      : Bool
  selfFault   : Bool
  deriving DecidableEq, Repr, Inhabited

/-- A returned cycle (R1): whether its marker came back in slot 0, whether it was back complete
before the end of its period, and the raw upstream halves of slots 1, 2, … in order. -/
structure ReturnedCycle where
  markerInPlace : Bool
  inTime        : Bool
  halves        : List (List Byte)
  deriving DecidableEq, Repr, Inhabited

/-! ### Money, definitions and requests (chapters 3 and 4) -/

inductive Currency where
  | home | foreign
  deriving DecidableEq, Repr, Inhabited

/-- The home cash leg of a definition (R40). -/
inductive CashEffect where
  | noCash | cashIn | cashOut
  deriving DecidableEq, Repr, Inhabited

/-- The account leg of a definition (R40). -/
inductive AccountEffect where
  | noAccount | debit | credit
  deriving DecidableEq, Repr, Inhabited

/-- Where a transaction may be decided (R40). -/
inductive Routing where
  | onlineOnly | standInAllowed | localOnly
  deriving DecidableEq, Repr, Inhabited

inductive CurrencyMode where
  | home | buyForeign | sellForeign
  deriving DecidableEq, Repr, Inhabited

inductive DrawerTarget where
  | own | reserve
  deriving DecidableEq, Repr, Inhabited

/-- One transaction definition (R40). -/
structure Definition where
  cls          : Nat
  cash         : CashEffect
  account      : AccountEffect
  routing      : Routing
  mode         : CurrencyMode
  passbookLine : Bool
  noTraining   : Bool
  target       : DrawerTarget
  text         : Text
  deriving DecidableEq, Repr, Inhabited

inductive RouteResult where
  | localAccount | otherBranch | refuse
  deriving DecidableEq, Repr, Inhabited

/-- A non-empty route table entry (R43): a pattern of 12 digits read as a number, the mask flag of
digit `k` in bit `k - 1`, and the result. -/
structure Route where
  pattern : Nat
  masked  : BitVec 12
  result  : RouteResult
  deriving DecidableEq, Repr, Inhabited

/-- The kinds of a leg (R132). -/
inductive LegKind where
  | cashIn | cashOut | accountCredit | accountDebit
  deriving DecidableEq, Repr, Inhabited

/-- One part of a transaction's money movement (R41). -/
structure Leg where
  currency : Currency
  kind     : LegKind
  amount   : Nat
  deriving DecidableEq, Repr, Inhabited

inductive RateName where
  | buy | sell
  deriving DecidableEq, Repr, Inhabited

/-- What the arithmetic keeps of an exchange (R59): the rate used with its name, the foreign amount
as keyed, the reduced foreign amount and the unsold remainder. -/
structure Exchange where
  name    : RateName
  rate    : Nat
  keyed   : Nat
  reduced : Nat
  unsold  : Nat
  deriving DecidableEq, Repr, Inhabited

/-- A numeric field of a TXN-REQUEST: omitted, not readable as a number, or a number (R42). -/
inductive Field where
  | absent | unreadable | value (n : Nat)
  deriving DecidableEq, Repr, Inhabited

/-- The fields of a TXN-REQUEST as keyed (R42). An account is its 12 digits read as a number. -/
structure TxnFields where
  code    : Field
  account : Option Nat
  home    : Field
  foreign : Field
  deriving DecidableEq, Repr, Inhabited

/-- The leg a refusal of the amount or drawer checks names (R57). -/
structure LegNote where
  currency : Currency
  kind     : LegKind
  amount   : Option Nat
  deriving DecidableEq, Repr, Inhabited

/-- Every outcome and answer name of the manual (chapter "Outcomes"). -/
inductive Result where
  | done | approved | approvedStandIn | trainingOk | declined
  | notSignedOn | stationLocked | busy | dayNotOpen | dayClosing
  | unknownCode | classMasked | trainingRefused | rateStale
  | amountRange | amountUnit | totalRange | routeRefused
  | drawerOpen | cashShort | noDrawer | journalFull
  | headOfficeUnavailable | noAccount | accountBlocked | standInLimit
  | insufficientBalance | safFull | overrideDenied | overrideExpired | cancelled
  | notPermitted | cancelTooLate | samePerson | nothingHeld | transitFull | transitOpen
  | noSuchTransfer | drawerNotBalanced | inFlight | alreadySignedOn | credentialFail | lockedOut
  deriving DecidableEq, Repr, Inhabited

/-- The route TRAINING-OK carries (R31). -/
inductive TrainingRoute where
  | localRoute | online | standIn
  deriving DecidableEq, Repr, Inhabited

/-- The reasons of an override hold (R33). -/
structure HoldReason where
  cls    : Bool
  amount : Bool
  deriving DecidableEq, Repr, Inhabited

/-! ### Tellers and drawers (chapters 2 and 5) -/

inductive Role where
  | teller | supervisor | chiefTeller
  deriving DecidableEq, Repr, Inhabited

/-- The session states of section 2.3. -/
inductive SessionState where
  | signedOff | active | suspended | lockedOut
  deriving DecidableEq, Repr, Inhabited

/-- The balance states of a drawer (section 5.5). -/
inductive BalanceState where
  | notDue | due | held | balanced
  deriving DecidableEq, Repr, Inhabited

/-- The counts of a COUNT-DECLARE: pairs of a denomination's value and its count (R69). -/
structure Counts where
  home    : List (Nat × Nat)
  foreign : List (Nat × Nat)
  deriving DecidableEq, Repr, Inhabited

inductive TransferStep where
  | give | accept | recall
  deriving DecidableEq, Repr, Inhabited

/-! ### Dates, day states and tables (chapter 10) -/

structure Date where
  year  : Nat
  month : Nat
  day   : Nat
  deriving DecidableEq, Repr, Inhabited

structure TimeOfDay where
  hour   : Nat
  minute : Nat
  second : Nat
  deriving DecidableEq, Repr, Inhabited

/-- The day states (section 10.1). -/
inductive DayState where
  | noDay | loading | opened | closeProposed | closeDrain | balancing | sending | sendStalled | sent
  deriving DecidableEq, Repr, Inhabited

/-- The nine table kinds of R156, in the order of its table. -/
inductive TableKind where
  | tellers | codes | definitions | routes | sat | rates | denominations | layout | parameters
  deriving DecidableEq, Repr, Inhabited

/-- One value for each of the nine table kinds. -/
structure PerKind (α : Type) where
  tellers       : α
  codes         : α
  definitions   : α
  routes        : α
  sat           : α
  rates         : α
  denominations : α
  layout        : α
  parameters    : α
  deriving DecidableEq, Repr, Inhabited

/-- A column of the passbook layout (R146): its start and its width. -/
structure Column where
  start : Nat
  width : Nat
  deriving DecidableEq, Repr, Inhabited

/-- The layout record (R146). -/
structure Layout where
  date       : Column
  text       : Column
  reference  : Column
  withdrawal : Column
  deposit    : Column
  balance    : Column
  mark       : Byte
  deriving DecidableEq, Repr, Inhabited

/-- The parameters record (R157): the slot map gives slots 1 to 31 in order, the drop table drops 1
to 28 in order, the cash-high limits drawers 0 to 24 in order. -/
structure Params where
  slotMap       : List (Option Nat)
  dropTable     : List (DropType × Nat)
  cashHigh      : List Nat
  checkPeriod   : Nat
  replyTimeout  : Nat
  blockTimer    : Nat
  passbookClass : Nat
  toleranceHome : Nat
  toleranceForeign : Nat
  deriving DecidableEq, Repr, Inhabited

/-- An entry of a TELLERS load (R157). -/
inductive TellerEntry where
  | load (number : Nat) (role : Role) (training : Bool) (check cashLimit : Nat)
      (restriction : ClassMask) (drawer : Option Nat)
  | remove (number : Nat)
  deriving DecidableEq, Repr, Inhabited

/-- An entry of a CODES load: `index = none` is UNUSED (R39, R157). -/
structure CodeEntry where
  code  : Nat
  index : Option Nat
  deriving DecidableEq, Repr, Inhabited

/-- An entry of a DEFINITIONS load: `body = none` is the index marked EMPTY (R40, R157). -/
structure DefinitionEntry where
  index : Nat
  body  : Option Definition
  deriving DecidableEq, Repr, Inhabited

/-- An entry of a ROUTES load: `body = none` is the index marked EMPTY (R43, R157). -/
structure RouteEntry where
  index : Nat
  body  : Option Route
  deriving DecidableEq, Repr, Inhabited

/-- The passbook part an SAT load entry may carry (R158). -/
structure BookLoad where
  balance : Int
  page    : Nat
  line    : Nat
  deriving DecidableEq, Repr, Inhabited

/-- An entry of an SAT load (R158). -/
structure SatLoad where
  account  : Nat
  snapshot : Int
  limit    : Nat
  blocked  : Bool
  book     : Option BookLoad
  deriving DecidableEq, Repr, Inhabited

/-- The five loaded fields of the rate record (R61). -/
structure RateLoad where
  buy      : Nat
  sell     : Nat
  unitHome : Nat
  unitForeign : Nat
  validity : Nat
  deriving DecidableEq, Repr, Inhabited

/-- An entry of a DENOMINATIONS load (R69, R157). -/
structure DenominationEntry where
  currency : Currency
  values   : List Nat
  deriving DecidableEq, Repr, Inhabited

/-! ### Passbooks (chapter 9) -/

/-- A position in a book: a page and a line, or END, which a stripe calls FULL (R143). -/
inductive BookPos where
  | line (page line : Nat)
  | full
  deriving DecidableEq, Repr, Inhabited

/-- What BOOK-PRESENT carries (R142). -/
inductive Stripe where
  | unreadable
  | read (account : Nat) (pos : BookPos)
  deriving DecidableEq, Repr, Inhabited

/-- The reasons of a refused or ejected book (R142, R143, R149, R150). -/
inductive BookReason where
  | noStripe | dayNotOpen | notPassbook | accountBusy | bookFull | bookSuperseded
  | positionMismatch | printerFault
  deriving DecidableEq, Repr, Inhabited

/-- The states of a printer session (section 9.3). -/
inductive PrinterState where
  | idle | identify | fetching | printing | turning | finished | refused
  deriving DecidableEq, Repr, Inhabited

/-- A line carried by a FETCH-REPLY; `amount = none` is an amount that cannot be read (R145). -/
structure FetchLine where
  date   : Date
  text   : Text
  amount : Option Int
  deriving DecidableEq, Repr, Inhabited

/-- A printed column: its start, its width and the characters shown in it (R146). -/
structure ShownColumn where
  start : Nat
  width : Nat
  chars : Text
  deriving DecidableEq, Repr, Inhabited

/-! ### The journal (chapter 8) -/

/-- The dispositions of section 8.5. -/
inductive Disposition where
  | awaiting | approved | declined | timedOut | timedOutUnadvised
  | advicePending | adviceConfirmed | exception | done | reversalPending | reversalSent
  deriving DecidableEq, Repr, Inhabited

/-- The mode of a POSTING record (R132). -/
inductive Mode where
  | online | standIn | localMode
  deriving DecidableEq, Repr, Inhabited

/-- The three causes of a recovery (R180). -/
inductive Cause where
  | powerOn | resetPin | restart
  deriving DecidableEq, Repr, Inhabited

/-- The fields of a POSTING record (R132). -/
structure Posting where
  definition : Nat
  code       : Nat
  account    : Option Nat
  legs       : List Leg
  exchange   : Option Exchange
  mode       : Mode
  deriving DecidableEq, Repr, Inhabited

/-- The fields of a record's kind (R131). A FORCED COUNT has neither counts nor declared amounts. -/
inductive RecordBody where
  | signOn
  | signOff
  | posting (p : Posting)
  | reversalAdvice (definition code : Nat) (account : Option Nat) (legs : List Leg)
  | transfer (step : TransferStep) (entry source target : Nat) (currency : Currency) (amount : Nat)
  | count (drawer : Nat) (declared : Option (Nat × Nat)) (diffHome diffForeign : Int)
      (counts : Option Counts) (forced : Bool)
  | drawerAlert (drawer : Option Nat)
  | passbookAlert (account : Option Nat) (stripe : Option BookPos) (reason : BookReason)
  | passbookPrint (account lines : Nat) (next : BookPos) (balance : Int)
  | closeMark (cutoff : Nat)
  | recoveryMark (cause : Cause) (found : DayState) (resolved : Nat)
  deriving DecidableEq, Repr, Inhabited

/-- The eleven kinds of a record (R131). -/
inductive RecordKind where
  | signOn | signOff | posting | reversalAdvice | transfer | count | drawerAlert | passbookAlert | passbookPrint
  | closeMark | recoveryMark
  deriving DecidableEq, Repr, Inhabited

/-- A field of a record's kind for which R186 states neither width nor code (R131). -/
inductive OwnField where
  | step (step : TransferStep)
  | entry (number : Nat)
  | drawer (number : Nat)
  | currency (currency : Currency)
  | counts (counts : Counts)
  | forced (forced : Bool)
  | position (pos : BookPos)
  | reason (reason : BookReason)
  | lines (printed : Nat)
  | balance (printed : Int)
  | cutoff (cutoff : Nat)
  | cause (cause : Cause)
  | found (day : DayState)
  | resolved (resolved : Nat)
  deriving DecidableEq, Repr, Inhabited

/-- A field of a record's kind that may be absent (R131). -/
inductive OptionalField where
  | drawer | counts | stripe
  deriving DecidableEq, Repr, Inhabited

/-- A journal record: the common fields and the fields of its kind (R131). -/
structure Record where
  seq         : Nat
  stamp       : Nat
  drop        : Option Nat
  teller      : Option Nat
  supervisor  : Option Nat
  disposition : Option Disposition
  reference   : Option Nat
  referred    : Option Nat
  body        : RecordBody
  deriving DecidableEq, Repr, Inhabited

/-- The advice kinds of section 7.4. -/
inductive AdviceKind where
  | posting | reversal
  deriving DecidableEq, Repr, Inhabited

/-- The thirteen control totals, in the order of R169. -/
structure Totals where
  records     : Int
  debit       : Int
  credit      : Int
  homeIn      : Int
  homeOut     : Int
  foreignIn   : Int
  foreignOut  : Int
  hash        : Int
  overHome    : Int
  overForeign : Int
  pending     : Int
  exceptions  : Int
  unadvised   : Int
  deriving DecidableEq, Repr, Inhabited

/-! ### The trunk (chapter 6) -/

/-- The link states of section 6.2. -/
inductive LinkState where
  | offline | resync | online | suspect
  deriving DecidableEq, Repr, Inhabited

/-- The states of a trunk slot (section 6.3). -/
inductive SlotState where
  | free | queued | sending | await
  deriving DecidableEq, Repr, Inhabited

/-- The frame kinds an online slot carries (R99). -/
inductive OnlineKind where
  | txnForward | passbookFetch
  deriving DecidableEq, Repr, Inhabited

/-- The header fields of an inbound frame that the rules use (R89, R186). -/
structure FrameHeader where
  branch : Nat
  slot   : Nat
  tag    : Nat
  deriving DecidableEq, Repr, Inhabited

/-- The inbound kinds that a NODE-STATUS may name (R184's table). -/
inductive InboundKind where
  | inquiry | notice | maskSet | dayStart | dayOpen | batchResume | batchVerdict | resendBatch | dayEnd
  deriving DecidableEq, Repr, Inhabited

/-- The reasons of a LOAD-NAK (R156), with the position of the entry at fault, counted from 1, where one
is named; a frame with no entry names none. -/
inductive LoadFault where
  | wrongState | fieldRange (position : Option Nat) | inUse (position : Nat) | tableFull
  deriving DecidableEq, Repr, Inhabited

/-- The conditions of a NODE-STATUS frame and the figures each carries (R184's table). -/
inductive Condition where
  | started (cause : Cause) (markerValid : Bool) (day : DayState) (resolved : Nat)
  | retainedLost
  | wrongState (kind : InboundKind)
  | fieldRange (kind : InboundKind)
  | noticeLimit
  | maskSet (mask : ClassMask)
  | loading (date : Option Date)
  | opened (date : Option Date)
  | noDay (date : Option Date)
  | loadMismatch (kind : TableKind) (expected accepted : Nat)
  | journalNearFull (counter : Nat)
  | journalFull (counter : Nat)
  | journalExhausted (counter : Nat)
  | passbookRange (account : Nat)
  | sending (records blocks : Nat)
  | batchStalled (oldest : Nat)
  | resumeRefused (named next refusals : Nat)
  | agreed
  | disputed (total : Nat) (ours theirs : Int)
  deriving DecidableEq, Repr, Inhabited

/-- The threshold the journal has reached (R130, R136). -/
inductive Threshold where
  | none | nearFull | full | exhausted
  deriving DecidableEq, Repr, Inhabited

/-- One currency's figures of a drawer in a DRAWERS answer (R107). -/
structure CurrencyReport where
  opening     : Int
  cashIn      : Int
  cashOut     : Int
  transferIn  : Int
  transferOut : Int
  overShort   : Int
  position    : Int
  deriving DecidableEq, Repr, Inhabited

/-- One drawer of a DRAWERS answer (R107). -/
structure DrawerReport where
  number         : Nat
  assigned       : Option Nat
  holderSignedOn : Bool
  balance        : BalanceState
  cashHigh       : Bool
  home           : CurrencyReport
  foreign        : CurrencyReport
  deriving DecidableEq, Repr, Inhabited

/-- An entry of the transit list (section 5.4). -/
structure TransitEntry where
  number   : Nat
  source   : Nat
  target   : Nat
  currency : Currency
  amount   : Nat
  giver    : Nat
  seq      : Nat
  deriving DecidableEq, Repr, Inhabited

/-- The six link statistics (R108). -/
structure LinkStats where
  badFrames      : Nat
  lateReplies    : Nat
  lateAcks       : Nat
  nodeOverruns   : Nat
  timeouts       : Nat
  offlineEntries : Nat
  deriving DecidableEq, Repr, Inhabited

/-- A trunk slot in a QUEUES answer (R107). -/
structure SlotReport where
  slot  : Nat
  state : SlotState
  drop  : Option Nat
  tag   : Option Nat
  deriving DecidableEq, Repr, Inhabited

/-- A drop in a DROPS answer (R107). -/
structure DropReport where
  addr    : Nat
  kind    : DropType
  group   : Nat
  state   : DropState
  score   : Nat
  refused : Nat
  deriving DecidableEq, Repr, Inhabited

/-- A printer session in a PASSBOOK answer (R107, R141, R152). -/
structure SessionReport where
  drop    : Option Nat
  state   : PrinterState
  account : Option Nat
  printed : Nat
  deriving DecidableEq, Repr, Inhabited

/-- The batch progress in a DAY answer (R107, R170). -/
structure BatchReport where
  blocks   : Nat
  oldest   : Nat
  next     : Nat
  attempts : Nat
  deriving DecidableEq, Repr, Inhabited

/-- The seven INQUIRY-ANSWER bodies (R107, R136). -/
inductive InquiryAnswer where
  | drawers (drawers : List DrawerReport) (transit : List TransitEntry) (netHome netForeign : Int)
  | link (state : LinkState) (lastCheck : Option Nat) (run checkPeriod replyTimeout : Nat) (stats : LinkStats)
  | queues (sfqDepth reversals : Nat) (waitList : List Nat) (slots : List SlotReport) (nodeDepth : Nat)
  | journal (used last : Nat) (reached : Threshold) (awaiting advicePending reversalPending unadvised exceptions : Nat)
  | day (state : DayState) (cutoff : Option Nat) (clock : Nat) (batch : Option BatchReport)
  | drops (drops : List DropReport) (loop : LoopState) (slips : Nat)
  | passbook (free overflowing : Nat) (sessions : List SessionReport)
  deriving DecidableEq, Repr, Inhabited

/-- The outbound answers of slot 7 (R106). -/
inductive NodeBody where
  | lineEcho (number : Nat)
  | inquiryAnswer (answer : InquiryAnswer)
  | loadAck (kind : TableKind) (accepted : Nat)
  | loadNak (kind : TableKind) (fault : LoadFault)
  | nodeStatus (condition : Condition)
  deriving DecidableEq, Repr, Inhabited

/-- An entry of the node queue (R106). -/
structure NodeEntry where
  tag  : Nat
  body : NodeBody
  deriving DecidableEq, Repr, Inhabited

/-- The body of an outbound trunk frame (R89, R101, R105, R168). -/
inductive FrameBody where
  | txnForward (drop definition code : Nat) (account : Option Nat) (legs : List Leg)
  | passbookFetch (account : Nat) (pos : BookPos)
  | advice (kind : AdviceKind) (record : Option Record)
  | node (body : NodeBody)
  | batchBlock (records : List Record)
  | batchTrailer (records blocks : Nat) (date : Option Date) (time : Option TimeOfDay) (totals : Totals)
  deriving DecidableEq, Repr, Inhabited

/-- The kinds of an outbound frame (R89). -/
inductive OutboundKind where
  | txnForward | passbookFetch | advice | lineEcho | inquiryAnswer | loadAck | loadNak | nodeStatus | batchBlock
  | batchTrailer
  deriving DecidableEq, Repr, Inhabited

/-- An outbound frame (R89). -/
structure OutFrame where
  branch : Nat
  slot   : Nat
  tag    : Nat
  body   : FrameBody
  deriving DecidableEq, Repr, Inhabited

/-- The balance an APPROVED TXN-REPLY may carry (R54, R116). -/
inductive ReplyBalance where
  | absent | unreadable | value (n : Int)
  deriving DecidableEq, Repr, Inhabited

/-- What a TXN-REPLY carries (R54, R55). -/
inductive ReplyAnswer where
  | approved (reference : Nat) (balance : ReplyBalance)
  | declined (reason : Nat)
  | neither
  deriving DecidableEq, Repr, Inhabited

/-! ### Messages of the loop (chapters 1, 3 and 9) -/

/-- The link value a status line shows (section 1.8). -/
inductive ShownLink where
  | online | resync | standIn
  deriving DecidableEq, Repr, Inhabited

/-- The day value a status line shows (section 1.8). -/
inductive ShownDay where
  | noDay | load | opened | clsP | drain | bal | send | sent
  deriving DecidableEq, Repr, Inhabited

/-- A composed status line (section 1.8). -/
structure StatusLine where
  link            : ShownLink
  day             : ShownDay
  teller          : Option Nat
  training        : Bool
  cashHigh        : Bool
  transferWaiting : Nat
  overrides       : Nat
  unseen          : Nat
  nearFull        : Bool
  degraded        : Bool
  deriving DecidableEq, Repr, Inhabited

/-- What an immediate answer carries beside its name. -/
inductive AnswerNote where
  | nothing
  | signedOn (role : Role) (training : Bool) (drawer : Option Nat)
  | transfer (entry : Nat)
  | counted (state : BalanceState) (diffHome diffForeign : Int)
  deriving DecidableEq, Repr, Inhabited

/-- A final reply (R57). -/
structure FinalReply where
  code      : Option Nat
  result    : Result
  seq       : Option Nat
  reference : Option Nat
  reason    : Option Nat
  legs      : List Leg
  reduced   : Option Nat
  unsold    : Option Nat
  balance   : Option Int
  snapshot  : Option Int
  timedOut  : Option Nat
  note      : Option LegNote
  route     : Option TrainingRoute
  wouldHold : Option HoldReason
  deriving DecidableEq, Repr, Inhabited

/-- A downstream message (R4): the LPC's own, the RQU's and the PBU's. -/
inductive DownMessage where
  | answer (result : Result) (note : AnswerNote)
  | overrideNeeded (reason : HoldReason) (compared : Option Nat) (limit : Nat)
  | final (reply : FinalReply)
  | status (line : StatusLine)
  | notice (number : Nat) (text : Text) (missed : Option Nat)
  | noNotice (missed : Option Nat)
  | readStripe
  | printLine (page line : Nat) (columns : List ShownColumn)
  | turnPage
  | eject (reason : Option BookReason)
  deriving DecidableEq, Repr, Inhabited

/-- The kinds of a downstream message, whose code its first byte is (R186). -/
inductive DownKind where
  | answer | overrideNeeded | final | status | notice | noNotice | readStripe | printLine | turnPage | eject
  deriving DecidableEq, Repr, Inhabited

/-- An upstream message as its taker reads it (R6, R10, R21, chapters 2, 3, 5, 9, 10). -/
inductive UpMessage where
  | announce (kind : DropType) (signals : Signals)
  | noticeNext
  | txnRequest (fields : TxnFields)
  | cancel
  | signOn (teller check : Nat)
  | signOff
  | unlock (teller : Nat)
  | forceSignOff (teller : Nat)
  | overrideGrant (target : Nat)
  | overrideDeny (target : Nat)
  | transferOut (target : Nat) (currency : Option Currency) (amount : Nat)
  | transferAccept (entry : Nat)
  | transferRecall (entry : Nat)
  | countDeclare (counts : Counts)
  | acceptDifference (drawer : Nat)
  | forceBalance (drawer : Nat)
  | closePropose
  | closeConfirm
  | closeWithdraw
  | bookPresent (stripe : Stripe)
  | lineDone (page line : Nat)
  | pageReady
  | printerFault
  | other
  deriving DecidableEq, Repr, Inhabited

/-- The levels of the strap pins (R185). -/
structure Straps where
  branch    : Nat
  trunkRate : Nat
  loopRate  : Nat
  deriving DecidableEq, Repr, Inhabited

end Sys2Proof
end

