-- ==== Sys2Proof/Syntax.lean ====
section
/-! DEFINITION. The commands of the TBC-24: one constructor for each row of spec/opcode_table.json,
in the table's order, with what the event carries. `drop` is the sending drop of a loop message,
`h` the header of an inbound trunk frame, `pins` the strap levels at a recovery. -/

namespace Sys2Proof

/-- The operations and events of the TBC-24. -/
inductive Instr where
  /-- R180: the supply comes up; `held` says the battery has held the retained store. -/
  | powerOn (pins : Straps) (held : Bool)
  | powerLoss
  | resetPinAssert
  | resetPinRelease (pins : Straps)
  | restart (h : FrameHeader) (pins : Straps)
  | dayClockTick
  | cycleStart
  | cycleReturn (c : ReturnedCycle)
  | announce (drop : Nat) (kind : DropType) (signals : Signals)
  | noticeNext (drop : Nat)
  | txnRequest (drop : Nat) (fields : TxnFields)
  | cancel (drop : Nat)
  | signOn (drop teller check : Nat)
  | signOff (drop : Nat)
  | unlock (drop teller : Nat)
  | forceSignOff (drop teller : Nat)
  | overrideGrant (drop target : Nat)
  | overrideDeny (drop target : Nat)
  | holdTimerExpiry (drop : Nat)
  /-- R79: `currency = none` is a currency that is neither HOME nor FOREIGN. -/
  | transferOut (drop target : Nat) (currency : Option Currency) (amount : Nat)
  | transferAccept (drop entry : Nat)
  | transferRecall (drop entry : Nat)
  | countDeclare (drop : Nat) (counts : Counts)
  | acceptDifference (drop drawer : Nat)
  | forceBalance (drop drawer : Nat)
  | closePropose (drop : Nat)
  | closeConfirm (drop : Nat)
  | closeWithdraw (drop : Nat)
  | closeWindowExpiry
  | drainEnd
  | balancingExit
  /-- R90: the bytes of a frame as received, header, body and frame check. -/
  | badFrame (bytes : List Byte)
  | lineCheck (h : FrameHeader) (number : Nat)
  | supervisionTimerExpiry
  | waitListServing
  | txnForwardStart
  | passbookFetchStart
  | adviceStart
  | nodeAnswerStart
  | waitingReportJoin
  | batchBlockStart
  | trunkFrameEnd
  | txnReply (h : FrameHeader) (answer : ReplyAnswer)
  | fetchReply (h : FrameHeader) (lines : List FetchLine)
  | replyTimerExpiry (slot : Nat)
  | adviceAck (h : FrameHeader)
  | adviceException (h : FrameHeader) (reason : Nat)
  | adviceReplyTimerExpiry
  | inquiryDrawers (h : FrameHeader)
  | inquiryLink (h : FrameHeader)
  | inquiryQueues (h : FrameHeader)
  | inquiryJournal (h : FrameHeader)
  | inquiryDay (h : FrameHeader)
  | inquiryDrops (h : FrameHeader)
  | inquiryPassbook (h : FrameHeader)
  | maskSet (h : FrameHeader) (mask : ClassMask)
  | notice (h : FrameHeader) (groups : BitVec 8) (text : Text)
  | dayStart (h : FrameHeader) (date : Date) (time : TimeOfDay) (expected : PerKind Nat)
  /-- R156, R157: an entry `none`, in any of the nine kinds, has a field that spells none of the values the rules
  name for it (a role, an effect, a currency, a drop type ...), so that it is out of its range. -/
  | loadTellers (h : FrameHeader) (entries : List (Option TellerEntry))
  | loadCodes (h : FrameHeader) (entries : List (Option CodeEntry))
  | loadDefinitions (h : FrameHeader) (entries : List (Option DefinitionEntry))
  | loadRoutes (h : FrameHeader) (entries : List (Option RouteEntry))
  | loadSat (h : FrameHeader) (entries : List (Option SatLoad))
  | loadRates (h : FrameHeader) (entries : List (Option RateLoad))
  | loadDenominations (h : FrameHeader) (entries : List (Option DenominationEntry))
  | loadLayout (h : FrameHeader) (entries : List (Option Layout))
  | loadParameters (h : FrameHeader) (entries : List (Option Params))
  | dayOpen (h : FrameHeader)
  | blockAck (h : FrameHeader) (n : Nat)
  | blockNak (h : FrameHeader) (n : Nat)
  | blockTimerExpiry
  | batchResume (h : FrameHeader) (n : Nat)
  | batchVerdict (h : FrameHeader) (totals : Totals)
  | resendBatch (h : FrameHeader)
  | dayEnd (h : FrameHeader)
  | bookPresent (drop : Nat) (stripe : Stripe)
  | lineDone (drop page line : Nat)
  | pageReady (drop : Nat)
  | printerFault (drop : Nat)
  /-- R150: the 30 s answer timer of the printer session of `drop`. -/
  | answerTimerExpiry (drop : Nat)
  | cycleNotBackAtPeriodEnd
  | inquiryUnknownKind (h : FrameHeader)
  deriving DecidableEq, Repr

end Sys2Proof
end

