-- ==== Sys2Proof/Decode.lean ====
section
/-! DEFINITION. Words of the opcode table. No row of the table carries bits: the commands of the TBC-24
are events of its pins, its loop and its trunk, and no word spells one. -/

namespace Sys2Proof

/-- The command a word spells by the table's bits: none, for no row of the table gives bits. -/
def decodeTableWord (_nbits _w : Nat) : Option Instr := none

end Sys2Proof
end

