-- ==== Sys2Proof/Config.lean ====
section
/-! DEFINITION. The figures the manual fixes, under names, and the free values: opaque constants for
what the manual leaves open (the codes and layouts of messages and frames that R186 does not give). -/

namespace Sys2Proof

/-! ### Figures of the manual -/

/-- The largest request or leg amount (section 4.1). -/
def Config.maxAmount : Nat := 9999999999
/-- The largest drawer position, day sum, snapshot or limit (sections 4.1, 5.1, 7.1). -/
def Config.maxTotal : Nat := 999999999999
/-- The largest printed or line balance (section 9.1). -/
def Config.maxBook : Int := 999999999999999
/-- Account numbers are 12 decimal digits (R42). -/
def Config.accountBound : Nat := 1000000000000
/-- Ordinary records are taken below this used count (R129, R47). -/
def Config.ordinaryLimit : Nat := 65279
/-- Reserve records are taken below this used count (R129). -/
def Config.reserveLimit : Nat := 65535
/-- The near-full threshold (R130). -/
def Config.nearFull : Nat := 61439
/-- Where the link statistics, the slip counter and the refused-resume count stop (R108, R170). -/
def Config.maxCount : Nat := 65535
/-- Where the day clock stops (R127). -/
def Config.maxClock : Nat := 4294967295
/-- The override hold timer and the close window, in seconds (R33, R161). -/
def Config.holdSeconds : Nat := 120
/-- The printer answer timer (R141). -/
def Config.answerSeconds : Nat := 30
/-- Places of the SFQ, and those open to posting advices (R118). -/
def Config.sfqPlaces : Nat := 2048
def Config.sfqPostings : Nat := 2040
/-- Lines of the pending pool (R138), and the list length folding keeps (R139, R152). -/
def Config.poolLines : Nat := 8192
def Config.listLines : Nat := 40
/-- The largest item count of a line or an overflow (R139, R140). -/
def Config.maxItems : Nat := 99999
/-- Places of the node queue (R106), the transit list (R78), the outbound queue (R4) and the notice
table (R19). -/
def Config.nodePlaces : Nat := 4
def Config.transitPlaces : Nat := 16
def Config.outboundPlaces : Nat := 4
def Config.noticePlaces : Nat := 8
/-- Entries of the teller table (R22) and of the SAT (R110). -/
def Config.tellerPlaces : Nat := 32
def Config.satPlaces : Nat := 4096
/-- The scores at which a drop is DEGRADED and FENCED, and where the score stops (R5, R7). -/
def Config.degradedScore : Nat := 96
def Config.fencedScore : Nat := 192
def Config.maxScore : Nat := 255

/-! ### Free values -/

/-- The kind code a downstream message begins with (R186 gives no codes). -/
opaque Config.downKind : DownKind → Byte
/-- The body bytes of a downstream message (no layout is given). -/
opaque Config.downBody : DownMessage → List Byte
/-- What an upstream message's kind byte and body spell (no codes or layouts are given). -/
opaque Config.readUp : Byte → List Byte → UpMessage
/-- The message bytes of an upstream half whose byte count is above 16 (R186 gives the count no such value). -/
opaque Config.overcountBytes : List Byte → List Byte
/-- What byte `i` after the message bytes of a downstream half holds, its flags, slot number, byte count and message
bytes given (R186 gives the bytes beyond the count no value). -/
opaque Config.padByte : List Byte → Nat → Byte
/-- Whether the half of an offer in a slot carries FIRST and LAST, and its message bytes (R10 gives it none). -/
opaque Config.offerEnds : Nat → Bool × Bool
opaque Config.offerMessage : Nat → List Byte
/-- Byte `i` of the filler half of a slot, before its check (R1 gives filler no contents). -/
opaque Config.fillerByte : Nat → Nat → Byte
/-- Byte `i` of the upstream half that the part sends in a slot, before its check (R186 gives its FILLED flag alone). -/
opaque Config.upByte : Nat → Nat → Byte
/-- Byte `i` of the cycle marker in slot 0 (R185 gives the slot its 20 bytes, and no rule their values). -/
opaque Config.markerByte : Nat → Byte
/-- Whether a trunk kind code is one of the inbound kinds of R91 (no codes are given). -/
opaque Config.isInboundKind : Byte → Bool
/-- The kind code of an outbound frame (no codes are given). -/
opaque Config.frameKind : OutboundKind → Byte
/-- The body bytes of an outbound frame other than a BATCH-BLOCK (no layout is given). -/
opaque Config.frameBody : FrameBody → List Byte
/-- The one-byte codes of a batch record (R186 gives the fields, not their codes). -/
opaque Config.recordKind : RecordKind → Byte
opaque Config.dispositionCode : Disposition → Byte
opaque Config.modeCode : Mode → Byte
opaque Config.legCode : Currency → LegKind → Byte
/-- The bytes of a field of a record's kind that R186 gives no width (R131 lists it). -/
opaque Config.ownField : OwnField → List Byte
/-- The width of such a field when it is absent, all ones (R186). -/
opaque Config.absentWidth : OptionalField → Nat
/-- The characters of a date in the passbook's date column (R146 gives no form). -/
opaque Config.dateText : Date → Text
/-- What a text wider than its passbook column shows (R146 says it of figures only). -/
opaque Config.overlongText : Text → Nat → Text

end Sys2Proof
end

