-- ==== Sys2Proof/Machine/Blocks.lean ====
section
/-! DEFINITION. The blocks of the TBC-24 as plain data: one structure for each block of the manual's
block diagram (LPC, RQU, CSU, TKC, SIU, JNC, PBU, DYC) and the records they keep. -/

namespace Sys2Proof.Machine

/-- A timer: stopped, or running with the length in seconds it was started with (R92, R109). The
seconds that have run are not held: an expiry is a command (assumption 5). -/
inductive Timer where
  | stopped
  | running (seconds : Nat)
  deriving DecidableEq, Repr, Inhabited

/-! ### Loop Controller (LPC) -/

/-- One signal of a drop: its confirmed value, and a candidate value seen once (R14). -/
structure Sig where
  confirmed : Bool
  candidate : Option Bool
  deriving DecidableEq, Repr, Inhabited

/-- The four signals of a drop (section 1.6). -/
structure DropSigs where
  drawerOpen : Sig
  keyOperate : Sig
  bookIn     : Sig
  selfFault  : Sig
  deriving DecidableEq, Repr, Inhabited

/-- A downstream message that has been begun and not completed: the segments sent so far, and
whether the cycle now on the ring carries one of them (R4). -/
structure Begun where
  msg     : DownMessage
  sent    : Nat
  inCycle : Bool
  deriving DecidableEq, Repr, Inhabited

/-- The drop record (section 1.1). `assembly` holds the segments of the open upstream message and is
empty when none is open; `begun` holds the messages in transmission in the order they were begun. -/
structure Drop where
  addr       : Nat
  kind       : DropType
  group      : Nat
  state      : DropState
  score      : Nat
  probeRun   : Nat
  sigs       : DropSigs
  release    : Bool
  alert      : Bool
  outOfStep  : Bool
  assembly   : List (List Byte)
  outbound   : List DownMessage
  held       : Option DownMessage
  begun      : List Begun
  statusMark : Bool
  nextNotice : Nat
  refused    : Nat
  deriving DecidableEq, Repr, Inhabited

/-- A downstream half with message bytes, flags and slot number (R186). -/
structure DownHalf where
  slot    : Nat
  first   : Bool
  last    : Bool
  release : Bool
  alert   : Bool
  probe   : Bool
  bytes   : List Byte
  deriving DecidableEq, Repr, Inhabited

/-- What a slot of an outgoing cycle carries (R1, R3). -/
inductive SlotOut where
  | marker
  | filler
  | offer
  | half (h : DownHalf)
  deriving DecidableEq, Repr, Inhabited

/-- A retained notice (section 1.9). -/
structure Notice where
  number : Nat
  groups : BitVec 8
  text   : Text
  deriving DecidableEq, Repr, Inhabited

/-- The Loop Controller. `slotMap` and the drops' types and groups are the tables in use (R2);
`cycle` is the cycle on the ring. -/
structure Lpc where
  drops         : List Drop
  slotMap       : List (Option Nat)
  loop          : LoopState
  slipRun       : Nat
  goodRun       : Nat
  slips         : Nat
  cycle         : Option (List SlotOut)
  notices       : List Notice
  noticeCounter : Nat
  deriving DecidableEq, Repr, Inhabited

/-! ### Request Unit (RQU) -/

/-- An entry of the teller table (R22). -/
structure Teller where
  number      : Nat
  role        : Role
  training    : Bool
  check       : Nat
  cashLimit   : Nat
  restriction : ClassMask
  drawer      : Option Nat
  session     : SessionState
  station     : Option Nat
  allowance   : ClassMask
  saved       : Option ClassMask
  failures    : Nat
  deriving DecidableEq, Repr, Inhabited

/-- The stages of a work item (R44). -/
inductive Stage where
  | checking | held | waitListed | queued | onTrunk | answered
  deriving DecidableEq, Repr, Inhabited

/-- The work item of a TELLER drop (R44). `defn` is absent when the code check failed; `account` is
the account in use; `drawer` the target drawer of step 11; `limit` the limit in force after a grant;
`timedOut` the sequence of a timed-out record, present when the timed-out flag is set. -/
structure Txn where
  drop       : Nat
  teller     : Nat
  training   : Bool
  fields     : TxnFields
  code       : Option Nat
  defIndex   : Nat
  defn       : Option Definition
  routing    : Routing
  account    : Option Nat
  legs       : List Leg
  exchange   : Option Exchange
  drawer     : Option Nat
  reason     : Option HoldReason
  compared   : Option Nat
  limit      : Option Nat
  supervisor : Option Nat
  wouldHold  : Option HoldReason
  stage      : Stage
  slot       : Option Nat
  seq        : Option Nat
  timedOut   : Option Nat
  outcome    : Option Result
  holdTimer  : Timer
  deriving DecidableEq, Repr, Inhabited

/-- The work item of a PRINTER drop: its passbook fetch (R58). -/
structure Fetch where
  drop    : Nat
  account : Nat
  pos     : BookPos
  stage   : Stage
  slot    : Option Nat
  deriving DecidableEq, Repr, Inhabited

/-- The Request Unit. The code map lists the codes that are not UNUSED, the definition and route
tables their non-empty entries, each in ascending key order (R39, R40, R43). -/
structure Rqu where
  tellers     : List Teller
  codeMap     : List (Nat × Nat)
  definitions : List (Nat × Definition)
  routes      : List (Nat × Route)
  classMask   : ClassMask
  waitList    : List Nat
  txns        : List Txn
  fetches     : List Fetch
  deriving DecidableEq, Repr, Inhabited

/-! ### Cash Unit (CSU) -/

/-- One currency's parts of a drawer (section 5.1). -/
structure Sums where
  opening     : Int
  cashIn      : Int
  cashOut     : Int
  transferIn  : Int
  transferOut : Int
  overShort   : Int
  deriving DecidableEq, Repr, Inhabited

/-- The last declaration of a drawer: its counts and differences, with the declaring teller and the
declared amounts its COUNT record will carry (section 5.1, R85). -/
structure Declaration where
  teller          : Nat
  counts          : Counts
  declaredHome    : Nat
  declaredForeign : Nat
  diffHome        : Int
  diffForeign     : Int
  deriving DecidableEq, Repr, Inhabited

/-- A drawer record (section 5.1). -/
structure Drawer where
  number      : Nat
  assigned    : Option Nat
  home        : Sums
  foreign     : Sums
  limit       : Nat
  cashHigh    : Bool
  balance     : BalanceState
  declaration : Option Declaration
  deriving DecidableEq, Repr, Inhabited

/-- The Cash Unit. -/
structure Csu where
  drawers         : List Drawer
  transit         : List TransitEntry
  transitCounter  : Nat
  denomHome       : List Nat
  denomForeign    : List Nat
  netHome         : Int
  netForeign      : Int
  deriving DecidableEq, Repr, Inhabited

/-! ### Trunk Controller (TKC) -/

/-- One of slots 0 to 5 (R99). The fields after `state` mean nothing while it is FREE. -/
structure OnlineSlot where
  number : Nat
  state  : SlotState
  drop   : Nat
  kind   : OnlineKind
  tag    : Nat
  timer  : Timer
  deriving DecidableEq, Repr, Inhabited

/-- Slot 6 (R105). -/
structure AdviceSlot where
  state : SlotState
  seq   : Nat
  timer : Timer
  deriving DecidableEq, Repr, Inhabited

/-- A frame being sent; `startsTimer` marks the first batch frame after a resumption, at whose end
the block timer starts (R176). -/
structure Transmission where
  frame       : OutFrame
  startsTimer : Bool
  deriving DecidableEq, Repr, Inhabited

/-- The Trunk Controller. `slot7` is the answer being sent from slot 7, absent while it is FREE. -/
structure Tkc where
  link         : LinkState
  supervision  : Timer
  lastCheck    : Option Nat
  runCount     : Nat
  slots        : List OnlineSlot
  slot6        : AdviceSlot
  slot7        : Option NodeEntry
  transmitter  : Option Transmission
  fetchCounter : Nat
  nodeQueue    : List NodeEntry
  waiting      : Option NodeEntry
  stats        : LinkStats
  deriving DecidableEq, Repr, Inhabited

/-! ### Stand-in Unit (SIU) -/

/-- A line of the pending pool (section 9.2). -/
inductive LineText where
  | text (t : Text)
  | summary
  | broughtFwd
  deriving DecidableEq, Repr, Inhabited

inductive Origin where
  | branch | standIn | headOffice
  deriving DecidableEq, Repr, Inhabited

structure Line where
  date   : Option Date
  text   : LineText
  items  : Nat
  amount : Int
  origin : Origin
  seq    : Option Nat
  deriving DecidableEq, Repr, Inhabited

/-- The overflow accumulator of an account; empty when `items` is 0 (section 9.1). -/
structure Overflow where
  items  : Nat
  amount : Int
  date   : Option Date
  deriving DecidableEq, Repr, Inhabited

inductive MarkerSource where
  | list | overflow
  deriving DecidableEq, Repr, Inhabited

/-- The in-flight marker (section 9.1). -/
structure Marker where
  page   : Nat
  line   : Nat
  amount : Int
  items  : Nat
  source : MarkerSource
  deriving DecidableEq, Repr, Inhabited

/-- The passbook part of an SAT entry (section 9.1). -/
structure Passbook where
  printed     : Int
  lineBalance : Int
  next        : BookPos
  pending     : List Line
  overflow    : Overflow
  marker      : Option Marker
  session     : Option Nat
  deriving DecidableEq, Repr, Inhabited

inductive EntryKind where
  | full | pendingOnly
  deriving DecidableEq, Repr, Inhabited

/-- An entry of the stand-in account table (section 7.1). -/
structure SatEntry where
  account  : Nat
  kind     : EntryKind
  snapshot : Int
  limit    : Nat
  used     : Nat
  blocked  : Bool
  net      : Int
  book     : Option Passbook
  deriving DecidableEq, Repr, Inhabited

/-- An entry of the store-and-forward queue (section 7.4). -/
structure SfqEntry where
  seq  : Nat
  kind : AdviceKind
  deriving DecidableEq, Repr, Inhabited

/-- The rate record (R61). -/
structure RateRecord where
  rates    : RateLoad
  loadedAt : Nat
  deriving DecidableEq, Repr, Inhabited

/-- The Stand-in Unit. -/
structure Siu where
  sat  : List SatEntry
  sfq  : List SfqEntry
  rate : Option RateRecord
  deriving DecidableEq, Repr, Inhabited

/-! ### Journal Controller (JNC) -/

/-- The Journal Controller. `clockKept` is the day clock's value kept in the retained store (R127);
`postingsClosed` says the cutoff of the day has been captured (R129). -/
structure Jnc where
  records        : List Record
  counter        : Nat
  clock          : Nat
  clockKept      : Nat
  clockRuns      : Bool
  postingsClosed : Bool
  deriving DecidableEq, Repr, Inhabited

/-! ### Passbook Unit (PBU) -/

/-- The command awaiting a printer's answer (R141). -/
inductive PrinterCommand where
  | readStripe
  | printLine (page line : Nat)
  | turnPage
  deriving DecidableEq, Repr, Inhabited

/-- One of the six session records (R141). `number` is the record's place, `drop` the bound drop. -/
structure Session where
  number  : Nat
  drop    : Option Nat
  state   : PrinterState
  account : Option Nat
  printed : Nat
  command : Option PrinterCommand
  timer   : Timer
  deriving DecidableEq, Repr, Inhabited

/-- The Passbook Unit. The pool's lines stand in the accounts' pending lists (R138). -/
structure Pbu where
  sessions : List Session
  layout   : Layout
  deriving DecidableEq, Repr, Inhabited

/-! ### Day Control (DYC) -/

/-- The close proposal (section 10.4). -/
structure Proposal where
  proposer  : Nat
  confirmer : Option Nat
  window    : Timer
  deriving DecidableEq, Repr, Inhabited

/-- The verdict of a batch (R177): AGREED, or DISPUTED with the number of the first total that
differs, its value in the trailer and head office's value. -/
inductive Verdict where
  | agreed
  | disputed (total : Nat) (ours theirs : Int)
  deriving DecidableEq, Repr, Inhabited

/-- The batch progress (R170). -/
structure Batch where
  records    : Nat
  blocks     : Nat
  totals     : Totals
  oldest     : Nat
  next       : Nat
  attempts   : Nat
  trailer    : Bool
  verdict    : Option Verdict
  refusals   : Nat
  deriving DecidableEq, Repr, Inhabited

/-- Day Control. `resumed` is set from a resumption to the start of the next batch frame (R176). -/
structure Dyc where
  day        : DayState
  date       : Option Date
  time       : Option TimeOfDay
  expected   : PerKind Nat
  loaded     : PerKind (List Nat)
  proposal   : Option Proposal
  cutoff     : Option Nat
  batch      : Option Batch
  blockTimer : Timer
  resumed    : Bool
  params     : Params
  deriving DecidableEq, Repr, Inhabited

end Sys2Proof.Machine
end

