-- ==== Sys2Proof/Machine/Formats.lean ====
section
/-! DEFINITION. The formats of R186: the loop segment and its check, the trunk frame header, the
trunk frame check, the zero-bit insertion, and the batch record. -/

namespace Sys2Proof.Machine

/-! ### Loop segments -/

/-- The sum of the bytes of a half, modulo 256 (R186). -/
def byteSum (l : List Byte) : Byte := l.foldr (· + ·) 0

/-- The segment check that makes the sum of all bytes of the half 0 modulo 256 (R186). -/
def segmentCheck (l : List Byte) : Byte := 0 - byteSum l

/-- A half: the bytes before its check, and the check (R186). -/
def checkedHalf (front : List Byte) : List Byte := front ++ [segmentCheck front]

/-- Byte `i` of a half. -/
def byteAt (h : List Byte) (i : Nat) : Byte := h.getD i 0

/-- The FILLED flag of an upstream half (R186). -/
def upFilled (h : List Byte) : Bool := (byteAt h 0).getLsbD 2
def upFirst (h : List Byte) : Bool := (byteAt h 0).getLsbD 0
def upLast (h : List Byte) : Bool := (byteAt h 0).getLsbD 1

/-- The four signalling values of an upstream half (R186, bits 4 to 7). -/
def upSignals (h : List Byte) : Signals :=
  ⟨(byteAt h 0).getLsbD 4, (byteAt h 0).getLsbD 5, (byteAt h 0).getLsbD 6, (byteAt h 0).getLsbD 7⟩

/-- The echoed slot number of an upstream half (R186). -/
def upEcho (h : List Byte) : Nat := ((byteAt h 1).extractLsb' 0 5).toNat

/-- The message bytes of an upstream half; with a byte count above 16 they are up to 16 bytes left open
(R186, assumption 6). -/
def upBytes (h : List Byte) : List Byte :=
  let n := (byteAt h 2).toNat
  if n ≤ 16 then (h.drop 3).take n else (Config.overcountBytes h).take 16

/-- The check of an upstream half matches its contents (R5, R186). -/
def upCheckOk (h : List Byte) : Bool := h.length == 20 && byteSum h == 0

/-- An empty segment has neither FIRST nor LAST and no message bytes (R5). -/
def upEmpty (h : List Byte) : Bool := !upFirst h && !upLast h && (upBytes h).isEmpty

/-- The flag byte of a downstream half (R186). -/
def downFlags (h : DownHalf) : Byte :=
  BitVec.ofNat 8 (h.first.toNat + 2 * h.last.toNat + 4 * h.release.toNat + 8 * h.alert.toNat
    + 16 * h.probe.toNat)

/-- The bytes of a downstream half: flags, slot number, byte count, the message bytes, what stands after them
up to sixteen (left open, assumption 6) and the segment check (R186). -/
def downHalfBytes (h : DownHalf) : List Byte :=
  let front := downFlags h :: BitVec.ofNat 8 (h.slot % 32) :: BitVec.ofNat 8 (min h.bytes.length 16)
    :: h.bytes.take 16
  checkedHalf (front ++ (List.range (16 - h.bytes.length)).map (Config.padByte front))

/-- The half of an offer: no indication and no probe; what else it carries is left open (R10, R16, assumption 47). -/
def offerHalf (slot : Nat) : DownHalf :=
  ⟨slot, (Config.offerEnds slot).1, (Config.offerEnds slot).2, false, false, false,
   (Config.offerMessage slot).take 16⟩

/-- The half of a slot that carries filler (R1, R3, assumption 47). -/
def fillerBytes (slot : Nat) : List Byte := checkedHalf ((List.range 19).map (Config.fillerByte slot))

/-- An upstream half as the part sends it, with FILLED clear (R186); what else stands in it is left open
(assumption 47). -/
def sentUpBytes (slot : Nat) : List Byte :=
  checkedHalf ((Config.upByte slot 0 &&& ~~~ 4#8) :: (List.range 18).map fun i => Config.upByte slot (i + 1))

/-- The 20 bytes of a slot of an outgoing cycle: its downstream half; slot 0 carries the marker (R1, R3, R185, R186,
assumption 47). -/
def slotBytes (slot : Nat) : SlotOut → List Byte
  | .marker => (List.range 20).map Config.markerByte
  | .filler => fillerBytes slot
  | .offer => downHalfBytes (offerHalf slot)
  | .half h => downHalfBytes h

/-- A cycle as it is sent, from slot 0 on: 32 slots of 20 bytes (R1, R185). -/
def cycleBytes (slots : List SlotOut) : List Byte := (slots.mapIdx slotBytes).flatten

/-- The kind of a downstream message (R4, R186). -/
def downKindOf : DownMessage → DownKind
  | .answer .. => .answer
  | .overrideNeeded .. => .overrideNeeded
  | .final _ => .final
  | .status _ => .status
  | .notice .. => .notice
  | .noNotice _ => .noNotice
  | .readStripe => .readStripe
  | .printLine .. => .printLine
  | .turnPage => .turnPage
  | .eject _ => .eject

/-- The bytes of a downstream message: its kind, then its body, at most 240 in all (R4, R186). -/
def messageBytes (m : DownMessage) : List Byte :=
  Config.downKind (downKindOf m) :: (Config.downBody m).take 239

/-- The segments of 16 bytes a message is cut into (R4). -/
def segmentCount (m : DownMessage) : Nat := ((messageBytes m).length + 15) / 16

/-- Segment `i` of a message, counted from 0. -/
def segmentBytes (m : DownMessage) (i : Nat) : List Byte := ((messageBytes m).drop (16 * i)).take 16

/-! ### Trunk frames -/

/-- `n` in `w` bytes, the most significant first (assumption 7). -/
def natBytes : Nat → Nat → List Byte
  | 0, _ => []
  | w + 1, n => BitVec.ofNat 8 (n / 256 ^ w) :: natBytes w n

/-- The number a run of bytes spells, the most significant first (assumption 7). -/
def bytesNat (l : List Byte) : Nat := l.foldl (fun n b => 256 * n + b.toNat) 0

/-- One bit of the trunk frame check: the register shifts towards its low end, and the polynomial
x^16 + x^12 + x^5 + 1 is subtracted when the bits differ (R186; bit order: assumption 7). -/
def crcBit (crc : BitVec 16) (bit : Bool) : BitVec 16 :=
  let shifted := crc >>> 1
  if crc.getLsbD 0 != bit then shifted ^^^ 0x8408#16 else shifted

/-- The bits of a byte in the order they are sent, the least significant first (assumption 7). -/
def byteBits (b : Byte) : List Bool := (List.range 8).map b.getLsbD

/-- The trunk frame check over header and body: preset all ones, ones' complement (R186). -/
def frameCheck (l : List Byte) : BitVec 16 :=
  ~~~ ((l.flatMap byteBits).foldl crcBit 0xFFFF#16)

/-- The two bytes of a frame check, the low one first (assumption 7). -/
def checkBytes (c : BitVec 16) : List Byte := [c.extractLsb' 0 8, c.extractLsb' 8 8]

/-- A received frame is valid for a strapped branch (R90): its check matches, its branch number
equals the strapped one, which is not 0 (R185), its body length agrees, and its kind is inbound. -/
def rawFrameValid (branch : Nat) (l : List Byte) : Bool :=
  let content := l.take (l.length - 2)
  10 ≤ l.length && l.drop (l.length - 2) == checkBytes (frameCheck content)
    && branch != 0 && bytesNat ((l.drop 1).take 2) == branch
    && bytesNat ((l.drop 6).take 2) == content.length - 8
    && Config.isInboundKind (byteAt l 0)

/-- Zero-bit insertion: a zero-bit follows each run of five one-bits (R186). `ones` is the run so
far. -/
def stuffBits (ones : Nat) : List Bool → List Bool
  | [] => []
  | false :: bs => false :: stuffBits 0 bs
  | true :: bs => if ones = 4 then true :: false :: stuffBits 0 bs else true :: stuffBits (ones + 1) bs

/-- The receiver removes the zero-bit after each run of five one-bits (R186). `skip` says the next
bit is such a zero-bit. -/
def unstuffBits (ones : Nat) (skip : Bool) : List Bool → List Bool
  | [] => []
  | b :: bs =>
    if skip then unstuffBits 0 false bs
    else if b then true :: unstuffBits (if ones = 4 then 0 else ones + 1) (ones == 4) bs
    else false :: unstuffBits 0 false bs

/-! ### The batch record -/

/-- A field of `w` bytes; an absent field is all ones (R186). -/
def fieldBytes (w : Nat) : Option Nat → List Byte
  | some n => natBytes w n
  | none => List.replicate w 255

/-- A number in `w` bytes of two's complement (R186). -/
def twosBytes (w : Nat) (n : Int) : List Byte := natBytes w (n % (256 ^ w : Nat)).toNat

/-- Digit `k` of a 12-digit account number, counted from 1 at the left (R43, R186). -/
def accountDigit (account k : Nat) : Nat := account / 10 ^ (12 - k) % 10

/-- An account number as 12 decimal digits packed two per byte (R186), the earlier digit in the high half of its byte
(assumption 7). -/
def accountBytes : Option Nat → List Byte
  | some a => (List.range 6).map fun i =>
      BitVec.ofNat 8 (16 * accountDigit a (2 * i + 1) + accountDigit a (2 * i + 2))
  | none => List.replicate 6 255

/-- A leg: one byte of currency and kind, five of amount (R186). -/
def legBytes : Option Leg → List Byte
  | some l => Config.legCode l.currency l.kind :: natBytes 5 l.amount
  | none => List.replicate 6 255

/-- The rate used, with the high bit set for the sell rate (R186). -/
def rateBytes : Option Exchange → List Byte
  | some e => natBytes 4 (e.rate + match e.name with | .sell => 2 ^ 31 | .buy => 0)
  | none => List.replicate 4 255

/-- The POSTING fields of a record (R132). -/
def postingOf : RecordBody → Option Posting
  | .posting p => some p
  | _ => none

/-- The legs a record carries (R132). -/
def bodyLegs : RecordBody → List Leg
  | .posting p => p.legs
  | .reversalAdvice _ _ _ legs => legs
  | _ => []

/-- The definition index and station code a record carries (R131, R132). -/
def bodyDefinition : RecordBody → Option (Nat × Nat)
  | .posting p => some (p.definition, p.code)
  | .reversalAdvice d c _ _ => some (d, c)
  | _ => none

/-- The account a record carries in its account field (R131, R132). -/
def bodyAccount : RecordBody → Option Nat
  | .posting p => p.account
  | .reversalAdvice _ _ a _ => a
  | .passbookAlert a _ _ => a
  | .passbookPrint a _ _ _ => some a
  | _ => none

/-- A field of a record's kind that may be absent; an absent field is all ones (R131, R186). -/
def ownOptional (kind : OptionalField) : Option OwnField → List Byte
  | some f => Config.ownField f
  | none => List.replicate (Config.absentWidth kind) 255

/-- A currency's declared amount and difference in a COUNT record; a FORCED count declares no amount (R86, R131,
R186). -/
def countedBytes (declared : Option Nat) (difference : Int) : List Byte :=
  fieldBytes 5 declared ++ twosBytes 6 difference

/-- A record's own fields, in the order in which R131 lists them; a field with a place of its own in the batch
record is not repeated (R186, assumption 21). -/
def ownFields : RecordBody → List Byte
  | .signOn => []
  | .signOff => []
  | .posting _ => []
  | .reversalAdvice .. => []
  | .transfer step n source target cur amount =>
    [.step step, .entry n, .drawer source, .drawer target, .currency cur].flatMap Config.ownField ++ natBytes 5 amount
  | .count n declared diffHome diffForeign counts forced =>
    Config.ownField (.drawer n) ++ countedBytes (declared.map (·.1)) diffHome
      ++ countedBytes (declared.map (·.2)) diffForeign ++ ownOptional .counts (counts.map .counts)
      ++ Config.ownField (.forced forced)
  | .drawerAlert n => ownOptional .drawer (n.map .drawer)
  | .passbookAlert _ stripe reason => ownOptional .stripe (stripe.map .position) ++ Config.ownField (.reason reason)
  | .passbookPrint _ lines next balance =>
    [.lines lines, .position next, .balance balance].flatMap Config.ownField
  | .closeMark cutoff => Config.ownField (.cutoff cutoff)
  | .recoveryMark cause found resolved =>
    [.cause cause, .found found, .resolved resolved].flatMap Config.ownField

/-- The kind of a record (R131). -/
def recordKindOf : RecordBody → RecordKind
  | .signOn => .signOn
  | .signOff => .signOff
  | .posting _ => .posting
  | .reversalAdvice .. => .reversalAdvice
  | .transfer .. => .transfer
  | .count .. => .count
  | .drawerAlert _ => .drawerAlert
  | .passbookAlert .. => .passbookAlert
  | .passbookPrint .. => .passbookPrint
  | .closeMark _ => .closeMark
  | .recoveryMark .. => .recoveryMark

/-- The batch record of a journal record (R186). -/
def batchRecord (r : Record) : List Byte :=
  let p := postingOf r.body
  let legs := bodyLegs r.body
  let own := (ownFields r.body).take 200
  natBytes 2 r.seq ++ [Config.recordKind (recordKindOf r.body)] ++ natBytes 4 r.stamp
    ++ fieldBytes 1 r.drop ++ fieldBytes 2 r.teller ++ fieldBytes 2 r.supervisor
    ++ [(r.disposition.map Config.dispositionCode).getD 255]
    ++ [(p.map fun p => Config.modeCode p.mode).getD 255]
    ++ fieldBytes 1 ((bodyDefinition r.body).map (·.1)) ++ fieldBytes 1 ((bodyDefinition r.body).map (·.2))
    ++ accountBytes (bodyAccount r.body) ++ natBytes 1 legs.length
    ++ legBytes legs[0]? ++ legBytes legs[1]?
    ++ rateBytes (p.bind (·.exchange))
    ++ fieldBytes 5 ((p.bind (·.exchange)).map (·.keyed))
    ++ fieldBytes 5 (((p.bind (·.exchange)).filter (·.name == .sell)).map (·.unsold))
    ++ fieldBytes 4 r.reference ++ fieldBytes 2 r.referred ++ natBytes 1 own.length ++ own

/-- The body bytes of an outbound frame: a BATCH-BLOCK carries the number of its records and their
batch records (R168); the other bodies have no stated layout. No body is longer than the 4,097 bytes that the header's
body length can give (R186). -/
def frameBodyBytes : FrameBody → List Byte
  | .batchBlock records => (natBytes 1 records.length ++ records.flatMap batchRecord).take 4097
  | b => (Config.frameBody b).take 4097

/-- The kind of an answer of slot 7 (R89, R106). -/
def nodeKindOf : NodeBody → OutboundKind
  | .lineEcho _ => .lineEcho
  | .inquiryAnswer _ => .inquiryAnswer
  | .loadAck .. => .loadAck
  | .loadNak .. => .loadNak
  | .nodeStatus _ => .nodeStatus

/-- The kind of an outbound frame (R89). -/
def frameKindOf : FrameBody → OutboundKind
  | .txnForward .. => .txnForward
  | .passbookFetch .. => .passbookFetch
  | .advice .. => .advice
  | .node b => nodeKindOf b
  | .batchBlock _ => .batchBlock
  | .batchTrailer .. => .batchTrailer

/-- Header and body of an outbound frame (R186). -/
def frameContent (f : OutFrame) : List Byte :=
  let body := frameBodyBytes f.body
  Config.frameKind (frameKindOf f.body) :: (natBytes 2 f.branch ++ natBytes 1 f.slot ++ natBytes 2 f.tag
    ++ natBytes 2 body.length ++ body)

/-- The bytes of an outbound frame, its check last (R89, R186). -/
def frameBytes (f : OutFrame) : List Byte :=
  frameContent f ++ checkBytes (frameCheck (frameContent f))

/-- The flag octet that separates trunk frames (R186). -/
def flagBits : List Bool := byteBits 0x7E

/-- What the trunk line carries for a frame: the flag, the frame's bits with zero-bit insertion, the
flag (R186). -/
def lineBits (f : OutFrame) : List Bool :=
  flagBits ++ stuffBits 0 ((frameBytes f).flatMap byteBits) ++ flagBits

end Sys2Proof.Machine
end

