-- ==== Sys2Proof/Machine/Keyed.lean ====
section
/-! DEFINITION. Lists of records looked up by a numeric key: find, change in place, insert in
ascending key order, and remove. Every table of the part is such a list. -/

namespace Sys2Proof.Machine

/-- The first record of `l` with key `k`. -/
def findKey {α : Type} (key : α → Nat) (k : Nat) (l : List α) : Option α :=
  l.find? fun x => key x == k

/-- `l` with `f` applied to every record with key `k`. -/
def modifyKey {α : Type} (key : α → Nat) (k : Nat) (f : α → α) (l : List α) : List α :=
  l.map fun x => if key x = k then f x else x

/-- `l` with `x` standing at its key: in place of the record there, or inserted in key order. -/
def putKey {α : Type} (key : α → Nat) (x : α) : List α → List α
  | [] => [x]
  | y :: ys =>
    if key x < key y then x :: y :: ys
    else if key x = key y then x :: ys
    else y :: putKey key x ys

/-- `l` without the records of key `k`. -/
def eraseKey {α : Type} (key : α → Nat) (k : Nat) (l : List α) : List α :=
  l.filter fun x => key x != k

/-- The sum of `f` over a list. -/
def sumOf {α : Type} (f : α → Int) (l : List α) : Int :=
  (l.map f).foldr (· + ·) 0

/-- A count that stops at `max` (R2, R108, R170). -/
def countUp (max n : Nat) : Nat := if n < max then n + 1 else n

end Sys2Proof.Machine
end

