-- ==== Sys2Proof/Machine/Fresh.lean ====
section
/-! DEFINITION. The fresh values of the blocks: what a fresh store gives the retained areas, and what
recovery gives the volatile items (R2, R22, R39, R40, R43, R61, R69, R72, R92, R110, R126, R137,
R141, R146, R154, R157, R180). -/

namespace Sys2Proof.Machine

/-- The default slot map (R2): slot `n` belongs to drop `n` up to 28, the rest are EMPTY. -/
def freshSlotMap : List (Option Nat) :=
  (List.range' 1 31).map fun n => if n ≤ 28 then some n else none

/-- The default drop table (R2). -/
def freshDropTable : List (DropType × Nat) :=
  (List.range' 1 28).map fun a => (if a ≤ 24 then .teller else .printer, 1)

/-- The default parameters record (R157). -/
def freshParams : Params where
  slotMap := freshSlotMap
  dropTable := freshDropTable
  cashHigh := List.replicate 25 Config.maxTotal
  checkPeriod := 10
  replyTimeout := 20
  blockTimer := 10
  passbookClass := 15
  toleranceHome := 0
  toleranceForeign := 0

/-- The default layout record (R146); the provisional mark is an asterisk. -/
def freshLayout : Layout where
  date := ⟨1, 8⟩
  text := ⟨10, 14⟩
  reference := ⟨25, 5⟩
  withdrawal := ⟨31, 16⟩
  deposit := ⟨48, 16⟩
  balance := ⟨65, 17⟩
  mark := 42

/-- A signal after reset (section 1.1). -/
def freshSig : Sig := ⟨false, none⟩

/-- The drop record after reset (section 1.1); the next notice number, which the manual sets at
ANNOUNCE, is 1 (assumption 2). -/
def freshDrop (addr : Nat) (kind : DropType) (group : Nat) : Drop where
  addr := addr
  kind := kind
  group := group
  state := .absent
  score := 0
  probeRun := 0
  sigs := ⟨freshSig, freshSig, freshSig, freshSig⟩
  release := false
  alert := false
  outOfStep := false
  assembly := []
  outbound := []
  held := none
  begun := []
  statusMark := false
  nextNotice := 1
  refused := 0

/-- The drop records of a slot map and drop table after recovery (R2, R180). -/
def freshDrops (table : List (DropType × Nat)) : List Drop :=
  (List.range' 1 28).map fun a =>
    let row := table.getD (a - 1) (.teller, 1)
    freshDrop a row.1 row.2

/-- The Loop Controller's volatile state after recovery, with the retained notices (R180). -/
def freshLpc (p : Params) (notices : List Notice) (counter : Nat) : Lpc where
  drops := freshDrops p.dropTable
  slotMap := p.slotMap
  loop := .running
  slipRun := 0
  goodRun := 0
  slips := 0
  cycle := none
  notices := notices
  noticeCounter := counter

/-- The first cycle of a part on a fresh store: an offer in each drop's slot, filler in the EMPTY ones (R2, R3, R184). -/
def freshCycle : List SlotOut := .marker :: freshSlotMap.map fun a => if a.isSome then .offer else .filler

def freshRqu : Rqu := ⟨[], [], [], [], 0, [], [], []⟩

def freshSums : Sums := ⟨0, 0, 0, 0, 0, 0⟩

/-- A drawer of a fresh store (section 5.1). -/
def freshDrawer (number : Nat) : Drawer where
  number := number
  assigned := none
  home := freshSums
  foreign := freshSums
  limit := Config.maxTotal
  cashHigh := false
  balance := .notDue
  declaration := none

def freshCsu : Csu := ⟨(List.range 25).map freshDrawer, [], 1, [], [], 0, 0⟩

/-- A FREE online slot (R99). -/
def freeSlot (number : Nat) : OnlineSlot := ⟨number, .free, 0, .txnForward, 0, .stopped⟩

def freeAdviceSlot : AdviceSlot := ⟨.free, 0, .stopped⟩

def freshStats : LinkStats := ⟨0, 0, 0, 0, 0, 0⟩

/-- The Trunk Controller after recovery (R92, R99, R101, R106, R108). -/
def freshTkc : Tkc where
  link := .offline
  supervision := .stopped
  lastCheck := none
  runCount := 0
  slots := (List.range 6).map freeSlot
  slot6 := freeAdviceSlot
  slot7 := none
  transmitter := none
  fetchCounter := 1
  nodeQueue := []
  waiting := none
  stats := freshStats

def freshSiu : Siu := ⟨[], [], none⟩

/-- The journal of a fresh store (R126, R127). -/
def freshJnc : Jnc := ⟨[], 0, 0, 0, false, false⟩

/-- An IDLE session record bound to `drop` (R141). -/
def idleSession (number : Nat) (drop : Option Nat) : Session :=
  ⟨number, drop, .idle, none, 0, none, .stopped⟩

/-- The PRINTER drops of a drop table, in ascending address order. -/
def printerDrops (table : List (DropType × Nat)) : List Nat :=
  (List.range' 1 28).filter fun a => (table.getD (a - 1) (.teller, 1)).1 == .printer

/-- The six session records after recovery, bound in ascending address order (R141). -/
def freshSessions (table : List (DropType × Nat)) : List Session :=
  (List.range 6).map fun i => idleSession i (printerDrops table)[i]?

def freshPbu : Pbu := ⟨freshSessions freshDropTable, freshLayout⟩

def noCounts : PerKind Nat := ⟨0, 0, 0, 0, 0, 0, 0, 0, 0⟩
def noKeys : PerKind (List Nat) := ⟨[], [], [], [], [], [], [], [], []⟩

/-- The day record of a fresh store (section 10.1). -/
def freshDyc : Dyc where
  day := .noDay
  date := none
  time := none
  expected := noCounts
  loaded := noKeys
  proposal := none
  cutoff := none
  batch := none
  blockTimer := .stopped
  resumed := false
  params := freshParams

end Sys2Proof.Machine
end

