-- ==== Sys2Proof/Machine/State.lean ====
section
/-! DEFINITION. The state of the TBC-24: its eight blocks, the supply and strap pins, the marks of the
retained store and the queue of waiting commands; why a command stops; and the state after reset. -/

namespace Sys2Proof.Machine

/-- Why the block faults. No command of the TBC-24 stops the part with a fault: the type has no
constructor, nothing raises it, and this is safe. -/
inductive Fault where
  deriving DecidableEq, Repr

/-- Why the block refuses a command. -/
inductive Refusal where
  /-- Raised by a dispatch arm of a command that has no meaning yet (none at present). Safe. -/
  | notModelled (mnemonic : String)
  deriving DecidableEq, Repr

/-- The state of the part. `supply` and `resetLow` are the supply and the reset pin; `straps` the
levels read at the last recovery; `restarting` a RESTART taken while a frame was being sent, with
its tag and the strap levels of its recovery (R180); `storeValid` the marker of the retained store
and `retainedLost` its RETAINED-LOST mark (R181); `pending` the commands waiting, first in first. -/
structure State where
  supply       : Bool
  resetLow     : Bool
  straps       : Straps
  restarting   : Option (Nat × Straps)
  storeValid   : Bool
  retainedLost : Bool
  lpc          : Lpc
  rqu          : Rqu
  csu          : Csu
  tkc          : Tkc
  siu          : Siu
  jnc          : Jnc
  pbu          : Pbu
  dyc          : Dyc
  pending      : List Instr
  deriving DecidableEq, Repr

/-- The part right after a power-on recovery on a fresh store (R180 to R184): every volatile item in
its state after reset, every retained area at its default, the RETAINED-LOST mark set, the marker
written valid, NODE-STATUS STARTED in the node queue, and the first cycle on the ring. The strap pins are no part of the reset;
branch 1 and rate settings 0 stand for them (assumption 1). -/
def State.reset : State where
  supply := true
  resetLow := false
  straps := ⟨1, 0, 0⟩
  restarting := none
  storeValid := true
  retainedLost := true
  lpc := { freshLpc freshParams [] 1 with cycle := some freshCycle }
  rqu := freshRqu
  csu := freshCsu
  tkc := { freshTkc with nodeQueue := [⟨0, .nodeStatus (.started .powerOn false .noDay 0)⟩] }
  siu := freshSiu
  jnc := freshJnc
  pbu := freshPbu
  dyc := freshDyc
  pending := []

end Sys2Proof.Machine
end

