-- ==== Sys2Proof/Machine/Access.lean ====
section
/-! DEFINITION. Reading and changing the blocks of the state: one update for each block, and the
lookups of drops, tellers, drawers, slots, work items, accounts and sessions. -/

namespace Sys2Proof.Machine

/-! ### One update for each block -/

def State.onLpc (s : State) (f : Lpc → Lpc) : State := { s with lpc := f s.lpc }
def State.onRqu (s : State) (f : Rqu → Rqu) : State := { s with rqu := f s.rqu }
def State.onCsu (s : State) (f : Csu → Csu) : State := { s with csu := f s.csu }
def State.onTkc (s : State) (f : Tkc → Tkc) : State := { s with tkc := f s.tkc }
def State.onSiu (s : State) (f : Siu → Siu) : State := { s with siu := f s.siu }
def State.onJnc (s : State) (f : Jnc → Jnc) : State := { s with jnc := f s.jnc }
def State.onPbu (s : State) (f : Pbu → Pbu) : State := { s with pbu := f s.pbu }
def State.onDyc (s : State) (f : Dyc → Dyc) : State := { s with dyc := f s.dyc }

/-- The part runs: the supply is in range and the reset pin is not held low (R180). -/
def State.isRunning (s : State) : Bool := s.supply && !s.resetLow

/-- `f` while the part runs; a stopped part does nothing (R180, assumption 4). -/
def State.whileRunning (s : State) (f : State → State) : State := if s.isRunning then f s else s

/-! ### Drops and slots of the loop -/

/-- The drop record of an address (section 1.1). -/
def State.dropAt (s : State) (a : Nat) : Option Drop := findKey Drop.addr a s.lpc.drops

/-- The drop at an address exists and satisfies `p`. -/
def State.dropIs (s : State) (a : Nat) (p : Drop → Bool) : Bool := (s.dropAt a).any p

/-- Change the drop record of an address. -/
def State.modifyDrop (s : State) (a : Nat) (f : Drop → Drop) : State :=
  s.onLpc fun l => { l with drops := modifyKey Drop.addr a f l.drops }

/-- Change every drop record. -/
def State.modifyDrops (s : State) (f : Drop → Drop) : State :=
  s.onLpc fun l => { l with drops := l.drops.map f }

/-- The drop a slot map gives slot `n` to; absent for EMPTY (R2). -/
def slotOwner (m : List (Option Nat)) (n : Nat) : Option Nat := m.getD (n - 1) none

/-- The mapped slots of a drop, ascending (R2). -/
def mappedSlots (m : List (Option Nat)) (a : Nat) : List Nat :=
  (List.range' 1 31).filter fun n => slotOwner m n == some a

/-- The first slot of a drop (R2). -/
def firstSlot (m : List (Option Nat)) (a : Nat) : Option Nat := (mappedSlots m a).head?

/-! ### Tellers and drawers -/

/-- A teller is signed on while the session is ACTIVE or SUSPENDED (R22). -/
def Teller.signedOn (t : Teller) : Bool := t.session == .active || t.session == .suspended

/-- A SUPERVISOR or CHIEF-TELLER (R27). -/
def Teller.supervises (t : Teller) : Bool := t.role == .supervisor || t.role == .chiefTeller

/-- The drawer a teller holds: signed on, not in training, and the entry names one (R22). -/
def Teller.heldDrawer (t : Teller) : Option Nat := if t.signedOn && !t.training then t.drawer else none

/-- The teller table's entry of a number (R22). -/
def State.tellerOf (s : State) (n : Nat) : Option Teller := findKey Teller.number n s.rqu.tellers

/-- The teller signed on at a drop. -/
def State.tellerAt (s : State) (a : Nat) : Option Teller :=
  s.rqu.tellers.find? fun t => t.signedOn && t.station == some a

/-- The holder of a drawer (R22, R73). -/
def State.holderOf (s : State) (d : Nat) : Option Teller :=
  s.rqu.tellers.find? fun t => t.heldDrawer == some d

/-- Change the teller table's entry of a number. -/
def State.modifyTeller (s : State) (n : Nat) (f : Teller → Teller) : State :=
  s.onRqu fun r => { r with tellers := modifyKey Teller.number n f r.tellers }

/-- Nobody is signed on (R166). -/
def State.nobodySignedOn (s : State) : Bool := s.rqu.tellers.all fun t => !t.signedOn

/-- The record of a drawer (section 5.1). -/
def State.drawerAt (s : State) (d : Nat) : Option Drawer := findKey Drawer.number d s.csu.drawers

/-- Change the record of a drawer. -/
def State.modifyDrawer (s : State) (d : Nat) (f : Drawer → Drawer) : State :=
  s.onCsu fun c => { c with drawers := modifyKey Drawer.number d f c.drawers }

/-- The position of a drawer in a currency, formed from its parts (section 5.1). -/
def Sums.position (x : Sums) : Int :=
  x.opening + x.cashIn - x.cashOut + x.transferIn - x.transferOut + x.overShort

/-- A drawer's figures in a currency. -/
def Drawer.sums (d : Drawer) : Currency → Sums
  | .home => d.home
  | .foreign => d.foreign

/-- Change a drawer's figures in a currency. -/
def Drawer.onSums (d : Drawer) (c : Currency) (f : Sums → Sums) : Drawer :=
  match c with
  | .home => { d with home := f d.home }
  | .foreign => { d with foreign := f d.foreign }

/-- The transfer-waiting count of a drawer (R78). -/
def State.transferWaiting (s : State) (d : Nat) : Nat := s.csu.transit.countP fun e => e.target == d

/-- A transit entry names a drawer (R84, R86). -/
def State.transitNames (s : State) (d : Nat) : Bool :=
  s.csu.transit.any fun e => e.source == d || e.target == d

/-! ### Work items, online slots and the wait list -/

/-- The transaction that is a TELLER drop's work item (R44). -/
def State.txnAt (s : State) (a : Nat) : Option Txn := findKey Txn.drop a s.rqu.txns

/-- The fetch that is a PRINTER drop's work item (R58). -/
def State.fetchAt (s : State) (a : Nat) : Option Fetch := findKey Fetch.drop a s.rqu.fetches

/-- A drop has a work item (R44). -/
def State.hasWork (s : State) (a : Nat) : Bool := (s.txnAt a).isSome || (s.fetchAt a).isSome

def State.putTxn (s : State) (t : Txn) : State :=
  s.onRqu fun r => { r with txns := putKey Txn.drop t r.txns }

def State.modifyTxn (s : State) (a : Nat) (f : Txn → Txn) : State :=
  s.onRqu fun r => { r with txns := modifyKey Txn.drop a f r.txns }

def State.endTxn (s : State) (a : Nat) : State :=
  s.onRqu fun r => { r with txns := eraseKey Txn.drop a r.txns }

def State.putFetch (s : State) (f : Fetch) : State :=
  s.onRqu fun r => { r with fetches := putKey Fetch.drop f r.fetches }

def State.modifyFetch (s : State) (a : Nat) (f : Fetch → Fetch) : State :=
  s.onRqu fun r => { r with fetches := modifyKey Fetch.drop a f r.fetches }

def State.endFetch (s : State) (a : Nat) : State :=
  s.onRqu fun r => { r with fetches := eraseKey Fetch.drop a r.fetches }

/-- The branch's count of held overrides (R33). -/
def State.holdCount (s : State) : Nat := s.rqu.txns.countP fun t => t.stage == .held

/-- A transaction is held for override on a drop (R16, R34). -/
def State.holdsOn (s : State) (a : Nat) : Bool := (s.txnAt a).any fun t => t.stage == .held

/-- No customer work item is undecided (R164). -/
def State.noneUndecided (s : State) : Bool := s.rqu.txns.all fun t => t.stage == .answered

/-- One of slots 0 to 5 (R99). -/
def State.slotAt (s : State) (i : Nat) : Option OnlineSlot := findKey OnlineSlot.number i s.tkc.slots

def State.modifySlot (s : State) (i : Nat) (f : OnlineSlot → OnlineSlot) : State :=
  s.onTkc fun t => { t with slots := modifyKey OnlineSlot.number i f t.slots }

/-- The lowest-numbered FREE slot among slots 0 to 5 (R48). -/
def State.lowestFree (s : State) : Option Nat :=
  (s.tkc.slots.find? fun x => x.state == .free).map (·.number)

/-! ### Accounts and sessions -/

/-- The SAT entry of an account (R110). -/
def State.satAt (s : State) (account : Nat) : Option SatEntry := findKey SatEntry.account account s.siu.sat

def State.modifySat (s : State) (account : Nat) (f : SatEntry → SatEntry) : State :=
  s.onSiu fun u => { u with sat := modifyKey SatEntry.account account f u.sat }

/-- The passbook part of an account (R137). -/
def State.bookOf (s : State) (account : Nat) : Option Passbook := (s.satAt account).bind (·.book)

def State.modifyBook (s : State) (account : Nat) (f : Passbook → Passbook) : State :=
  s.modifySat account fun e => { e with book := e.book.map f }

/-- The session record bound to a printer drop (R141). -/
def State.sessionOf (s : State) (a : Nat) : Option Session :=
  s.pbu.sessions.find? fun x => x.drop == some a

def State.modifySession (s : State) (a : Nat) (f : Session → Session) : State :=
  s.onPbu fun p => { p with sessions := p.sessions.map fun x => if x.drop = some a then f x else x }

/-- The state of a drop's printer session; a drop with no record is IDLE. -/
def State.sessionState (s : State) (a : Nat) : PrinterState := ((s.sessionOf a).map (·.state)).getD .idle

/-- The journal's record of a sequence (R135). -/
def State.recordAt (s : State) (seq : Nat) : Option Record := findKey Record.seq seq s.jnc.records

end Sys2Proof.Machine
end

