-- ==== Sys2Proof/Machine/Flags.lean ====
section
/-! DEFINITION. Status lines, their marks, and the two indications of a drop (R16, R17, R18, R20). -/

namespace Sys2Proof.Machine

/-- The link value of the status line (section 1.8). -/
def shownLink : LinkState → ShownLink
  | .online => .online
  | .suspect => .online
  | .resync => .resync
  | .offline => .standIn

/-- The day value of the status line (section 1.8). -/
def shownDay : DayState → ShownDay
  | .noDay => .noDay
  | .loading => .load
  | .opened => .opened
  | .closeProposed => .clsP
  | .closeDrain => .drain
  | .balancing => .bal
  | .sending => .send
  | .sendStalled => .send
  | .sent => .sent

/-- The unseen notice count of a drop (R20). -/
def unseenCount (notices : List Notice) (d : Drop) : Nat :=
  notices.countP fun n => n.groups.getLsbD (d.group - 1) && decide (d.nextNotice ≤ n.number)

/-- The near-full field: the near-full threshold is reached (R130). -/
def State.nearFull (s : State) : Bool := decide (Config.nearFull ≤ s.jnc.counter)

/-- The status line of a TELLER drop, composed from the values current now (R17, R18). -/
def State.statusLine (s : State) (d : Drop) : StatusLine :=
  let t := s.tellerAt d.addr
  let drawer := t.bind Teller.heldDrawer
  { link := shownLink s.tkc.link
    day := shownDay s.dyc.day
    teller := t.map (·.number)
    training := (t.map (·.training)).getD false
    cashHigh := ((drawer.bind s.drawerAt).map (·.cashHigh)).getD false
    transferWaiting := (drawer.map s.transferWaiting).getD 0
    overrides := if t.any Teller.supervises then s.holdCount else 0
    unseen := unseenCount s.lpc.notices d
    nearFull := s.nearFull
    degraded := d.state == .degraded }

/-- Queue a status line for a drop record; PRINTER drops have none (R17, R18). -/
def Drop.queueStatus (d : Drop) : Drop :=
  if d.kind = .teller then { d with statusMark := true } else d

/-- Queue a status line for a drop (R17). -/
def State.queueStatus (s : State) (a : Nat) : State := s.modifyDrop a Drop.queueStatus

/-- Queue a status line for every TELLER drop (R17). -/
def State.queueStatusAll (s : State) : State := s.modifyDrops Drop.queueStatus

/-- Queue a status line for the drops of a list. -/
def State.queueStatusFor (s : State) (l : List Nat) : State := l.foldl State.queueStatus s

/-- Queue a status line for the drop where a drawer's holder is signed on (R75, R78). -/
def State.queueHolder (s : State) (d : Nat) : State :=
  s.queueStatusFor ((s.holderOf d).bind (·.station)).toList

/-- Queue a status line for every drop where a supervisor is signed on (R33). -/
def State.queueSupervisors (s : State) : State :=
  s.queueStatusFor ((s.rqu.tellers.filter fun t => t.signedOn && t.supervises).filterMap (·.station))

/-- Queue a status line for each TELLER drop whose unseen notice count differs from that in
`before` (R20). -/
def State.queueUnseen (s before : State) : State :=
  s.modifyDrops fun d =>
    match before.dropAt d.addr with
    | some old =>
      if unseenCount before.lpc.notices old = unseenCount s.lpc.notices d then d else d.queueStatus
    | none => d

/-- ALERT is driven while the drawer alert flag is set or a hold stands on the drop (R16). -/
def State.alertDriven (s : State) (d : Drop) : Bool := d.alert || s.holdsOn d.addr

/-- Set a drop's drawer-release outstanding flag (R76). -/
def State.setRelease (s : State) (a : Nat) : State := s.modifyDrop a fun d => { d with release := true }

/-- Clear a drop's drawer-release outstanding flag (R16). -/
def State.clearRelease (s : State) (a : Nat) : State := s.modifyDrop a fun d => { d with release := false }

end Sys2Proof.Machine
end

