-- ==== Sys2Proof/Machine/Ops.lean ====
section
/-! DEFINITION. The shared operations: handing messages over, the node queue, the journal, the
drawers, the online slots and the wait list. -/

namespace Sys2Proof.Machine

/-! ### Messages to a drop -/

/-- A message is a final reply to a work item (R4, R57). -/
def isFinal : DownMessage → Bool
  | .final _ => true
  | _ => false

/-- A drop can receive (R4): it is ACTIVE or DEGRADED. -/
def Drop.canReceive (d : Drop) : Bool := d.state == .active || d.state == .degraded

/-- A message handed over for a drop (R4, R8): a final reply is held while the drop cannot take it,
and other messages are then discarded; a full queue gives way to a final reply only. -/
def Drop.take (d : Drop) (loop : LoopState) (m : DownMessage) : Drop :=
  if !d.canReceive || loop == .loopFault then
    if isFinal m then { d with held := some m } else d
  else if d.outbound.length < Config.outboundPlaces then
    { d with outbound := d.outbound ++ [m] }
  else if isFinal m then
    { d with outbound := d.outbound.dropLast ++ [m], refused := countUp Config.maxScore d.refused }
  else
    { d with refused := countUp Config.maxScore d.refused }

/-- Hand a message to the LPC for a drop (R4, R8). -/
def State.handOver (s : State) (a : Nat) (m : DownMessage) : State :=
  s.modifyDrop a fun d => d.take s.lpc.loop m

/-- Answer a drop at once. -/
def State.answer (s : State) (a : Nat) (r : Result) : State := s.handOver a (.answer r .nothing)

/-- A drop sends messages up now (R3, R6, R13): it is ACTIVE or DEGRADED and the loop is RUNNING. -/
def State.sends (s : State) (a : Nat) : Bool := s.dropIs a Drop.canReceive && s.lpc.loop == .running

/-- A complete message of a drop goes to its taker only while the drop's outbound queue holds fewer
than 3 messages; otherwise it is discarded and counted (R6). -/
def State.admitted (s : State) (a : Nat) (f : State → State) : State :=
  if s.dropIs a fun d => decide (d.outbound.length < 3) then f s
  else s.modifyDrop a fun d => { d with refused := countUp Config.maxScore d.refused }

/-- A message for the RQU, or a NOTICE-NEXT, from a TELLER drop (R6). From any other drop it does not
arrive (assumption 4). -/
def State.fromTeller (s : State) (a : Nat) (f : State → State) : State :=
  if s.sends a && s.dropIs a (fun d => d.kind == .teller) then s.admitted a f else s

/-- A message for the PBU from a PRINTER drop (R6). -/
def State.fromPrinter (s : State) (a : Nat) (f : State → State) : State :=
  if s.sends a && s.dropIs a (fun d => d.kind == .printer) then s.admitted a f else s

/-- Discard a drop's final reply, wherever it stands (R29). -/
def Drop.discardFinal (d : Drop) : Drop :=
  { d with
    held := none
    outbound := d.outbound.filter fun m => !isFinal m
    begun := d.begun.filter fun b => !isFinal b.msg }

/-! ### The node queue -/

/-- The node queue has room for an answer (R106). -/
def State.nodeRoom (s : State) : Bool := decide (s.tkc.nodeQueue.length < Config.nodePlaces)

/-- An answer joins the node queue at the tail (R106); it is made only after the room was found. -/
def State.pushNode (s : State) (e : NodeEntry) : State :=
  s.onTkc fun t => { t with nodeQueue := t.nodeQueue ++ [e] }

/-- Answer an inbound frame with a NODE-STATUS (R106). -/
def State.nodeStatus (s : State) (h : FrameHeader) (c : Condition) : State :=
  s.pushNode ⟨h.tag, .nodeStatus c⟩

/-- A NODE-STATUS the part raises by itself: it joins the queue, or waits in the place kept for it
(R106). -/
def State.raiseTagged (s : State) (tag : Nat) (c : Condition) : State :=
  if s.nodeRoom then s.pushNode ⟨tag, .nodeStatus c⟩
  else s.onTkc fun t => { t with waiting := some ⟨tag, .nodeStatus c⟩ }

/-- The same with tag 0 (R89). -/
def State.raise (s : State) (c : Condition) : State := s.raiseTagged 0 c

/-- The waiting report joins the queue when there is room (R106). -/
def State.joinWaiting (s : State) : State :=
  match s.tkc.waiting with
  | some e => if s.nodeRoom then (s.pushNode e).onTkc fun t => { t with waiting := none } else s
  | none => s

/-- Change the link statistics (R108). -/
def State.onStats (s : State) (f : LinkStats → LinkStats) : State :=
  s.onTkc fun t => { t with stats := f t.stats }

/-! ### The journal -/

/-- A record kind of the ordinary class (R129). -/
def ordinaryKind : RecordBody → Bool
  | .posting _ => true
  | .transfer .. => true
  | .drawerAlert _ => true
  | _ => false

/-- A POSTING record. -/
def postingKind : RecordBody → Bool
  | .posting _ => true
  | _ => false

/-- The journal takes a record of this kind now (R128, R129): not in NO-DAY, no POSTING after the
cutoff, and room for its class. -/
def State.journalTakes (s : State) (b : RecordBody) : Bool :=
  s.dyc.day != .noDay && !(postingKind b && s.jnc.postingsClosed)
    && decide (s.jnc.counter < if ordinaryKind b then Config.ordinaryLimit else Config.reserveLimit)

/-- The sequence the next record will take (R128). -/
def State.nextSeq (s : State) : Nat := s.jnc.counter + 1

/-- The reports of a write that brings the counter to a threshold (R130). -/
def State.judgeThresholds (s : State) : State :=
  let n := s.jnc.counter
  if n = Config.nearFull then (s.raise (.journalNearFull n)).queueStatusAll
  else if n = Config.ordinaryLimit then s.raise (.journalFull n)
  else if n = Config.reserveLimit then s.raise (.journalExhausted n)
  else s

/-- Enter a record at the tail of the journal with the next sequence and the day clock as its stamp,
and raise the counter (R128). -/
def State.appendRecord (s : State) (r : Record) : State :=
  (s.onJnc fun j =>
    { j with
      records := j.records ++ [{ r with seq := j.counter + 1, stamp := j.clock }]
      counter := j.counter + 1 }).judgeThresholds

/-- Ask the JNC for a record; a refused record is not written (R128, R129). -/
def State.writeRecord (s : State) (r : Record) : State :=
  if s.journalTakes r.body then s.appendRecord r else s

/-- A record as it is asked for: sequence and stamp are given at writing (R128, R131). -/
def entry (body : RecordBody) (drop teller supervisor : Option Nat := none)
    (disposition : Option Disposition := none) (referred : Option Nat := none) : Record where
  seq := 0
  stamp := 0
  drop := drop
  teller := teller
  supervisor := supervisor
  disposition := disposition
  reference := none
  referred := referred
  body := body

/-- A record exists and holds a disposition (R133). -/
def State.holdsDisposition (s : State) (seq : Nat) (d : Disposition) : Bool :=
  (s.recordAt seq).any fun r => r.disposition == some d

/-- Change a disposition when the record holds the expected one, and store a head office reference
when one is given (R133, R134). -/
def State.changeDisposition (s : State) (seq : Nat) (expected new : Disposition)
    (reference : Option Nat := none) : State :=
  if s.holdsDisposition seq expected then
    s.onJnc fun j =>
      { j with
        records := modifyKey Record.seq seq
          (fun r => { r with disposition := some new, reference := reference <|> r.reference }) j.records }
  else s

/-- Empty the journal (R126), which ends the refusal of POSTING records (R129); the clearing of the
near-full field is reported (R130). -/
def State.emptyJournal (s : State) : State :=
  let s' := s.onJnc fun j => { j with records := [], counter := 0, postingsClosed := false }
  if s.nearFull then s'.queueStatusAll else s'

/-! ### Drawers -/

/-- Cash-high as it should stand (R75). -/
def Drawer.isHigh (d : Drawer) : Bool := decide ((d.limit : Int) < d.home.position)

/-- Judge cash-high again for a drawer, and report a change (R75). -/
def State.judgeCashHigh (s : State) (d : Nat) : State :=
  match s.drawerAt d with
  | some x =>
    if x.isHigh = x.cashHigh then s
    else (s.modifyDrawer d fun y => { y with cashHigh := x.isHigh }).queueHolder d
  | none => s

/-- One leg into a drawer: a cash-in leg into the cash-in sum of its currency, a cash-out leg into the
cash-out sum; account legs move no drawer (R74). -/
def Drawer.applyLeg (d : Drawer) (l : Leg) : Drawer :=
  match l.kind with
  | .cashIn => d.onSums l.currency fun x => { x with cashIn := x.cashIn + l.amount }
  | .cashOut => d.onSums l.currency fun x => { x with cashOut := x.cashOut + l.amount }
  | _ => d

/-- A leg that moves cash (R41). -/
def isCashLeg (l : Leg) : Bool := l.kind == .cashIn || l.kind == .cashOut

/-- Apply the cash legs of a completed transaction to its target drawer together, set the drop's
release and judge cash-high; a transaction with no cash leg does nothing here (R74). -/
def State.applyCash (s : State) (t : Txn) : State :=
  match t.drawer with
  | some d =>
    if t.legs.any isCashLeg then
      ((s.modifyDrawer d fun x => t.legs.foldl Drawer.applyLeg x).setRelease t.drop).judgeCashHigh d
    else s
  | none => s

/-- A signed figure within the totals' range (section 4.1). -/
def inTotalRange (n : Int) : Bool := decide (-(Config.maxTotal : Int) ≤ n ∧ n ≤ (Config.maxTotal : Int))

/-! ### Online slots and the wait list -/

/-- The stage of a drop's work item, with the slot it takes, if any (R44). -/
def State.setStage (s : State) (a : Nat) (g : Stage) (slot : Option Nat) : State :=
  (s.modifyTxn a fun t => { t with stage := g, slot := slot }).modifyFetch a
    fun f => { f with stage := g, slot := slot }

/-- The frame kind of a drop's work item (R99). -/
def State.workKind (s : State) (a : Nat) : OnlineKind :=
  if (s.txnAt a).isSome then .txnForward else .passbookFetch

/-- A drop's work item takes an online slot, which becomes QUEUED (R48, R49, R99). -/
def State.takeSlot (s : State) (a i : Nat) : State :=
  (s.modifySlot i fun x =>
    { x with state := .queued, drop := a, kind := s.workKind a, tag := 0, timer := .stopped }).setStage
    a .queued (some i)

/-- A drop joins the wait list at its tail (R48). -/
def State.joinWaitList (s : State) (a : Nat) : State :=
  (s.onRqu fun r => { r with waitList := r.waitList ++ [a] }).setStage a .waitListed none

/-- A drop's entry leaves the wait list (R49). -/
def State.leaveWaitList (s : State) (a : Nat) : State :=
  s.onRqu fun r => { r with waitList := r.waitList.filter (· != a) }

/-- Forward: the lowest-numbered FREE slot, or the wait list (R48). -/
def State.forward (s : State) (a : Nat) : State :=
  match s.lowestFree with
  | some i => s.takeSlot a i
  | none => s.joinWaitList a

/-- One serving of the wait list: while the link is ONLINE, the oldest entry takes the
lowest-numbered FREE slot (R49). -/
def State.serveOne (s : State) : State :=
  if s.tkc.link = .online then
    match s.rqu.waitList, s.lowestFree with
    | a :: rest, some i => (s.onRqu fun r => { r with waitList := rest }).takeSlot a i
    | _, _ => s
  else s

/-- Serve the wait list until no slot is FREE or it is empty (R49); there are six slots. -/
def State.serveWaitList (s : State) : State :=
  s.serveOne.serveOne.serveOne.serveOne.serveOne.serveOne

/-- A slot becomes FREE (R99). -/
def State.freeSlotAt (s : State) (i : Nat) : State := s.modifySlot i fun x => freeSlot x.number

/-- A slot becomes FREE and is offered to the wait list (R49). -/
def State.freeAndOffer (s : State) (i : Nat) : State := (s.freeSlotAt i).serveWaitList

/-- The supervision timer starts a new check period (R92, R109). -/
def State.restartSupervision (s : State) : State :=
  s.onTkc fun t => { t with supervision := .running s.dyc.params.checkPeriod }

/-- A reply timer as it is started (R101, R105, R109). -/
def State.replyTimer (s : State) : Timer := .running s.dyc.params.replyTimeout

end Sys2Proof.Machine
end

