-- ==== Sys2Proof/Machine/Operands.lean ====
section
/-! DEFINITION. The operands of a transaction: the amount arithmetic and the exchange computation
(R59 to R67), the route table (R43), and the declared counts (R69 to R71). -/

namespace Sys2Proof.Machine

/-! ### Amounts -/

/-- A request amount in its range (R42, R60): absent, unreadable and out-of-range fields give none. -/
def readAmount : Field → Option Nat
  | .value n => if 1 ≤ n ∧ n ≤ Config.maxAmount then some n else none
  | _ => none

/-- The amount a field gives the leg that a refusal names (R57): the number as keyed, 0 for one omitted (R42), and none
for one that is no number (assumption 24). -/
def keyedAmount : Field → Option Nat
  | .absent => some 0
  | .unreadable => none
  | .value n => some n

/-- A station code in its range (R42). -/
def readCode : Field → Option Nat
  | .value n => if n ≤ 255 then some n else none
  | _ => none

/-- A definition has a leg (R41). -/
def hasLeg (d : Definition) : Bool := d.cash != .noCash || d.account != .noAccount

/-- A definition has a cash effect: at least one cash leg; every exchange has one (R41). -/
def hasCash (d : Definition) : Bool := d.cash != .noCash || d.mode != .home

/-- The home cash leg's kind (R41). -/
def cashLegKind : CashEffect → Option LegKind
  | .cashIn => some .cashIn
  | .cashOut => some .cashOut
  | .noCash => none

/-- The account leg's kind (R41). -/
def accountLegKind : AccountEffect → Option LegKind
  | .credit => some .accountCredit
  | .debit => some .accountDebit
  | .noAccount => none

/-- The kinds of a definition's home legs, the cash leg first (R41). -/
def homeKinds (d : Definition) : List LegKind :=
  (cashLegKind d.cash).toList ++ (accountLegKind d.account).toList

/-- Round an exact product in millionths down to a whole multiple of a unit (R66). -/
def roundDown (p unit : Nat) : Nat := p / (1000000 * unit) * unit

/-- Round an exact product in millionths up to a whole multiple of a unit (R66). -/
def roundUp (p unit : Nat) : Nat := (p + (1000000 * unit - 1)) / (1000000 * unit) * unit

/-- Round an exact product in millionths to the nearest minor unit, a half up (R66). -/
def roundNearest (p : Nat) : Nat := (p + 500000) / 1000000

/-- Stage 3: the home leg by its kind (R66). -/
def roundHome (kind : LegKind) (p unit : Nat) : Nat :=
  match kind with
  | .cashOut => roundDown p unit
  | .cashIn => roundUp p unit
  | .accountCredit => roundNearest p
  | .accountDebit => roundNearest p

/-- What step 8 gives: the kept legs and exchange, or a refusal with the leg concerned (R59). -/
inductive AmountResult where
  | legs (legs : List Leg) (exchange : Option Exchange)
  | refused (result : Result) (note : Option LegNote)
  deriving DecidableEq, Repr

/-- The arithmetic of mode HOME (R60): every leg takes the home amount. -/
def homeAmounts (d : Definition) (f : TxnFields) : AmountResult :=
  match homeKinds d with
  | [] => .legs [] none
  | k :: ks =>
    match readAmount f.home with
    | some n => .legs ((k :: ks).map fun kind => ⟨.home, kind, n⟩) none
    | none => .refused .amountRange (some ⟨.home, k, keyedAmount f.home⟩)

/-- Stages 2 and 3 of an exchange, from the foreign amount of stage 1 (R65, R66): the foreign leg,
then the home leg. -/
def convert (d : Definition) (r : RateLoad) (name : RateName) (foreignKind : LegKind)
    (keyed reduced : Nat) : AmountResult :=
  let rate := match name with | .buy => r.buy | .sell => r.sell
  let legs := (homeKinds d).map fun k => (⟨.home, k, roundHome k (reduced * rate) r.unitHome⟩ : Leg)
  match legs.find? fun l => l.amount == 0 || decide (Config.maxAmount < l.amount) with
  | some l => .refused .amountRange (some ⟨.home, l.kind, some l.amount⟩)
  | none => .legs (⟨.foreign, foreignKind, reduced⟩ :: legs) (some ⟨name, rate, keyed, reduced, keyed - reduced⟩)

/-- The arithmetic of a BUY-FOREIGN request (R63). -/
def buyAmounts (d : Definition) (f : TxnFields) (r : RateLoad) : AmountResult :=
  match readAmount f.foreign with
  | none => .refused .amountRange (some ⟨.foreign, .cashIn, keyedAmount f.foreign⟩)
  | some n =>
    if n % r.unitForeign = 0 then convert d r .buy .cashIn n n
    else .refused .amountUnit (some ⟨.foreign, .cashIn, some n⟩)

/-- The arithmetic of a SELL-FOREIGN request (R64). -/
def sellAmounts (d : Definition) (f : TxnFields) (r : RateLoad) : AmountResult :=
  match readAmount f.foreign with
  | none => .refused .amountRange (some ⟨.foreign, .cashOut, keyedAmount f.foreign⟩)
  | some n =>
    let reduced := n / r.unitForeign * r.unitForeign
    if reduced = 0 then .refused .amountRange (some ⟨.foreign, .cashOut, some n⟩)
    else convert d r .sell .cashOut n reduced

/-- Step 8: the amount arithmetic (R59). An exchange without a rate record was refused at step 7. -/
def amounts (d : Definition) (f : TxnFields) (rate : Option RateRecord) : AmountResult :=
  match d.mode, rate with
  | .home, _ => homeAmounts d f
  | .buyForeign, some r => buyAmounts d f r.rates
  | .sellForeign, some r => sellAmounts d f r.rates
  | _, none => .refused .rateStale none

/-- Step 7: the rate record is fresh at a day clock (R62). -/
def rateFresh (rate : Option RateRecord) (clock : Nat) : Bool :=
  rate.any fun r => decide (clock ≤ r.loadedAt + r.rates.validity)

/-- The amount compared with the limit: the home leg's amount, none when there is no leg (R67). -/
def amountCompared (legs : List Leg) : Option Nat :=
  (legs.find? fun l => l.currency == .home).map (·.amount)

/-- The account amount: the amount of the account leg (R112). -/
def accountLeg (legs : List Leg) : Option Leg :=
  legs.find? fun l => l.kind == .accountCredit || l.kind == .accountDebit

/-- A leg's amount with its sign for the account: a credit is positive, a debit negative (R54, R117). -/
def signedAmount (l : Leg) : Int := if l.kind = .accountDebit then -(l.amount : Int) else l.amount

/-- The signed account amount of some legs. -/
def signedAccount (legs : List Leg) : Int := ((accountLeg legs).map signedAmount).getD 0

/-! ### Routes -/

/-- All 12 digit positions of an account match a route entry: masked, or equal (R43). -/
def routeMatches (r : Route) (account : Nat) : Bool :=
  (List.range 12).all fun i => r.masked.getLsbD i || accountDigit account (i + 1) == accountDigit r.pattern (i + 1)

/-- The route table's result for an account: the first entry that matches, else OTHER-BRANCH (R43). -/
def routeResult (routes : List (Nat × Route)) (account : Nat) : RouteResult :=
  ((routes.find? fun e => routeMatches e.2 account).map (·.2.result)).getD .otherBranch

/-- The effective routing (R43). -/
def effectiveRouting (r : Routing) : RouteResult → Routing
  | .otherBranch => if r = .standInAllowed then .onlineOnly else r
  | _ => r

/-- An account as 12 digits (R42); a number of more digits is no account number (assumption 8). -/
def readAccount (a : Option Nat) : Option Nat := a.filter fun n => decide (n < Config.accountBound)

/-! ### Declared counts -/

/-- The count a declaration carries for a denomination; an omitted one counts 0 (R69). -/
def countOf (counts : List (Nat × Nat)) (value : Nat) : Nat :=
  ((counts.find? fun c => c.1 == value).map (·.2)).getD 0

/-- The declared amount of a currency: the sum of count times value over its table (R69). -/
def declaredAmount (table : List Nat) (counts : List (Nat × Nat)) : Nat :=
  (table.map fun v => countOf counts v * v).sum

/-- Every count is from 0 to 99,999, and a count other than 0 names a denomination of the table (R69). -/
def countsInRange (table : List Nat) (counts : List (Nat × Nat)) : Bool :=
  counts.all fun c => decide (c.2 ≤ 99999) && (c.2 == 0 || table.contains c.1)

/-- The difference passes the tolerance test (R70). -/
def withinTolerance (difference : Int) (tolerance : Nat) : Bool := decide (difference.natAbs ≤ tolerance)

/-- Taking a difference keeps an over/short and the branch net in range (R71). -/
def differenceFits (overShort net difference : Int) : Bool :=
  inTotalRange (overShort + difference) && inTotalRange (net + difference)

end Sys2Proof.Machine
end

