-- ==== Sys2Proof/Machine/DayOps.lean ====
section
/-! DEFINITION. The shared operations of Day Control: changing the day state (R154), the control
totals (R169), entering SENDING and SEND-STALLED (R167, R175), the drawers falling due (R83), the end
of the drain (R164, R165) and the exit from BALANCING (R166). -/

namespace Sys2Proof.Machine

/-- Change the day state; a change of the shown value queues status lines (R154). -/
def State.setDay (s : State) (d : DayState) : State :=
  let s' := s.onDyc fun y => { y with day := d }
  if shownDay s.dyc.day = shownDay d then s' else s'.queueStatusAll

/-! ### Control totals -/

/-- A counting posting: a POSTING record whose disposition counts it (section 11.2). -/
def countingPosting (r : Record) : Option Posting :=
  match r.disposition with
  | some .approved | some .done | some .advicePending | some .adviceConfirmed | some .exception =>
    postingOf r.body
  | _ => none

/-- The sum of the legs of one currency and kind over the counting postings (R169, totals 2 to 7). -/
def legTotal (c : Currency) (k : LegKind) (l : List Record) : Int :=
  sumOf (fun p : Posting => sumOf (fun g : Leg => if g.currency = c ∧ g.kind = k then g.amount else 0) p.legs)
    (l.filterMap countingPosting)

/-- The hash total: the account numbers of the counting postings that carry one, summed modulo 10^12
(R169, total 8). -/
def hashTotal (l : List Record) : Int :=
  sumOf (fun n : Nat => (n : Int)) ((l.filterMap countingPosting).filterMap (·.account)) % Config.accountBound

/-- The differences of a COUNT record (R169, totals 9 and 10). -/
def countDiffs : RecordBody → Int × Int
  | .count _ _ h f _ _ => (h, f)
  | _ => (0, 0)

/-- The number of POSTING records with a disposition (R169, totals 11 to 13). -/
def postingsWith (d : Disposition) (l : List Record) : Nat :=
  l.countP fun r => postingKind r.body && r.disposition == some d

/-- The thirteen control totals over some records (R169). -/
def controlTotals (l : List Record) : Totals where
  records := l.length
  debit := legTotal .home .accountDebit l
  credit := legTotal .home .accountCredit l
  homeIn := legTotal .home .cashIn l
  homeOut := legTotal .home .cashOut l
  foreignIn := legTotal .foreign .cashIn l
  foreignOut := legTotal .foreign .cashOut l
  hash := hashTotal l
  overHome := sumOf (fun r => (countDiffs r.body).1) l
  overForeign := sumOf (fun r => (countDiffs r.body).2) l
  pending := postingsWith .advicePending l
  exceptions := postingsWith .exception l
  unadvised := postingsWith .timedOutUnadvised l

/-! ### Sending -/

/-- A frame being sent no longer starts the block timer at its end for a resumption that has been
overtaken (R176). -/
def State.forgetResumption (s : State) : State :=
  s.onTkc fun t => { t with transmitter := t.transmitter.map fun x => { x with startsTimer := false } }

/-- The day enters SEND-STALLED: the block timer is stopped and source 8 is no longer ready (R175). -/
def State.stall (s : State) : State :=
  ((s.onDyc fun y => { y with blockTimer := .stopped, resumed := false }).forgetResumption).setDay .sendStalled

/-- Slot 6 is freed with its timer stopped when the SFQ is frozen (R123). -/
def State.freezeSfq (s : State) : State := s.onTkc fun t => { t with slot6 := freeAdviceSlot }

/-- The number of record blocks of `n` records (R167). -/
def recordBlocks (n : Nat) : Nat := (n + 15) / 16

/-- The batch progress fixed on the entry into SENDING (R167). -/
def newBatch (l : List Record) (n : Nat) : Batch where
  records := n
  blocks := recordBlocks n
  totals := controlTotals l
  oldest := 1
  next := 1
  attempts := 0
  trailer := false
  verdict := none
  refusals := 0

/-- In SENDING without an ONLINE link the day is SEND-STALLED at once (R167, R175). -/
def State.stallUnlessOnline (s : State) : State := if s.tkc.link = .online then s else s.stall

/-- The day enters SENDING from BALANCING (R167). -/
def State.enterSending (s : State) : State :=
  let n := s.jnc.counter
  let b := newBatch s.jnc.records n
  let s1 := (s.onDyc fun y => { y with batch := some b, blockTimer := .stopped, resumed := false }).setDay .sending
  (s1.freezeSfq.raise (.sending n (b.blocks + 1))).stallUnlessOnline

/-! ### Balancing -/

/-- A drawer falls due on the entry into BALANCING: it is the reserve or has an assigned teller (R83). -/
def Drawer.fallsDue (d : Drawer) : Bool := d.number == 0 || d.assigned.isSome

/-- The drawers fall due, and the releases of their holders' drops are set (R83). -/
def State.drawersDue (s : State) : State :=
  let s1 := s.onCsu fun c =>
    { c with drawers := c.drawers.map fun d => if d.fallsDue then { d with balance := .due } else d }
  let drops := (s.csu.drawers.filter Drawer.fallsDue).filterMap fun d =>
    (s.holderOf d.number).bind (·.station)
  drops.foldl State.setRelease s1

/-- All drawers that were due have balanced (R166). -/
def State.allBalanced (s : State) : Bool :=
  s.csu.drawers.all fun d => d.balance != .due && d.balance != .held

/-- Judge the exit from BALANCING (R166). -/
def State.judgeExit (s : State) : State :=
  if s.dyc.day = .balancing ∧ s.allBalanced = true ∧ s.csu.transit = [] ∧ s.nobodySignedOn = true then
    s.enterSending
  else s

/-- The cutoff is captured and POSTING records are refused from now on (R165, step 1; R129). -/
def State.captureCutoff (s : State) : State :=
  (s.onDyc fun y => { y with cutoff := some s.jnc.counter }).onJnc fun j => { j with postingsClosed := true }

/-- The CLOSE-MARK record (R131, R165). -/
def closeMark (s : State) : Record :=
  entry (.closeMark (s.dyc.cutoff.getD 0)) none (s.dyc.proposal.map (·.proposer))
    (s.dyc.proposal.bind (·.confirmer))

/-- The end of the drain (R165). -/
def State.endDrain (s : State) : State :=
  let s1 := s.captureCutoff
  let s2 := (s1.writeRecord (closeMark s1)).onDyc fun y => { y with proposal := none }
  ((s2.setDay .balancing).drawersDue).judgeExit

/-- Judge the end of the drain (R164). -/
def State.judgeDrain (s : State) : State :=
  if s.dyc.day = .closeDrain ∧ s.noneUndecided = true then s.endDrain else s

end Sys2Proof.Machine
end

