-- ==== Sys2Proof/Machine/PassbookOps.lean ====
section
/-! DEFINITION. The shared operations of the Passbook Unit: appending and folding lines (R139, R140),
formatting (R146), the printer sessions (R141 to R152), the passbook fetch (R58) and a new book (R153). -/

namespace Sys2Proof.Machine

/-! ### Lines, overflow and folds -/

/-- The free lines of the pending pool (R138). -/
def State.poolFree (s : State) : Nat :=
  Config.poolLines - (s.siu.sat.map fun e => ((e.book.map fun b => b.pending.length).getD 0)).sum

/-- An item count that stops at 99,999 (R139, R140). -/
def addItems (m n : Nat) : Nat := min (m + n) Config.maxItems

def emptyOverflow : Overflow := ⟨0, 0, none⟩

/-- The marker's source is OVERFLOW. -/
def Passbook.markedOverflow (b : Passbook) : Bool := b.marker.any fun m => m.source == .overflow

/-- The whole overflow becomes one SUMMARY line at the tail of the list (R139, step 2). -/
def Passbook.convertOverflow (b : Passbook) : Passbook :=
  { b with
    pending := b.pending ++ [⟨b.overflow.date, .summary, b.overflow.items, b.overflow.amount, .branch, none⟩]
    overflow := emptyOverflow }

/-- A line joins an overflow that is not empty, or starts it (R139, steps 2 and 3). An overflow without items has
the amount 0, but for one left by a count that had stopped, which R137 keeps (assumption 40). -/
def Passbook.joinOverflow (b : Passbook) (l : Line) : Passbook :=
  { b with overflow := ⟨addItems b.overflow.items l.items, b.overflow.amount + l.amount, l.date⟩ }

/-- Steps 2 to 4 of an append, with the pool's free lines (R139). -/
def Passbook.place (b : Passbook) (free : Nat) (l : Line) : Passbook :=
  if b.overflow.items ≠ 0 then
    let b' := b.joinOverflow l
    if 0 < free ∧ b.markedOverflow = false then b'.convertOverflow else b'
  else if free = 0 then b.joinOverflow l
  else { b with pending := b.pending ++ [l] }

/-- Two lines merged into one SUMMARY line, the date and origin those of the newer (R140). -/
def mergeLines (older newer : Line) : Line :=
  ⟨newer.date, .summary, addItems older.items newer.items, older.amount + newer.amount, newer.origin, none⟩

/-- The lines of the list from the first foldable one on: the head is not foldable while the marker's
source is LIST, nor when it is BROUGHT FWD (R140). -/
def Passbook.headFixed (b : Passbook) : Bool :=
  b.marker.any (fun m => m.source == .list) || b.pending.head?.any fun l => l.text == .broughtFwd

/-- Merge the first two lines of a list. -/
def foldLines : List Line → List Line
  | older :: newer :: rest => mergeLines older newer :: rest
  | l => l

/-- One fold (R140). -/
def Passbook.fold (b : Passbook) : Passbook :=
  if b.headFixed then
    match b.pending with
    | h :: rest => { b with pending := h :: foldLines rest }
    | [] => b
  else { b with pending := foldLines b.pending }

/-- Folds repeated until the list holds 40 lines or fewer, at most `n` of them (R152). -/
def Passbook.foldDown : Nat → Passbook → Passbook
  | 0, b => b
  | n + 1, b => if Config.listLines < b.pending.length then foldDown n b.fold else b

/-- The fold of step 5 of an append: no session open and more than 40 lines (R139). -/
def Passbook.foldIfLong (b : Passbook) : Passbook :=
  if b.session = none ∧ Config.listLines < b.pending.length then b.fold else b

/-- A balance in the printed balance's range (section 9.1). -/
def inBookRange (n : Int) : Bool := decide (-Config.maxBook ≤ n ∧ n ≤ Config.maxBook)

/-- Append a line to an account's passbook part (R139). For an account with no part, the line of a FETCH-REPLY is dropped
with no report (assumption 59); a posting asks for none then (R54, R114). -/
def State.appendLine (s : State) (account : Nat) (l : Line) : State :=
  match s.bookOf account with
  | none => s
  | some b =>
    if inBookRange (b.lineBalance + l.amount) then
      let free := s.poolFree
      s.modifyBook account fun b =>
        ({ b with lineBalance := b.lineBalance + l.amount }.place free l).foldIfLong
    else s.raise (.passbookRange account)

/-- Convert an overflow before the next line is chosen, when the pool has a free line and the marker
is absent (R147). -/
def Passbook.convertIfRoom (b : Passbook) (free : Nat) : Passbook :=
  if b.overflow.items ≠ 0 ∧ 0 < free ∧ b.marker = none then b.convertOverflow else b

/-- The position after page `p`, line `l` (R143). -/
def positionAfter (p l : Nat) : BookPos :=
  if l < 24 then .line p (l + 1) else if p < 32 then .line (p + 1) 1 else .full

/-- One position stands earlier than another: by page, then by line, FULL after every line (R143). -/
def positionBefore : BookPos → BookPos → Bool
  | .line p l, .line q m => decide (p < q ∨ (p = q ∧ l < m))
  | .line _ _, .full => true
  | .full, _ => false

/-- A marked line is confirmed printed (R148). -/
def Passbook.confirmMarked (b : Passbook) : Passbook :=
  match b.marker with
  | none => b
  | some m =>
    let b1 := match m.source with
      | .list => { b with pending := b.pending.tail }
      | .overflow => { b with overflow :=
          ⟨b.overflow.items - m.items, b.overflow.amount - m.amount, b.overflow.date⟩ }
    { b1 with printed := b.printed + m.amount, marker := none, next := positionAfter m.page m.line }

/-! ### Formatting (R146) -/

/-- The decimal digits of a number as characters. -/
def numberText (n : Nat) : Text := (Nat.toDigits 10 n).map fun c => BitVec.ofNat 8 c.toNat

/-- A figure in its column: as it is, or a row of "#" when it is too wide (R146). -/
def figure (c : Column) (t : Text) : ShownColumn :=
  ⟨c.start, c.width, if t.length ≤ c.width then t else List.replicate c.width 35⟩

/-- A text in its column; how a text too wide is shown is left open (R146). -/
def shownText (c : Column) (t : Text) : ShownColumn :=
  ⟨c.start, c.width, if t.length ≤ c.width then t else Config.overlongText t c.width⟩

/-- The text of a line: "n ITEMS" for a SUMMARY line, the provisional mark after an ordinary line of
origin STAND-IN (R146). -/
def lineText (mark : Byte) (l : Line) : Text :=
  match l.text with
  | .summary => numberText l.items ++ [32, 73, 84, 69, 77, 83]
  | .broughtFwd => [66, 82, 79, 85, 71, 72, 84, 32, 70, 87, 68]
  | .text t => if l.origin = .standIn then t ++ [mark] else t

/-- A balance with its sign when below 0 (R146). -/
def balanceText (n : Int) : Text := if n < 0 then 45 :: numberText n.natAbs else numberText n.natAbs

/-- The columns of a printed line; a column of width 0 is not printed (R146). -/
def lineColumns (y : Layout) (printed : Int) (l : Line) : List ShownColumn :=
  [shownText y.date ((l.date.map Config.dateText).getD []),
   shownText y.text (lineText y.mark l),
   figure y.reference ((l.seq.map numberText).getD []),
   figure y.withdrawal (if l.amount < 0 then numberText l.amount.natAbs else []),
   figure y.deposit (if 0 < l.amount then numberText l.amount.natAbs else []),
   figure y.balance (balanceText (printed + l.amount))].filter fun c => decide (0 < c.width)

/-! ### Sessions -/

/-- Send a command to a printer and start the answer timer (R141). -/
def State.sendCommand (s : State) (a : Nat) (c : PrinterCommand) (m : DownMessage) : State :=
  (s.handOver a m).modifySession a fun x =>
    { x with command := some c, timer := .running Config.answerSeconds }

/-- No command outstanding, timer stopped. -/
def Session.settle (x : Session) : Session := { x with command := none, timer := .stopped }

/-- A session returns to IDLE, its account none and lines printed 0 (R152). -/
def Session.toIdle (x : Session) : Session := idleSession x.number x.drop

/-- An IDLE session becomes IDENTIFY and READ-STRIPE is sent (R142). -/
def State.startIdentify (s : State) (a : Nat) : State :=
  if (s.sessionOf a).any (fun x => x.state == .idle) then
    (s.modifySession a fun x => { x with state := .identify }).sendCommand a .readStripe .readStripe
  else s

/-- The PASSBOOK-PRINT record of a session that ends (R131, R152). -/
def passbookPrint (a account printed : Nat) (b : Passbook) : Record :=
  entry (.passbookPrint account printed b.next b.printed) (some a)

/-- A session ends: its account's flag is cleared, the list folded, and a PASSBOOK-PRINT record
written when lines were printed (R152). -/
def State.endSession (s : State) (a : Nat) : State :=
  match s.sessionOf a with
  | none => s
  | some x =>
    match x.account with
    | none => s
    | some account =>
      let s1 := s.modifyBook account fun b =>
        let b' := { b with session := none }
        b'.foldDown b'.pending.length
      match s1.bookOf account with
      | some b => if 0 < x.printed then s1.writeRecord (passbookPrint a account x.printed b) else s1
      | none => s1

/-- EJECT, FINISHED, and the end of the session (R147, R149, R150, R152). -/
def State.finishSession (s : State) (a : Nat) (reason : Option BookReason) : State :=
  ((s.handOver a (.eject reason)).modifySession a fun x =>
    { x with state := .finished, command := none, timer := .stopped }).endSession a

/-- A fetch still WAIT-LISTED or QUEUED is withdrawn; one on the trunk runs on (R58, R150). -/
def State.withdrawFetch (s : State) (a : Nat) : State :=
  match s.fetchAt a with
  | some f =>
    match f.stage, f.slot with
    | .waitListed, _ => (s.leaveWaitList a).endFetch a
    | .queued, some i => (s.endFetch a).freeAndOffer i
    | _, _ => s
  | none => s

/-- A printer fault in FETCHING, PRINTING or TURNING (R150). -/
def State.faultSession (s : State) (a : Nat) : State :=
  (s.finishSession a (some .printerFault)).withdrawFetch a

/-- A book is refused: EJECT with the reason and a PASSBOOK-ALERT record (R142). -/
def State.refuseBook (s : State) (a : Nat) (account : Option Nat) (pos : Option BookPos)
    (reason : BookReason) : State :=
  ((s.modifySession a fun x => { x with state := .refused, command := none, timer := .stopped }).handOver a
    (.eject (some reason))).writeRecord (entry (.passbookAlert account pos reason) (some a))

/-- A printer fault of a session, by its state (R150). -/
def State.printerFaultAt (s : State) (a : Nat) : State :=
  match s.sessionState a with
  | .identify => s.refuseBook a none none .printerFault
  | .fetching | .printing | .turning => s.faultSession a
  | .idle | .finished | .refused => s

/-- An interruption: a session in FETCHING, PRINTING or TURNING ends with no EJECT, and any session
returns to IDLE (R151). -/
def State.interruptSession (s : State) (a : Nat) : State :=
  let s1 := match s.sessionState a with
    | .fetching | .printing | .turning => (s.endSession a).withdrawFetch a
    | .idle | .identify | .finished | .refused => s
  s1.modifySession a Session.toIdle

/-- BOOK-IN confirmed on or off for a printer drop (R142, R151). -/
def State.bookInChanged (s : State) (a : Nat) (on : Bool) : State :=
  if on then s.startIdentify a else s.interruptSession a

/-- Print a line at the next position: PRINT-LINE, the marker and the answer timer (R147). -/
def State.printLine (s : State) (a account : Nat) (b : Passbook) (l : Line) (src : MarkerSource) : State :=
  match b.next with
  | .line p n =>
    (s.modifyBook account fun b => { b with marker := some ⟨p, n, l.amount, l.items, src⟩ }).sendCommand a
      (.printLine p n) (.printLine p n (lineColumns s.pbu.layout b.printed l))
  | .full => s.finishSession a (some .bookFull)

/-- The overflow as the SUMMARY line it is printed as (R147). -/
def Passbook.overflowLine (b : Passbook) : Line :=
  ⟨b.overflow.date, .summary, b.overflow.items, b.overflow.amount, .branch, none⟩

/-- A session in PRINTING chooses its next line (R147). -/
def State.chooseLine (s : State) (a account : Nat) : State :=
  let free := s.poolFree
  let s1 := s.modifyBook account fun b => b.convertIfRoom free
  match s1.bookOf account with
  | none => s1.finishSession a none
  | some b =>
    match b.pending with
    | l :: _ => s1.printLine a account b l .list
    | [] =>
      if b.overflow.items ≠ 0 then s1.printLine a account b b.overflowLine .overflow
      else s1.finishSession a none

/-- A session becomes PRINTING and chooses its next line (R144, R145, R149). -/
def State.startPrinting (s : State) (a account : Nat) : State :=
  (s.modifySession a fun x => { x with state := .printing, command := none, timer := .stopped }).chooseLine
    a account

/-- A FETCHING session of a drop becomes PRINTING after its fetch's outcome (R145). -/
def State.resumeFetching (s : State) (a : Nat) : State :=
  match s.sessionOf a with
  | some x =>
    match x.state, x.account with
    | .fetching, some account => s.startPrinting a account
    | _, _ => s
  | none => s

/-- The line a FETCH-REPLY's line becomes (R145); an amount that cannot be read gives none. -/
def fetchedLine (l : FetchLine) : Option Line :=
  l.amount.map fun n => ⟨some l.date, .text l.text, 1, n, .headOffice, none⟩

/-- The outcome of a fetch: its work item ends, its lines are appended, and a FETCHING session goes on
to print (R58, R145). A skip carries no lines. -/
def State.fetchOutcome (s : State) (f : Fetch) (lines : List FetchLine) : State :=
  (((lines.take 16).filterMap fetchedLine).foldl (fun s l => s.appendLine f.account l)
    (s.endFetch f.drop)).resumeFetching f.drop

/-- A session that proceeds asks for its fetch, or prints at once (R58, R144). -/
def State.requestFetch (s : State) (a account : Nat) : State :=
  if s.hasWork a ∨ s.tkc.link ≠ .online then s.startPrinting a account
  else
    let pos := ((s.bookOf account).map (·.next)).getD .full
    ((s.putFetch ⟨a, account, pos, .checking, none⟩).forward a).modifySession a fun x =>
      { x with state := .fetching, command := none, timer := .stopped }

/-- The steps of a session that proceeds (R144). -/
def State.proceedSession (s : State) (a account printed : Nat) : State :=
  let free := s.poolFree
  let s1 := (s.modifyBook account fun b =>
      { b.convertIfRoom free with session := some a }).modifySession a
    fun x => { x with account := some account, printed := printed, command := none, timer := .stopped }
  if (s1.bookOf account).any (fun b => b.next == .full) then s1.finishSession a (some .bookFull)
  else s1.requestFetch a account

/-- The stripe's position against the next position (R143). -/
def State.reconcile (s : State) (a account : Nat) (pos : BookPos) (b : Passbook) : State :=
  match b.next with
  | .full => s.refuseBook a (some account) (some pos) .bookFull
  | .line p l =>
    if pos = .line p l then
      (s.modifyBook account fun b => { b with marker := none }).proceedSession a account 0
    else if pos = positionAfter p l ∧ b.marker.isSome = true then
      (s.modifyBook account Passbook.confirmMarked).proceedSession a account 1
    else if positionBefore pos (.line p l) then s.refuseBook a (some account) (some pos) .bookSuperseded
    else s.refuseBook a (some account) (some pos) .positionMismatch

/-- The checks of a BOOK-PRESENT taken in IDENTIFY (R142). -/
def State.checkBook (s : State) (a : Nat) : Stripe → State
  | .unreadable => s.refuseBook a none none .noStripe
  | .read account pos =>
    if s.dyc.day = .noDay ∨ s.dyc.day = .loading then s.refuseBook a (some account) (some pos) .dayNotOpen
    else
      match s.bookOf account with
      | none => s.refuseBook a (some account) (some pos) .notPassbook
      | some b =>
        if b.session.isSome then s.refuseBook a (some account) (some pos) .accountBusy
        else s.reconcile a account pos b

/-- A NEW-BOOK resets the position and the marker and brings the balance forward (R153). -/
def Passbook.renew (b : Passbook) (free : Nat) (date : Option Date) : Passbook :=
  let b' := { b with next := .line 1 1, marker := none }
  if 0 < free then { b' with pending := ⟨date, .broughtFwd, 1, 0, .branch, none⟩ :: b.pending } else b'

/-- Why a NEW-BOOK is refused (R153). -/
def State.newBookRefusal (s : State) (account : Nat) : Option Result :=
  match s.bookOf account with
  | none => some .noAccount
  | some b => if b.session.isSome then some .notPermitted else none

end Sys2Proof.Machine
end

