-- ==== Sys2Proof/Machine/Decide.lean ====
section
/-! DEFINITION. The transaction path from the branch class mask check to the final outcome: the order
of checks (R45), the override hold (R33), the drawer tests (R46, R68), routing (R48), local completion
(R53), the stand-in decision (R112 to R115), and the second decisions (R51, R56). -/

namespace Sys2Proof.Machine

/-! ### Final outcomes -/

/-- A final reply that carries no more than its outcome, the station code and, after an expiry, the
timed-out record's sequence (R57). -/
def Txn.reply (t : Txn) (r : Result) : FinalReply where
  code := t.code
  result := r
  seq := none
  reference := none
  reason := none
  legs := []
  reduced := none
  unsold := none
  balance := none
  snapshot := none
  timedOut := t.timedOut
  note := none
  route := none
  wouldHold := none

/-- The unsold remainder of a SELL (R57, R64). -/
def Txn.unsold (t : Txn) : Option Nat := (t.exchange.filter fun e => e.name == .sell).map (·.unsold)

/-- The reduced foreign amount of a SELL (R57, R64). -/
def Txn.reduced (t : Txn) : Option Nat := (t.exchange.filter fun e => e.name == .sell).map (·.reduced)

/-- The masks are restored: a saved mask is put back (R37). -/
def Teller.restore (t : Teller) : Teller :=
  match t.saved with
  | some m => { t with allowance := m, saved := none }
  | none => t

/-- A work item reaches its final outcome: the masks are restored, the reply is handed to the LPC, the
stage becomes ANSWERED (R44, R37), and the DYC judges the drain (R164). -/
def State.reachOutcome (s : State) (t : Txn) (r : FinalReply) : State :=
  (((s.modifyTeller t.teller Teller.restore).handOver t.drop (.final r)).putTxn
    { t with
      stage := .answered, slot := none, outcome := some r.result, limit := none
      holdTimer := .stopped }).judgeDrain

/-- A work item is refused (R45, R57). -/
def State.refuse (s : State) (t : Txn) (r : Result) (note : Option LegNote := none) : State :=
  s.reachOutcome t { t.reply r with note := note }

/-- TRAINING-OK with the route that would have been taken (R31). -/
def State.trainingOk (s : State) (t : Txn) (route : TrainingRoute) : State :=
  s.reachOutcome t
    { t.reply .trainingOk with
      legs := t.legs, unsold := t.unsold, route := some route, wouldHold := t.wouldHold }

/-! ### Local and stand-in completion -/

/-- The fields of a transaction's POSTING record (R132). -/
def Txn.posting (t : Txn) (m : Mode) : Posting :=
  ⟨t.defIndex, t.code.getD 0, t.account, t.legs, t.exchange, m⟩

/-- A transaction's POSTING record as it is asked for (R50, R53, R114). -/
def Txn.record (t : Txn) (m : Mode) (d : Disposition) : Record :=
  entry (.posting (t.posting m)) (some t.drop) (some t.teller) t.supervisor (some d)

/-- The definition is a NEW-BOOK definition: cash effect and account effect NONE and the passbook
class of the parameters record (R41, R153). -/
def State.isNewBook (s : State) (d : Definition) : Bool :=
  !hasLeg d && d.cls == s.dyc.params.passbookClass

/-- The POSTING record, the cash legs and DONE of a local completion (R53, stages 1 to 3). -/
def State.postLocal (s : State) (t : Txn) : State :=
  let r := t.record .localMode .done
  if s.journalTakes r.body then
    ((s.writeRecord r).applyCash t).reachOutcome { t with seq := some s.nextSeq }
      { t.reply .done with
        seq := some s.nextSeq, legs := t.legs, reduced := t.reduced, unsold := t.unsold }
  else s.refuse t .journalFull

/-- A transaction decided as LOCAL (R53). A NEW-BOOK definition is first handed to the PBU (R153). -/
def State.completeLocal (s : State) (t : Txn) (d : Definition) : State :=
  if t.training then s.trainingOk t .localRoute
  else if s.isNewBook d then
    let account := t.account.getD 0
    match s.newBookRefusal account with
    | some r => s.refuse t r
    | none =>
      let free := s.poolFree
      let date := s.dyc.date
      (s.modifyBook account fun b => b.renew free date).postLocal t
  else s.postLocal t

/-- The checks of the stand-in decision on the SAT and the SFQ (R113, checks 1 to 5). -/
def State.standInRefusal (s : State) (account : Nat) (g : Leg) : Option Result :=
  match s.satAt account with
  | none => some .noAccount
  | some e =>
    if e.kind ≠ .full then some .noAccount
    else if e.blocked then some .accountBlocked
    else if g.kind = .accountDebit ∧ e.limit < e.used + g.amount then some .standInLimit
    else if g.kind = .accountDebit ∧ e.snapshot < g.amount then some .insufficientBalance
    else if Config.sfqPostings ≤ s.siu.sfq.length then some .safFull
    else none

/-- A snapshot held within its range by clamping (R115, R116). -/
def clampSnapshot (n : Int) : Int := max (-(Config.maxTotal : Int)) (min n Config.maxTotal)

/-- Stage 3 of a stand-in posting on its SAT entry (R114, R115). -/
def SatEntry.post (e : SatEntry) (g : Leg) : SatEntry :=
  match g.kind with
  | .accountDebit =>
    { e with used := e.used + g.amount, snapshot := e.snapshot - g.amount, net := e.net - g.amount }
  | _ => { e with snapshot := clampSnapshot (e.snapshot + g.amount), net := e.net + g.amount }

/-- An entry joins the tail of the SFQ (R118). -/
def State.appendSfq (s : State) (seq : Nat) (k : AdviceKind) : State :=
  s.onSiu fun u => { u with sfq := u.sfq ++ [⟨seq, k⟩] }

/-- The passbook line a posted transaction adds (R54, R114). -/
def txnLine (d : Definition) (g : Leg) (date : Option Date) (o : Origin) (seq : Nat) : Line :=
  ⟨date, .text d.text, 1, signedAmount g, o, some seq⟩

/-- The passbook line of a completed transaction, when its definition asks for one (R54, R114). -/
def State.appendTxnLine (s : State) (t : Txn) (d : Definition) (o : Origin) (seq : Nat) : State :=
  match t.account, accountLeg t.legs with
  | some account, some g =>
    if d.passbookLine then s.appendLine account (txnLine d g s.dyc.date o seq) else s
  | _, _ => s

/-- The stages of a stand-in posting (R114). -/
def State.postStandIn (s : State) (t : Txn) (d : Definition) (account : Nat) (g : Leg) : State :=
  let seq := s.nextSeq
  let s1 := ((s.writeRecord (t.record .standIn .advicePending)).appendSfq seq .posting).modifySat account
    fun e => e.post g
  let s2 := (s1.applyCash t).appendTxnLine t d .standIn seq
  s2.reachOutcome { t with seq := some seq }
    { t.reply .approvedStandIn with
      seq := some seq, legs := t.legs, unsold := t.unsold, snapshot := (s1.satAt account).map (·.snapshot) }

/-- The stand-in decision (R112, R113). In training it is made read-only (R31). -/
def State.standIn (s : State) (t : Txn) (d : Definition) : State :=
  match t.account, accountLeg t.legs with
  | some account, some g =>
    match s.standInRefusal account g with
    | some r => s.refuse t r
    | none =>
      if t.training then s.trainingOk t .standIn
      else if s.journalTakes (t.record .standIn .advicePending).body then s.postStandIn t d account g
      else s.refuse t .journalFull
  | _, _ => s.completeLocal t d

/-! ### Routing -/

/-- Step 13: the decision by the effective routing and the link state (R48). -/
def State.route (s : State) (t : Txn) (d : Definition) : State :=
  match t.routing, s.tkc.link with
  | .localOnly, _ => s.completeLocal t d
  | _, .online => if t.training then s.trainingOk t .online else (s.putTxn t).forward t.drop
  | _, .suspect => if t.training then s.trainingOk t .online else (s.putTxn t).joinWaitList t.drop
  | .onlineOnly, _ => s.refuse t .headOfficeUnavailable
  | .standInAllowed, _ => s.standIn t d

/-- Step 12: room for a customer POSTING record (R47). -/
def State.journalRoom (s : State) : Bool := decide (s.jnc.counter < Config.ordinaryLimit)

/-- The drawer named by a definition's target, when the teller holds it (R46, test 1). -/
def State.targetDrawer (s : State) (t : Txn) (d : Definition) : Option Nat :=
  ((s.tellerOf t.teller).bind Teller.heldDrawer).filter fun n => d.target == .own || n == 0

/-- A leg as a refusal names it (R57). -/
def noteOf (g : Leg) : LegNote := ⟨g.currency, g.kind, some g.amount⟩

/-- A cash-out leg fails CASH-SHORT when it is greater than the position (R68). -/
def cashShort (x : Drawer) (g : Leg) : Bool :=
  g.kind == .cashOut && decide ((x.sums g.currency).position < g.amount)

/-- A cash leg fails TOTAL-RANGE when a sum it raises, or for a cash-in leg the position, would pass
the largest total (R46, R68). -/
def overTotal (x : Drawer) (g : Leg) : Bool :=
  let y := x.sums g.currency
  match g.kind with
  | .cashIn => decide ((Config.maxTotal : Int) < y.position + g.amount) ||
      decide ((Config.maxTotal : Int) < y.cashIn + g.amount)
  | .cashOut => decide ((Config.maxTotal : Int) < y.cashOut + g.amount)
  | _ => false

/-- The first cash leg of a transaction. -/
def firstCash (legs : List Leg) : Option LegNote := (legs.find? isCashLeg).map noteOf

/-- Step 11 on a drop and a target drawer (R46, R68). R57 has each of its refusals name the leg concerned:
NO-DRAWER and DRAWER-OPEN, which concern every cash leg, name the first; of two legs that fail CASH-SHORT or
TOTAL-RANGE the first is named, the foreign leg of an exchange (assumption 24). -/
def State.drawerRefusal (s : State) (t : Txn) (target : Option Nat) : Option (Result × Option LegNote) :=
  match target.bind s.drawerAt with
  | none => some (.noDrawer, firstCash t.legs)
  | some x =>
    if s.dropIs t.drop fun d => d.sigs.drawerOpen.confirmed then some (.drawerOpen, firstCash t.legs)
    else
      match t.legs.find? (cashShort x) with
      | some g => some (.cashShort, some (noteOf g))
      | none => (t.legs.find? (overTotal x)).map fun g => (.totalRange, some (noteOf g))

/-- Steps 11 to 13 (R45): the drawer, the journal room, the routing. They are not made for a teller
in training, but for the routing (R31). -/
def State.fromDrawer (s : State) (t : Txn) (d : Definition) : State :=
  if t.training then s.route t d
  else if hasCash d then
    let target := s.targetDrawer t d
    match s.drawerRefusal t target with
    | some (r, note) => s.refuse t r note
    | none => if s.journalRoom then s.route { t with drawer := target } d else s.refuse t .journalFull
  else if s.journalRoom then s.route { t with drawer := none } d
  else s.refuse t .journalFull

/-! ### Override -/

/-- The limit in force: the teller's own, or after a grant the granting supervisor's (R33, R35). -/
def State.limitInForce (s : State) (t : Txn) : Nat :=
  t.limit.getD (((s.tellerOf t.teller).map (·.cashLimit)).getD 0)

/-- The reasons of the override check (R33, R67). -/
def State.overrideReason (s : State) (t : Txn) (d : Definition) : HoldReason where
  cls := (s.tellerOf t.teller).any fun x => x.restriction.has d.cls && !x.allowance.has d.cls
  amount := (amountCompared t.legs).any fun n => decide (s.limitInForce t < n)

/-- A transaction is held for override: OVERRIDE-NEEDED, the hold timer, and the count of held
overrides (R33). -/
def State.holdTxn (s : State) (t : Txn) (r : HoldReason) : State :=
  ((s.putTxn
    { t with
      stage := .held, reason := some r, compared := amountCompared t.legs
      holdTimer := .running Config.holdSeconds }).handOver t.drop
    (.overrideNeeded r (amountCompared t.legs) (s.limitInForce t))).queueSupervisors

/-- Step 10 (R33); in training the reason is kept for the reply (R31). -/
def State.fromOverride (s : State) (t : Txn) (d : Definition) : State :=
  let r := s.overrideReason t d
  if r.cls || r.amount then
    if t.training then s.fromDrawer { t with wouldHold := some r } d else s.holdTxn t r
  else s.fromDrawer t d

/-- The definition needs an account number (R42). -/
def State.needsAccount (s : State) (d : Definition) : Bool := d.account != .noAccount || s.isNewBook d

/-- Step 9: the account and the route table (R43). -/
def State.fromRoute (s : State) (t : Txn) (d : Definition) : State :=
  if s.needsAccount d then
    match readAccount t.fields.account with
    | none => s.refuse t .routeRefused
    | some account =>
      match routeResult s.rqu.routes account with
      | .refuse => s.refuse t .routeRefused
      | r => s.fromOverride { t with account := some account, routing := effectiveRouting d.routing r } d
  else s.fromOverride { t with account := none, routing := d.routing } d

/-- Steps 6 to 13 (R45): the branch class mask, the rate, the amounts, and on. A transaction that
re-enters after a grant starts here (R35). -/
def State.fromMask (s : State) (t : Txn) (d : Definition) : State :=
  if s.rqu.classMask.has d.cls then s.refuse t .classMasked
  else if d.mode ≠ .home ∧ rateFresh s.siu.rate s.jnc.clock = false then s.refuse t .rateStale
  else
    match amounts d t.fields s.siu.rate with
    | .refused r note => s.refuse t r note
    | .legs legs exchange => s.fromRoute { t with legs := legs, exchange := exchange } d

/-! ### Holds that end -/

/-- A hold ends: the count of held overrides falls and ALERT with it (R35, R36). -/
def State.endHold (s : State) (t : Txn) : State :=
  (s.putTxn { t with stage := .checking, holdTimer := .stopped }).queueSupervisors

/-- A hold ends without a grant, with its final outcome (R36). -/
def State.endHoldWith (s : State) (t : Txn) (r : Result) : State := (s.endHold t).refuse t r

/-- The transaction held for override on a drop (R34). -/
def State.heldAt (s : State) (a : Nat) : Option Txn := (s.txnAt a).filter fun t => t.stage == .held

/-! ### Second decisions -/

/-- A work item decided again without being forwarded: HEAD-OFFICE-UNAVAILABLE, or the journal room
test and the stand-in decision (R51, R56). -/
def State.decideAgain (s : State) (t : Txn) : State :=
  match t.routing, t.defn with
  | .standInAllowed, some d => if s.journalRoom then s.standIn t d else s.refuse t .journalFull
  | _, _ => s.refuse t .headOfficeUnavailable

/-- A drop's work item, taken out of the wait list or its slot, decided again (R51): a transaction by
its routing, a fetch skipped. -/
def State.redecide (s : State) (a : Nat) : State :=
  match s.txnAt a with
  | some t => s.decideAgain t
  | none =>
    match s.fetchAt a with
    | some f => s.fetchOutcome f []
    | none => s

/-- The work items of the QUEUED slots, in ascending slot order (R51). -/
def State.queuedSlots (s : State) : List OnlineSlot := s.tkc.slots.filter fun x => x.state == .queued

/-- The re-decision of the wait list, oldest first, then of the QUEUED slots (R51). -/
def State.redecideAll (s : State) : State :=
  let s1 := s.rqu.waitList.foldl (fun s a => (s.leaveWaitList a).redecide a) s
  s.queuedSlots.foldl (fun s x => (s.freeSlotAt x.number).redecide x.drop) s1

end Sys2Proof.Machine
end

