-- ==== Sys2Proof/Machine/Requests.lean ====
section
/-! DEFINITION. A teller's requests on the transaction path: TXN_REQUEST, CANCEL, and the override
hold with its grant, deny and timer (R23, R27, R34 to R36, R45, R52). -/

namespace Sys2Proof.Machine

/-- KEY-OPERATE is confirmed on at a drop (R23). -/
def State.keyOn (s : State) (a : Nat) : Bool := s.dropIs a fun d => d.sigs.keyOperate.confirmed

/-- A request from a drop whose key is on and where a teller is signed on (R23). -/
def State.asTeller (s : State) (a : Nat) (f : Teller → State) : State :=
  if s.keyOn a then
    match s.tellerAt a with
    | some t => f t
    | none => s.answer a .notSignedOn
  else s.answer a .stationLocked

/-- The checks of a supervisor request (R27). -/
def State.asSupervisor (s : State) (a : Nat) (f : Teller → State) : State :=
  s.asTeller a fun t =>
    if !t.supervises then s.answer a .notPermitted
    else if t.training then s.answer a .trainingRefused
    else f t

/-! ### TXN_REQUEST -/

/-- A new work item (R44). A station code that is absent, unreadable or out of its range leaves the item, and its
final reply, without one (R57, assumption 49). -/
def newTxn (a : Nat) (t : Teller) (fields : TxnFields) : Txn where
  drop := a
  teller := t.number
  training := t.training
  fields := fields
  code := readCode fields.code
  defIndex := 0
  defn := none
  routing := .localOnly
  account := none
  legs := []
  exchange := none
  drawer := none
  reason := none
  compared := none
  limit := none
  supervisor := none
  wouldHold := none
  stage := .checking
  slot := none
  seq := none
  timedOut := none
  outcome := none
  holdTimer := .stopped

/-- Why the day refuses a customer request (R45, check 3). -/
def requestDay : DayState → Option Result
  | .opened => none
  | .closeProposed => none
  | .noDay => some .dayNotOpen
  | .loading => some .dayNotOpen
  | _ => some .dayClosing

/-- The definition a station code leads to, with its index (R39). -/
def State.definitionOf (s : State) (code : Option Nat) : Option (Nat × Definition) :=
  code.bind fun c => (findKey Prod.fst c s.rqu.codeMap).bind fun e => findKey Prod.fst e.2 s.rqu.definitions

/-- Checks 3 to 13 of a request (R45). -/
def State.checkRequest (s : State) (t : Txn) : State :=
  match requestDay s.dyc.day with
  | some r => s.refuse t r
  | none =>
    match s.definitionOf t.code with
    | none => s.refuse t .unknownCode
    | some (i, d) =>
      let t' := { t with defIndex := i, defn := some d, routing := d.routing }
      if t.training && d.noTraining then s.refuse t' .trainingRefused else s.fromMask t' d

/-- A TXN-REQUEST (R45). -/
def State.takeRequest (s : State) (a : Nat) (fields : TxnFields) : State :=
  s.asTeller a fun t =>
    if t.session ≠ .active then s.answer a .notSignedOn
    else if s.hasWork a then s.answer a .busy
    else s.checkRequest (newTxn a t fields)

/-! ### CANCEL -/

/-- A CANCEL, by the stage of the drop's work item (R52). -/
def State.cancel (s : State) (a : Nat) : State :=
  s.asTeller a fun _ =>
    match s.txnAt a with
    | none => s.answer a .nothingHeld
    | some t =>
      match t.stage, t.slot with
      | .held, _ => s.endHoldWith t .cancelled
      | .waitListed, _ => (s.leaveWaitList a).refuse t .cancelled
      | .queued, some i => (s.freeAndOffer i).refuse t .cancelled
      | _, _ => s.answer a .cancelTooLate

/-! ### Override -/

/-- The first two checks of a grant or a deny (R34). -/
def State.onHold (s : State) (a target : Nat) (sup : Teller) (f : Txn → State) : State :=
  if target = a then s.answer a .samePerson
  else
    match s.heldAt target with
    | none => s.answer a .nothingHeld
    | some t => if t.teller = sup.number then s.answer a .samePerson else f t

/-- The holding teller's masks after a grant for class `c` (R35, steps 1 and 2). -/
def Teller.grant (t : Teller) (c : Nat) : Teller :=
  { t with saved := some (t.saved.getD t.allowance), allowance := t.allowance.add c }

/-- An accepted grant (R35): the hold ends, the masks, limit and supervisor are set, DONE, and the
transaction re-enters the path at the branch class mask. -/
def State.acceptGrant (s : State) (a : Nat) (sup : Teller) (t : Txn) : State :=
  match t.defn with
  | none => s
  | some d =>
    let t' := { t with
      stage := .checking, holdTimer := .stopped, limit := some sup.cashLimit
      supervisor := some sup.number }
    ((((s.endHold t).modifyTeller t.teller fun x => x.grant d.cls).answer a .done).putTxn t').fromMask t' d

/-- The amount compared is above the sender's own cash limit in a hold for AMOUNT (R34, check 3). -/
def Txn.beyond (t : Txn) (sup : Teller) : Bool :=
  t.reason.any (·.amount) && t.compared.any fun n => decide (sup.cashLimit < n)

/-- OVERRIDE-GRANT (R34, R35). -/
def State.overrideGrant (s : State) (a target : Nat) : State :=
  s.asSupervisor a fun sup => s.onHold a target sup fun t =>
    if t.beyond sup then s.answer a .notPermitted else s.acceptGrant a sup t

/-- OVERRIDE-DENY (R36). -/
def State.overrideDeny (s : State) (a target : Nat) : State :=
  s.asSupervisor a fun sup => s.onHold a target sup fun t =>
    (s.endHoldWith t .overrideDenied).answer a .done

/-- The hold timer of a drop's work item expires while it runs (R36). -/
def State.holdExpiry (s : State) (a : Nat) : State :=
  match s.heldAt a with
  | some t => if t.holdTimer = .stopped then s else s.endHoldWith t .overrideExpired
  | none => s

/-- TXN_REQUEST (R45). -/
def execTxnRequest (a : Nat) (fields : TxnFields) (s : State) : Host.Outcome State Fault Refusal :=
  .next (s.whileRunning fun s => s.fromTeller a fun s => s.takeRequest a fields)

/-- CANCEL (R52). -/
def execCancel (a : Nat) (s : State) : Host.Outcome State Fault Refusal :=
  .next (s.whileRunning fun s => s.fromTeller a fun s => s.cancel a)

/-- OVERRIDE_GRANT (R34, R35). -/
def execOverrideGrant (a target : Nat) (s : State) : Host.Outcome State Fault Refusal :=
  .next (s.whileRunning fun s => s.fromTeller a fun s => s.overrideGrant a target)

/-- OVERRIDE_DENY (R36). -/
def execOverrideDeny (a target : Nat) (s : State) : Host.Outcome State Fault Refusal :=
  .next (s.whileRunning fun s => s.fromTeller a fun s => s.overrideDeny a target)

/-- HOLD_TIMER_EXPIRY (R36). -/
def execHoldTimerExpiry (a : Nat) (s : State) : Host.Outcome State Fault Refusal :=
  .next (s.whileRunning fun s => s.holdExpiry a)

end Sys2Proof.Machine
end

