-- ==== Sys2Proof/Machine/Cash.lean ====
section
/-! DEFINITION. Transfers between drawers, counting, the drawer interlock and the roll to the new day
(R69 to R71, R76 to R88). -/

namespace Sys2Proof.Machine

/-! ### Who may move cash -/

/-- Checks 1 to 4 of a transfer or count request (R79). -/
def State.asCashier (s : State) (a : Nat) (f : Teller → State) : State :=
  s.asTeller a fun t =>
    if t.session ≠ .active then s.answer a .notSignedOn
    else if t.training then s.answer a .trainingRefused
    else if s.hasWork a then s.answer a .busy
    else f t

/-- Checks 1 to 5: the sender holds a drawer (R79). -/
def State.asHolder (s : State) (a : Nat) (f : Teller → Drawer → State) : State :=
  s.asCashier a fun t =>
    match t.heldDrawer.bind s.drawerAt with
    | some x => f t x
    | none => s.answer a .noDrawer

/-! ### The transit list -/

/-- The number a new transit entry takes: the counter's when free, else the next one free (R78). -/
def State.freeEntry (s : State) : Nat :=
  (((List.range 16).map fun i => (s.csu.transitCounter - 1 + i) % 16 + 1).find? fun n =>
    s.csu.transit.all fun e => e.number != n).getD s.csu.transitCounter

/-- The number after an entry number, 16 being followed by 1 (R78). -/
def entryAfter (n : Nat) : Nat := n % 16 + 1

/-- The transit entry of a number. -/
def State.transitAt (s : State) (n : Nat) : Option TransitEntry :=
  findKey TransitEntry.number n s.csu.transit

/-- Raise the transfer-in or transfer-out sum of a drawer. -/
def State.addTransferIn (s : State) (d : Nat) (c : Currency) (n : Int) : State :=
  s.modifyDrawer d fun x => x.onSums c fun y => { y with transferIn := y.transferIn + n }

def State.addTransferOut (s : State) (d : Nat) (c : Currency) (n : Int) : State :=
  s.modifyDrawer d fun x => x.onSums c fun y => { y with transferOut := y.transferOut + n }

/-- An entry is removed; the others keep their order (R78). -/
def State.removeTransit (s : State) (n : Nat) : State :=
  s.onCsu fun c => { c with transit := eraseKey TransitEntry.number n c.transit }

/-- A TRANSFER record (R131). -/
def transferRecord (step : TransferStep) (e : TransitEntry) (a teller : Nat) (referred : Option Nat) : Record :=
  entry (.transfer step e.number e.source e.target e.currency e.amount) (some a) (some teller) none none referred

/-- Checks 6 to 12 of a TRANSFER-OUT (R79). -/
def State.giveRefusal (s : State) (x : Drawer) (target : Nat) (currency : Option Currency)
    (amount : Nat) : Option Result :=
  match (s.drawerAt target).filter (fun y => y.number != x.number && y.assigned.isSome) with
  | none => some .notPermitted
  | some y =>
    let settled := fun (b : BalanceState) => b == .held || b == .balanced
    if s.dyc.day == .balancing && (settled x.balance || settled y.balance) then some .notPermitted
    else
      match currency with
      | none => some .amountRange
      | some c =>
        if amount = 0 ∨ Config.maxAmount < amount then some .amountRange
        else if Config.transitPlaces ≤ s.csu.transit.length then some .transitFull
        else if (x.sums c).position < amount then some .cashShort
        else if (Config.maxTotal : Int) < (x.sums c).transferOut + amount then some .totalRange
        else if s.journalRoom then none else some .journalFull

/-- The accepted giving step (R79): the sum, the entry, the record, the release, cash-high, the
waiting count and DONE with the entry number. -/
def State.give (s : State) (a : Nat) (t : Teller) (x : Drawer) (target : Nat) (c : Currency)
    (amount : Nat) : State :=
  let e : TransitEntry := ⟨s.freeEntry, x.number, target, c, amount, t.number, s.nextSeq⟩
  let s1 := (s.addTransferOut x.number c amount).onCsu fun u =>
    { u with transit := u.transit ++ [e], transitCounter := entryAfter e.number }
  let s2 := (s1.writeRecord (transferRecord .give e a t.number none)).setRelease a
  ((s2.judgeCashHigh x.number).queueHolder target).handOver a (.answer .done (.transfer e.number))

/-- TRANSFER-OUT (R79). -/
def State.transferOut (s : State) (a target : Nat) (currency : Option Currency) (amount : Nat) : State :=
  s.asHolder a fun t x =>
    match s.giveRefusal x target currency amount, currency with
    | some r, _ => s.answer a r
    | none, some c => s.give a t x target c amount
    | none, none => s.answer a .amountRange

/-- Checks 8 and 9 of a TRANSFER-ACCEPT (R80). -/
def State.acceptRefusal (s : State) (x : Drawer) (e : TransitEntry) : Option Result :=
  let y := x.sums e.currency
  if (Config.maxTotal : Int) < y.position + e.amount ∨ (Config.maxTotal : Int) < y.transferIn + e.amount then
    some .totalRange
  else if s.journalRoom then none else some .journalFull

/-- TRANSFER-ACCEPT (R80). -/
def State.transferAccept (s : State) (a n : Nat) : State :=
  s.asHolder a fun t x =>
    match s.transitAt n with
    | none => s.answer a .noSuchTransfer
    | some e =>
      if e.target ≠ x.number then s.answer a .notPermitted
      else
        match s.acceptRefusal x e with
        | some r => s.answer a r
        | none =>
          let s1 := (s.addTransferIn x.number e.currency e.amount).removeTransit n
          let s2 := (s1.writeRecord (transferRecord .accept e a t.number (some e.seq))).setRelease a
          (((s2.judgeCashHigh x.number).queueHolder e.target).answer a .done).judgeExit

/-- The sender may recall an entry (R81, check 6). -/
def State.mayRecall (s : State) (t : Teller) (e : TransitEntry) : Bool :=
  t.heldDrawer == some e.source || (t.supervises && (s.holderOf e.source).isNone)

/-- TRANSFER-RECALL (R81). -/
def State.transferRecall (s : State) (a n : Nat) : State :=
  s.asCashier a fun t =>
    match s.transitAt n with
    | none => s.answer a .noSuchTransfer
    | some e =>
      if s.mayRecall t e = false then s.answer a .notPermitted
      else if s.journalRoom = false then s.answer a .journalFull
      else
        let s1 := (s.addTransferOut e.source e.currency (-(e.amount : Int))).removeTransit n
        let s2 := s1.writeRecord (transferRecord .recall e a t.number (some e.seq))
        let s3 := if t.heldDrawer = some e.source then s2.setRelease a else s2
        (((s3.judgeCashHigh e.source).queueHolder e.target).answer a .done).judgeExit

/-! ### Counting -/

/-- A COUNT record asked for to learn whether the journal has room for one (R84 to R86). -/
def countProbe : RecordBody := .count 0 none 0 0 none false

/-- The differences are taken into a drawer's over/short and the branch net, and the drawer is
BALANCED (R71, R84, R85). -/
def State.takeDifferences (s : State) (d : Nat) (home foreign : Int) : State :=
  ((s.modifyDrawer d fun x =>
      { x with
        home := { x.home with overShort := x.home.overShort + home }
        foreign := { x.foreign with overShort := x.foreign.overShort + foreign }
        balance := .balanced }).onCsu fun c =>
    { c with netHome := c.netHome + home, netForeign := c.netForeign + foreign }).judgeCashHigh d

/-- The COUNT record of a declaration (R131, R84, R85). -/
def countRecord (a d : Nat) (x : Declaration) (supervisor : Option Nat) : Record :=
  entry (.count d (some (x.declaredHome, x.declaredForeign)) x.diffHome x.diffForeign (some x.counts) false)
    (some a) (some x.teller) supervisor

/-- Taking a declaration's differences passes the range test (R71). -/
def State.differencesFit (s : State) (x : Drawer) (y : Declaration) : Bool :=
  differenceFits x.home.overShort s.csu.netHome y.diffHome &&
    differenceFits x.foreign.overShort s.csu.netForeign y.diffForeign

/-- The declaration is within both tolerances (R70). -/
def State.declarationWithin (s : State) (y : Declaration) : Bool :=
  withinTolerance y.diffHome s.dyc.params.toleranceHome &&
    withinTolerance y.diffForeign s.dyc.params.toleranceForeign

/-- A declaration formed against a drawer's positions (R69, R70). -/
def State.declare (s : State) (t : Teller) (x : Drawer) (counts : Counts) : Declaration :=
  let home := declaredAmount s.csu.denomHome counts.home
  let foreign := declaredAmount s.csu.denomForeign counts.foreign
  ⟨t.number, counts, home, foreign, home - x.home.position, foreign - x.foreign.position⟩

/-- Checks 6 to 9 of a COUNT-DECLARE (R84). -/
def State.countRefusal (s : State) (x : Drawer) (counts : Counts) : Option Result :=
  if s.dyc.day ≠ .balancing ∨ (x.balance ≠ .due ∧ x.balance ≠ .held) then some .notPermitted
  else if s.transitNames x.number then some .transitOpen
  else if !(countsInRange s.csu.denomHome counts.home && countsInRange s.csu.denomForeign counts.foreign) then
    some .amountRange
  else if s.journalTakes countProbe then none else some .journalFull

/-- An accepted COUNT-DECLARE (R84). -/
def State.acceptCount (s : State) (a : Nat) (x : Drawer) (y : Declaration) : State :=
  let s1 := s.modifyDrawer x.number fun x => { x with declaration := some y }
  if s.declarationWithin y && s.differencesFit x y then
    (((s1.takeDifferences x.number y.diffHome y.diffForeign).writeRecord (countRecord a x.number y none)).handOver
      a (.answer .done (.counted .balanced y.diffHome y.diffForeign))).judgeExit
  else
    (s1.modifyDrawer x.number fun x => { x with balance := .held }).handOver a
      (.answer .done (.counted .held y.diffHome y.diffForeign))

/-- COUNT-DECLARE (R84). -/
def State.countDeclare (s : State) (a : Nat) (counts : Counts) : State :=
  s.asHolder a fun t x =>
    match s.countRefusal x counts with
    | some r => s.answer a r
    | none => s.acceptCount a x (s.declare t x counts)

/-- The HELD drawer of a number and its last declaration (R85, check 1). -/
def State.heldDrawerAt (s : State) (d : Nat) : Option (Drawer × Declaration) :=
  ((s.drawerAt d).filter fun x => x.balance == .held).bind fun x => x.declaration.map fun y => (x, y)

/-- ACCEPT-DIFFERENCE (R85). -/
def State.acceptDifference (s : State) (a d : Nat) : State :=
  s.asSupervisor a fun t =>
    match s.heldDrawerAt d with
    | none => s.answer a .nothingHeld
    | some (x, y) =>
      if x.assigned = some t.number then s.answer a .samePerson
      else if s.differencesFit x y = false then s.answer a .notPermitted
      else if s.journalTakes countProbe = false then s.answer a .journalFull
      else
        (((s.takeDifferences d y.diffHome y.diffForeign).writeRecord
          (countRecord a d y (some t.number))).answer a .done).judgeExit

/-- Checks 1 to 5 of a FORCE-BALANCE (R86). -/
def State.forceRefusal (s : State) (d : Nat) : Option Result :=
  match s.drawerAt d with
  | none => some .notPermitted
  | some x =>
    if s.dyc.day ≠ .balancing then some .notPermitted
    else if x.balance ≠ .due then some .nothingHeld
    else if (s.holderOf d).isSome then some .notPermitted
    else if s.transitNames d then some .transitOpen
    else if s.journalTakes countProbe then none else some .journalFull

/-- The COUNT record of a forced balance: no counts, differences of 0 and the FORCED mark (R86). -/
def forcedRecord (a d : Nat) (supervisor : Option Nat) : Record :=
  entry (.count d none 0 0 none true) (some a) none supervisor

/-- FORCE-BALANCE (R86). -/
def State.forceBalance (s : State) (a d : Nat) : State :=
  s.asSupervisor a fun t =>
    match s.forceRefusal d with
    | some r => s.answer a r
    | none =>
      (((s.modifyDrawer d fun x => { x with balance := .balanced }).writeRecord
        (forcedRecord a d (some t.number))).answer a .done).judgeExit

/-! ### The drawer interlock -/

/-- Set or clear the drawer alert flag of a drop (R77). -/
def State.setAlert (s : State) (a : Nat) (on : Bool) : State := s.modifyDrop a fun d => { d with alert := on }

/-- The DRAWER-ALERT record of a drop (R77, R131). -/
def State.alertRecord (s : State) (a : Nat) : Record :=
  let t := s.tellerAt a
  entry (.drawerAlert (t.bind Teller.heldDrawer)) (some a) (t.map (·.number))

/-- DRAWER-OPEN is confirmed open or closed on a drop (R16, R77): an opening that no release has let
raises the alert; the release flag is cleared by the opening, the alert by the closing. -/
def State.drawerChanged (s : State) (a : Nat) (isOpen : Bool) : State :=
  if isOpen then
    if s.dropIs a fun d => d.release || d.kind != .teller then s.clearRelease a
    else ((s.clearRelease a).setAlert a true).writeRecord (s.alertRecord a)
  else s.setAlert a false

/-! ### The roll to the new day -/

/-- A currency's figures after the roll (R88). -/
def Sums.roll (x : Sums) : Sums := ⟨x.position, 0, 0, 0, 0, 0⟩

/-- A drawer after the roll (R88). -/
def Drawer.roll (d : Drawer) : Drawer :=
  { d with
    assigned := none, home := d.home.roll, foreign := d.foreign.roll, balance := .notDue, declaration := none }

/-- The CSU's part of DAY-END (R88). -/
def State.rollDrawers (s : State) : State :=
  let s1 := s.onCsu fun c => { c with drawers := c.drawers.map Drawer.roll, netHome := 0, netForeign := 0 }
  (List.range 25).foldl State.judgeCashHigh s1

/-- TRANSFER_OUT (R79). -/
def execTransferOut (a target : Nat) (currency : Option Currency) (amount : Nat) (s : State) :
    Host.Outcome State Fault Refusal :=
  .next (s.whileRunning fun s => s.fromTeller a fun s => s.transferOut a target currency amount)

/-- TRANSFER_ACCEPT (R80). -/
def execTransferAccept (a n : Nat) (s : State) : Host.Outcome State Fault Refusal :=
  .next (s.whileRunning fun s => s.fromTeller a fun s => s.transferAccept a n)

/-- TRANSFER_RECALL (R81). -/
def execTransferRecall (a n : Nat) (s : State) : Host.Outcome State Fault Refusal :=
  .next (s.whileRunning fun s => s.fromTeller a fun s => s.transferRecall a n)

/-- COUNT_DECLARE (R84). -/
def execCountDeclare (a : Nat) (counts : Counts) (s : State) : Host.Outcome State Fault Refusal :=
  .next (s.whileRunning fun s => s.fromTeller a fun s => s.countDeclare a counts)

/-- ACCEPT_DIFFERENCE (R85). -/
def execAcceptDifference (a d : Nat) (s : State) : Host.Outcome State Fault Refusal :=
  .next (s.whileRunning fun s => s.fromTeller a fun s => s.acceptDifference a d)

/-- FORCE_BALANCE (R86). -/
def execForceBalance (a d : Nat) (s : State) : Host.Outcome State Fault Refusal :=
  .next (s.whileRunning fun s => s.fromTeller a fun s => s.forceBalance a d)

end Sys2Proof.Machine
end

