-- ==== Sys2Proof/Machine/Tellers.lean ====
section
/-! DEFINITION. Sessions: SIGN_ON, SIGN_OFF, UNLOCK, FORCE_SIGN_OFF, and the suspension of a session
with its drop (R22 to R30). -/

namespace Sys2Proof.Machine

/-- Why the day refuses a sign-on (R24, check 2). -/
def signOnDay : DayState → Option Result
  | .opened => none
  | .noDay => some .dayNotOpen
  | .loading => some .dayNotOpen
  | _ => some .dayClosing

/-- A session record's journal record: none for a teller in training (R24, R26, R29). -/
def State.sessionRecord (s : State) (t : Teller) (body : RecordBody) (a : Nat) (supervisor : Option Nat) :
    State :=
  if t.training then s else s.writeRecord (entry body (some a) (some t.number) supervisor)

/-- The journal has room for a session record of a teller (R24, R26, R29). -/
def State.sessionRoom (s : State) (t : Teller) (body : RecordBody) : Bool := t.training || s.journalTakes body

/-- The drawer of a teller's entry is held by another teller (R24, check 8). -/
def State.drawerTaken (s : State) (t : Teller) : Bool :=
  !t.training && t.drawer.any fun d => (s.holderOf d).any fun x => x.number != t.number

/-- A wrong check value: the failure count rises, and a third one locks the teller out (R25). -/
def Teller.fail (t : Teller) : Teller :=
  { t with
    failures := t.failures + 1
    session := if 3 ≤ t.failures + 1 then .lockedOut else t.session }

/-- The session becomes ACTIVE at a drop (R24). -/
def Teller.begin (t : Teller) (a : Nat) : Teller :=
  { t with session := .active, station := some a, allowance := 0, saved := none, failures := 0 }

/-- The session becomes SIGNED-OFF (R26, R29). -/
def Teller.finish (t : Teller) : Teller :=
  { t with session := .signedOff, station := none, allowance := 0, saved := none }

/-- The holder becomes the drawer's assigned teller (R73). -/
def State.assignDrawer (s : State) (t : Teller) : State :=
  if t.training then s
  else
    match t.drawer with
    | some d => s.modifyDrawer d fun x => { x with assigned := some t.number }
    | none => s

/-- An accepted SIGN-ON (R24). -/
def State.beginSession (s : State) (a : Nat) (t : Teller) : State :=
  let s1 := (s.modifyTeller t.number fun x => x.begin a).sessionRecord t .signOn a none
  ((s1.assignDrawer t).queueStatus a).handOver a (.answer .done (.signedOn t.role t.training t.drawer))

/-- Checks 5 to 9 of a SIGN-ON for a teller in the table (R24, R25). -/
def State.checkSignOn (s : State) (a : Nat) (t : Teller) (check : Nat) : State :=
  if t.session = .lockedOut then s.answer a .lockedOut
  else if t.signedOn then s.answer a .alreadySignedOn
  else if check ≠ t.check then
    (s.modifyTeller t.number Teller.fail).answer a (if 3 ≤ t.failures + 1 then .lockedOut else .credentialFail)
  else if s.drawerTaken t then s.answer a .notPermitted
  else if s.sessionRoom t .signOn then s.beginSession a t
  else s.answer a .journalFull

/-- SIGN-ON (R24). -/
def State.signOn (s : State) (a teller check : Nat) : State :=
  if s.keyOn a = false then s.answer a .stationLocked
  else
    match signOnDay s.dyc.day with
    | some r => s.answer a r
    | none =>
      if (s.tellerAt a).isSome then s.answer a .alreadySignedOn
      else
        match s.tellerOf teller with
        | none => s.answer a .credentialFail
        | some t => s.checkSignOn a t check

/-- A session at a drop ends: the SIGN-OFF record, the session, the release and the status line
(R26, R29). -/
def State.endTellerSession (s : State) (a : Nat) (t : Teller) (supervisor : Option Nat) : State :=
  (((s.sessionRecord t .signOff a supervisor).modifyTeller t.number Teller.finish).clearRelease a).queueStatus a

/-- In BALANCING the teller's held drawer is not BALANCED (R26, check 4). -/
def State.drawerUnbalanced (s : State) (t : Teller) : Bool :=
  s.dyc.day == .balancing && (t.heldDrawer.bind s.drawerAt).any fun x => x.balance != .balanced

/-- SIGN-OFF (R26). -/
def State.signOff (s : State) (a : Nat) : State :=
  s.asTeller a fun t =>
    if s.hasWork a then s.answer a .inFlight
    else if s.drawerUnbalanced t then s.answer a .drawerNotBalanced
    else if s.sessionRoom t .signOff then ((s.endTellerSession a t none).answer a .done).judgeExit
    else s.answer a .journalFull

/-- UNLOCK (R28). -/
def State.unlock (s : State) (a teller : Nat) : State :=
  s.asSupervisor a fun _ =>
    if (s.tellerOf teller).any (fun t => t.session == .lockedOut) then
      (s.modifyTeller teller fun t => { t with session := .signedOff, failures := 0 }).answer a .done
    else s.answer a .nothingHeld

/-- A decided work item's reply is discarded and the work item ends (R29). -/
def State.discardReply (s : State) (a : Nat) : State :=
  if (s.txnAt a).isSome then (s.modifyDrop a Drop.discardFinal).endTxn a else s

/-- FORCE-SIGN-OFF (R29). -/
def State.forceSignOff (s : State) (a teller : Nat) : State :=
  s.asSupervisor a fun sup =>
    match (s.tellerOf teller).filter Teller.signedOn with
    | none => s.answer a .nothingHeld
    | some t =>
      let b := t.station.getD 0
      if b = a then s.answer a .notPermitted
      else if (s.txnAt b).any (fun x => x.stage != .answered) then s.answer a .inFlight
      else if s.sessionRoom t .signOff then
        ((((s.discardReply b).endTellerSession b t (some sup.number))).answer a .done).judgeExit
      else s.answer a .journalFull

/-- Change the sessions of a drop. -/
def State.onSessionsAt (s : State) (a : Nat) (f : Teller → Teller) : State :=
  s.onRqu fun r => { r with tellers := r.tellers.map fun t => if t.station = some a then f t else t }

/-- A TELLER drop has become FENCED: its ACTIVE session is SUSPENDED (R30). -/
def State.suspendAt (s : State) (a : Nat) : State :=
  s.onSessionsAt a fun t => if t.session = .active then { t with session := .suspended } else t

/-- A TELLER drop has recovered: its SUSPENDED session is ACTIVE again (R30). -/
def State.resumeAt (s : State) (a : Nat) : State :=
  s.onSessionsAt a fun t => if t.session = .suspended then { t with session := .active } else t

/-- SIGN_ON (R24, R25). -/
def execSignOn (a teller check : Nat) (s : State) : Host.Outcome State Fault Refusal :=
  .next (s.whileRunning fun s => s.fromTeller a fun s => s.signOn a teller check)

/-- SIGN_OFF (R26). -/
def execSignOff (a : Nat) (s : State) : Host.Outcome State Fault Refusal :=
  .next (s.whileRunning fun s => s.fromTeller a fun s => s.signOff a)

/-- UNLOCK (R28). -/
def execUnlock (a teller : Nat) (s : State) : Host.Outcome State Fault Refusal :=
  .next (s.whileRunning fun s => s.fromTeller a fun s => s.unlock a teller)

/-- FORCE_SIGN_OFF (R29). -/
def execForceSignOff (a teller : Nat) (s : State) : Host.Outcome State Fault Refusal :=
  .next (s.whileRunning fun s => s.fromTeller a fun s => s.forceSignOff a teller)

end Sys2Proof.Machine
end

