-- ==== Sys2Proof/Machine/Close.lean ====
section
/-! DEFINITION. Closing the counter: the proposal, its confirmation, withdrawal and window, the entry
into the drain, and the judgements that end the drain and BALANCING (R161 to R166). -/

namespace Sys2Proof.Machine

/-- The proposal is abandoned and the day returns to OPEN (R162, R163). -/
def State.abandonClose (s : State) : State := (s.onDyc fun y => { y with proposal := none }).setDay .opened

/-- A hold ends because the day enters CLOSE-DRAIN (R36). -/
def State.drainHold (s : State) (a : Nat) : State :=
  match s.heldAt a with
  | some t => s.endHoldWith t .dayClosing
  | none => s

/-- The day enters CLOSE-DRAIN: every hold ends, and the drain is judged (R164). -/
def State.enterDrain (s : State) (confirmer : Nat) : State :=
  let s1 := (s.onDyc fun y =>
    { y with proposal := y.proposal.map fun p => { p with confirmer := some confirmer, window := .stopped } }).setDay
      .closeDrain
  ((s1.rqu.txns.map (·.drop)).foldl State.drainHold s1).judgeDrain

/-- CLOSE-PROPOSE (R161). -/
def State.closePropose (s : State) (a : Nat) : State :=
  s.asSupervisor a fun t =>
    if s.dyc.day = .opened then
      ((s.onDyc fun y =>
        { y with proposal := some ⟨t.number, none, .running Config.holdSeconds⟩ }).setDay .closeProposed).answer a .done
    else s.answer a .notPermitted

/-- CLOSE-CONFIRM (R162). -/
def State.closeConfirm (s : State) (a : Nat) : State :=
  s.asSupervisor a fun t =>
    if s.dyc.day ≠ .closeProposed then s.answer a .nothingHeld
    else if s.dyc.proposal.any (fun p => p.proposer == t.number) then s.abandonClose.answer a .samePerson
    else (s.answer a .done).enterDrain t.number

/-- CLOSE-WITHDRAW (R163). -/
def State.closeWithdraw (s : State) (a : Nat) : State :=
  s.asSupervisor a fun _ =>
    if s.dyc.day = .closeProposed then s.abandonClose.answer a .done else s.answer a .nothingHeld

/-- The close window expires while it runs (R163). -/
def State.windowExpiry (s : State) : State :=
  if s.dyc.day = .closeProposed ∧ (s.dyc.proposal.any fun p => p.window != .stopped) = true then s.abandonClose
  else s

/-- CLOSE_PROPOSE (R161). -/
def execClosePropose (a : Nat) (s : State) : Host.Outcome State Fault Refusal :=
  .next (s.whileRunning fun s => s.fromTeller a fun s => s.closePropose a)

/-- CLOSE_CONFIRM (R162). -/
def execCloseConfirm (a : Nat) (s : State) : Host.Outcome State Fault Refusal :=
  .next (s.whileRunning fun s => s.fromTeller a fun s => s.closeConfirm a)

/-- CLOSE_WITHDRAW (R163). -/
def execCloseWithdraw (a : Nat) (s : State) : Host.Outcome State Fault Refusal :=
  .next (s.whileRunning fun s => s.fromTeller a fun s => s.closeWithdraw a)

/-- CLOSE_WINDOW_EXPIRY (R163). -/
def execCloseWindowExpiry (s : State) : Host.Outcome State Fault Refusal :=
  .next (s.whileRunning State.windowExpiry)

/-- DRAIN_END (R164, R165): the judgement that ends the drain. -/
def execDrainEnd (s : State) : Host.Outcome State Fault Refusal :=
  .next (s.whileRunning State.judgeDrain)

/-- BALANCING_EXIT (R166): the judgement that ends BALANCING. -/
def execBalancingExit (s : State) : Host.Outcome State Fault Refusal :=
  .next (s.whileRunning State.judgeExit)

end Sys2Proof.Machine
end

