-- ==== Sys2Proof/Machine/Link.lean ====
section
/-! DEFINITION. Link supervision: validity of inbound frames, the four link states and their reports,
LINE_CHECK, SUPERVISION_TIMER_EXPIRY and BAD_FRAME (R89 to R98, R106, R108). -/

namespace Sys2Proof.Machine

/-! ### Resumption of a batch -/

/-- The batch is sent again from block `next` with the attempt count 0; when that leaves a block to
send, its first frame starts the block timer (R176). A timer that no frame is left to start stays stopped
(assumption 52). -/
def State.resumeBatch (s : State) (oldest next : Nat) (trailer : Bool) : State :=
  match s.dyc.batch with
  | some b =>
    (s.onDyc fun y =>
      { y with
        batch := some { b with oldest := oldest, next := next, attempts := 0, trailer := trailer }
        resumed := decide (next ≤ b.blocks + 1) }).setDay .sending
  | none => s

/-- A stalled batch resumes when the link becomes ONLINE (R176). -/
def State.resumeOnline (s : State) : State :=
  match s.dyc.day, s.dyc.batch with
  | .sendStalled, some b => s.resumeBatch b.oldest b.oldest b.trailer
  | _, _ => s

/-! ### Link states -/

/-- NODE-STATUS RETAINED-LOST is raised and the mark cleared (R97, R181). -/
def State.reportLost (s : State) : State :=
  if s.retainedLost then { s.raise .retainedLost with retainedLost := false } else s

/-- The reports of an entry into ONLINE (R97): the wait list is served, a stalled batch resumes, and a
lost store is reported. -/
def State.reportOnline (s : State) : State := s.serveWaitList.resumeOnline.reportLost

/-- The report to Day Control that the link has left ONLINE (R97, R175). -/
def State.reportOffline (s : State) : State := if s.dyc.day = .sending then s.stall else s

/-- The link was trusted for online work before the change (R51). -/
def trusted (l : LinkState) : Bool := l == .online || l == .suspect

/-- A change of link state with its reports (R97). -/
def State.enterLink (s : State) (l : LinkState) : State :=
  let old := s.tkc.link
  let s1 := s.onTkc fun t => { t with link := l }
  let s2 := if shownLink old = shownLink l then s1 else s1.queueStatusAll
  let s3 := if l = .online ∧ old ≠ .online then s2.reportOnline else s2
  let s4 := if old = .online ∧ l ≠ .online then s3.reportOffline else s3
  if trusted old && !trusted l then s4.redecideAll else s4

/-- Set the last check number and the run count (R92). -/
def State.setRun (s : State) (last : Option Nat) (run : Nat) : State :=
  s.onTkc fun t => { t with lastCheck := last, runCount := run }

/-- The supervision timer is stopped (R92). -/
def State.stopSupervision (s : State) : State := s.onTkc fun t => { t with supervision := .stopped }

/-- A LINE-CHECK number is the last check number plus 1 modulo 256 (R94). -/
def State.follows (s : State) (n : Nat) : Bool := s.tkc.lastCheck.any fun m => (m + 1) % 256 == n

/-- Link supervision sees a valid frame that is no LINE-CHECK, or a refused LINE-CHECK (R95, R96, R98). -/
def State.seeFrame (s : State) : State :=
  match s.tkc.link with
  | .online => s.restartSupervision
  | .suspect => (s.enterLink .online).restartSupervision
  | .offline => s
  | .resync => s

/-- A LINE-CHECK in RESYNC (R94). -/
def State.countRun (s : State) (n : Nat) : State :=
  if s.follows n then
    if 3 ≤ s.tkc.runCount + 1 then ((s.setRun (some n) 0).enterLink .online).restartSupervision
    else (s.setRun (some n) (s.tkc.runCount + 1)).restartSupervision
  else (s.setRun (some n) 1).restartSupervision

/-- A LINE-CHECK moves the link to RESYNC and starts a run (R93, R95, R96). -/
def State.startRun (s : State) (n : Nat) : State :=
  ((s.enterLink .resync).setRun (some n) 1).restartSupervision

/-- Link supervision sees a LINE-CHECK (R93 to R96). -/
def State.seeLineCheck (s : State) (n : Nat) : State :=
  match s.tkc.link with
  | .offline => s.startRun n
  | .resync => s.countRun n
  | .online => if s.follows n then (s.setRun (some n) s.tkc.runCount).restartSupervision else s.startRun n
  | .suspect =>
    if s.follows n then ((s.setRun (some n) s.tkc.runCount).enterLink .online).restartSupervision
    else s.startRun n

/-- The link falls to OFFLINE: the timer stops and the OFFLINE entry is counted (R94, R96, R108). -/
def State.fallOffline (s : State) : State :=
  (((s.enterLink .offline).stopSupervision).onTkc fun t => { t with runCount := 0 }).onStats fun x =>
    { x with offlineEntries := countUp Config.maxCount x.offlineEntries }

/-- The supervision timer expires while it runs (R94 to R96). -/
def State.supervisionExpiry (s : State) : State :=
  if s.tkc.supervision = .stopped then s
  else
    match s.tkc.link with
    | .online => (s.enterLink .suspect).restartSupervision
    | .suspect => s.fallOffline
    | .resync => s.fallOffline
    | .offline => s

/-! ### Inbound frames -/

/-- The header of a received frame is that of a valid one: its branch number is the strapped one,
which is not 0 (R90, R185). -/
def State.frameValid (s : State) (h : FrameHeader) : Bool :=
  s.straps.branch != 0 && h.branch == s.straps.branch

/-- A bad frame is counted and has no other effect (R90). -/
def State.countBad (s : State) : State :=
  s.onStats fun x => { x with badFrames := countUp Config.maxCount x.badFrames }

/-- A frame refused for a full node queue is counted (R106). -/
def State.countOverrun (s : State) : State :=
  s.onStats fun x => { x with nodeOverruns := countUp Config.maxCount x.nodeOverruns }

/-- An inbound frame of a kind that is never refused: supervision sees it, then its kind's rule acts
(R90, R91). -/
def State.onFrame (s : State) (h : FrameHeader) (f : State → State) : State :=
  if s.frameValid h then f s.seeFrame else s.countBad

/-- An inbound frame of a kind that may need an answer: it is refused when the node queue is full as
it arrives, and seen by supervision all the same (R90, R106). -/
def State.onAnswered (s : State) (h : FrameHeader) (f : State → State) : State :=
  if s.frameValid h then
    if s.nodeRoom then f s.seeFrame else s.seeFrame.countOverrun
  else s.countBad

/-- A LINE-CHECK (R93 to R96, R98): its echo is made with the room found for it, and the link's own
reports follow. -/
def State.lineCheck (s : State) (h : FrameHeader) (n : Nat) : State :=
  if s.frameValid h then
    if s.nodeRoom then (s.pushNode ⟨h.tag, .lineEcho n⟩).seeLineCheck n else s.seeFrame.countOverrun
  else s.countBad

/-- BAD_FRAME (R90): bytes that are no valid frame. -/
def execBadFrame (bytes : List Byte) (s : State) : Host.Outcome State Fault Refusal :=
  .next (s.whileRunning fun s => if rawFrameValid s.straps.branch bytes then s else s.countBad)

/-- LINE_CHECK (R93, R98). -/
def execLineCheck (h : FrameHeader) (n : Nat) (s : State) : Host.Outcome State Fault Refusal :=
  .next (s.whileRunning fun s => s.lineCheck h n)

/-- SUPERVISION_TIMER_EXPIRY (R94 to R96). -/
def execSupervisionTimerExpiry (s : State) : Host.Outcome State Fault Refusal :=
  .next (s.whileRunning State.supervisionExpiry)

end Sys2Proof.Machine
end

