-- ==== Sys2Proof/Machine/Trunk.lean ====
section
/-! DEFINITION. The trunk: the arbiter and the start and end of frames, replies and their timers, and
the advices of the store-and-forward queue (R49, R50, R99 to R106, R116 to R125, R168, R171). -/

namespace Sys2Proof.Machine

/-! ### The arbiter -/

/-- A source of trunk frames (R100). -/
inductive Source where
  | online (slot : OnlineSlot)
  | advice
  | answer
  | batch
  deriving DecidableEq, Repr

/-- The days in which the SFQ is frozen or emptied (R119, R123). -/
def frozenDay : DayState → Bool
  | .sending => true
  | .sendStalled => true
  | .sent => true
  | _ => false

/-- The SIU has an advice for slot 6, which is FREE (R100, R119). -/
def State.adviceReady (s : State) : Bool :=
  s.tkc.slot6.state == .free && !s.siu.sfq.isEmpty && (s.tkc.link == .online || s.tkc.link == .resync)
    && !frozenDay s.dyc.day

/-- Slot 7 is FREE and the node queue is not empty (R100). -/
def State.answerReady (s : State) : Bool := s.tkc.slot7.isNone && !s.tkc.nodeQueue.isEmpty

/-- Source 8 is ready: SENDING, a block left to send, and the window of four (R171). -/
def State.batchReady (s : State) : Bool :=
  s.dyc.day == .sending &&
    s.dyc.batch.any fun b => decide (b.next ≤ b.blocks + 1) && decide (b.next < b.oldest + 4)

/-- The lowest-numbered ready source (R100). -/
def State.lowestReady (s : State) : Option Source :=
  match if s.tkc.link = .online then s.queuedSlots.head? else none with
  | some x => some (.online x)
  | none =>
    if s.adviceReady then some .advice
    else if s.answerReady then some .answer
    else if s.batchReady then some .batch
    else none

/-- The source the arbiter grants now: the transmitter is idle, and the branch strap is not 0 (R100,
R185). -/
def State.granted (s : State) : Option Source :=
  if s.tkc.transmitter.isNone && s.straps.branch != 0 then s.lowestReady else none

/-! ### Frame starts -/

/-- A frame starts on the transmitter (R89). -/
def State.send (s : State) (slot tag : Nat) (body : FrameBody) (startsTimer : Bool := false) : State :=
  let f : OutFrame := ⟨s.straps.branch, slot, tag, body⟩
  s.onTkc fun t => { t with transmitter := some ⟨f, startsTimer⟩ }

/-- An online slot becomes SENDING with its tag and its reply timer, and its work item ON-TRUNK
(R99, R101). -/
def State.startSlot (s : State) (x : OnlineSlot) (tag : Nat) : State :=
  (s.modifySlot x.number fun y => { y with state := .sending, tag := tag, timer := s.replyTimer }).setStage x.drop
    .onTrunk (some x.number)

/-- The start of a TXN-FORWARD frame (R50, R101). -/
def State.startForward (s : State) (x : OnlineSlot) (t : Txn) : State :=
  let r := t.record .online .awaiting
  if s.journalTakes r.body then
    let seq := s.nextSeq
    (((s.writeRecord r).startSlot x seq).modifyTxn x.drop fun t => { t with seq := some seq }).send x.number seq
      (.txnForward t.drop t.defIndex (t.code.getD 0) t.account t.legs)
  else ((s.freeSlotAt x.number).refuse t .journalFull).serveWaitList

/-- The fetch counter after a tag is taken, 65,535 being followed by 1 (R101). -/
def nextFetchTag (n : Nat) : Nat := if n = 65535 then 1 else n + 1

/-- The start of a PASSBOOK-FETCH frame (R58, R101). -/
def State.startFetch (s : State) (x : OnlineSlot) (f : Fetch) : State :=
  let tag := s.tkc.fetchCounter
  ((s.startSlot x tag).onTkc fun t => { t with fetchCounter := nextFetchTag tag }).send x.number tag
    (.passbookFetch f.account f.pos)

/-- TXN_FORWARD_START, when the arbiter grants a slot with a transaction. -/
def State.forwardStart (s : State) : State :=
  match s.granted with
  | some (.online x) => if x.kind = .txnForward then ((s.txnAt x.drop).map (s.startForward x)).getD s else s
  | _ => s

/-- PASSBOOK_FETCH_START, when the arbiter grants a slot with a fetch. -/
def State.fetchStart (s : State) : State :=
  match s.granted with
  | some (.online x) => if x.kind = .passbookFetch then ((s.fetchAt x.drop).map (s.startFetch x)).getD s else s
  | _ => s

/-- The start of an ADVICE frame for the head of the SFQ (R105, R119). -/
def State.adviceStart (s : State) : State :=
  match s.granted, s.siu.sfq with
  | some .advice, e :: _ =>
    (s.onTkc fun t => { t with slot6 := ⟨.sending, e.seq, s.replyTimer⟩ }).send 6 e.seq
      (.advice e.kind (s.recordAt e.seq))
  | _, _ => s

/-- The start of an answer: the oldest entry leaves the node queue, and a waiting report joins it
(R106). -/
def State.answerStart (s : State) : State :=
  match s.granted, s.tkc.nodeQueue with
  | some .answer, e :: rest =>
    ((s.onTkc fun t => { t with nodeQueue := rest, slot7 := some e }).send 7 e.tag (.node e.body)).joinWaiting
  | _, _ => s

/-- The records of a block (R167, R168). -/
def blockRecords (records : List Record) (n k : Nat) : List Record :=
  records.filter fun r => decide (16 * (k - 1) < r.seq ∧ r.seq ≤ min (16 * k) n)

/-- The frame body of a block: a record block, or the trailer (R168). -/
def State.blockBody (s : State) (b : Batch) : FrameBody :=
  if b.next ≤ b.blocks then .batchBlock (blockRecords s.jnc.records b.records b.next)
  else .batchTrailer b.records b.blocks s.dyc.date s.dyc.time b.totals

/-- The start of a batch frame (R168). -/
def State.blockStart (s : State) : State :=
  match s.granted, s.dyc.batch with
  | some .batch, some b =>
    (s.send 7 b.next (s.blockBody b) s.dyc.resumed).onDyc fun y =>
      { y with batch := some { b with next := b.next + 1 }, resumed := false }
  | _, _ => s

/-! ### Frame ends -/

/-- The block timer starts anew with the parameters' length (R157, R171). -/
def State.startBlockTimer (s : State) : State :=
  s.onDyc fun y => { y with blockTimer := .running y.params.blockTimer }

/-- The end of a batch frame starts the block timer: for the oldest unacknowledged block, or the first
frame of a resumption, while a started block is unacknowledged (R171, R176, assumptions 44 and 52). -/
def State.blockEnd (s : State) (tag : Nat) (startsTimer : Bool) : State :=
  if s.dyc.day = .sending ∧
      (s.dyc.batch.any fun b => decide (b.oldest < b.next) && (startsTimer || tag == b.oldest)) = true then
    s.startBlockTimer
  else s

/-- The end of a frame (R89, R101, R105, R106, R171). -/
def State.frameEnd (s : State) : State :=
  match s.tkc.transmitter with
  | none => s
  | some x =>
    let s1 := s.onTkc fun t => { t with transmitter := none }
    match x.frame.body with
    | .txnForward .. | .passbookFetch .. =>
      s1.modifySlot x.frame.slot fun y =>
        if y.state = .sending ∧ y.tag = x.frame.tag then { y with state := .await } else y
    | .advice .. =>
      s1.onTkc fun t =>
        if t.slot6.state = .sending ∧ t.slot6.seq = x.frame.tag then
          { t with slot6 := { t.slot6 with state := .await } }
        else t
    | .node _ => s1.onTkc fun t => { t with slot7 := none }
    | .batchBlock _ | .batchTrailer .. => s1.blockEnd x.frame.tag x.startsTimer

/-! ### Replies -/

/-- The slot a reply matches (R102). -/
def State.matchedSlot (s : State) (h : FrameHeader) (k : OnlineKind) : Option OnlineSlot :=
  (s.slotAt h.slot).filter fun x =>
    (x.state == .sending || x.state == .await) && x.kind == k && x.tag == h.tag

/-- A late reply is counted and discarded (R103). -/
def State.countLateReply (s : State) : State :=
  s.onStats fun x => { x with lateReplies := countUp Config.maxCount x.lateReplies }

/-- The snapshot after an APPROVED reply's balance (R116). -/
def SatEntry.refresh (e : SatEntry) (n : Int) : SatEntry := { e with snapshot := clampSnapshot (n + e.net) }

/-- A reply's balance goes into the snapshot of the account's SAT entry (R54, R116). -/
def State.refreshSnapshot (s : State) (account : Option Nat) : ReplyBalance → State
  | .value n =>
    match account with
    | some a => if inTotalRange n then s.modifySat a fun e => e.refresh n else s
    | none => s
  | _ => s

/-- The balance an APPROVED final reply carries (R57); one that could not be read is not carried (assumption 50). -/
def shownBalance : ReplyBalance → Option Int
  | .value n => some n
  | _ => none

/-- The passbook line of an approved transaction (R54, stage 4). -/
def State.approvedLine (s : State) (t : Txn) (seq : Nat) : State :=
  match t.defn with
  | some d => s.appendTxnLine t d .branch seq
  | none => s

/-- An APPROVED reply completes its transaction (R54). -/
def State.approve (s : State) (t : Txn) (seq reference : Nat) (balance : ReplyBalance) : State :=
  let s1 := (s.changeDisposition seq .awaiting .approved (some reference)).applyCash t
  ((s1.refreshSnapshot t.account balance).approvedLine t seq).reachOutcome t
    { t.reply .approved with
      seq := some seq, reference := some reference, legs := t.legs, unsold := t.unsold
      balance := shownBalance balance }

/-- A DECLINED reply ends its transaction (R55). -/
def State.decline (s : State) (t : Txn) (seq reason : Nat) : State :=
  (s.changeDisposition seq .awaiting .declined (some reason)).reachOutcome t
    { t.reply .declined with seq := some seq, reason := some reason }

/-- A matched TXN-REPLY on its work item (R54, R55); nothing follows a disposition that does not
change (R133). -/
def State.completeOnline (s : State) (t : Txn) (seq : Nat) (answer : ReplyAnswer) : State :=
  if s.holdsDisposition seq .awaiting then
    match answer with
    | .approved reference balance => s.approve t seq reference balance
    | .declined reason => s.decline t seq reason
    | .neither => s.decline t seq 99
  else s

/-- A TXN-REPLY (R102, R103). -/
def State.txnReply (s : State) (h : FrameHeader) (answer : ReplyAnswer) : State :=
  match s.matchedSlot h .txnForward with
  | some x =>
    let s1 := s.freeSlotAt x.number
    (((s1.txnAt x.drop).map fun t => s1.completeOnline t x.tag answer).getD s1).serveWaitList
  | none => s.countLateReply

/-- A FETCH-REPLY (R58, R102, R103). -/
def State.fetchReply (s : State) (h : FrameHeader) (lines : List FetchLine) : State :=
  match s.matchedSlot h .passbookFetch with
  | some x =>
    let s1 := s.freeSlotAt x.number
    (((s1.fetchAt x.drop).map fun f => s1.fetchOutcome f lines).getD s1).serveWaitList
  | none => s.countLateReply

/-! ### Reversals and reply timers -/

/-- The REVERSAL-ADVICE record of an original (R124). -/
def reversalOf (r : Record) : Record :=
  let d := (bodyDefinition r.body).getD (0, 0)
  entry (.reversalAdvice d.1 d.2 (bodyAccount r.body) (bodyLegs r.body)) r.drop r.teller none
    (some .reversalPending) (some r.seq)

/-- The two tests before a reversal advice (R124). -/
def State.mayReverse (s : State) (r : Record) : Bool :=
  decide (s.siu.sfq.length < Config.sfqPlaces) && s.journalTakes (reversalOf r).body

/-- A record found AWAITING becomes TIMED-OUT with a reversal advice, or TIMED-OUT-UNADVISED (R104,
R124, R125, R182). -/
def State.timeOut (s : State) (seq : Nat) : State :=
  match (s.recordAt seq).filter fun r => r.disposition == some .awaiting with
  | none => s
  | some r =>
    if s.mayReverse r then
      ((s.changeDisposition seq .awaiting .timedOut).writeRecord (reversalOf r)).appendSfq s.nextSeq .reversal
    else (s.changeDisposition seq .awaiting .timedOut).changeDisposition seq .timedOut .timedOutUnadvised

/-- A reply timer's expiry is counted (R104, R105). -/
def State.countTimeout (s : State) : State :=
  s.onStats fun x => { x with timeouts := countUp Config.maxCount x.timeouts }

/-- The work item handed back after an expiry: its timed-out flag is set and it is decided again
(R56). -/
def State.secondDecision (s : State) (drop seq : Nat) : State :=
  match s.txnAt drop with
  | some t => s.decideAgain { t with timedOut := some seq, slot := none }
  | none => s

/-- The reply timer of one of slots 0 to 5 expires while it runs (R104). -/
def State.replyExpiry (s : State) (i : Nat) : State :=
  match (s.slotAt i).filter fun x => x.timer != .stopped with
  | none => s
  | some x =>
    let s1 := (s.countTimeout).freeSlotAt i
    match x.kind with
    | .txnForward => ((s1.timeOut x.tag).secondDecision x.drop x.tag).serveWaitList
    | .passbookFetch => (((s1.fetchAt x.drop).map fun f => s1.fetchOutcome f []).getD s1).serveWaitList

/-! ### Advices -/

/-- An outcome matches slot 6 (R105). -/
def State.adviceMatched (s : State) (h : FrameHeader) : Bool :=
  h.slot == 6 && (s.tkc.slot6.state == .sending || s.tkc.slot6.state == .await) && s.tkc.slot6.seq == h.tag

/-- A posting's signed account amount is taken out of its account's unconfirmed net (R117, R120). -/
def State.releaseNet (s : State) (p : Posting) : State :=
  match p.account with
  | some a => s.modifySat a fun e => { e with net := e.net - signedAccount p.legs }
  | none => s

/-- A posting advice is answered: the disposition and the unconfirmed net (R120, R121, R133). -/
def State.settlePosting (s : State) (seq : Nat) (new : Disposition) (reference : Option Nat) : State :=
  if s.holdsDisposition seq .advicePending then
    let s1 := s.changeDisposition seq .advicePending new reference
    match (s.recordAt seq).bind fun r => postingOf r.body with
    | some p => s1.releaseNet p
    | none => s1
  else s

/-- A matched outcome: slot 6 is freed, the head leaves the SFQ, and its record is settled (R105,
R120, R121). -/
def State.settleAdvice (s : State) (posting : Disposition) (reference : Option Nat) : State :=
  let s1 := s.onTkc fun t => { t with slot6 := freeAdviceSlot }
  match s1.siu.sfq with
  | [] => s1
  | e :: rest =>
    let s2 := s1.onSiu fun u => { u with sfq := rest }
    match e.kind with
    | .posting => s2.settlePosting e.seq posting reference
    | .reversal => s2.changeDisposition e.seq .reversalPending .reversalSent reference

/-- An ADVICE-ACK or ADVICE-EXCEPTION, matched or late (R105). -/
def State.adviceOutcome (s : State) (h : FrameHeader) (posting : Disposition) (reference : Option Nat) : State :=
  if s.adviceMatched h then s.settleAdvice posting reference
  else s.onStats fun x => { x with lateAcks := countUp Config.maxCount x.lateAcks }

/-- Slot 6's reply timer expires while it runs (R105, R122). -/
def State.adviceExpiry (s : State) : State :=
  if s.tkc.slot6.timer = .stopped then s
  else (s.countTimeout).onTkc fun t => { t with slot6 := freeAdviceSlot }

/-- WAIT_LIST_SERVING (R49). -/
def execWaitListServing (s : State) : Host.Outcome State Fault Refusal :=
  .next (s.whileRunning State.serveWaitList)

/-- TXN_FORWARD_START (R50, R101). -/
def execTxnForwardStart (s : State) : Host.Outcome State Fault Refusal :=
  .next (s.whileRunning State.forwardStart)

/-- PASSBOOK_FETCH_START (R101). -/
def execPassbookFetchStart (s : State) : Host.Outcome State Fault Refusal :=
  .next (s.whileRunning State.fetchStart)

/-- ADVICE_START (R105). -/
def execAdviceStart (s : State) : Host.Outcome State Fault Refusal :=
  .next (s.whileRunning State.adviceStart)

/-- NODE_ANSWER_START (R106). -/
def execNodeAnswerStart (s : State) : Host.Outcome State Fault Refusal :=
  .next (s.whileRunning State.answerStart)

/-- WAITING_REPORT_JOIN (R106). -/
def execWaitingReportJoin (s : State) : Host.Outcome State Fault Refusal :=
  .next (s.whileRunning State.joinWaiting)

/-- BATCH_BLOCK_START (R168). -/
def execBatchBlockStart (s : State) : Host.Outcome State Fault Refusal :=
  .next (s.whileRunning State.blockStart)

/-- TXN_REPLY (R54, R55, R102, R103). -/
def execTxnReply (h : FrameHeader) (answer : ReplyAnswer) (s : State) : Host.Outcome State Fault Refusal :=
  .next (s.whileRunning fun s => s.onFrame h fun s => s.txnReply h answer)

/-- FETCH_REPLY (R58, R102, R103). -/
def execFetchReply (h : FrameHeader) (lines : List FetchLine) (s : State) : Host.Outcome State Fault Refusal :=
  .next (s.whileRunning fun s => s.onFrame h fun s => s.fetchReply h lines)

/-- REPLY_TIMER_EXPIRY (R104). -/
def execReplyTimerExpiry (i : Nat) (s : State) : Host.Outcome State Fault Refusal :=
  .next (s.whileRunning fun s => s.replyExpiry i)

/-- ADVICE_ACK (R120). -/
def execAdviceAck (h : FrameHeader) (s : State) : Host.Outcome State Fault Refusal :=
  .next (s.whileRunning fun s => s.onFrame h fun s => s.adviceOutcome h .adviceConfirmed none)

/-- ADVICE_EXCEPTION (R121). -/
def execAdviceException (h : FrameHeader) (reason : Nat) (s : State) : Host.Outcome State Fault Refusal :=
  .next (s.whileRunning fun s => s.onFrame h fun s => s.adviceOutcome h .exception (some reason))

/-- ADVICE_REPLY_TIMER_EXPIRY (R105, R122). -/
def execAdviceReplyTimerExpiry (s : State) : Host.Outcome State Fault Refusal :=
  .next (s.whileRunning State.adviceExpiry)

end Sys2Proof.Machine
end

