-- ==== Sys2Proof/Machine/Inquiry.lean ====
section
/-! DEFINITION. The seven inquiries of head office and an inquiry of an unknown kind (R107, R136). -/

namespace Sys2Proof.Machine

/-- A drawer's figures of one currency (R87, R107). -/
def Sums.report (x : Sums) : CurrencyReport :=
  ⟨x.opening, x.cashIn, x.cashOut, x.transferIn, x.transferOut, x.overShort, x.position⟩

/-- A drawer of a DRAWERS answer (R107). -/
def State.drawerReport (s : State) (d : Drawer) : DrawerReport where
  number := d.number
  assigned := d.assigned
  holderSignedOn := (s.holderOf d.number).isSome
  balance := d.balance
  cashHigh := d.cashHigh
  home := d.home.report
  foreign := d.foreign.report

/-- The DRAWERS answer (R107). -/
def State.drawersAnswer (s : State) : InquiryAnswer :=
  .drawers (s.csu.drawers.map s.drawerReport) s.csu.transit s.csu.netHome s.csu.netForeign

/-- The LINK answer (R107). -/
def State.linkAnswer (s : State) : InquiryAnswer :=
  .link s.tkc.link s.tkc.lastCheck s.tkc.runCount s.dyc.params.checkPeriod s.dyc.params.replyTimeout s.tkc.stats

/-- An online slot of a QUEUES answer: its drop while it is not FREE, its tag from its frame's start
(R99, R107). -/
def onlineReport (x : OnlineSlot) : SlotReport :=
  ⟨x.number, x.state, if x.state = .free then none else some x.drop,
    if x.state = .free ∨ x.state = .queued then none else some x.tag⟩

/-- Slots 6 and 7 of a QUEUES answer (R107). -/
def State.upperReports (s : State) : List SlotReport :=
  [⟨6, s.tkc.slot6.state, none, if s.tkc.slot6.state = .free then none else some s.tkc.slot6.seq⟩,
   ⟨7, if s.tkc.slot7.isSome then .sending else .free, none, s.tkc.slot7.map (·.tag)⟩]

/-- The QUEUES answer (R107). -/
def State.queuesAnswer (s : State) : InquiryAnswer :=
  .queues s.siu.sfq.length (s.siu.sfq.countP fun e => e.kind == .reversal) s.rqu.waitList
    (s.tkc.slots.map onlineReport ++ s.upperReports) s.tkc.nodeQueue.length

/-- The threshold a counter has reached (R130, R136). -/
def thresholdOf (n : Nat) : Threshold :=
  if Config.reserveLimit ≤ n then .exhausted
  else if Config.ordinaryLimit ≤ n then .full
  else if Config.nearFull ≤ n then .nearFull
  else .none

/-- The number of records with a disposition (R136). -/
def State.recordsWith (s : State) (d : Disposition) : Nat :=
  s.jnc.records.countP fun r => r.disposition == some d

/-- The JOURNAL answer (R136). -/
def State.journalAnswer (s : State) : InquiryAnswer :=
  .journal s.jnc.counter s.jnc.counter (thresholdOf s.jnc.counter) (s.recordsWith .awaiting)
    (s.recordsWith .advicePending) (s.recordsWith .reversalPending) (s.recordsWith .timedOutUnadvised)
    (s.recordsWith .exception)

/-- The batch progress of a DAY answer (R107, R170). -/
def Batch.report (b : Batch) : BatchReport := ⟨b.blocks + 1, b.oldest, b.next, b.attempts⟩

/-- The DAY answer (R107). -/
def State.dayAnswer (s : State) : InquiryAnswer :=
  .day s.dyc.day s.dyc.cutoff s.jnc.clock (s.dyc.batch.map Batch.report)

/-- A drop of a DROPS answer (R107). -/
def Drop.report (d : Drop) : DropReport := ⟨d.addr, d.kind, d.group, d.state, d.score, d.refused⟩

/-- The DROPS answer (R107). -/
def State.dropsAnswer (s : State) : InquiryAnswer := .drops (s.lpc.drops.map Drop.report) s.lpc.loop s.lpc.slips

/-- A printer session of a PASSBOOK answer (R107, R141). -/
def Session.report (x : Session) : SessionReport := ⟨x.drop, x.state, x.account, x.printed⟩

/-- The PASSBOOK answer (R107). -/
def State.passbookAnswer (s : State) : InquiryAnswer :=
  .passbook s.poolFree (s.siu.sat.countP fun e => e.book.any fun b => b.overflow.items != 0)
    (s.pbu.sessions.map Session.report)

/-- An INQUIRY is answered with an INQUIRY-ANSWER carrying its tag (R107). -/
def State.inquire (s : State) (h : FrameHeader) (f : State → InquiryAnswer) : State :=
  s.onAnswered h fun s => s.pushNode ⟨h.tag, .inquiryAnswer (f s)⟩

/-- INQUIRY_DRAWERS (R107). -/
def execInquiryDrawers (h : FrameHeader) (s : State) : Host.Outcome State Fault Refusal :=
  .next (s.whileRunning fun s => s.inquire h State.drawersAnswer)

/-- INQUIRY_LINK (R107). -/
def execInquiryLink (h : FrameHeader) (s : State) : Host.Outcome State Fault Refusal :=
  .next (s.whileRunning fun s => s.inquire h State.linkAnswer)

/-- INQUIRY_QUEUES (R107). -/
def execInquiryQueues (h : FrameHeader) (s : State) : Host.Outcome State Fault Refusal :=
  .next (s.whileRunning fun s => s.inquire h State.queuesAnswer)

/-- INQUIRY_JOURNAL (R107, R136). -/
def execInquiryJournal (h : FrameHeader) (s : State) : Host.Outcome State Fault Refusal :=
  .next (s.whileRunning fun s => s.inquire h State.journalAnswer)

/-- INQUIRY_DAY (R107). -/
def execInquiryDay (h : FrameHeader) (s : State) : Host.Outcome State Fault Refusal :=
  .next (s.whileRunning fun s => s.inquire h State.dayAnswer)

/-- INQUIRY_DROPS (R107). -/
def execInquiryDrops (h : FrameHeader) (s : State) : Host.Outcome State Fault Refusal :=
  .next (s.whileRunning fun s => s.inquire h State.dropsAnswer)

/-- INQUIRY_PASSBOOK (R107). -/
def execInquiryPassbook (h : FrameHeader) (s : State) : Host.Outcome State Fault Refusal :=
  .next (s.whileRunning fun s => s.inquire h State.passbookAnswer)

/-- INQUIRY_UNKNOWN_KIND (R107). -/
def execInquiryUnknownKind (h : FrameHeader) (s : State) : Host.Outcome State Fault Refusal :=
  .next (s.whileRunning fun s => s.onAnswered h fun s => s.nodeStatus h (.fieldRange .inquiry))

end Sys2Proof.Machine
end

