-- ==== Sys2Proof/Machine/Load.lean ====
section
/-! DEFINITION. Starting and opening the day and loading its tables: DAY_START, the nine LOAD kinds,
DAY_OPEN, and the MASK_SET and NOTICE frames (R19, R38, R155 to R160). -/

namespace Sys2Proof.Machine

/-! ### Ranges (R155, R157, R158) -/

/-- A number from `lo` to `hi`. -/
def inRange (lo hi n : Nat) : Bool := decide (lo ≤ n ∧ n ≤ hi)

/-- A leap year of the calendar (assumption 9). -/
def leapYear (y : Nat) : Bool := (y % 4 == 0 && y % 100 != 0) || y % 400 == 0

/-- The days of a month; none for a number that is no month (assumption 9). -/
def monthDays (y m : Nat) : Nat :=
  match m with
  | 1 | 3 | 5 | 7 | 8 | 10 | 12 => 31
  | 4 | 6 | 9 | 11 => 30
  | 2 => if leapYear y then 29 else 28
  | _ => 0

/-- A calendar date (R155). -/
def validDate (d : Date) : Bool := inRange 1 (monthDays d.year d.month) d.day

/-- A time from 00:00:00 to 23:59:59 (R155). -/
def validTime (t : TimeOfDay) : Bool := decide (t.hour ≤ 23 ∧ t.minute ≤ 59 ∧ t.second ≤ 59)

/-- One field of each kind, read by its kind. -/
def kindGet {α : Type} (p : PerKind α) : TableKind → α
  | .tellers => p.tellers
  | .codes => p.codes
  | .definitions => p.definitions
  | .routes => p.routes
  | .sat => p.sat
  | .rates => p.rates
  | .denominations => p.denominations
  | .layout => p.layout
  | .parameters => p.parameters

/-- One field of each kind, changed by its kind. -/
def kindSet {α : Type} (p : PerKind α) (k : TableKind) (x : α) : PerKind α :=
  match k with
  | .tellers => { p with tellers := x }
  | .codes => { p with codes := x }
  | .definitions => { p with definitions := x }
  | .routes => { p with routes := x }
  | .sat => { p with sat := x }
  | .rates => { p with rates := x }
  | .denominations => { p with denominations := x }
  | .layout => { p with layout := x }
  | .parameters => { p with parameters := x }

/-- The nine kinds in the order of the table of R156. -/
def tableKinds : List TableKind :=
  [.tellers, .codes, .definitions, .routes, .sat, .rates, .denominations, .layout, .parameters]

/-- The limit of a kind's count (R156). -/
def kindLimit : TableKind → Nat
  | .tellers => 32
  | .codes => 256
  | .definitions => 64
  | .routes => 16
  | .sat => 4096
  | .rates => 1
  | .denominations => 2
  | .layout => 1
  | .parameters => 1

/-- The days in which a kind is loaded (R156). -/
def kindAccepted : TableKind → DayState → Bool
  | .tellers, d => d == .loading || d == .opened
  | .rates, d => d == .loading || d == .opened || d == .closeProposed
  | .parameters, d => d == .noDay || d == .loading
  | _, d => d == .loading

/-- A drawer a teller's entry may name (R22): 1 to 24, or 0 with role CHIEF-TELLER. -/
def drawerAllowed (role : Role) : Option Nat → Bool
  | none => true
  | some d => inRange 1 24 d || (d == 0 && role == .chiefTeller)

/-- A TELLERS entry in range (R157). -/
def tellerEntryOk : TellerEntry → Bool
  | .load n role _ check limit _ drawer =>
    inRange 1 9999 n && inRange 0 4294967295 check && inRange 0 Config.maxAmount limit && drawerAllowed role drawer
  | .remove n => inRange 1 9999 n

/-- A CODES entry in range (R157). -/
def codeEntryOk (e : CodeEntry) : Bool := inRange 0 255 e.code && e.index.all (inRange 0 63)

/-- The allowed cash and account effects of a currency mode (R40). -/
def effectsAllowed : CurrencyMode → CashEffect → AccountEffect → Bool
  | .home, .cashIn, .debit => false
  | .home, .cashOut, .credit => false
  | .home, _, _ => true
  | .buyForeign, .cashOut, .noAccount => true
  | .buyForeign, .noCash, .credit => true
  | .sellForeign, .cashIn, .noAccount => true
  | .sellForeign, .noCash, .debit => true
  | _, _, _ => false

/-- The fields and conditions of a definition (R40). -/
def definitionOk (d : Definition) : Bool :=
  inRange 0 15 d.cls && d.text.length == 12 && effectsAllowed d.mode d.cash d.account
    && (d.routing != .localOnly || d.account == .noAccount)
    && (!d.passbookLine || d.account != .noAccount)
    && (hasLeg d || (d.mode == .home && d.routing == .localOnly))

/-- A DEFINITIONS entry in range (R157). -/
def definitionEntryOk (e : DefinitionEntry) : Bool := inRange 0 63 e.index && e.body.all definitionOk

/-- A ROUTES entry in range (R157). -/
def routeEntryOk (e : RouteEntry) : Bool :=
  inRange 0 15 e.index && e.body.all fun r => decide (r.pattern < Config.accountBound)

/-- A SAT entry in range (R158). -/
def satLoadOk (e : SatLoad) : Bool :=
  decide (e.account < Config.accountBound) && inTotalRange e.snapshot && inRange 0 Config.maxTotal e.limit
    && e.book.all fun b => inBookRange b.balance && inRange 1 32 b.page && inRange 1 24 b.line

/-- A RATES entry in range (R61). -/
def rateLoadOk (r : RateLoad) : Bool :=
  inRange 1 99999999 r.buy && inRange 1 99999999 r.sell && [1, 2, 5, 10, 20, 50, 100].contains r.unitHome
    && [1, 2, 5, 10, 20, 50, 100, 200, 500, 1000].contains r.unitForeign && inRange 60 86400 r.validity

/-- No value stands twice in a list. -/
def allDistinct : List Nat → Bool
  | [] => true
  | x :: xs => !xs.contains x && allDistinct xs

/-- A DENOMINATIONS entry in range (R69). -/
def denominationEntryOk (e : DenominationEntry) : Bool :=
  inRange 1 10 e.values.length && e.values.all (inRange 1 100000) && allDistinct e.values

/-- A LAYOUT entry in range (R157); a printable character is 32 to 126 (assumption 10). -/
def layoutOk (y : Layout) : Bool :=
  [y.date, y.text, y.reference, y.withdrawal, y.deposit, y.balance].all
      (fun c => inRange 1 132 c.start && inRange 0 40 c.width)
    && inRange 32 126 y.mark.toNat

/-- A PARAMETERS entry in range (R157). -/
def paramsOk (p : Params) : Bool :=
  p.slotMap.length == 31 && p.slotMap.all (fun a => a.all (inRange 1 28))
    && p.dropTable.length == 28 && p.dropTable.all (fun r => inRange 1 8 r.2)
    && decide ((printerDrops p.dropTable).length ≤ 6)
    && p.cashHigh.length == 25 && p.cashHigh.all (inRange 0 Config.maxTotal)
    && inRange 2 30 p.checkPeriod && inRange 5 60 p.replyTimeout && inRange 2 60 p.blockTimer
    && inRange 0 15 p.passbookClass && inRange 0 999999 p.toleranceHome && inRange 0 999999 p.toleranceForeign

/-! ### Applying entries (R157, R158) -/

def tellerKey : TellerEntry → Nat
  | .load n .. => n
  | .remove n => n

/-- A TELLERS entry is applied (R22, R157). -/
def State.applyTeller (s : State) : TellerEntry → State
  | .load n role training check limit restriction drawer =>
    s.onRqu fun r =>
      let old := findKey Teller.number n r.tellers
      let e : Teller :=
        { number := n, role := role, training := training, check := check, cashLimit := limit
          restriction := restriction, drawer := drawer
          session := (old.map (·.session)).getD .signedOff, station := old.bind (·.station)
          allowance := (old.map (·.allowance)).getD 0, saved := old.bind (·.saved)
          failures := (old.map (·.failures)).getD 0 }
      { r with tellers := putKey Teller.number e r.tellers }
  | .remove n => s.onRqu fun r => { r with tellers := eraseKey Teller.number n r.tellers }

/-- A table with an entry replaced, or emptied (R39, R40, R43). -/
def setEntry {α : Type} (k : Nat) (x : Option α) (l : List (Nat × α)) : List (Nat × α) :=
  match x with
  | some y => putKey Prod.fst (k, y) l
  | none => eraseKey Prod.fst k l

def State.applyCode (s : State) (e : CodeEntry) : State :=
  s.onRqu fun r => { r with codeMap := setEntry e.code e.index r.codeMap }

def State.applyDefinition (s : State) (e : DefinitionEntry) : State :=
  s.onRqu fun r => { r with definitions := setEntry e.index e.body r.definitions }

def State.applyRoute (s : State) (e : RouteEntry) : State :=
  s.onRqu fun r => { r with routes := setEntry e.index e.body r.routes }

/-- A passbook part made from a load (R137). -/
def bookFrom (b : BookLoad) : Passbook :=
  ⟨b.balance, b.balance, .line b.page b.line, [], emptyOverflow, none, none⟩

/-- A SAT entry is merged into the table (R158). -/
def State.applySat (s : State) (e : SatLoad) : State :=
  let kept := (s.satAt e.account).bind (·.book)
  let x : SatEntry := ⟨e.account, .full, e.snapshot, e.limit, 0, e.blocked, 0, kept <|> e.book.map bookFrom⟩
  s.onSiu fun u => { u with sat := putKey SatEntry.account x u.sat }

/-- The rate record is replaced, its load time the day clock (R61). -/
def State.applyRates (s : State) (r : RateLoad) : State :=
  s.onSiu fun u => { u with rate := some ⟨r, s.jnc.clock⟩ }

/-- A currency's denomination table is replaced (R69). -/
def State.applyDenominations (s : State) (e : DenominationEntry) : State :=
  s.onCsu fun c =>
    match e.currency with
    | .home => { c with denomHome := e.values }
    | .foreign => { c with denomForeign := e.values }

def State.applyLayout (s : State) (y : Layout) : State := s.onPbu fun p => { p with layout := y }

/-- The parameters record is replaced; the drawers take their limits at once and cash-high is judged
again (R72, R75, R157). -/
def State.applyParams (s : State) (p : Params) : State :=
  let s1 := (s.onDyc fun y => { y with params := p }).onCsu fun c =>
    { c with drawers := c.drawers.map fun d => { d with limit := p.cashHigh.getD d.number d.limit } }
  (List.range 25).foldl State.judgeCashHigh s1

/-! ### A LOAD frame (R156) -/

/-- A key joins a loaded-key set, which holds each key at most once (R156). -/
def joinKey (l : List Nat) (k : Nat) : List Nat := if l.contains k then l else l ++ [k]

/-- A load of one kind: the accepted days, the checks on an entry, its key, whether the entry names a
teller who is signed on, whether the new keys fit, and how an entry is applied. -/
structure LoadRule (α : Type) where
  kind   : TableKind
  ok     : α → Bool
  key    : α → Nat
  inUse  : State → α → Bool
  fits   : State → List α → Bool
  apply  : State → α → State

/-- A kind whose entries are never in use and always fit. -/
def plainRule {α : Type} (kind : TableKind) (ok : α → Bool) (key : α → Nat) (apply : State → α → State) :
    LoadRule α := ⟨kind, ok, key, fun _ _ => false, fun _ _ => true, apply⟩

/-- The entries of a LOAD that could be read (R156): all of them, once check 2 has passed. -/
def readEntries {α : Type} (entries : List (Option α)) : List α := entries.filterMap id

/-- Why a LOAD is refused (R156). -/
def State.loadFault {α : Type} (s : State) (r : LoadRule α) (entries : List (Option α)) : Option LoadFault :=
  if kindAccepted r.kind s.dyc.day = false then some .wrongState
  else
    match entries.isEmpty, entries.findIdx? (fun e => !e.any r.ok) with
    | true, _ => some (.fieldRange none)
    | false, some i => some (.fieldRange (some (i + 1)))
    | false, none =>
      match if s.dyc.day = .opened then (readEntries entries).findIdx? (r.inUse s) else none with
      | some i => some (.inUse (i + 1))
      | none => if r.fits s (readEntries entries) then none else some .tableFull

/-- The accepted count of a kind (R156). -/
def State.acceptedCount (s : State) (k : TableKind) : Nat := (kindGet s.dyc.loaded k).length

/-- An entry is applied and its key joins the loaded-key set (R156). -/
def State.loadEntry {α : Type} (r : LoadRule α) (s : State) (e : α) : State :=
  (r.apply s e).onDyc fun y =>
    { y with loaded := kindSet y.loaded r.kind (joinKey (kindGet y.loaded r.kind) (r.key e)) }

/-- A LOAD frame is taken: LOAD-NAK, or every entry applied and LOAD-ACK (R156). -/
def State.load {α : Type} (s : State) (h : FrameHeader) (r : LoadRule α) (entries : List (Option α)) : State :=
  s.onAnswered h fun s =>
    match s.loadFault r entries with
    | some f => s.pushNode ⟨h.tag, .loadNak r.kind f⟩
    | none =>
      let s1 := (readEntries entries).foldl (State.loadEntry r) s
      s1.pushNode ⟨h.tag, .loadAck r.kind (s1.acceptedCount r.kind)⟩

/-- The new keys of a load, each once, fit the free places of a table (R156, check 4). -/
def keysFit (present : Nat → Bool) (free : Nat) (keys : List Nat) : Bool :=
  decide (((keys.filter fun k => !present k).foldl joinKey []).length ≤ free)

/-- The number of a TELLERS entry that is not a REMOVE. -/
def loadedNumber : TellerEntry → Option Nat
  | .load n .. => some n
  | .remove _ => none

def tellersRule : LoadRule TellerEntry where
  kind := .tellers
  ok := tellerEntryOk
  key := tellerKey
  inUse s e := (s.tellerOf (tellerKey e)).any Teller.signedOn
  fits s l := keysFit (fun n => (s.tellerOf n).isSome) (Config.tellerPlaces - s.rqu.tellers.length)
    (l.filterMap loadedNumber)
  apply := State.applyTeller

def satRule : LoadRule SatLoad where
  kind := .sat
  ok := satLoadOk
  key := SatLoad.account
  inUse _ _ := false
  fits s l := keysFit (fun a => (s.satAt a).isSome) (Config.satPlaces - s.siu.sat.length) (l.map (·.account))
  apply := State.applySat

def codesRule : LoadRule CodeEntry := plainRule .codes codeEntryOk CodeEntry.code State.applyCode
def definitionsRule : LoadRule DefinitionEntry :=
  plainRule .definitions definitionEntryOk DefinitionEntry.index State.applyDefinition
def routesRule : LoadRule RouteEntry := plainRule .routes routeEntryOk RouteEntry.index State.applyRoute
def ratesRule : LoadRule RateLoad := plainRule .rates rateLoadOk (fun _ => 0) State.applyRates
def layoutRule : LoadRule Layout := plainRule .layout layoutOk (fun _ => 0) State.applyLayout
def paramsRule : LoadRule Params := plainRule .parameters paramsOk (fun _ => 0) State.applyParams

/-- The key of a DENOMINATIONS entry is its currency (R156). -/
def currencyKey : Currency → Nat
  | .home => 0
  | .foreign => 1

def denominationsRule : LoadRule DenominationEntry :=
  plainRule .denominations denominationEntryOk (fun e => currencyKey e.currency) State.applyDenominations

/-! ### DAY-START and DAY-OPEN -/

/-- The fields of a DAY-START are in range (R155). -/
def dayStartOk (date : Date) (time : TimeOfDay) (expected : PerKind Nat) : Bool :=
  validDate date && validTime time
    && tableKinds.all fun k => decide (kindGet expected k ≤ kindLimit k)

/-- The day clock is set to 0 and counts from now (R127). -/
def State.startClock (s : State) : State := s.onJnc fun j => { j with clock := 0, clockKept := 0, clockRuns := true }

/-- The steps of a DAY-START that is taken (R155). -/
def State.startDay (s : State) (date : Date) (time : TimeOfDay) (expected : PerKind Nat) : State :=
  let s1 := (s.emptyJournal.startClock.onSiu fun u => { u with rate := none }).onRqu fun r =>
    { r with classMask := 0 }
  ((s1.onStats fun _ => freshStats).onDyc fun y =>
    { y with
      date := some date, time := some time, expected := expected, loaded := noKeys
      cutoff := none, batch := none }).setDay .loading

/-- The day accepts a DAY-START (R155). -/
def startable (d : DayState) : Bool := d == .noDay || d == .loading

/-- DAY-START (R155). -/
def State.dayStart (s : State) (h : FrameHeader) (date : Date) (time : TimeOfDay)
    (expected : PerKind Nat) : State :=
  s.onAnswered h fun s =>
    if startable s.dyc.day = false then s.nodeStatus h (.wrongState .dayStart)
    else if dayStartOk date time expected then
      (s.startDay date time expected).nodeStatus h (.loading (some date))
    else s.nodeStatus h (.fieldRange .dayStart)

/-- The first kind whose accepted count differs from the expected one (R159). -/
def State.loadMismatch (s : State) : Option TableKind :=
  tableKinds.find? fun k => s.acceptedCount k != kindGet s.dyc.expected k

/-- A passbook part holds pending work (R159). -/
def Passbook.hasWork (b : Passbook) : Bool :=
  !b.pending.isEmpty || b.overflow.items != 0 || b.marker.isSome || b.session.isSome

/-- The sweep of the SAT at DAY-OPEN (R159, step 1). -/
def State.sweepSat (s : State) : State :=
  s.onSiu fun u =>
    { u with sat := u.sat.filterMap fun e =>
        if (kindGet s.dyc.loaded .sat).contains e.account then some e
        else if e.book.any Passbook.hasWork then some { e with kind := .pendingOnly }
        else none }

/-- DAY-OPEN (R159). -/
def State.dayOpen (s : State) (h : FrameHeader) : State :=
  s.onAnswered h fun s =>
    if s.dyc.day ≠ .loading then s.nodeStatus h (.wrongState .dayOpen)
    else
      match s.loadMismatch with
      | some k => s.nodeStatus h (.loadMismatch k (kindGet s.dyc.expected k) (s.acceptedCount k))
      | none => (s.sweepSat.setDay .opened).nodeStatus h (.opened s.dyc.date)

/-! ### MASK-SET and NOTICE -/

/-- MASK-SET (R38). -/
def State.maskSet (s : State) (h : FrameHeader) (mask : ClassMask) : State :=
  s.onAnswered h fun s =>
    if startable s.dyc.day then s.nodeStatus h (.wrongState .maskSet)
    else (s.onRqu fun r => { r with classMask := mask }).nodeStatus h (.maskSet mask)

/-- A notice enters the table as the newest; the oldest of 8 makes room (R19). -/
def State.enterNotice (s : State) (groups : BitVec 8) (text : Text) : State :=
  (s.onLpc fun l =>
    let kept := if l.notices.length < Config.noticePlaces then l.notices else l.notices.tail
    { l with notices := kept ++ [⟨l.noticeCounter, groups, text⟩]
             noticeCounter := l.noticeCounter + 1 }).queueUnseen s

/-- NOTICE (R19). -/
def State.notice (s : State) (h : FrameHeader) (groups : BitVec 8) (text : Text) : State :=
  s.onAnswered h fun s =>
    if groups = 0 ∨ text = [] ∨ 64 < text.length then s.nodeStatus h (.fieldRange .notice)
    else if 65536 ≤ s.lpc.noticeCounter then s.nodeStatus h .noticeLimit
    else s.enterNotice groups text

/-- MASK_SET (R38). -/
def execMaskSet (h : FrameHeader) (mask : ClassMask) (s : State) : Host.Outcome State Fault Refusal :=
  .next (s.whileRunning fun s => s.maskSet h mask)

/-- NOTICE (R19). -/
def execNotice (h : FrameHeader) (groups : BitVec 8) (text : Text) (s : State) :
    Host.Outcome State Fault Refusal :=
  .next (s.whileRunning fun s => s.notice h groups text)

/-- DAY_START (R155). -/
def execDayStart (h : FrameHeader) (date : Date) (time : TimeOfDay) (expected : PerKind Nat) (s : State) :
    Host.Outcome State Fault Refusal :=
  .next (s.whileRunning fun s => s.dayStart h date time expected)

/-- LOAD_TELLERS (R156, R157). -/
def execLoadTellers (h : FrameHeader) (entries : List (Option TellerEntry)) (s : State) :
    Host.Outcome State Fault Refusal :=
  .next (s.whileRunning fun s => s.load h tellersRule entries)

/-- LOAD_CODES (R39, R156). -/
def execLoadCodes (h : FrameHeader) (entries : List (Option CodeEntry)) (s : State) :
    Host.Outcome State Fault Refusal :=
  .next (s.whileRunning fun s => s.load h codesRule entries)

/-- LOAD_DEFINITIONS (R40, R156). -/
def execLoadDefinitions (h : FrameHeader) (entries : List (Option DefinitionEntry)) (s : State) :
    Host.Outcome State Fault Refusal :=
  .next (s.whileRunning fun s => s.load h definitionsRule entries)

/-- LOAD_ROUTES (R43, R156). -/
def execLoadRoutes (h : FrameHeader) (entries : List (Option RouteEntry)) (s : State) :
    Host.Outcome State Fault Refusal :=
  .next (s.whileRunning fun s => s.load h routesRule entries)

/-- LOAD_SAT (R156, R158). -/
def execLoadSat (h : FrameHeader) (entries : List (Option SatLoad)) (s : State) :
    Host.Outcome State Fault Refusal :=
  .next (s.whileRunning fun s => s.load h satRule entries)

/-- LOAD_RATES (R61, R156, R160). -/
def execLoadRates (h : FrameHeader) (entries : List (Option RateLoad)) (s : State) :
    Host.Outcome State Fault Refusal :=
  .next (s.whileRunning fun s => s.load h ratesRule entries)

/-- LOAD_DENOMINATIONS (R69, R156). -/
def execLoadDenominations (h : FrameHeader) (entries : List (Option DenominationEntry)) (s : State) :
    Host.Outcome State Fault Refusal :=
  .next (s.whileRunning fun s => s.load h denominationsRule entries)

/-- LOAD_LAYOUT (R146, R156). -/
def execLoadLayout (h : FrameHeader) (entries : List (Option Layout)) (s : State) :
    Host.Outcome State Fault Refusal :=
  .next (s.whileRunning fun s => s.load h layoutRule entries)

/-- LOAD_PARAMETERS (R156, R157). -/
def execLoadParameters (h : FrameHeader) (entries : List (Option Params)) (s : State) :
    Host.Outcome State Fault Refusal :=
  .next (s.whileRunning fun s => s.load h paramsRule entries)

/-- DAY_OPEN (R159). -/
def execDayOpen (h : FrameHeader) (s : State) : Host.Outcome State Fault Refusal :=
  .next (s.whileRunning fun s => s.dayOpen h)

end Sys2Proof.Machine
end

