-- ==== Sys2Proof/Machine/Batch.lean ====
section
/-! DEFINITION. The end-of-day batch: acknowledgments, the block timer, resumption, the verdict, sending
again, and the end of the day (R167 to R179). -/

namespace Sys2Proof.Machine

/-- Change the batch progress. -/
def State.onBatch (s : State) (f : Batch → Batch) : State :=
  s.onDyc fun y => { y with batch := y.batch.map f }

/-- The block timer is stopped (R171). -/
def State.stopBlockTimer (s : State) : State := s.onDyc fun y => { y with blockTimer := .stopped }

/-- A block number names a block started and not acknowledged (R172, R173). -/
def Batch.inFlight (b : Batch) (n : Nat) : Bool := decide (b.oldest ≤ n ∧ n < b.next)

/-- Every block up to `n` is acknowledged (R172). -/
def Batch.ack (b : Batch) (n : Nat) : Batch :=
  { b with oldest := n + 1, attempts := 0, trailer := b.trailer || n == b.blocks + 1 }

/-- BLOCK-ACK (R172). An acknowledgment of the oldest block that comes after an expiry and before its frame has
started again names a block not started, and is discarded (R174, assumption 51). -/
def State.blockAck (s : State) (n : Nat) : State :=
  match s.dyc.batch with
  | none => s
  | some b =>
    if b.inFlight n then
      let s1 := s.onBatch fun b => b.ack n
      match s.dyc.day with
      | .sending => if n + 1 < b.next then s1.startBlockTimer else s1.stopBlockTimer
      | .sendStalled => s1
      | _ => s
    else s

/-- The batch stalls at its fifth attempt and says so (R174). -/
def State.stallAttempts (s : State) (oldest : Nat) : State := s.stall.raise (.batchStalled oldest)

/-- Block `n` is asked for again (R173). -/
def Batch.nak (b : Batch) (n : Nat) : Batch :=
  { b with oldest := n, next := n, attempts := (if n = b.oldest then b.attempts else 0) + 1 }

/-- BLOCK-NAK (R173). -/
def State.blockNak (s : State) (n : Nat) : State :=
  match s.dyc.day, s.dyc.batch with
  | .sending, some b =>
    if b.inFlight n then
      let s1 := (s.onBatch fun b => b.nak n).stopBlockTimer
      if 5 ≤ (b.nak n).attempts then s1.stallAttempts n else s1
    else s
  | _, _ => s

/-- The block timer expires while it runs (R174): the oldest block is the next to send, so it counts as not started
until its frame starts again (assumption 51). -/
def State.blockExpiry (s : State) : State :=
  if s.dyc.blockTimer = .stopped then s
  else
    match s.dyc.batch with
    | none => s
    | some b =>
      let s1 := (s.onBatch fun b => { b with attempts := b.attempts + 1 }).stopBlockTimer
      if 5 ≤ b.attempts + 1 then s1.stallAttempts b.oldest else s1.onBatch fun b => { b with next := b.oldest }

/-- A refused resumption is counted (R176). -/
def State.refuseResume (s : State) (h : FrameHeader) (b : Batch) (n : Nat) : State :=
  let m := countUp Config.maxCount b.refusals
  (s.onBatch fun b => { b with refusals := m }).nodeStatus h (.resumeRefused n b.next m)

/-- BATCH-RESUME (R176). -/
def State.batchResume (s : State) (h : FrameHeader) (n : Nat) : State :=
  s.onAnswered h fun s =>
    match s.dyc.day, s.tkc.link, s.dyc.batch with
    | .sendStalled, .online, some b =>
      if 1 ≤ n ∧ n ≤ b.next then
        s.resumeBatch (min n b.oldest) n (b.trailer && decide (b.blocks + 1 < n))
      else s.refuseResume h b n
    | _, _, _ => s.nodeStatus h (.wrongState .batchResume)

/-- The thirteen totals in order (R169). -/
def totalsList (t : Totals) : List Int :=
  [t.records, t.debit, t.credit, t.homeIn, t.homeOut, t.foreignIn, t.foreignOut, t.hash, t.overHome,
   t.overForeign, t.pending, t.exceptions, t.unadvised]

/-- The first position, counted from `i`, at which two lists of totals differ (R177). -/
def firstDifference (i : Nat) : List Int → List Int → Verdict
  | x :: xs, y :: ys => if x = y then firstDifference (i + 1) xs ys else .disputed i x y
  | _, _ => .agreed

/-- The comparison of the two sets of totals (R177). -/
def compareTotals (ours theirs : Totals) : Verdict := firstDifference 1 (totalsList ours) (totalsList theirs)

/-- The NODE-STATUS of a verdict (R177). -/
def verdictCondition : Verdict → Condition
  | .agreed => .agreed
  | .disputed k x y => .disputed k x y

/-- The verdict is taken: it is kept, the day is SENT, and the SFQ is emptied (R177). -/
def State.takeVerdict (s : State) (v : Verdict) : State :=
  (((s.onBatch fun b => { b with verdict := some v }).stopBlockTimer).setDay .sent).onSiu fun u => { u with sfq := [] }

/-- The day awaits a verdict or its trailer's acknowledgment (R177). -/
def awaitsVerdict (d : DayState) : Bool := d == .sending || d == .sendStalled

/-- BATCH-VERDICT (R177). -/
def State.batchVerdict (s : State) (h : FrameHeader) (totals : Totals) : State :=
  s.onAnswered h fun s =>
    match s.dyc.batch with
    | none => s.nodeStatus h (.wrongState .batchVerdict)
    | some b =>
      if awaitsVerdict s.dyc.day && b.trailer then
        let v := compareTotals b.totals totals
        (s.takeVerdict v).nodeStatus h (verdictCondition v)
      else
        match s.dyc.day, b.verdict with
        | .sent, some v => s.nodeStatus h (verdictCondition v)
        | _, _ => s.nodeStatus h (.wrongState .batchVerdict)

/-- The SFQ entry of a record still pending (R178). -/
def pendingEntry (r : Record) : Option SfqEntry :=
  match r.disposition with
  | some .advicePending => some ⟨r.seq, .posting⟩
  | some .reversalPending => some ⟨r.seq, .reversal⟩
  | _ => none

/-- The SFQ refilled from the batch's records (R178). -/
def refillSfq (records : List Record) (n : Nat) : List SfqEntry :=
  (records.filter fun r => decide (r.seq ≤ n)).filterMap pendingEntry

/-- The batch is sent again from the start (R178). -/
def Batch.again (b : Batch) : Batch :=
  { b with verdict := none, trailer := false, oldest := 1, next := 1, attempts := 0 }

/-- RESEND-BATCH (R178). -/
def State.resendBatch (s : State) (h : FrameHeader) : State :=
  s.onAnswered h fun s =>
    if s.dyc.day = .sent then
      let n := (s.dyc.batch.map (·.records)).getD 0
      let s1 := (s.onBatch Batch.again).onSiu fun u => { u with sfq := refillSfq s.jnc.records n }
      ((s1.onDyc fun y => { y with resumed := false }).setDay .sending).stallUnlessOnline
    else s.nodeStatus h (.wrongState .resendBatch)

/-- The notice table is emptied and the numbers start again (R19, R179). -/
def State.emptyNotices (s : State) : State :=
  (s.onLpc fun l =>
    { l with
      notices := [], noticeCounter := 1
      drops := l.drops.map fun d => { d with nextNotice := 1 } }).queueUnseen s

/-- The steps of a DAY-END that is taken (R179). -/
def State.endDay (s : State) : State :=
  let s1 := ((s.emptyJournal.rollDrawers).onSiu fun u =>
    { u with sat := u.sat.map fun e => { e with net := 0 } }).emptyNotices
  (s1.onDyc fun y => { y with batch := none, cutoff := none, date := none, time := none }).setDay .noDay

/-- DAY-END (R179). -/
def State.dayEnd (s : State) (h : FrameHeader) : State :=
  s.onAnswered h fun s =>
    if s.dyc.day = .sent then s.endDay.nodeStatus h (.noDay s.dyc.date)
    else s.nodeStatus h (.wrongState .dayEnd)

/-- BLOCK_ACK (R172). -/
def execBlockAck (h : FrameHeader) (n : Nat) (s : State) : Host.Outcome State Fault Refusal :=
  .next (s.whileRunning fun s => s.onFrame h fun s => s.blockAck n)

/-- BLOCK_NAK (R173). -/
def execBlockNak (h : FrameHeader) (n : Nat) (s : State) : Host.Outcome State Fault Refusal :=
  .next (s.whileRunning fun s => s.onFrame h fun s => s.blockNak n)

/-- BLOCK_TIMER_EXPIRY (R174). -/
def execBlockTimerExpiry (s : State) : Host.Outcome State Fault Refusal :=
  .next (s.whileRunning State.blockExpiry)

/-- BATCH_RESUME (R176). -/
def execBatchResume (h : FrameHeader) (n : Nat) (s : State) : Host.Outcome State Fault Refusal :=
  .next (s.whileRunning fun s => s.batchResume h n)

/-- BATCH_VERDICT (R177). -/
def execBatchVerdict (h : FrameHeader) (totals : Totals) (s : State) : Host.Outcome State Fault Refusal :=
  .next (s.whileRunning fun s => s.batchVerdict h totals)

/-- RESEND_BATCH (R178). -/
def execResendBatch (h : FrameHeader) (s : State) : Host.Outcome State Fault Refusal :=
  .next (s.whileRunning fun s => s.resendBatch h)

/-- DAY_END (R179). -/
def execDayEnd (h : FrameHeader) (s : State) : Host.Outcome State Fault Refusal :=
  .next (s.whileRunning fun s => s.dayEnd h)

end Sys2Proof.Machine
end

