-- ==== Sys2Proof/Machine/Passbook.lean ====
section
/-! DEFINITION. The printer messages and the answer timer: BOOK-PRESENT, LINE-DONE, PAGE-READY,
PRINTER-FAULT and ANSWER_TIMER_EXPIRY (R142 to R150). -/

namespace Sys2Proof.Machine

/-- BOOK-PRESENT: taken in IDENTIFY; a fault in the other states of an open session (R142, R150). -/
def State.bookPresent (s : State) (a : Nat) (stripe : Stripe) : State :=
  if s.sessionState a = .identify then
    (s.modifySession a Session.settle).checkBook a stripe
  else s.printerFaultAt a

/-- Line 24 of a page confirmed (R149). -/
def State.pageEnd (s : State) (a account page : Nat) : State :=
  if 32 ≤ page then s.finishSession a (some .bookFull)
  else if (s.bookOf account).any (fun b => !b.pending.isEmpty || b.overflow.items != 0) then
    (s.modifySession a fun x => { x with state := .turning }).sendCommand a .turnPage .turnPage
  else s.finishSession a none

/-- A LINE-DONE that answers the PRINT-LINE outstanding (R148, R149). -/
def State.lineConfirmed (s : State) (a account page line : Nat) : State :=
  let s1 := (s.modifyBook account Passbook.confirmMarked).modifySession a fun x =>
    { x with printed := x.printed + 1, command := none, timer := .stopped }
  if line < 24 then s1.chooseLine a account else s1.pageEnd a account page

/-- LINE-DONE (R148, R150). -/
def State.lineDone (s : State) (a page line : Nat) : State :=
  match s.sessionOf a with
  | some x =>
    match x.state, x.command, x.account with
    | .printing, some (.printLine p l), some account =>
      if p = page ∧ l = line then s.lineConfirmed a account page line else s.printerFaultAt a
    | _, _, _ => s.printerFaultAt a
  | none => s

/-- PAGE-READY (R149, R150). -/
def State.pageReady (s : State) (a : Nat) : State :=
  match s.sessionOf a with
  | some x =>
    match x.state, x.account with
    | .turning, some account => s.startPrinting a account
    | _, _ => s.printerFaultAt a
  | none => s

/-- The answer timer of a drop's session expires while it runs (R92, R150). -/
def State.answerTimerExpiry (s : State) (a : Nat) : State :=
  if (s.sessionOf a).any (fun x => x.timer != .stopped) then s.printerFaultAt a else s

/-- BOOK_PRESENT (R142). -/
def execBookPresent (a : Nat) (stripe : Stripe) (s : State) : Host.Outcome State Fault Refusal :=
  .next (s.whileRunning fun s => s.fromPrinter a fun s => s.bookPresent a stripe)

/-- LINE_DONE (R148). -/
def execLineDone (a page line : Nat) (s : State) : Host.Outcome State Fault Refusal :=
  .next (s.whileRunning fun s => s.fromPrinter a fun s => s.lineDone a page line)

/-- PAGE_READY (R149). -/
def execPageReady (a : Nat) (s : State) : Host.Outcome State Fault Refusal :=
  .next (s.whileRunning fun s => s.fromPrinter a fun s => s.pageReady a)

/-- PRINTER_FAULT (R150). -/
def execPrinterFault (a : Nat) (s : State) : Host.Outcome State Fault Refusal :=
  .next (s.whileRunning fun s => s.fromPrinter a fun s => s.printerFaultAt a)

/-- ANSWER_TIMER_EXPIRY (R150). -/
def execAnswerTimerExpiry (a : Nat) (s : State) : Host.Outcome State Fault Refusal :=
  .next (s.whileRunning fun s => s.answerTimerExpiry a)

end Sys2Proof.Machine
end

