-- ==== Sys2Proof/Machine/Loop.lean ====
section
/-! DEFINITION. The station loop: NOTICE_NEXT and ANNOUNCE, the composition of a cycle, the handling of
a returned one, drop states, signalling and LOOP-FAULT (R1 to R21). -/

namespace Sys2Proof.Machine

/-! ### NOTICE-NEXT (R21) -/

/-- The number of the oldest retained notice. -/
def State.oldestNotice (s : State) : Option Nat := s.lpc.notices.head?.map (·.number)

/-- The missed count of a drop's next notice number (R21). -/
def missedCount (oldest : Option Nat) (next : Nat) : Option Nat :=
  (oldest.filter fun n => decide (next < n)).map fun n => n - next

/-- The notice a drop is shown next, from a number on (R21). -/
def State.noticeFrom (s : State) (d : Drop) (next : Nat) : Option Notice :=
  s.lpc.notices.find? fun n => n.groups.getLsbD (d.group - 1) && decide (next ≤ n.number)

/-- NOTICE-NEXT (R21). -/
def State.noticeNext (s : State) (a : Nat) : State :=
  match s.dropAt a with
  | none => s
  | some d =>
    let missed := missedCount s.oldestNotice d.nextNotice
    let start := max d.nextNotice (s.oldestNotice.getD d.nextNotice)
    let (next, message) := match s.noticeFrom d start with
      | some n => (n.number + 1, DownMessage.notice n.number n.text missed)
      | none => (s.lpc.noticeCounter, DownMessage.noNotice missed)
    ((s.modifyDrop a fun d => { d with nextNotice := next }).handOver a message).queueUnseen s

/-! ### Confirmed changes (R15) -/

/-- A confirmed change of BOOK-IN goes to the PBU (R15, R142, R151). -/
def State.passBook (s : State) (a : Nat) (on : Bool) : State :=
  if s.dropIs a fun d => d.kind == .printer then s.bookInChanged a on else s

/-- The confirmed changes between two sets of signals are passed on, DRAWER-OPEN to the CSU whatever the drop's
type (R15, R77). -/
def State.passChanges (s : State) (a : Nat) (old new : DropSigs) : State :=
  let s1 := if old.drawerOpen.confirmed = new.drawerOpen.confirmed then s
    else s.drawerChanged a new.drawerOpen.confirmed
  if old.bookIn.confirmed = new.bookIn.confirmed then s1 else s1.passBook a new.bookIn.confirmed

/-- Set a drop's signals and pass the confirmed changes on (R14, R15). -/
def State.setSignals (s : State) (a : Nat) (new : DropSigs) : State :=
  match s.dropAt a with
  | some d => (s.modifyDrop a fun d => { d with sigs := new }).passChanges a d.sigs new
  | none => s

/-! ### ANNOUNCE (R10, R11) -/

/-- Signals taken straight from an ANNOUNCE (R10). -/
def announcedSigs (g : Signals) : DropSigs :=
  ⟨⟨g.drawerOpen, none⟩, ⟨g.keyOperate, none⟩, ⟨g.bookIn, none⟩, ⟨g.selfFault, none⟩⟩

/-- An ABSENT drop joins (R10). -/
def Drop.join (d : Drop) (next : Nat) : Drop :=
  { d with
    state := .active, score := 0, probeRun := 0, assembly := [], outOfStep := false, nextNotice := next }

/-- The final reply a drop still has to be sent, wherever it stands (R8, R11, R12). -/
def Drop.finalReply (d : Drop) : Option DownMessage :=
  d.held <|> (d.begun.map (·.msg)).find? isFinal <|> d.outbound.find? isFinal

/-- The messages of a drop are abandoned; its final reply becomes the held reply (R8, R11, R12). -/
def Drop.abandon (d : Drop) : Drop := { d with held := d.finalReply, begun := [], outbound := [] }

/-- ANNOUNCE from an ABSENT drop (R10). -/
def State.announceAbsent (s : State) (a : Nat) (g : Signals) : State :=
  ((s.modifyDrop a fun d => d.join (s.oldestNotice.getD s.lpc.noticeCounter)).setSignals a
    (announcedSigs g)).queueStatus a

/-- BOOK-IN stands confirmed on at a printer drop: its session identifies the book (R151). -/
def State.identifyIfBook (s : State) (a : Nat) : State :=
  if s.dropIs a fun d => d.sigs.bookIn.confirmed then s.startIdentify a else s

/-- ANNOUNCE from a drop that is ACTIVE or DEGRADED (R11). -/
def State.announceAgain (s : State) (a : Nat) (kind : DropType) : State :=
  let s1 := (s.modifyDrop a Drop.abandon).queueStatus a
  match kind with
  | .teller => s1
  | .printer => (s1.interruptSession a).identifyIfBook a

/-- ANNOUNCE (R10, R11); one of the wrong kind is discarded, and none is taken in LOOP-FAULT or from a
FENCED drop or one with no slot. -/
def State.announce (s : State) (a : Nat) (kind : DropType) (g : Signals) : State :=
  if s.lpc.loop = .running then
    match (s.dropAt a).filter fun d => d.kind == kind with
    | none => s
    | some d =>
      match d.state with
      | .absent => if (firstSlot s.lpc.slotMap a).isSome then s.announceAbsent a g else s
      | .active | .degraded => s.announceAgain a kind
      | .fenced => s
  else s

/-! ### Taking new tables into use (R2, R141) -/

/-- A drop taken away: ABSENT, with its buffers emptied (R2). -/
def Drop.leave (d : Drop) : Drop :=
  { d with
    state := .absent, score := 0, probeRun := 0, assembly := [], outbound := [], held := none
    begun := [], statusMark := false }

/-- A drop under the new tables (R2). One that goes ABSENT keeps no status mark, whatever becomes of its group
(assumption 56). -/
def Drop.adopt (d : Drop) (slotsBefore slots : List Nat) (kind : DropType) (group : Nat) : Drop :=
  let d1 := { d with kind := kind, group := group }
  if slots.isEmpty || kind != d.kind then d1.leave
  else
    let d2 := if slotsBefore = slots then d1 else { d1 with assembly := [], outOfStep := true }
    if group = d.group then d2 else d2.queueStatus

/-- The printer drops that keep a session under the new tables (R141). -/
def keepsSession (p : Params) (a : Nat) : Bool :=
  (printerDrops p.dropTable).contains a && !(mappedSlots p.slotMap a).isEmpty

/-- The sessions of drops taken away are interrupted before their records are bound again (R141, R151), in the order of
the records (assumption 58). -/
def State.interruptRemoved (s : State) (p : Params) : State :=
  ((s.pbu.sessions.filterMap (·.drop)).filter fun a => !keepsSession p a).foldl State.interruptSession s

/-- The records bound to `drops`: the remaining records take them in order (R141). -/
def bindRest : List Session → List Nat → List Session
  | [], _ => []
  | x :: xs, l =>
    match x.drop, l with
    | some _, _ => x :: bindRest xs l
    | none, a :: rest => idleSession x.number (some a) :: bindRest xs rest
    | none, [] => idleSession x.number none :: bindRest xs []

/-- The session records bound to the printer drops of a new drop table (R141). -/
def rebind (sessions : List Session) (printers : List Nat) : List Session :=
  let kept := sessions.map fun x =>
    if x.drop.any printers.contains then x else idleSession x.number none
  bindRest kept (printers.filter fun a => !(kept.any fun x => x.drop == some a))

/-- The tables of the parameters record are taken into use (R2, R141). -/
def State.adoptTables (s : State) : State :=
  let p := s.dyc.params
  let s1 := (s.interruptRemoved p).onPbu fun b => { b with sessions := rebind b.sessions (printerDrops p.dropTable) }
  s1.onLpc fun l =>
    { l with
      slotMap := p.slotMap
      drops := l.drops.map fun d =>
        let row := p.dropTable.getD (d.addr - 1) (d.kind, d.group)
        d.adopt (mappedSlots l.slotMap d.addr) (mappedSlots p.slotMap d.addr) row.1 row.2 }

/-- The tables in use differ from the parameters record's. -/
def State.tablesChanged (s : State) : Bool :=
  s.lpc.slotMap != s.dyc.params.slotMap ||
    s.lpc.drops.map (fun d => (d.kind, d.group)) != s.dyc.params.dropTable

/-! ### Composing a cycle (R3, R4, R16, R18) -/

/-- The next message a drop begins, and the drop without it (R4, R18). -/
def State.nextMessage (s : State) (d : Drop) : Option (DownMessage × Drop) :=
  match d.held, d.outbound.find? isFinal, d.outbound with
  | some m, _, _ => some (m, { d with held := none })
  | none, some m, _ => some (m, { d with outbound := d.outbound.erase m })
  | none, none, m :: rest => some (m, { d with outbound := rest })
  | none, none, [] =>
    if d.statusMark ∧ d.kind = .teller then
      some (.status (s.statusLine d), { d with statusMark := false })
    else none

/-- A message of which segments remain to be sent. -/
def Begun.unsent (b : Begun) : Bool := decide (b.sent < segmentCount b.msg)

/-- A begun message after one more of its segments has gone out. -/
def Begun.advance (b : Begun) : Begun := { b with sent := b.sent + 1, inCycle := true }

/-- The first begun message with segments left goes out by one segment. -/
def advanceBegun : List Begun → List Begun
  | [] => []
  | b :: rest => if b.unsent then b.advance :: rest else b :: advanceBegun rest

/-- A drop with a message in transmission, begun now when there is none (R4). -/
def State.withMessage (s : State) (d : Drop) : Drop :=
  if d.begun.any Begun.unsent then d
  else
    match s.nextMessage d with
    | some (m, d') => { d' with begun := d'.begun ++ [⟨m, 0, false⟩] }
    | none => d

/-- A half with a drop's indications and no message bytes (R3, R16). -/
def State.emptyHalf (s : State) (d : Drop) (slot : Nat) (probe : Bool) : DownHalf :=
  ⟨slot, false, false, d.release, s.alertDriven d, probe, []⟩

/-- The half of a usable slot: the next segment of the drop's message, or an empty segment (R3, R4). -/
def State.messageHalf (s : State) (d : Drop) (slot : Nat) : DownHalf :=
  match d.begun.find? Begun.unsent with
  | some b =>
    { s.emptyHalf d slot false with
      first := b.sent == 0, last := b.sent + 1 == segmentCount b.msg, bytes := segmentBytes b.msg b.sent }
  | none => s.emptyHalf d slot false

/-- A usable slot goes out with its segment. -/
def State.sendSegment (s : State) (d : Drop) (slot : Nat) : SlotOut × State :=
  let d1 := s.withMessage d
  (.half (s.messageHalf d1 slot), s.modifyDrop d.addr fun _ => { d1 with begun := advanceBegun d1.begun })

/-- What a slot of a drop carries (R3, R13). -/
def State.ownedSlot (s : State) (d : Drop) (slot : Nat) : SlotOut × State :=
  let first := firstSlot s.lpc.slotMap d.addr == some slot
  match d.state with
  | .absent => (if first then .offer else .filler, s)
  | .fenced => (.half (s.emptyHalf d slot (first && s.lpc.loop == .running)), s)
  | .degraded =>
    if first && s.lpc.loop == .running then s.sendSegment d slot else (.half (s.emptyHalf d slot false), s)
  | .active => if s.lpc.loop = .running then s.sendSegment d slot else (.half (s.emptyHalf d slot false), s)

/-- What a slot of the cycle carries (R1, R3). -/
def State.composeSlot (s : State) (slot : Nat) : SlotOut × State :=
  match (slotOwner s.lpc.slotMap slot).bind s.dropAt with
  | some d => s.ownedSlot d slot
  | none => (.filler, s)

/-- The slots of the cycle from a list on, in order. -/
def State.composeSlots : List Nat → State → List SlotOut × State
  | [], s => ([], s)
  | n :: rest, s =>
    let x := s.composeSlot n
    let y := State.composeSlots rest x.2
    (x.1 :: y.1, y.2)

/-- A cycle goes out on the ring, under the tables in use (R1, R3). -/
def State.sendCycle (s : State) : State :=
  let x := State.composeSlots (List.range' 1 31) s
  x.2.onLpc fun l => { l with cycle := some (.marker :: x.1) }

/-- A cycle starts (R1, R2). One cycle is on the ring at a time. New tables come into use in LOOP-FAULT too
(assumption 54). -/
def State.cycleStart (s : State) : State :=
  if s.lpc.cycle.isSome then s else (if s.tablesChanged then s.adoptTables else s).sendCycle

/-! ### Upstream messages (R6) -/

/-- A message that goes to a block which does not take its kind (R6). -/
def State.misdirected (s : State) (a : Nat) : State := if s.sends a then s.admitted a id else s

/-- A complete message of a TELLER drop goes to its taker (R6). An ANNOUNCE is taken whatever the outbound queue holds
(assumption 55). -/
def State.takeFromTeller (s : State) (a : Nat) : UpMessage → State
  | .announce kind g => s.announce a kind g
  | .noticeNext => s.fromTeller a fun s => s.noticeNext a
  | .txnRequest f => s.fromTeller a fun s => s.takeRequest a f
  | .cancel => s.fromTeller a fun s => s.cancel a
  | .signOn t c => s.fromTeller a fun s => s.signOn a t c
  | .signOff => s.fromTeller a fun s => s.signOff a
  | .unlock t => s.fromTeller a fun s => s.unlock a t
  | .forceSignOff t => s.fromTeller a fun s => s.forceSignOff a t
  | .overrideGrant d => s.fromTeller a fun s => s.overrideGrant a d
  | .overrideDeny d => s.fromTeller a fun s => s.overrideDeny a d
  | .transferOut d c n => s.fromTeller a fun s => s.transferOut a d c n
  | .transferAccept n => s.fromTeller a fun s => s.transferAccept a n
  | .transferRecall n => s.fromTeller a fun s => s.transferRecall a n
  | .countDeclare c => s.fromTeller a fun s => s.countDeclare a c
  | .acceptDifference d => s.fromTeller a fun s => s.acceptDifference a d
  | .forceBalance d => s.fromTeller a fun s => s.forceBalance a d
  | .closePropose => s.fromTeller a fun s => s.closePropose a
  | .closeConfirm => s.fromTeller a fun s => s.closeConfirm a
  | .closeWithdraw => s.fromTeller a fun s => s.closeWithdraw a
  | .bookPresent _ => s.misdirected a
  | .lineDone _ _ => s.misdirected a
  | .pageReady => s.misdirected a
  | .printerFault => s.misdirected a
  | .other => s.misdirected a

/-- A complete message of a PRINTER drop goes to its taker (R6). A NOTICE-NEXT is discarded, and not counted when
the outbound queue holds 3 messages or more (assumption 48); an ANNOUNCE is taken all the same (assumption 55). -/
def State.takeFromPrinter (s : State) (a : Nat) : UpMessage → State
  | .announce kind g => s.announce a kind g
  | .noticeNext => s
  | .bookPresent x => s.fromPrinter a fun s => s.bookPresent a x
  | .lineDone p l => s.fromPrinter a fun s => s.lineDone a p l
  | .pageReady => s.fromPrinter a fun s => s.pageReady a
  | .printerFault => s.fromPrinter a fun s => s.printerFaultAt a
  | _ => s.misdirected a

/-- What the bytes of a complete message spell: its kind, then its body (R186). -/
def readMessage : List Byte → UpMessage
  | [] => .other
  | kind :: body => Config.readUp kind body

/-- A complete message is passed on by its drop's type (R6). -/
def State.takeMessage (s : State) (a : Nat) (bytes : List Byte) : State :=
  match (s.dropAt a).map Drop.kind with
  | some .teller => s.takeFromTeller a (readMessage bytes)
  | some .printer => s.takeFromPrinter a (readMessage bytes)
  | none => s

/-- What the assembly of a segment gives: an error or none, the drop, and a complete message (R6). -/
structure Assembled where
  error   : Bool
  drop    : Drop
  message : Option (List Byte)
  deriving DecidableEq, Repr

/-- The assembly of a checked, correctly echoed segment (R6). -/
def Drop.assemble (d : Drop) (first last : Bool) (bytes : List Byte) : Assembled :=
  if first then
    let error := !d.assembly.isEmpty
    let d1 := { d with outOfStep := d.outOfStep && error }
    if last then ⟨error, { d1 with assembly := [] }, some bytes⟩
    else ⟨error, { d1 with assembly := [bytes] }, none⟩
  else if !last && bytes.isEmpty then ⟨false, { d with outOfStep := false }, none⟩
  else if d.assembly.isEmpty then ⟨!d.outOfStep, d, none⟩
  else if 15 ≤ d.assembly.length then ⟨true, { d with assembly := [] }, none⟩
  else
    let all := d.assembly ++ [bytes]
    if last then ⟨false, { d with assembly := [] }, some all.flatten⟩ else ⟨false, { d with assembly := all }, none⟩

/-! ### Scores and signals (R5, R9, R14) -/

/-- A score after a segment with or without an error (R5). -/
def scored (error : Bool) (score : Nat) : Nat := if error then min Config.maxScore (score + 8) else score - 1

/-- An upstream half that is filled, checked and echoes its slot (R5, R9). -/
def cleanHalf (slot : Nat) (h : List Byte) : Bool := upFilled h && upCheckOk h && upEcho h == slot

/-- One sample of one signal (R14). -/
def Sig.sample (x : Sig) (v : Bool) : Sig :=
  if v = x.confirmed then { x with candidate := none }
  else if x.candidate = some v then ⟨v, none⟩
  else { x with candidate := some v }

/-- A cycle without a sample clears the seen-once mark (R14). -/
def Sig.skip (x : Sig) : Sig := { x with candidate := none }

/-- The signals after a sample of all four, after one of SELF-FAULT alone, and after none (R14). -/
def DropSigs.sample (x : DropSigs) (g : Signals) : DropSigs :=
  ⟨x.drawerOpen.sample g.drawerOpen, x.keyOperate.sample g.keyOperate, x.bookIn.sample g.bookIn,
   x.selfFault.sample g.selfFault⟩

def DropSigs.sampleFault (x : DropSigs) (v : Bool) : DropSigs :=
  ⟨x.drawerOpen.skip, x.keyOperate.skip, x.bookIn.skip, x.selfFault.sample v⟩

def DropSigs.skip (x : DropSigs) : DropSigs :=
  ⟨x.drawerOpen.skip, x.keyOperate.skip, x.bookIn.skip, x.selfFault.skip⟩

/-- The signals of a drop after its first slot's half (R14). -/
def State.sampleFirst (s : State) (a slot : Nat) (h : List Byte) : State :=
  match s.dropAt a with
  | some d => s.setSignals a (if cleanHalf slot h then d.sigs.sample (upSignals h) else d.sigs.skip)
  | none => s

/-- A scored segment (R5, R6, R14): its error or none, the score, the sample of a first slot, and a
message it completes. -/
def State.scoreSlot (s : State) (d : Drop) (slot : Nat) (first : Bool) (h : List Byte) : State :=
  let x : Assembled := if cleanHalf slot h then d.assemble (upFirst h) (upLast h) (upBytes h) else ⟨true, d, none⟩
  let s1 := s.modifyDrop d.addr fun _ => { x.drop with score := scored x.error d.score }
  let s2 := if first then s1.sampleFirst d.addr slot h else s1
  match x.message with
  | some m => s2.takeMessage d.addr m
  | none => s2

/-- A probe reply (R9, R14). -/
def State.probeSlot (s : State) (d : Drop) (slot : Nat) (h : List Byte) : State :=
  if cleanHalf slot h then
    (s.modifyDrop d.addr fun d => { d with probeRun := min 32 (d.probeRun + 1) }).setSignals d.addr
      (d.sigs.sampleFault (upSignals h).selfFault)
  else (s.modifyDrop d.addr fun d => { d with probeRun := 0 }).setSignals d.addr d.sigs.skip

/-- An offered slot: a good single-segment ANNOUNCE is taken, anything else ignored (R10). -/
def State.offerSlot (s : State) (a slot : Nat) (h : List Byte) : State :=
  if cleanHalf slot h && upFirst h && upLast h then
    match readMessage (upBytes h) with
    | .announce kind g => s.announce a kind g
    | _ => s
  else s

/-- One upstream half of a good cycle, by the state its owner had as the cycle returned (R1, R3). -/
def State.handleSlot (before s : State) (slot : Nat) (h : List Byte) : State :=
  match (slotOwner before.lpc.slotMap slot).bind fun a => (before.dropAt a).bind fun old => (s.dropAt a).map (old, ·) with
  | none => s
  | some (old, d) =>
    let first := firstSlot before.lpc.slotMap d.addr == some slot
    match old.state with
    | .active => s.scoreSlot d slot first h
    | .degraded => if first then s.scoreSlot d slot true h else s
    | .fenced => if first then s.probeSlot d slot h else s
    | .absent => if first then s.offerSlot d.addr slot h else s

/-- The upstream halves in ascending slot order (R1). -/
def State.handleSlots (s : State) (halves : List (List Byte)) : State :=
  (List.range' 1 31).foldl (fun x n => s.handleSlot x n (halves.getD (n - 1) [])) s

/-! ### End of the cycle (R7 to R9) -/

/-- A drop becomes FENCED (R7, R8); its status mark stays as it is, DEGRADED before or not (assumption 13). -/
def Drop.fence (d : Drop) : Drop :=
  { d.abandon with state := .fenced, score := max d.score Config.fencedScore, assembly := [] }

/-- The effects of a fencing elsewhere (R8, R30, R151). -/
def State.tellFenced (s : State) (d : Drop) : State :=
  match d.kind with
  | .teller => s.suspendAt d.addr
  | .printer => s.interruptSession d.addr

/-- An ACTIVE or DEGRADED drop is evaluated (R7). -/
def State.evaluateUsed (s : State) (d : Drop) : State :=
  if d.sigs.selfFault.confirmed || decide (Config.fencedScore ≤ d.score) then
    (s.modifyDrop d.addr Drop.fence).tellFenced d
  else
    let new : DropState := if Config.degradedScore ≤ d.score then .degraded else .active
    let s1 := s.modifyDrop d.addr fun d => { d with state := new }
    if new = d.state then s1 else s1.queueStatus d.addr

/-- The effects of a recovery elsewhere (R9, R30, R151). -/
def State.tellRecovered (s : State) (d : Drop) : State :=
  match d.kind with
  | .teller => (s.resumeAt d.addr).queueStatus d.addr
  | .printer => s.identifyIfBook d.addr

/-- A FENCED drop is evaluated (R9). -/
def State.evaluateFenced (s : State) (d : Drop) : State :=
  if d.probeRun = 32 ∧ d.sigs.selfFault.confirmed = false then
    (s.modifyDrop d.addr fun d =>
      { d with state := .active, score := 0, probeRun := 0, outOfStep := true }).tellRecovered d
  else s

/-- The end-of-cycle evaluation of one drop (R7, R9). -/
def State.evaluate (s : State) (a : Nat) : State :=
  match s.dropAt a with
  | none => s
  | some d =>
    match d.state with
    | .active | .degraded => s.evaluateUsed d
    | .fenced => s.evaluateFenced d
    | .absent => s

/-- The addresses of the drops, in the order of the records, which is ascending: the turns of R1's end-of-cycle
evaluation and of its completions (assumption 53). -/
def State.addresses (s : State) : List Nat := s.lpc.drops.map (·.addr)

/-- A begun message whose last segment the good cycle carried is complete (R4). -/
def Begun.complete (b : Begun) : Bool := b.inCycle && !b.unsent

/-- The messages of a drop that a good cycle has completed leave; the others go on (R4). -/
def Drop.settleBegun (d : Drop) : Drop :=
  { d with begun := (d.begun.filter fun b => !b.complete).map fun b => { b with inCycle := false } }

/-- A delivered final reply ends its drop's work item (R4, R44). -/
def State.deliver (s : State) (a : Nat) : State :=
  match s.dropAt a with
  | none => s
  | some d =>
    let s1 := s.modifyDrop a Drop.settleBegun
    if d.begun.any fun b => b.complete && isFinal b.msg then s1.endTxn a else s1

/-- A good cycle gives an ABSENT drop no sample, which clears its seen-once marks (R14). -/
def Drop.unsampled (d : Drop) : Drop := if d.state = .absent then { d with sigs := d.sigs.skip } else d

/-- A good cycle taken while the loop is RUNNING (R1, R12, R14); the drops take their turns in ascending order of
address (assumption 53). -/
def State.goodCycle (s : State) (halves : List (List Byte)) : State :=
  let s1 := (s.onLpc fun l => { l with slipRun := 0, drops := l.drops.map Drop.unsampled }).handleSlots halves
  let s2 := s1.addresses.foldl State.evaluate s1
  s2.addresses.foldl State.deliver s2

/-! ### Slips and LOOP-FAULT (R12, R13) -/

/-- A drop after a slipped cycle: the marks are cleared, its partial message is discarded, and its
messages that had a segment in the cycle start again (R12). -/
def Drop.slip (d : Drop) : Drop :=
  { d with
    sigs := d.sigs.skip, assembly := [], outOfStep := true
    begun := d.begun.map fun b => if b.inCycle then { b with sent := 0, inCycle := false } else b }

/-- The loop enters LOOP-FAULT (R12). -/
def State.enterLoopFault (s : State) : State :=
  s.onLpc fun l => { l with loop := .loopFault, drops := l.drops.map fun d => { d.abandon with assembly := [] } }

/-- A slipped cycle (R12, R13). -/
def State.slippedCycle (s : State) : State :=
  let s1 := s.onLpc fun l => { l with slips := countUp Config.maxCount l.slips, goodRun := 0 }
  match s.lpc.loop with
  | .loopFault => s1
  | .running =>
    let s2 := s1.onLpc fun l => { l with slipRun := l.slipRun + 1, drops := l.drops.map Drop.slip }
    if 8 ≤ s2.lpc.slipRun then s2.enterLoopFault else s2

/-- The loop returns to RUNNING (R13). -/
def State.leaveLoopFault (s : State) : State :=
  s.onLpc fun l =>
    { l with
      loop := .running, slipRun := 0, goodRun := 0
      drops := l.drops.map fun d =>
        let d1 := { d with outOfStep := true }
        if d.canReceive then d1.queueStatus else d1 }

/-- A good cycle taken in LOOP-FAULT (R13). -/
def State.faultCycle (s : State) : State :=
  if 2 ≤ s.lpc.goodRun + 1 then s.leaveLoopFault
  else s.onLpc fun l => { l with goodRun := l.goodRun + 1 }

/-- The ring is clear of a cycle. -/
def State.clearCycle (s : State) : State := s.onLpc fun l => { l with cycle := none }

/-- A cycle returns (R1). -/
def State.cycleReturn (s : State) (c : ReturnedCycle) : State :=
  if s.lpc.cycle.isSome then
    let s1 := s.clearCycle
    if c.markerInPlace && c.inTime then
      match s.lpc.loop with
      | .running => s1.goodCycle c.halves
      | .loopFault => s1.faultCycle
    else s1.slippedCycle
  else s

/-- The cycle on the ring is not back complete at the end of its period (R1, R12). -/
def State.cycleLost (s : State) : State := if s.lpc.cycle.isSome then s.clearCycle.slippedCycle else s

/-- CYCLE_START (R1, R2). -/
def execCycleStart (s : State) : Host.Outcome State Fault Refusal :=
  .next (s.whileRunning State.cycleStart)

/-- CYCLE_RETURN (R1, R5 to R9, R12 to R14). -/
def execCycleReturn (c : ReturnedCycle) (s : State) : Host.Outcome State Fault Refusal :=
  .next (s.whileRunning fun s => s.cycleReturn c)

/-- CYCLE_NOT_BACK_AT_PERIOD_END (R1, R12). -/
def execCycleNotBackAtPeriodEnd (s : State) : Host.Outcome State Fault Refusal :=
  .next (s.whileRunning State.cycleLost)

/-- ANNOUNCE (R10, R11). -/
def execAnnounce (a : Nat) (kind : DropType) (g : Signals) (s : State) : Host.Outcome State Fault Refusal :=
  .next (s.whileRunning fun s => s.announce a kind g)

/-- NOTICE_NEXT (R21). -/
def execNoticeNext (a : Nat) (s : State) : Host.Outcome State Fault Refusal :=
  .next (s.whileRunning fun s => s.fromTeller a fun s => s.noticeNext a)

end Sys2Proof.Machine
end

