-- ==== Sys2Proof/Machine/Recovery.lean ====
section
/-! DEFINITION. Start-up and recovery: the supply, the reset pin, RESTART, the retained-store marker, the
restored day, the day clock's tick, and the end of a trunk frame (R127, R180 to R185). -/

namespace Sys2Proof.Machine

/-! ### Volatile items (R180) -/

/-- A teller's entry after recovery (R22). -/
def Teller.recover (t : Teller) : Teller :=
  { t with
    session := if t.session = .lockedOut then .lockedOut else .signedOff
    station := none, allowance := 0, saved := none }

/-- Every volatile item in its state after reset; the day clock resumes from its kept value (R180). -/
def State.clearVolatile (s : State) : State :=
  { s with
    restarting := none
    lpc := freshLpc s.dyc.params s.lpc.notices s.lpc.noticeCounter
    rqu := { s.rqu with tellers := s.rqu.tellers.map Teller.recover, waitList := [], txns := [], fetches := [] }
    tkc := freshTkc
    siu := { s.siu with
      sat := s.siu.sat.map fun e => { e with book := e.book.map fun b => { b with session := none } } }
    jnc := { s.jnc with clock := s.jnc.clockKept }
    pbu := { s.pbu with sessions := freshSessions s.dyc.params.dropTable }
    dyc := { s.dyc with proposal := none, blockTimer := .stopped, resumed := false } }

/-- A store found invalid: every retained area takes its default, the RETAINED-LOST mark is set and the
marker is written valid (R181). -/
def State.clearStore (s : State) : State :=
  { s with
    storeValid := true, retainedLost := true
    lpc := freshLpc freshParams [] 1, rqu := freshRqu, csu := freshCsu, siu := freshSiu, jnc := freshJnc
    pbu := freshPbu, dyc := freshDyc }

/-! ### Work left unfinished (R182) -/

/-- The sequences of the records found AWAITING, ascending (R135, R182). -/
def State.awaitingSeqs (s : State) : List Nat :=
  (s.jnc.records.filter fun r => r.disposition == some .awaiting).map (·.seq)

/-- Every AWAITING record is timed out, and the RECOVERY-MARK is written (R182). -/
def State.resolveWork (s : State) (cause : Cause) : State :=
  let l := s.awaitingSeqs
  (l.foldl State.timeOut s).writeRecord (entry (.recoveryMark cause s.dyc.day l.length))

/-! ### The restored day (R183) -/

/-- A transit entry goes back to its from-drawer, with a RECALL record that has no teller (R183). -/
def State.returnTransit (s : State) (e : TransitEntry) : State :=
  let s1 := (s.addTransferOut e.source e.currency (-(e.amount : Int))).removeTransit e.number
  (s1.judgeCashHigh e.source).writeRecord
    (entry (.transfer .recall e.number e.source e.target e.currency e.amount) none none none none (some e.seq))

/-- A drawer DUE or HELD is BALANCED by force, with no supervisor (R183). -/
def State.settleDrawer (s : State) (d : Nat) : State :=
  match s.drawerAt d with
  | some x =>
    if x.balance = .due ∨ x.balance = .held then
      (s.modifyDrawer d fun y => { y with balance := .balanced }).writeRecord
        (entry (.count d none 0 0 none true))
    else s
  | none => s

/-- A day restored to BALANCING is settled by recovery: the transit entries in list order, then the drawers in ascending
number (R183, assumption 57). -/
def State.settleBalancing (s : State) : State :=
  let s1 := s.csu.transit.foldl State.returnTransit s
  ((s1.csu.drawers.map (·.number)).foldl State.settleDrawer s1).judgeExit

/-- CLOSE-DRAIN found: the cutoff, the CLOSE-MARK with no names, and BALANCING (R183). -/
def State.restoreDrain (s : State) : State :=
  let s1 := s.captureCutoff
  (((s1.writeRecord (closeMark s1)).setDay .balancing).drawersDue).settleBalancing

/-- The day state found is restored (R183). -/
def State.restoreDay (s : State) : State :=
  match s.dyc.day with
  | .noDay | .loading | .opened | .sent => s
  | .closeProposed => s.setDay .opened
  | .closeDrain => s.restoreDrain
  | .balancing => s.settleBalancing
  | .sending | .sendStalled => s.setDay .sendStalled

/-- Status marks are empty after recovery (R180). -/
def State.clearMarks (s : State) : State := s.modifyDrops fun d => { d with statusMark := false }

/-- A recovery with a valid marker (R182 to R184). -/
def State.recoverKept (s : State) (cause : Cause) (tag : Nat) : State :=
  let n := s.awaitingSeqs.length
  let s1 := (s.resolveWork cause).restoreDay
  (s1.raiseTagged tag (.started cause true s1.dyc.day n)).clearMarks

/-- Recovery: the volatile items, the straps, the marker, NODE-STATUS STARTED, and the first cycle, which offers every
mapped drop its first slot (R180 to R185). -/
def State.recover (s : State) (cause : Cause) (pins : Straps) (tag : Nat) : State :=
  let s1 := { s.clearVolatile with straps := pins }
  (if s.storeValid then s1.recoverKept cause tag
   else s1.clearStore.raiseTagged tag (.started cause false .noDay 0)).sendCycle

/-! ### Supply, reset pin and RESTART -/

/-- The supply comes up (R180, R181): the marker is valid only when the battery has held the store. With
the reset pin held low the part stays stopped. -/
def State.powerOn (s : State) (pins : Straps) (held : Bool) : State :=
  if s.supply then s
  else
    let s1 := { s with supply := true, storeValid := s.storeValid && held }
    if s.resetLow then s1 else s1.recover .powerOn pins 0

/-- The supply is lost: every volatile item with it (R180). -/
def State.powerLoss (s : State) : State := if s.supply then { s.clearVolatile with supply := false } else s

/-- The reset pin is held low: the part stops as at a loss of power (R180). -/
def State.resetAssert (s : State) : State := if s.resetLow then s else { s.clearVolatile with resetLow := true }

/-- The reset pin is released (R180). -/
def State.resetRelease (s : State) (pins : Straps) : State :=
  if s.resetLow then
    let s1 := { s with resetLow := false }
    if s.supply then s1.recover .resetPin pins 0 else s1
  else s

/-- A valid RESTART is taken: recovery begins, after the end of a frame being sent (R180, R184). A
second RESTART while one waits adds nothing (assumption 11). -/
def State.restart (s : State) (h : FrameHeader) (pins : Straps) : State :=
  if s.restarting.isSome then s
  else if s.tkc.transmitter.isSome then { s with restarting := some (h.tag, pins) }
  else s.recover .restart pins h.tag

/-- The end of a trunk frame, and the recovery of a RESTART that waited for it (R89, R180). -/
def State.frameEndOrRestart (s : State) : State :=
  if s.tkc.transmitter.isSome then
    match s.restarting with
    | some (tag, pins) => s.frameEnd.recover .restart pins tag
    | none => s.frameEnd
  else s

/-- One second of the day clock (R127). -/
def State.tick (s : State) : State :=
  if s.jnc.clockRuns then
    s.onJnc fun j => { j with clock := countUp Config.maxClock j.clock, clockKept := countUp Config.maxClock j.clock }
  else s

/-- POWER_ON (R180). -/
def execPowerOn (pins : Straps) (held : Bool) (s : State) : Host.Outcome State Fault Refusal :=
  .next (s.powerOn pins held)

/-- POWER_LOSS (R180). -/
def execPowerLoss (s : State) : Host.Outcome State Fault Refusal := .next s.powerLoss

/-- RESET_PIN_ASSERT (R180). -/
def execResetPinAssert (s : State) : Host.Outcome State Fault Refusal := .next s.resetAssert

/-- RESET_PIN_RELEASE (R180). -/
def execResetPinRelease (pins : Straps) (s : State) : Host.Outcome State Fault Refusal :=
  .next (s.resetRelease pins)

/-- RESTART (R180, R184). -/
def execRestart (h : FrameHeader) (pins : Straps) (s : State) : Host.Outcome State Fault Refusal :=
  .next (s.whileRunning fun s => s.onFrame h fun s => s.restart h pins)

/-- DAY_CLOCK_TICK (R127): the second counts whenever the part is powered, with the reset pin held low too
(assumption 39). -/
def execDayClockTick (s : State) : Host.Outcome State Fault Refusal := .next (if s.supply then s.tick else s)

/-- TRUNK_FRAME_END (R89, R101, R105, R106, R171). -/
def execTrunkFrameEnd (s : State) : Host.Outcome State Fault Refusal :=
  .next (s.whileRunning State.frameEndOrRestart)

end Sys2Proof.Machine
end

