-- ==== Sys2Proof/Machine/Dispatch.lean ====
section
/-! DEFINITION. The dispatch: one arm for each command, each a direct call of its meaning. -/

namespace Sys2Proof.Machine

/-- The effect of a command on everything but the queue of waiting commands. -/
def exec (i : Instr) (s : State) : Host.Outcome State Fault Refusal :=
  match i with
  | .powerOn pins held => Sys2Proof.Machine.execPowerOn pins held s
  | .powerLoss => Sys2Proof.Machine.execPowerLoss s
  | .resetPinAssert => Sys2Proof.Machine.execResetPinAssert s
  | .resetPinRelease pins => Sys2Proof.Machine.execResetPinRelease pins s
  | .restart h pins => Sys2Proof.Machine.execRestart h pins s
  | .dayClockTick => Sys2Proof.Machine.execDayClockTick s
  | .cycleStart => Sys2Proof.Machine.execCycleStart s
  | .cycleReturn c => Sys2Proof.Machine.execCycleReturn c s
  | .announce drop kind signals => Sys2Proof.Machine.execAnnounce drop kind signals s
  | .noticeNext drop => Sys2Proof.Machine.execNoticeNext drop s
  | .txnRequest drop fields => Sys2Proof.Machine.execTxnRequest drop fields s
  | .cancel drop => Sys2Proof.Machine.execCancel drop s
  | .signOn drop teller check => Sys2Proof.Machine.execSignOn drop teller check s
  | .signOff drop => Sys2Proof.Machine.execSignOff drop s
  | .unlock drop teller => Sys2Proof.Machine.execUnlock drop teller s
  | .forceSignOff drop teller => Sys2Proof.Machine.execForceSignOff drop teller s
  | .overrideGrant drop target => Sys2Proof.Machine.execOverrideGrant drop target s
  | .overrideDeny drop target => Sys2Proof.Machine.execOverrideDeny drop target s
  | .holdTimerExpiry drop => Sys2Proof.Machine.execHoldTimerExpiry drop s
  | .transferOut drop target currency amount => Sys2Proof.Machine.execTransferOut drop target currency amount s
  | .transferAccept drop entry => Sys2Proof.Machine.execTransferAccept drop entry s
  | .transferRecall drop entry => Sys2Proof.Machine.execTransferRecall drop entry s
  | .countDeclare drop counts => Sys2Proof.Machine.execCountDeclare drop counts s
  | .acceptDifference drop drawer => Sys2Proof.Machine.execAcceptDifference drop drawer s
  | .forceBalance drop drawer => Sys2Proof.Machine.execForceBalance drop drawer s
  | .closePropose drop => Sys2Proof.Machine.execClosePropose drop s
  | .closeConfirm drop => Sys2Proof.Machine.execCloseConfirm drop s
  | .closeWithdraw drop => Sys2Proof.Machine.execCloseWithdraw drop s
  | .closeWindowExpiry => Sys2Proof.Machine.execCloseWindowExpiry s
  | .drainEnd => Sys2Proof.Machine.execDrainEnd s
  | .balancingExit => Sys2Proof.Machine.execBalancingExit s
  | .badFrame bytes => Sys2Proof.Machine.execBadFrame bytes s
  | .lineCheck h number => Sys2Proof.Machine.execLineCheck h number s
  | .supervisionTimerExpiry => Sys2Proof.Machine.execSupervisionTimerExpiry s
  | .waitListServing => Sys2Proof.Machine.execWaitListServing s
  | .txnForwardStart => Sys2Proof.Machine.execTxnForwardStart s
  | .passbookFetchStart => Sys2Proof.Machine.execPassbookFetchStart s
  | .adviceStart => Sys2Proof.Machine.execAdviceStart s
  | .nodeAnswerStart => Sys2Proof.Machine.execNodeAnswerStart s
  | .waitingReportJoin => Sys2Proof.Machine.execWaitingReportJoin s
  | .batchBlockStart => Sys2Proof.Machine.execBatchBlockStart s
  | .trunkFrameEnd => Sys2Proof.Machine.execTrunkFrameEnd s
  | .txnReply h answer => Sys2Proof.Machine.execTxnReply h answer s
  | .fetchReply h lines => Sys2Proof.Machine.execFetchReply h lines s
  | .replyTimerExpiry slot => Sys2Proof.Machine.execReplyTimerExpiry slot s
  | .adviceAck h => Sys2Proof.Machine.execAdviceAck h s
  | .adviceException h reason => Sys2Proof.Machine.execAdviceException h reason s
  | .adviceReplyTimerExpiry => Sys2Proof.Machine.execAdviceReplyTimerExpiry s
  | .inquiryDrawers h => Sys2Proof.Machine.execInquiryDrawers h s
  | .inquiryLink h => Sys2Proof.Machine.execInquiryLink h s
  | .inquiryQueues h => Sys2Proof.Machine.execInquiryQueues h s
  | .inquiryJournal h => Sys2Proof.Machine.execInquiryJournal h s
  | .inquiryDay h => Sys2Proof.Machine.execInquiryDay h s
  | .inquiryDrops h => Sys2Proof.Machine.execInquiryDrops h s
  | .inquiryPassbook h => Sys2Proof.Machine.execInquiryPassbook h s
  | .maskSet h mask => Sys2Proof.Machine.execMaskSet h mask s
  | .notice h groups text => Sys2Proof.Machine.execNotice h groups text s
  | .dayStart h date time expected => Sys2Proof.Machine.execDayStart h date time expected s
  | .loadTellers h entries => Sys2Proof.Machine.execLoadTellers h entries s
  | .loadCodes h entries => Sys2Proof.Machine.execLoadCodes h entries s
  | .loadDefinitions h entries => Sys2Proof.Machine.execLoadDefinitions h entries s
  | .loadRoutes h entries => Sys2Proof.Machine.execLoadRoutes h entries s
  | .loadSat h entries => Sys2Proof.Machine.execLoadSat h entries s
  | .loadRates h entries => Sys2Proof.Machine.execLoadRates h entries s
  | .loadDenominations h entries => Sys2Proof.Machine.execLoadDenominations h entries s
  | .loadLayout h entries => Sys2Proof.Machine.execLoadLayout h entries s
  | .loadParameters h entries => Sys2Proof.Machine.execLoadParameters h entries s
  | .dayOpen h => Sys2Proof.Machine.execDayOpen h s
  | .blockAck h n => Sys2Proof.Machine.execBlockAck h n s
  | .blockNak h n => Sys2Proof.Machine.execBlockNak h n s
  | .blockTimerExpiry => Sys2Proof.Machine.execBlockTimerExpiry s
  | .batchResume h n => Sys2Proof.Machine.execBatchResume h n s
  | .batchVerdict h totals => Sys2Proof.Machine.execBatchVerdict h totals s
  | .resendBatch h => Sys2Proof.Machine.execResendBatch h s
  | .dayEnd h => Sys2Proof.Machine.execDayEnd h s
  | .bookPresent drop stripe => Sys2Proof.Machine.execBookPresent drop stripe s
  | .lineDone drop page line => Sys2Proof.Machine.execLineDone drop page line s
  | .pageReady drop => Sys2Proof.Machine.execPageReady drop s
  | .printerFault drop => Sys2Proof.Machine.execPrinterFault drop s
  | .answerTimerExpiry drop => Sys2Proof.Machine.execAnswerTimerExpiry drop s
  | .cycleNotBackAtPeriodEnd => Sys2Proof.Machine.execCycleNotBackAtPeriodEnd s
  | .inquiryUnknownKind h => Sys2Proof.Machine.execInquiryUnknownKind h s

end Sys2Proof.Machine
end

