-- ==== Sys2Proof/Machine/Step.lean ====
section
/-! DEFINITION. One step: the command at the front of the queue is taken; on an empty queue the block
idles. -/

namespace Sys2Proof.Machine

/-- Take the command at the front of the queue and answer its outcome on the state with the rest of the
queue; with nothing waiting the block idles (assumption 12). -/
def step (s : State) : Host.Outcome State Fault Refusal :=
  match s.pending with
  | [] => .next s
  | c :: rest => exec c { s with pending := rest }

/-- The state with a command at the front of its queue. -/
def State.push (s : State) (c : Instr) : State := { s with pending := c :: s.pending }

/-- The state with the command that a word of the table spells at the front of its queue; a word spells
none. -/
def State.withFetchWord (s : State) (nbits w : Nat) : State :=
  match Sys2Proof.decodeTableWord nbits w with
  | some c => s.push c
  | none => s

end Sys2Proof.Machine
end

