-- ==== Sys2Proof/Safety.lean ====
section
/-! DEFINITION. What a safe run of the TBC-24 keeps: the relations that the manual says hold at all times,
as propositions about one state. The statements to be proved are made from them. -/

namespace Sys2Proof.Machine

/-- The records of the journal are numbered 1 upward without gap or repeat up to the counter, which is at
most 65,535 (R126, R128, R129). -/
def State.JournalNumbered (s : State) : Prop :=
  s.jnc.records.map Record.seq = List.range' 1 s.jnc.counter ∧ s.jnc.counter ≤ Config.reserveLimit

/-- A drop's score stands as its state says (section 1.4, R5). -/
def Drop.ScoreAgrees (d : Drop) : Prop :=
  match d.state with
  | .absent => d.score = 0
  | .active => d.score < Config.degradedScore
  | .degraded => Config.degradedScore ≤ d.score ∧ d.score < Config.fencedScore
  | .fenced => Config.fencedScore ≤ d.score ∧ d.score ≤ Config.maxScore

/-- There is one record for each drop address 1 to 28, and every score stands as its drop's state says
(R2, section 1.4). -/
def State.ScoresAgree (s : State) : Prop :=
  s.lpc.drops.map Drop.addr = List.range' 1 28 ∧ ∀ d ∈ s.lpc.drops, d.ScoreAgrees

/-- No outbound queue holds more than 4 messages (R4). -/
def State.OutboundBounded (s : State) : Prop :=
  ∀ d ∈ s.lpc.drops, d.outbound.length ≤ Config.outboundPlaces

/-- The teller table stands in ascending order of numbers, the parameters record has its 31 slots and 28 drops, and
the store of a running part is marked valid (R2, R22, R181). -/
def State.TablesSound (s : State) : Prop :=
  (s.rqu.tellers.map Teller.number).Pairwise (· < ·) ∧ s.dyc.params.slotMap.length = 31 ∧
    s.dyc.params.dropTable.length = 28 ∧ (s.isRunning = true → s.storeValid = true)

/-- The branch's over/short net in a currency. -/
def Csu.net (c : Csu) : Currency → Int
  | .home => c.netHome
  | .foreign => c.netForeign

/-- The sum of a part over the 25 drawers, in a currency. -/
def Csu.total (c : Csu) (cur : Currency) (f : Sums → Int) : Int :=
  sumOf (fun d : Drawer => f (d.sums cur)) c.drawers

/-- The cash in transit in a currency. -/
def Csu.inTransit (c : Csu) (cur : Currency) : Int :=
  sumOf (fun e : TransitEntry => if e.currency = cur then (e.amount : Int) else 0) c.transit

/-- The second law of R87 in a currency. -/
def Csu.Conserves (c : Csu) (cur : Currency) : Prop :=
  c.total cur Sums.position + c.inTransit cur =
    c.total cur Sums.opening + c.total cur Sums.cashIn - c.total cur Sums.cashOut + c.net cur

/-- The transit list is sound: numbers 1 to 16, none twice, between drawers 0 to 24 (section 5.4, R78). -/
def Csu.TransitSound (c : Csu) : Prop :=
  (c.transit.map TransitEntry.number).Nodup ∧
    1 ≤ c.transitCounter ∧ c.transitCounter ≤ 16 ∧
    ∀ e ∈ c.transit, 1 ≤ e.number ∧ e.number ≤ 16 ∧ e.source ≤ 24 ∧ e.target ≤ 24

/-- The days on which no teller can be signed on and the transit list is empty (R166, R88, R24). -/
def closedDay (d : DayState) : Bool :=
  d == .noDay || d == .loading || d == .sending || d == .sendStalled || d == .sent

/-- The branch's cash is accounted for (R87), with what it rests on: the 25 drawers, a sound transit list,
a closed counter with nothing in transit, and a block timer that runs in SENDING alone (R171). -/
def State.CashConserved (s : State) : Prop :=
  s.csu.drawers.map Drawer.number = List.range 25 ∧ s.csu.TransitSound ∧
    (closedDay s.dyc.day = true → s.csu.transit = [] ∧ s.nobodySignedOn = true) ∧
    (s.dyc.blockTimer ≠ .stopped → s.dyc.day = .sending) ∧ s.csu.Conserves .home ∧ s.csu.Conserves .foreign

/-! ### Work items (sections 3.1, 6.3, R44, R48, R49) -/

/-- Every work item of a TELLER drop belongs to a teller signed on at that drop, whom the table holds once; nobody is
signed on in a closed day; and the block timer runs only in SENDING (R22, R23, R26, R29, R166, R171). -/
def State.WorkAttended (s : State) : Prop :=
  (s.rqu.tellers.map Teller.number).Pairwise (· < ·) ∧ (s.rqu.txns.map Txn.drop).Pairwise (· < ·) ∧
    (∀ y ∈ s.rqu.txns, ∃ x ∈ s.rqu.tellers, x.number = y.teller ∧ x.signedOn = true ∧ x.station = some y.drop) ∧
    (closedDay s.dyc.day = true → s.nobodySignedOn = true) ∧
    (s.dyc.blockTimer ≠ .stopped → s.dyc.day = .sending)

/-- The stage and the slot of a drop's work item, of either kind (R44, R58). -/
def State.standsAt (s : State) (kind : OnlineKind) (a : Nat) (g : Stage) (slot : Option Nat) : Bool :=
  match kind with
  | .txnForward => (s.txnAt a).any fun y => y.stage == g && y.slot == slot
  | .passbookFetch => (s.fetchAt a).any fun f => f.stage == g && f.slot == slot

/-- The number of final replies a drop still has to be sent. -/
def Drop.finals (d : Drop) : Nat :=
  d.held.toList.countP isFinal + (d.begun.map Begun.msg).countP isFinal + d.outbound.countP isFinal

/-- Work items stand where their stages say: each entry of the wait list is a WAIT-LISTED item, listed once; each slot
that is not FREE carries the QUEUED or ON-TRUNK item that names it; and the one final reply of a drop belongs to an
ANSWERED item (R44, R48, R49, R57, R99, R101). -/
def State.WorkPlaced (s : State) : Prop :=
  (s.rqu.fetches.map Fetch.drop).Pairwise (· < ·) ∧ s.lpc.drops.map Drop.addr = List.range' 1 28 ∧
    s.tkc.slots.map OnlineSlot.number = List.range 6 ∧ s.rqu.waitList.Nodup ∧
    (∀ y ∈ s.rqu.txns, s.fetchAt y.drop = none) ∧
    (∀ a ∈ s.rqu.waitList, s.standsAt (s.workKind a) a .waitListed none) ∧
    (∀ x ∈ s.tkc.slots, (x.state = .free → x.timer = .stopped) ∧
      (x.state = .queued → s.standsAt x.kind x.drop .queued (some x.number)) ∧
      (x.state = .sending ∨ x.state = .await → s.standsAt x.kind x.drop .onTrunk (some x.number))) ∧
    ∀ d ∈ s.lpc.drops, d.finals ≤ 1 ∧ (d.finals = 1 → (s.txnAt d.addr).any (fun y => y.stage == .answered) = true)

/-! ### No position below zero (R87, first law) -/

/-- A transaction that has passed the drawer tests and waits for its decision: WAIT-LISTED, QUEUED or ON-TRUNK. -/
def Txn.waits (y : Txn) : Bool := y.stage == .waitListed || y.stage == .queued || y.stage == .onTrunk

/-- The days in which no customer work item is undecided (R164). -/
def drainedDay (d : DayState) : Bool := d == .balancing || closedDay d

/-- The cash of every drawer is covered (R46, R68, R74, R84, R85, R87): no position is below zero; a waiting
transaction's cash-out legs are within the positions of the drawer its teller holds, which nobody else holds; and a
HELD drawer stands as its declaration found it, with nothing in transit, so that its differences bring each position
to a declared amount. -/
def State.CashCovered (s : State) : Prop :=
  s.csu.drawers.map Drawer.number = List.range 25 ∧
    (∀ w ∈ s.csu.drawers, 0 ≤ w.home.position ∧ 0 ≤ w.foreign.position) ∧
    (∀ x ∈ s.rqu.tellers, ∀ y ∈ s.rqu.tellers, x.heldDrawer.isSome = true → x.heldDrawer = y.heldDrawer →
      x.number = y.number) ∧
    (drainedDay s.dyc.day = true → ∀ y ∈ s.rqu.txns, y.stage = .answered) ∧
    (∀ y ∈ s.rqu.txns, y.waits = true → ∀ n, y.drawer = some n →
      ((s.tellerOf y.teller).bind Teller.heldDrawer = some n ∧ ∀ w, s.drawerAt n = some w → ∀ c : Currency,
        sumOf (fun l : Leg => if l.currency = c ∧ l.kind = .cashOut then (l.amount : Int) else 0) y.legs ≤
          (w.sums c).position)) ∧
    ∀ w ∈ s.csu.drawers, w.balance = .held → s.dyc.day = .balancing ∧ s.transitNames w.number = false ∧
      ∀ y, w.declaration = some y → w.home.position + y.diffHome = y.declaredHome ∧
        w.foreign.position + y.diffForeign = y.declaredForeign

/-! ### Accounts and passbooks -/

/-- A passbook part is in balance: the printed balance and the waiting amounts make up its line balance, and a marker
set for the list marks its head's amount (R137, R147). -/
def Passbook.Sound (b : Passbook) : Prop :=
  b.printed + sumOf Line.amount b.pending + b.overflow.amount = b.lineBalance ∧
    ∀ m, b.marker = some m → m.source = .list → b.pending.head?.map Line.amount = some m.amount

/-- The accounts stand once each in ascending order; the stand-in used today is within its limit; every passbook part
is in balance; and the lines in use are within the pool (R110, R114, R137, R138). -/
def State.AccountsSound (s : State) : Prop :=
  (s.siu.sat.map SatEntry.account).Pairwise (· < ·) ∧
    (∀ e ∈ s.siu.sat, e.used ≤ e.limit ∧ ∀ b, e.book = some b → b.Sound) ∧
    (s.siu.sat.map fun e => ((e.book.map fun b => b.pending.length).getD 0)).sum ≤ 8192

/-- The signed account amounts of an account's stand-in postings that head office has not yet answered (R117). -/
def State.pendingNet (s : State) (account : Nat) : Int :=
  sumOf (fun r : Record => match postingOf r.body with
    | some p => if r.disposition = some .advicePending ∧ p.account = some account then signedAccount p.legs else 0
    | none => 0) s.jnc.records

/-- Every entry's unconfirmed net is what its pending stand-in postings come to, of which there are none in NO-DAY
and LOADING (R110, R117, R158). -/
def State.NetsAgree (s : State) : Prop :=
  (s.siu.sat.map SatEntry.account).Pairwise (· < ·) ∧ (∀ e ∈ s.siu.sat, e.net = s.pendingNet e.account) ∧
    (s.dyc.day = .noDay ∨ s.dyc.day = .loading → ∀ r ∈ s.jnc.records, r.disposition ≠ some .advicePending)

/-! ### Who is heard -/

/-- A message of a TELLER drop reaches its taker: the part and the loop run, the drop is ACTIVE or
DEGRADED, and its queue holds fewer than 3 messages (R6). -/
def State.Hears (s : State) (a : Nat) (d : Drop) : Prop :=
  s.isRunning = true ∧ s.lpc.loop = .running ∧ s.dropAt a = some d ∧ d.kind = .teller ∧
    d.canReceive = true ∧ d.outbound.length < 3

/-- A request of teller `t`, signed on at drop `a` with the key on, is heard (R23). -/
def State.Attends (s : State) (a : Nat) (d : Drop) (t : Teller) : Prop :=
  s.Hears a d ∧ d.sigs.keyOperate.confirmed = true ∧ s.tellerAt a = some t

/-- The sender of a request is a supervisor who is not in training (R27). -/
def State.Supervises (s : State) (a : Nat) (d : Drop) (t : Teller) : Prop :=
  s.Attends a d t ∧ t.supervises = true ∧ t.training = false

/-- The sender of a cash request passes checks 1 to 4 of R79. -/
def State.Cashier (s : State) (a : Nat) (d : Drop) (t : Teller) : Prop :=
  s.Attends a d t ∧ t.session = .active ∧ t.training = false ∧ s.hasWork a = false

/-- A message of a PRINTER drop reaches the PBU (R6). -/
def State.HearsPrinter (s : State) (a : Nat) (d : Drop) : Prop :=
  s.isRunning = true ∧ s.lpc.loop = .running ∧ s.dropAt a = some d ∧ d.kind = .printer ∧
    d.canReceive = true ∧ d.outbound.length < 3

/-- A valid trunk frame reaches the running part (R90). -/
def State.Receives (s : State) (h : FrameHeader) : Prop := s.isRunning = true ∧ s.frameValid h = true

/-- A valid trunk frame that may need an answer finds room for it (R106). -/
def State.Accepts (s : State) (h : FrameHeader) : Prop := s.Receives h ∧ s.nodeRoom = true

/-! ### What changed -/

/-- A drop with an immediate answer or another message at the end of its queue. -/
def Drop.told (d : Drop) (m : DownMessage) : Drop := { d with outbound := d.outbound ++ [m] }

/-- On the loop only the record of drop `a` changed. -/
def State.OnlyDrop (s t : State) (a : Nat) : Prop :=
  t.lpc = { s.lpc with drops := t.lpc.drops } ∧ ∀ b, b ≠ a → t.dropAt b = s.dropAt b

/-- On the loop only the record of drop `a` and status marks changed. -/
def State.OnlyDropAndMarks (s t : State) (a : Nat) : Prop :=
  t.lpc = { s.lpc with drops := t.lpc.drops } ∧
    ∀ b, b ≠ a → ∃ m, t.dropAt b = (s.dropAt b).map fun d => { d with statusMark := m }

/-- The counter stands where a write is reported (R130). -/
def reportedCount (n : Nat) : Prop := n = Config.nearFull ∨ n = Config.ordinaryLimit ∨ n = Config.reserveLimit

/-- On the trunk only a report of the journal's counter may have been raised (R130). -/
def State.OnlyReports (s t : State) : Prop :=
  t.tkc = { s.tkc with nodeQueue := t.tkc.nodeQueue, waiting := t.tkc.waiting } ∧
    (¬ reportedCount t.jnc.counter → t.tkc = s.tkc)

/-- One record was written, with the next sequence and the day clock as its stamp (R128). -/
def State.Wrote (s t : State) (r : Record) : Prop :=
  t.jnc = { s.jnc with
    records := s.jnc.records ++ [{ r with seq := s.jnc.counter + 1, stamp := s.jnc.clock }]
    counter := s.jnc.counter + 1 }

/-- Of the drawers only drawer `n` changed. -/
def State.OnlyDrawer (s t : State) (n : Nat) : Prop := ∀ m, m ≠ n → t.drawerAt m = s.drawerAt m

/-! ### Recovery -/

/-- `t` is the part stopped at `s`, but for its pins: the retained areas as they stood, the clock at its kept value,
and every volatile item in its state after reset (R22, R110, R137, R141, R154, R180). -/
structure State.Stopped (s t : State) : Prop where
  marks    : t.straps = s.straps ∧ t.storeValid = s.storeValid ∧ t.retainedLost = s.retainedLost ∧
    t.pending = s.pending ∧ t.restarting = none
  cash     : t.csu = s.csu
  journal  : t.jnc = { s.jnc with clock := s.jnc.clockKept }
  day      : t.dyc = { s.dyc with proposal := none, blockTimer := .stopped, resumed := false }
  tables   : t.rqu = { s.rqu with tellers := t.rqu.tellers, waitList := [], txns := [], fetches := [] }
  teller   : ∀ n, t.tellerOf n = (s.tellerOf n).map fun x => { x with
    session := if x.session = .lockedOut then .lockedOut else .signedOff,
    station := none, allowance := 0, saved := none }
  standIn  : t.siu = { s.siu with sat := t.siu.sat }
  account  : ∀ n, t.satAt n = (s.satAt n).map fun e =>
    { e with book := e.book.map fun b => { b with session := none } }
  printers : t.pbu.layout = s.pbu.layout ∧ t.pbu.sessions.map Session.number = List.range 6 ∧
    ∀ z ∈ t.pbu.sessions, z = idleSession z.number z.drop
  notices  : t.lpc.notices = s.lpc.notices ∧ t.lpc.noticeCounter = s.lpc.noticeCounter
  loop     : t.lpc.loop = .running ∧ t.lpc.cycle = none ∧ t.lpc.slipRun = 0 ∧ t.lpc.goodRun = 0 ∧ t.lpc.slips = 0 ∧
    t.lpc.slotMap = s.dyc.params.slotMap
  drops    : t.lpc.drops.map Drop.addr = List.range' 1 28 ∧ ∀ d ∈ t.lpc.drops, d = freshDrop d.addr d.kind d.group ∧
    ∀ row, s.dyc.params.dropTable[d.addr - 1]? = some row → (d.kind, d.group) = row
  trunk    : t.tkc = freshTkc

/-- Command `c` begins a recovery of the kept store at `s`: the supply coming up, the reset pin released, or
a valid RESTART taken with no frame being sent; with its cause, its straps and the tag of its report (R180,
R184). -/
def State.BeginsRecovery (s : State) (c : Instr) (cause : Cause) (pins : Straps) (tag : Nat) : Prop :=
  s.storeValid = true ∧
  ((c = .powerOn pins true ∧ s.supply = false ∧ s.resetLow = false ∧ cause = .powerOn ∧ tag = 0) ∨
   (c = .resetPinRelease pins ∧ s.supply = true ∧ s.resetLow = true ∧ cause = .resetPin ∧ tag = 0) ∨
   (∃ h, c = .restart h pins ∧ s.Receives h ∧ s.restarting = none ∧ s.tkc.transmitter = none ∧
     cause = .restart ∧ tag = h.tag))

/-- The day state in which a recovery leaves a day found in `d` (R183, with R166 and R175 for a day that
recovery settles). -/
def restoredDay (d : DayState) : DayState :=
  match d with
  | .closeProposed => .opened
  | .closeDrain | .balancing | .sending | .sendStalled => .sendStalled
  | .noDay | .loading | .opened | .sent => d

/-! ### The loop -/

/-- What slot `n` of a cycle started at `s` carries (R1, R3, R13, R16). -/
def State.SlotCarries (s : State) (n : Nat) (o : SlotOut) : Prop :=
  match (slotOwner s.lpc.slotMap n).bind s.dropAt with
  | none => o = .filler
  | some d =>
    if d.state = .absent then o = if firstSlot s.lpc.slotMap d.addr = some n then .offer else .filler
    else
      ∃ h, o = .half h ∧ h.slot = n ∧ h.release = d.release ∧ h.alert = s.alertDriven d ∧
        h.bytes.length ≤ 16 ∧
        (h.probe = true ↔
          d.state = .fenced ∧ firstSlot s.lpc.slotMap d.addr = some n ∧ s.lpc.loop = .running) ∧
        (d.state = .fenced ∨ s.lpc.loop = .loopFault ∨
            (d.state = .degraded ∧ firstSlot s.lpc.slotMap d.addr ≠ some n) →
          h.first = false ∧ h.last = false ∧ h.bytes = [])

/-- The slots in which a drop takes a message: all of an ACTIVE drop, the first of a DEGRADED one (R4). -/
def State.usableSlots (s : State) (d : Drop) : List Nat :=
  if d.state = .degraded then (mappedSlots s.lpc.slotMap d.addr).take 1 else mappedSlots s.lpc.slotMap d.addr

/-- The segments of a message from number `k` on, each with its FIRST, its LAST and its bytes (R4). -/
def segmentsFrom (m : DownMessage) (k : Nat) : List (Bool × Bool × List Byte) :=
  let count := ((messageBytes m).length + 15) / 16
  (List.range' k (count - k)).map fun i =>
    (decide (i = 0), decide (i + 1 = count), ((messageBytes m).drop (16 * i)).take 16)

/-- The messages a drop that can receive begins next, in order: the held reply, the final reply of the outbound queue,
the rest of that queue, and a TELLER drop's status line (R4, R18). -/
def State.toBegin (s : State) (d : Drop) : List DownMessage :=
  d.held.toList ++ d.outbound.filter isFinal ++ (d.outbound.filter fun m => !isFinal m) ++
    if d.statusMark = true ∧ d.kind = .teller then [.status (s.statusLine d)] else []

/-- All segments a drop has still to be sent, in the order in which its usable slots take them (R4). -/
def State.segmentsDue (s : State) (d : Drop) : List (Bool × Bool × List Byte) :=
  (d.begun.flatMap fun b => segmentsFrom b.msg b.sent) ++ (s.toBegin d).flatMap fun m => segmentsFrom m 0

/-- A complete cycle comes back good while the loop is RUNNING, and drop `a` is `d` (R1, R12). -/
def State.Scores (s : State) (x : ReturnedCycle) (a : Nat) (d : Drop) : Prop :=
  s.isRunning = true ∧ s.lpc.cycle.isSome = true ∧ s.lpc.loop = .running ∧ x.markerInPlace = true ∧ x.inTime = true ∧
    s.lpc.drops.map Drop.addr = List.range' 1 28 ∧ s.dropAt a = some d

/-- A drop after the upstream halves of some of its slots, each judged, assembled and scored (R5, R6). -/
def Drop.takeHalves (d : Drop) (halves : List (List Byte)) : List Nat → Drop
  | [] => d
  | n :: rest =>
    let h := halves.getD (n - 1) []
    let x : Assembled := if cleanHalf n h then d.assemble (upFirst h) (upLast h) (upBytes h) else ⟨true, d, none⟩
    Drop.takeHalves { x.drop with score := if x.error then min 255 (d.score + 8) else d.score - 1 } halves rest

/-- Segments of one message, taken one after another by a drop's assembly: the first carries FIRST, the last
LAST; whether one was in error, the drop, and the message completed (R6). -/
def assembleAll (d : Drop) : List (List Byte) → Bool → Assembled
  | [], _ => ⟨false, d, none⟩
  | [x], first => d.assemble first true x
  | x :: y :: rest, first =>
    let r := d.assemble first false x
    let q := assembleAll r.drop (y :: rest) false
    ⟨r.error || q.error, q.drop, q.message⟩

/-- The number that bytes of two's complement spell, the most significant byte first (R186, assumption 7). -/
def twosValue (l : List Byte) : Int :=
  if 2 * bytesNat l < 256 ^ l.length then bytesNat l else (bytesNat l : Int) - (256 ^ l.length : Nat)

/-! ### Answers -/

/-- The sending drop of a request to the RQU (R23, R27, R79). -/
def requestOf : Instr → Option Nat
  | .txnRequest a _ | .cancel a | .signOn a _ _ | .signOff a | .unlock a _ | .forceSignOff a _
  | .overrideGrant a _ | .overrideDeny a _ | .transferOut a _ _ _ | .transferAccept a _ | .transferRecall a _
  | .countDeclare a _ | .acceptDifference a _ | .forceBalance a _ | .closePropose a | .closeConfirm a
  | .closeWithdraw a => some a
  | _ => none

/-- A transfer or a count (R79, R80, R81, R84). -/
def cashRequest : Instr → Bool
  | .transferOut .. | .transferAccept .. | .transferRecall .. | .countDeclare .. => true
  | _ => false

/-- A supervisor request (R27). -/
def supervisorRequest : Instr → Bool
  | .unlock .. | .forceSignOff .. | .overrideGrant .. | .overrideDeny .. | .acceptDifference .. | .forceBalance ..
  | .closePropose _ | .closeConfirm _ | .closeWithdraw _ => true
  | _ => false

/-- The sending drop of a message to the PBU (R6). -/
def printerMessageOf : Instr → Option Nat
  | .bookPresent a _ | .lineDone a _ _ | .pageReady a | .printerFault a => some a
  | _ => none

/-- Nothing changed but that drop `a` was handed message `m`. -/
def State.OnlyTold (s t : State) (a : Nat) (d : Drop) (m : DownMessage) : Prop :=
  t = { s with lpc := t.lpc } ∧ s.OnlyDrop t a ∧ t.dropAt a = some (d.told m)

/-- A command is answered with a bare answer and has no other effect. -/
def State.OnlyAnswers (s : State) (c : Instr) (a : Nat) (d : Drop) (r : Result) : Prop :=
  ∃ t, exec c s = .next t ∧ s.OnlyTold t a d (.answer r .nothing)

/-! ### The transaction path -/

/-- The first of checks 3 to 9 that a request of a teller fails, with the leg that a refusal of the amount check names
(R45, R57). -/
def State.earlyRefusal (s : State) (x : Teller) (f : TxnFields) : Option (Result × Option LegNote) :=
  match s.dyc.day with
  | .noDay | .loading => some (.dayNotOpen, none)
  | .closeDrain | .balancing | .sending | .sendStalled | .sent => some (.dayClosing, none)
  | .opened | .closeProposed =>
    match s.definitionOf (readCode f.code) with
    | none => some (.unknownCode, none)
    | some (_, d) =>
      if x.training = true ∧ d.noTraining = true then some (.trainingRefused, none)
      else if s.rqu.classMask.has d.cls = true then some (.classMasked, none)
      else if d.mode ≠ .home ∧ rateFresh s.siu.rate s.jnc.clock = false then some (.rateStale, none)
      else
        match amounts d f s.siu.rate with
        | .refused r note => some (r, note)
        | .legs _ _ =>
          if s.needsAccount d = true ∧
              ((readAccount f.account).all fun n => routeResult s.rqu.routes n == .refuse) = true then
            some (.routeRefused, none)
          else none

/-- A request of teller `x` from drop `a` that becomes the drop's work item (R45, checks 1 and 2). -/
def State.Asks (s : State) (a : Nat) (d : Drop) (x : Teller) : Prop :=
  s.Attends a d x ∧ x.session = .active ∧ s.hasWork a = false ∧ s.tellerOf x.number = some x

/-- `y` is the work item of a request that has passed checks 3 to 9 with definition `g` (R44, R45). -/
structure State.Checked (s : State) (a : Nat) (x : Teller) (f : TxnFields) (y : Txn) (g : Definition) : Prop where
  passed     : s.earlyRefusal x f = none
  definition : s.definitionOf (readCode f.code) = some (y.defIndex, g)
  amounts    : amounts g f s.siu.rate = .legs y.legs y.exchange
  account    : y.account = if s.needsAccount g = true then readAccount f.account else none
  routing    : y.routing = match y.account with
    | some n => effectiveRouting g.routing (routeResult s.rqu.routes n)
    | none => g.routing
  item       : y = { newTxn a x f with
    defIndex := y.defIndex, defn := some g, routing := y.routing, account := y.account, legs := y.legs
    exchange := y.exchange, drawer := y.drawer }

/-- A request that has passed checks 3 to 12: no override is needed, and the drawer and the journal have room
(R33, R45 to R47, R68). -/
structure State.Cleared (s : State) (a : Nat) (d : Drop) (x : Teller) (f : TxnFields) (y : Txn) (g : Definition) :
    Prop extends s.Checked a x f y g where
  working : x.training = false
  inClass : x.restriction.has g.cls = false ∨ x.allowance.has g.cls = true
  inLimit : ∀ n, amountCompared y.legs = some n → n ≤ x.cashLimit
  room    : s.jnc.counter < 65279
  cash    : if hasCash g = true then
      ∃ n w, x.heldDrawer = some n ∧ (g.target = .reserve → n = 0) ∧ y.drawer = some n ∧ s.drawerAt n = some w ∧
        d.sigs.drawerOpen.confirmed = false ∧ ∀ l ∈ y.legs, cashShort w l = false ∧ overTotal w l = false
    else y.drawer = none

/-- The reason a checked request would be held for: its class, or its amount against the teller's limit (R31, R33). -/
def Teller.holdReason (x : Teller) (g : Definition) (legs : List Leg) : HoldReason where
  cls := x.restriction.has g.cls && !x.allowance.has g.cls
  amount := (amountCompared legs).any fun n => decide (x.cashLimit < n)

/-- The first of checks 1 to 5 of R113 that account leg `l` on an account fails in stand-in. -/
def State.standInFails (s : State) (account : Nat) (l : Leg) : Option Result :=
  match (s.satAt account).filter fun e => e.kind == .full with
  | none => some .noAccount
  | some e =>
    if e.blocked = true then some .accountBlocked
    else if l.kind = .accountDebit ∧ e.limit < e.used + l.amount then some .standInLimit
    else if l.kind = .accountDebit ∧ e.snapshot < l.amount then some .insufficientBalance
    else if 2040 ≤ s.siu.sfq.length then some .safFull
    else none

/-- A passbook part after a line has been appended with `free` lines left in the pool (R139, steps 1 to 5). -/
def Passbook.Appends (b b' : Passbook) (free : Nat) (l : Line) : Prop :=
  let joined : Overflow := ⟨min (b.overflow.items + l.items) 99999, b.overflow.amount + l.amount, l.date⟩
  let grown (p : List Line) (o : Overflow) : Passbook :=
    { b with lineBalance := b.lineBalance + l.amount, pending := p, overflow := o }
  let folded (c : Passbook) : Passbook := if b.session = none ∧ 40 < c.pending.length then c.fold else c
  (b.overflow.items = 0 → 0 < free → b' = folded (grown (b.pending ++ [l]) b.overflow)) ∧
  (free = 0 ∨ (b.overflow.items ≠ 0 ∧ b.markedOverflow = true) → b' = folded (grown b.pending joined)) ∧
  (b.overflow.items ≠ 0 → 0 < free → b.markedOverflow = false →
    b' = folded
      (grown (b.pending ++ [⟨joined.date, .summary, joined.items, joined.amount, .branch, none⟩]) ⟨0, 0, none⟩))

/-- The passbook line that a posted transaction with definition `g` asks for, or none (R54, R114). -/
def passbookLine (g : Definition) (legs : List Leg) (date : Option Date) (o : Origin) (seq : Nat) : Option Line :=
  if g.passbookLine = true then
    (accountLeg legs).map fun l => ⟨date, .text g.text, 1, signedAmount l, o, some seq⟩
  else none

/-- What becomes of an account's passbook part: nothing with no line or no part; the line appended; and a line that
would leave the range left out, with NODE-STATUS PASSBOOK-RANGE raised (R139). -/
def State.BookTakes (s t : State) (account : Nat) (line : Option Line) (b b' : Option Passbook) : Prop :=
  (line = none ∨ b = none → b' = b) ∧
  ∀ l k, line = some l → b = some k →
    if -999999999999999 ≤ k.lineBalance + l.amount ∧ k.lineBalance + l.amount ≤ 999999999999999 then
      ∃ k', b' = some k' ∧ k.Appends k' s.poolFree l
    else b' = b ∧
      (s.tkc.nodeQueue.length < 3 → ⟨0, .nodeStatus (.passbookRange account)⟩ ∈ t.tkc.nodeQueue)

/-- The sum of the legs of a currency and a kind. -/
def legSum (c : Currency) (k : LegKind) (legs : List Leg) : Int :=
  sumOf (fun l : Leg => if l.currency = c ∧ l.kind = k then (l.amount : Int) else 0) legs

/-- A drawer after the cash legs of a transaction, with cash-high judged (R74, R75). -/
def Drawer.afterLegs (w : Drawer) (legs : List Leg) : Drawer :=
  let home : Sums := { w.home with
    cashIn := w.home.cashIn + legSum .home .cashIn legs, cashOut := w.home.cashOut + legSum .home .cashOut legs }
  { w with
    home := home
    foreign := { w.foreign with
      cashIn := w.foreign.cashIn + legSum .foreign .cashIn legs
      cashOut := w.foreign.cashOut + legSum .foreign .cashOut legs }
    cashHigh := decide ((w.limit : Int) < home.position) }

/-- Where a transaction's cash legs go: its drawer takes them, every other drawer and the rest of the CSU stay
as they were; with no cash leg nothing changes (R74). -/
def State.CashApplied (s t : State) (y : Txn) : Prop :=
  t.csu = { s.csu with drawers := t.csu.drawers } ∧
    (y.drawer = none ∨ y.legs.any isCashLeg = false → t.csu = s.csu) ∧
    ∀ n, y.drawer = some n → y.legs.any isCashLeg = true →
      s.OnlyDrawer t n ∧ t.drawerAt n = (s.drawerAt n).map fun w => w.afterLegs y.legs

/-- The release of the drop of a completed transaction: set by its cash legs, else as it was (R74, R76). -/
def Drop.releasedBy (d : Drop) (y : Txn) : Bool := d.release || (y.drawer.isSome && y.legs.any isCashLeg)

/-- The final reply of a request that has reached no more than a refusal (R57). -/
def refusalReply (code : Option Nat) (r : Result) (note : Option LegNote) : FinalReply where
  code := code
  result := r
  seq := none
  reference := none
  reason := none
  legs := []
  reduced := none
  unsold := none
  balance := none
  snapshot := none
  timedOut := none
  note := note
  route := none
  wouldHold := none

/-- Of the work items of TELLER drops only that of drop `a` changed; with the masks of teller `n` restored,
nothing else of the RQU did (R37, R44). -/
def State.OnlyTxn (s t : State) (a n : Nat) : Prop :=
  t.rqu = { s.rqu with tellers := modifyKey Teller.number n Teller.restore s.rqu.tellers, txns := t.rqu.txns } ∧
    ∀ b, b ≠ a → t.txnAt b = s.txnAt b

/-! ### Sessions, drawers and the day -/

/-- The JNC takes the record of a session of teller `x`, or none is asked for (R24, R26, R29). -/
def State.SessionRoom (s : State) (x : Teller) : Prop :=
  x.training = true ∨ (s.dyc.day ≠ .noDay ∧ s.jnc.counter < 65535)

/-- The session record of teller `x` is written, but for one in training (R24, R26, R29). -/
def State.SessionRecorded (s t : State) (x : Teller) (body : RecordBody) (a : Nat) (supervisor : Option Nat) :
    Prop :=
  (x.training = true → t.jnc = s.jnc) ∧
    (x.training = false → s.Wrote t (entry body (some a) (some x.number) supervisor))

/-- A teller whose session has ended (R26, R29). -/
def Teller.ended (x : Teller) : Teller :=
  { x with session := .signedOff, station := none, allowance := 0, saved := none }

/-- A drawer with cash-high judged (R75). -/
def Drawer.judged (w : Drawer) : Drawer := { w with cashHigh := decide ((w.limit : Int) < w.home.position) }

/-- The sender holds drawer `n`, whose record is `w` (R79, check 5). -/
def State.Holds (s : State) (a : Nat) (d : Drop) (x : Teller) (n : Nat) (w : Drawer) : Prop :=
  s.Cashier a d x ∧ x.heldDrawer = some n ∧ s.drawerAt n = some w

/-- The JNC takes a TRANSFER record (R129). -/
def State.TransferRoom (s : State) : Prop := s.dyc.day ≠ .noDay ∧ s.jnc.counter < 65279

/-- Outside BALANCING a change of drawers, sessions or the transit list leaves Day Control alone; in BALANCING it
may end the day's balancing (R166). -/
def State.OnlyExit (s t : State) : Prop :=
  (s.dyc.day ≠ .balancing → t.dyc = s.dyc ∧ s.OnlyReports t) ∧
    (t.dyc.day ≠ s.dyc.day → t.dyc.day = .sending ∨ t.dyc.day = .sendStalled)

/-- Of the cash figures only those of drawer `n` and the transit list changed. -/
def State.OnlyDrawerAndTransit (s t : State) (n : Nat) : Prop :=
  t.csu = { s.csu with
      drawers := t.csu.drawers, transit := t.csu.transit, transitCounter := t.csu.transitCounter } ∧
    s.OnlyDrawer t n

/-- The differences of a declaration taken into a drawer that becomes BALANCED (R71). -/
def Drawer.balancedWith (w : Drawer) (home foreign : Int) : Drawer :=
  Drawer.judged { w with
    home := { w.home with overShort := w.home.overShort + home }
    foreign := { w.foreign with overShort := w.foreign.overShort + foreign }
    balance := .balanced }

/-- A difference kept in range (R71). -/
def fits (n : Int) : Prop := -999999999999 ≤ n ∧ n ≤ 999999999999

/-- The range test of R71 on a declaration's differences. -/
def State.Takes (s : State) (w : Drawer) (y : Declaration) : Prop :=
  fits (w.home.overShort + y.diffHome) ∧ fits (s.csu.netHome + y.diffHome) ∧
    fits (w.foreign.overShort + y.diffForeign) ∧ fits (s.csu.netForeign + y.diffForeign)

/-- A drawer that is HELD or BALANCED (R79, check 7). -/
def Drawer.settled (w : Drawer) : Bool := w.balance == .held || w.balance == .balanced

/-- The first of checks 5 to 12 of R79 that a TRANSFER-OUT of teller `x` fails. -/
def State.giveFails (s : State) (x : Teller) (target : Nat) (currency : Option Currency) (amount : Nat) :
    Option Result :=
  match x.heldDrawer.bind s.drawerAt with
  | none => some .noDrawer
  | some w =>
    if target = w.number ∨ ((s.drawerAt target).bind Drawer.assigned).isNone then some .notPermitted
    else if s.dyc.day = .balancing ∧ (w.settled || (s.drawerAt target).any Drawer.settled) = true then
      some .notPermitted
    else if currency = none ∨ amount = 0 ∨ 9999999999 < amount then some .amountRange
    else if 16 ≤ s.csu.transit.length then some .transitFull
    else if (currency.any fun c => decide ((w.sums c).position < amount)) = true then some .cashShort
    else if (currency.any fun c => decide (999999999999 < (w.sums c).transferOut + amount)) = true then
      some .totalRange
    else if 65279 ≤ s.jnc.counter then some .journalFull
    else none

/-- The first of check 5 of R79 and checks 6 to 9 of R80 that a TRANSFER-ACCEPT of teller `x` fails. -/
def State.acceptFails (s : State) (x : Teller) (k : Nat) : Option Result :=
  match x.heldDrawer.bind s.drawerAt, s.transitAt k with
  | none, _ => some .noDrawer
  | some _, none => some .noSuchTransfer
  | some w, some e =>
    if e.target ≠ w.number then some .notPermitted
    else if 999999999999 < (w.sums e.currency).position + e.amount ∨
        999999999999 < (w.sums e.currency).transferIn + e.amount then some .totalRange
    else if 65279 ≤ s.jnc.counter then some .journalFull
    else none

/-- The first of checks 5 to 7 of R81 that a TRANSFER-RECALL of teller `x` fails. -/
def State.recallFails (s : State) (x : Teller) (k : Nat) : Option Result :=
  match s.transitAt k with
  | none => some .noSuchTransfer
  | some e =>
    if x.heldDrawer ≠ some e.source ∧ (x.supervises = false ∨ (s.holderOf e.source).isSome = true) then
      some .notPermitted
    else if 65279 ≤ s.jnc.counter then some .journalFull
    else none

/-- A count beyond 99,999, or of a denomination that is not in its table (R69). -/
abbrev State.CountsWrong (s : State) (counts : Counts) : Prop :=
  (∃ c ∈ counts.home, 99999 < c.2 ∨ (c.2 ≠ 0 ∧ c.1 ∉ s.csu.denomHome)) ∨
    ∃ c ∈ counts.foreign, 99999 < c.2 ∨ (c.2 ≠ 0 ∧ c.1 ∉ s.csu.denomForeign)

/-- Check 5 of R79, or the first of checks 6 to 9 of R84, fails a COUNT-DECLARE of teller `x` with its answer. -/
def State.countFails (s : State) (x : Teller) (counts : Counts) : Option Result :=
  match x.heldDrawer.bind s.drawerAt with
  | none => some .noDrawer
  | some w =>
    if s.dyc.day ≠ .balancing ∨ (w.balance ≠ .due ∧ w.balance ≠ .held) then some .notPermitted
    else if s.transitNames w.number = true then some .transitOpen
    else if s.CountsWrong counts then some .amountRange
    else if 65535 ≤ s.jnc.counter then some .journalFull else none

/-- The first of checks 1 to 4 of R85 that an ACCEPT-DIFFERENCE of supervisor `x` fails for drawer `n`. -/
def State.DifferenceFails (s : State) (x : Teller) (n : Nat) (r : Result) : Prop :=
  ((∀ w, s.drawerAt n = some w → w.balance ≠ .held) ∧ r = .nothingHeld) ∨
    ∃ w y, s.drawerAt n = some w ∧ w.balance = .held ∧ w.declaration = some y ∧
      ((w.assigned = some x.number ∧ r = .samePerson) ∨
        (w.assigned ≠ some x.number ∧ ¬ s.Takes w y ∧ r = .notPermitted) ∨
        (w.assigned ≠ some x.number ∧ s.Takes w y ∧ (s.dyc.day = .noDay ∨ 65535 ≤ s.jnc.counter) ∧ r = .journalFull))

/-- The first of checks 1 to 5 of R86 that a FORCE-BALANCE fails for drawer `n`. -/
def State.forceFails (s : State) (n : Nat) : Option Result :=
  if s.dyc.day ≠ .balancing ∨ (s.drawerAt n).isNone then some .notPermitted
  else if (s.drawerAt n).any (fun w => w.balance != .due) then some .nothingHeld
  else if (s.holderOf n).isSome then some .notPermitted
  else if s.transitNames n then some .transitOpen
  else if 65535 ≤ s.jnc.counter then some .journalFull
  else none

/-- The three conditions of the exit from BALANCING (R166). -/
def State.BalancingOver (s : State) : Prop :=
  (∀ d ∈ s.csu.drawers, d.balance ≠ .due ∧ d.balance ≠ .held) ∧ s.csu.transit = [] ∧
    ∀ x ∈ s.rqu.tellers, x.signedOn = false

/-! ### The trunk -/

/-- The header of the frame that a command brings in (R91). -/
def headerOf : Instr → Option FrameHeader
  | .restart h _ | .lineCheck h _ | .txnReply h _ | .fetchReply h _ | .adviceAck h | .adviceException h _
  | .inquiryDrawers h | .inquiryLink h | .inquiryQueues h | .inquiryJournal h | .inquiryDay h | .inquiryDrops h
  | .inquiryPassbook h | .inquiryUnknownKind h | .maskSet h _ | .notice h _ _ | .dayStart h _ _ _
  | .loadTellers h _ | .loadCodes h _ | .loadDefinitions h _ | .loadRoutes h _ | .loadSat h _ | .loadRates h _
  | .loadDenominations h _ | .loadLayout h _ | .loadParameters h _ | .dayOpen h | .blockAck h _ | .blockNak h _
  | .batchResume h _ | .batchVerdict h _ | .resendBatch h | .dayEnd h => some h
  | _ => none

/-- An inbound frame that is never refused for lack of room in the node queue (R106, R180). -/
def neverRefused : Instr → Bool
  | .restart .. | .txnReply .. | .fetchReply .. | .adviceAck _ | .adviceException .. | .blockAck .. | .blockNak .. =>
    true
  | _ => false

/-- A start of a trunk frame (R100). -/
def frameStart (c : Instr) : Prop :=
  c = .txnForwardStart ∨ c = .passbookFetchStart ∨ c = .adviceStart ∨ c = .nodeAnswerStart ∨ c = .batchBlockStart

/-- A count that stops at 65,535 (R108). -/
def counted (n : Nat) : Nat := if n < 65535 then n + 1 else n

/-- The trunk slots 0 to 5 stand in order, the node queue holds at most 4 entries, and a lost store is unreported
only on a link that has not been ONLINE since (R99, R106, R181). -/
def State.TrunkSound (s : State) : Prop :=
  s.tkc.slots.map OnlineSlot.number = List.range 6 ∧ s.tkc.nodeQueue.length ≤ Config.nodePlaces ∧
    (s.retainedLost = true → s.tkc.link = .offline ∨ s.tkc.link = .resync)

/-- The transmitter is idle, the branch strap is not 0, and the lowest QUEUED slot of an ONLINE link is `x` (R100,
R185). -/
def State.GrantsSlot (s : State) (x : OnlineSlot) : Prop :=
  s.isRunning = true ∧ s.tkc.transmitter = none ∧ s.straps.branch ≠ 0 ∧ s.tkc.link = .online ∧
    s.queuedSlots.head? = some x ∧ s.slotAt x.number = some x

/-- No online slot is ready, the transmitter is idle and the branch strap is not 0 (R100, R185). -/
def State.NoSlotReady (s : State) : Prop :=
  s.isRunning = true ∧ s.tkc.transmitter = none ∧ s.straps.branch ≠ 0 ∧
    (s.tkc.link = .online → s.queuedSlots = [])

/-- Of slots 0 to 5 only slot `i` changed. -/
def State.OnlySlot (s t : State) (i : Nat) : Prop := ∀ j, j ≠ i → t.slotAt j = s.slotAt j

/-- A reply for slot `x` matches it by number, kind and tag (R102). -/
def State.Matches (s : State) (h : FrameHeader) (k : OnlineKind) (x : OnlineSlot) : Prop :=
  s.slotAt h.slot = some x ∧ (x.state = .sending ∨ x.state = .await) ∧ x.kind = k ∧ x.tag = h.tag

/-- Record `seq` holds `r`, and every other record stays as it was. -/
def State.OnlyRecord (s t : State) (seq : Nat) (r : Record) : Prop :=
  t.recordAt seq = some r ∧ (∀ k, k ≠ seq → t.recordAt k = s.recordAt k) ∧
  t.jnc = { s.jnc with records := t.jnc.records }

/-! ### Loads -/

/-- The last entry of a load with key `k`, which stands (R156). -/
def lastWith {α : Type} (key : α → Nat) (k : Nat) (l : List α) : Option α := l.reverse.find? fun e => key e == k

/-- The days in which a kind is accepted (R156, the table). -/
def loadDay : TableKind → List DayState
  | .tellers => [.loading, .opened]
  | .rates => [.loading, .opened, .closeProposed]
  | .parameters => [.noDay, .loading]
  | _ => [.loading]

/-- Check 1 or 2 of R156 fails for a frame of entries, of which one that cannot be read stands as `none`. -/
def State.LoadFails {α : Type} (s : State) (kind : TableKind) (ok : α → Bool) (l : List (Option α)) (r : LoadFault) :
    Prop :=
  (s.dyc.day ∉ loadDay kind ∧ r = .wrongState) ∨
    (s.dyc.day ∈ loadDay kind ∧ ((l = [] ∧ r = .fieldRange none) ∨
      ∃ p e q, l = p ++ e :: q ∧ (∀ x ∈ p, ∃ y, x = some y ∧ ok y = true) ∧ (∀ y, e = some y → ok y = false) ∧
        r = .fieldRange (some (p.length + 1))))

/-- A load is answered LOAD-NAK, and nothing else changes (R156). -/
def State.nak (s : State) (h : FrameHeader) (kind : TableKind) (r : LoadFault) : State :=
  { s with tkc := { s.tkc with nodeQueue := s.tkc.nodeQueue ++ [⟨h.tag, .loadNak kind r⟩] } }

/-- Checks 1 and 3 of R156 pass for the entries of a TELLERS load. -/
def State.TakesTellers (s : State) (l : List TellerEntry) : Prop :=
  s.dyc.day = .loading ∨
    (s.dyc.day = .opened ∧ ∀ e ∈ l, ∀ x, s.tellerOf (tellerKey e) = some x → x.signedOn = false)

/-- A load of a kind was taken: LOAD-ACK carries the accepted count, and the loaded-key set gained the entries'
keys (R156). -/
def State.LoadTaken {α : Type} (s t : State) (h : FrameHeader) (kind : TableKind) (key : α → Nat) (l : List α) :
    Prop :=
  t.tkc = { s.tkc with
      nodeQueue := s.tkc.nodeQueue ++ [⟨h.tag, .loadAck kind (kindGet t.dyc.loaded kind).length⟩] } ∧
    t.dyc = { s.dyc with loaded := kindSet s.dyc.loaded kind (kindGet t.dyc.loaded kind) } ∧
    ∀ k, k ∈ kindGet t.dyc.loaded kind ↔ k ∈ kindGet s.dyc.loaded kind ∨ ∃ e ∈ l, key e = k

end Sys2Proof.Machine
end

