-- ==== Sys2Proof/Certificates/Slice0/Obligations.lean ====
section
/-! DEFINITION. The statements for the provers: what the commands of the TBC-24 do, and what every step keeps. -/

open Sys2Proof Sys2Proof.Machine

/-! ### Steps, reset and the supply -/

/-- A step takes the command at the front of the queue and answers `exec` of it on the state with the queue's
rest; with nothing waiting the block idles (assumption 12). -/
def Obligations.StepRunsTheFront : Prop :=
  (∀ (s : State) (c : Instr) (rest : List Instr),
    s.pending = c :: rest → step s = exec c { s with pending := rest }) ∧
  ∀ s : State, s.pending = [] → step s = .next s

/-- Every command completes, and none touches the queue of waiting commands. A part without its supply, or with
the reset pin held low, takes no command but those of the supply and of the pin, and while the supply is up the
second of the day clock (R127, R180; assumptions 4 and 39). -/
def Obligations.EveryCommandCompletes : Prop :=
  (∀ (c : Instr) (s : State), ∃ t, exec c s = .next t ∧ t.pending = s.pending) ∧
  (∀ (c : Instr) (s : State), s.isRunning = false →
     (∀ pins held, c ≠ .powerOn pins held) → c ≠ .powerLoss → c ≠ .resetPinAssert →
     (∀ pins, c ≠ .resetPinRelease pins) → (c = .dayClockTick → s.supply = false) → exec c s = .next s)

/-- After the first power-on the link is OFFLINE and supervised by nothing, every slot is FREE, every drop
ABSENT, the journal and every table empty, the day NO-DAY, and the loss of the store is waiting to be reported;
the first cycle is on the ring and offers each of drops 1 to 28 its slot (R2, R3, R22, R92, R99, R126, R154, R181,
R184). -/
def Obligations.ResetState : Prop :=
  let s := State.reset
  s.tkc.link = .offline ∧ s.tkc.supervision = .stopped ∧ s.tkc.lastCheck = none ∧ s.tkc.runCount = 0 ∧
  s.tkc.slots.map OnlineSlot.state = List.replicate 6 .free ∧ s.tkc.slot6.state = .free ∧ s.tkc.slot7 = none ∧
  s.lpc.drops.map Drop.addr = List.range' 1 28 ∧ (∀ d ∈ s.lpc.drops, d.state = .absent ∧ d.score = 0) ∧
  s.lpc.cycle = some (.marker :: (List.replicate 28 .offer ++ List.replicate 3 .filler)) ∧
  s.lpc.loop = .running ∧ s.jnc.records = [] ∧ s.jnc.counter = 0 ∧ s.jnc.clock = 0 ∧
  s.rqu = ⟨[], [], [], [], 0, [], [], []⟩ ∧ s.siu = ⟨[], [], none⟩ ∧
  s.csu.drawers.map Drawer.number = List.range 25 ∧ s.csu.transit = [] ∧
  (∀ d ∈ s.csu.drawers, d.home.position = 0 ∧ d.foreign.position = 0 ∧ d.balance = .notDue) ∧
  s.dyc.day = .noDay ∧ s.storeValid = true ∧ s.retainedLost = true ∧
  s.tkc.nodeQueue = [⟨0, .nodeStatus (.started .powerOn false .noDay 0)⟩] ∧ s.pending = []

/-- A loss of power takes the supply away, and the reset pin going low stops the part as a loss of power does
(R180). Every retained area stays as it was: the journal with its kept clock, the drawers and all other cash, the
parameters and the day with its dates, cutoff, loaded keys and batch, every teller's role, training flag, check
value, limit, restriction, drawer, failures and lockout, the code map, definitions, routes and mask, every account
with its passbook but for the session flag, the SFQ and the rate, the layout, the notices and the marks of the store.
Every volatile item takes its state after reset at once (R180; assumptions 15 and 39), a drop's next notice number
being 1 (assumption 2). A second stop of the same kind
changes nothing (assumption 4). Recovery on a store that the battery has not held, by the supply or by the reset pin,
gives the state after reset: every retained area at its default, the RETAINED-LOST mark set, the marker valid, and
NODE-STATUS STARTED waiting (R180, R181, R184; assumption 14). -/
def Obligations.StopKeepsTheStore : Prop :=
  (∀ s : State, s.supply = true →
     ∃ t, exec .powerLoss s = .next t ∧ s.Stopped t ∧ t.supply = false ∧ t.resetLow = s.resetLow) ∧
  (∀ s : State, s.resetLow = false →
     ∃ t, exec .resetPinAssert s = .next t ∧ s.Stopped t ∧ t.supply = s.supply ∧ t.resetLow = true) ∧
  (∀ s : State, (s.supply = false → exec .powerLoss s = .next s) ∧
     (s.resetLow = true → exec .resetPinAssert s = .next s)) ∧
  (∀ (s : State) (pins : Straps),
     (s.supply = false → s.resetLow = false → ∀ held, (s.storeValid && held) = false →
       exec (.powerOn pins held) s = .next { State.reset with straps := pins, pending := s.pending }) ∧
     (s.supply = true → s.resetLow = true → s.storeValid = false →
       exec (.resetPinRelease pins) s = .next { State.reset with
         straps := pins, pending := s.pending
         tkc := { freshTkc with nodeQueue := [⟨0, .nodeStatus (.started .resetPin false .noDay 0)⟩] } }))

/-- Recovery of a kept store restores the day state found, leaves no record AWAITING, no work item and nobody
signed on, and raises NODE-STATUS STARTED with the cause, the day restored and the number of AWAITING records it
found (R180, R182 to R184); the first cycle is sent, in which every drop is ABSENT and is offered its first slot
(R184); the straps are those its command carries (assumption 14). A RESTART taken while a frame
is being sent waits for the frame's end, which begins the recovery, and commands are taken as usual until then; the
report carries the RESTART frame's tag (R180, R184; assumption 11). -/
def Obligations.KeptStoreIsRecovered : Prop :=
  (∀ (c : Instr) (s : State) (cause : Cause) (pins : Straps) (tag : Nat),
     s.BeginsRecovery c cause pins tag → s.JournalNumbered → s.csu.drawers.map Drawer.number = List.range 25 →
     ∃ t, exec c s = .next t ∧ t.isRunning = true ∧ t.straps = pins ∧
       t.dyc.day = restoredDay s.dyc.day ∧
       (∀ r ∈ t.jnc.records, r.disposition ≠ some .awaiting) ∧
       t.rqu.txns = [] ∧ t.rqu.fetches = [] ∧ t.rqu.waitList = [] ∧ t.nobodySignedOn = true ∧
       t.tkc.link = .offline ∧ (∀ d ∈ t.lpc.drops, d.state = .absent) ∧
       (∃ out, t.lpc.cycle = some (.marker :: out) ∧ out.length = 31 ∧
         ∀ n, 1 ≤ n → n ≤ 31 → t.SlotCarries n (out.getD (n - 1) .filler)) ∧
       (∀ r ∈ s.jnc.records, r.disposition ≠ some .awaiting → r ∈ t.jnc.records) ∧
       ⟨tag, .nodeStatus (.started cause true t.dyc.day
           (s.jnc.records.countP fun r => decide (r.disposition = some .awaiting)))⟩ ∈
         t.tkc.nodeQueue ++ t.tkc.waiting.toList) ∧
  ((∀ (s : State) (h : FrameHeader) (pins : Straps), s.Receives h → s.restarting = none →
     s.tkc.transmitter.isSome = true →
     exec (.restart h pins) s = .next { s.seeFrame with restarting := some (h.tag, pins) }) ∧
   ∀ (s : State) (tag : Nat) (pins : Straps), s.isRunning = true → s.restarting = some (tag, pins) →
     s.tkc.transmitter.isSome = true → s.storeValid = true → s.dyc.day = .opened → s.awaitingSeqs = [] →
     s.jnc.counter < Config.nearFull - 1 →
     ∃ t, exec .trunkFrameEnd s = .next t ∧ t.dyc.day = .opened ∧ t.restarting = none ∧ t.straps = pins ∧
       t.jnc = { s.jnc with
         clock := s.jnc.clockKept, counter := s.jnc.counter + 1
         records := s.jnc.records ++ [{ entry (.recoveryMark .restart .opened 0) with
           seq := s.jnc.counter + 1, stamp := s.jnc.clockKept }] } ∧
       t.tkc = { freshTkc with nodeQueue := [⟨tag, .nodeStatus (.started .restart true .opened 0)⟩] })

/-! ### The station loop -/

/-- A cycle starts with its marker in slot 0 and the 31 slots after it, each carrying what its owner's state gives it
(R1, R3, R13, R16), an offer in LOOP-FAULT too (assumption 32); only the loop changes. In RUNNING the usable slots of
an ACTIVE or DEGRADED drop take, in slot order, the segments it has still to be sent: those of the message in
transmission, then those of the held reply, of the final reply, of the outbound queue and of a queued status line, a
message beginning in the slot after the last segment of another; a slot with none left is empty, and the rest stays
due (R3, R4, R18). The slot map and the drop table of the parameters record are in use from the start of the next
cycle; a drop that changes its type or loses its slots becomes ABSENT with its buffers emptied (R2), in
LOOP-FAULT too (assumption 54). -/
def Obligations.CycleIsComposed : Prop :=
  (∀ s : State, s.isRunning = true → s.lpc.cycle = none → s.tablesChanged = false →
     ∃ t out, exec .cycleStart s = .next t ∧ t = { s with lpc := t.lpc } ∧ t.lpc.cycle = some (.marker :: out) ∧
       out.length = 31 ∧ (∀ n, 1 ≤ n → n ≤ 31 → s.SlotCarries n (out.getD (n - 1) .filler)) ∧
       t.lpc = { s.lpc with cycle := t.lpc.cycle, drops := t.lpc.drops } ∧
       ∀ a, ∃ f : Drop → Drop, t.dropAt a = (s.dropAt a).map f ∧
         ∀ d, f d = { d with
           begun := (f d).begun, held := (f d).held, outbound := (f d).outbound, statusMark := (f d).statusMark }) ∧
  (∀ (s : State) (a : Nat) (d : Drop), s.isRunning = true → s.lpc.cycle = none → s.tablesChanged = false →
     s.lpc.loop = .running → s.lpc.drops.map Drop.addr = List.range' 1 28 → s.dropAt a = some d →
     d.canReceive = true →
     ∃ t out e, exec .cycleStart s = .next t ∧ t.lpc.cycle = some (.marker :: out) ∧ t.dropAt a = some e ∧
       t.segmentsDue e = (s.segmentsDue d).drop (s.usableSlots d).length ∧
       ∀ i n, (s.usableSlots d)[i]? = some n → ∃ h, out.getD (n - 1) .filler = .half h ∧
         (h.first, h.last, h.bytes) = (s.segmentsDue d).getD i (false, false, [])) ∧
  (∀ s : State, s.isRunning = true → s.lpc.cycle = none → s.dyc.params.dropTable.length = 28 →
     s.lpc.drops.map Drop.addr = List.range' 1 28 →
     ∃ t, exec .cycleStart s = .next t ∧ t.lpc.slotMap = s.dyc.params.slotMap ∧
       t.lpc.drops.map (fun d => (d.kind, d.group)) = s.dyc.params.dropTable ∧ t.dyc = s.dyc ∧
       (s.tablesChanged = true → ∀ a d e, s.dropAt a = some d → t.dropAt a = some e →
         e.kind ≠ d.kind ∨ firstSlot s.dyc.params.slotMap a = none →
         e.state = .absent ∧ e.score = 0 ∧ e.outbound = [] ∧ e.held = none ∧ e.begun = [] ∧ e.assembly = []))

/-- A slipped cycle, by its marker, by a late return or by none, is counted, scores nothing, and takes the
seen-once marks and the partial messages; every message that had a segment in it starts again; the eighth in a
row brings LOOP-FAULT, where every final reply becomes its drop's held reply (R12, R13). In LOOP-FAULT a good
cycle is counted and nothing of it is taken; the second in a row returns the loop to RUNNING, with every drop
out of step and a status line queued for every ACTIVE or DEGRADED TELLER drop (R13). -/
def Obligations.SlippedCycleAndLoopFault : Prop :=
  (∀ (s : State) (c : Instr),
     c = .cycleNotBackAtPeriodEnd ∨ (∃ x, c = .cycleReturn x ∧ (x.markerInPlace && x.inTime) = false) →
     s.isRunning = true → s.lpc.cycle.isSome = true →
     ∃ t, exec c s = .next t ∧ t = { s with lpc := t.lpc } ∧ t.lpc.cycle = none ∧ t.lpc.goodRun = 0 ∧
       t.lpc.slips = (if s.lpc.slips < 65535 then s.lpc.slips + 1 else s.lpc.slips) ∧
       t.lpc.notices = s.lpc.notices ∧ t.lpc.noticeCounter = s.lpc.noticeCounter ∧ t.lpc.slotMap = s.lpc.slotMap ∧
       (s.lpc.loop = .loopFault →
         t.lpc.loop = .loopFault ∧ t.lpc.slipRun = s.lpc.slipRun ∧ t.lpc.drops = s.lpc.drops) ∧
       (s.lpc.loop = .running → t.lpc.slipRun = s.lpc.slipRun + 1 ∧
         (s.lpc.slipRun + 1 < 8 → t.lpc.loop = .running ∧ t.lpc.drops = s.lpc.drops.map fun d =>
           { d with
             sigs := d.sigs.skip, assembly := [], outOfStep := true
             begun := d.begun.map fun b => if b.inCycle then ⟨b.msg, 0, false⟩ else b }) ∧
         (8 ≤ s.lpc.slipRun + 1 → t.lpc.loop = .loopFault ∧ t.lpc.drops = s.lpc.drops.map fun d =>
           { d with
             sigs := d.sigs.skip, assembly := [], outOfStep := true, begun := [], outbound := []
             held := d.held <|> (d.begun.map Begun.msg).find? isFinal <|> d.outbound.find? isFinal }))) ∧
  (∀ (s : State) (x : ReturnedCycle), s.isRunning = true → s.lpc.cycle.isSome = true → s.lpc.loop = .loopFault →
     x.markerInPlace = true → x.inTime = true →
     (s.lpc.goodRun = 0 →
       exec (.cycleReturn x) s = .next { s with lpc := { s.lpc with cycle := none, goodRun := 1 } }) ∧
     (1 ≤ s.lpc.goodRun →
       exec (.cycleReturn x) s = .next { s with lpc := { s.lpc with
         cycle := none, loop := .running, slipRun := 0, goodRun := 0
         drops := s.lpc.drops.map fun d => { d with
           outOfStep := true
           statusMark := d.statusMark || (d.canReceive && d.kind == .teller) } } }))

/-- A good cycle scores an ACTIVE drop that owns one slot: 8 more for a half that is missing, fails its check or
echoes another slot, 1 less for a clean empty segment; the score then says the drop's state, a confirmed
SELF-FAULT fences it, and a final reply whose last segment the cycle carried ends the work item (R4, R5, R7,
R14; an unfilled half gives no sample, assumption 30). A drop with several slots takes the halves of all of them in
slot order while it is ACTIVE, and of its first slot alone while it is DEGRADED, each judged, assembled and scored
(R3, R5, R6). A FENCED drop keeps its score; a clean probe reply raises its run, another sets it to 0; at the end of
the cycle in which the run is 32 with SELF-FAULT confirmed off it is ACTIVE with score 0, out of step, with a status
line queued and the session SUSPENDED there ACTIVE again (R9, R30). A held reply is the first message that a drop is
sent once it can receive (R4, R8, R9). -/
def Obligations.GoodCycleScores : Prop :=
  (∀ (s : State) (x : ReturnedCycle) (a n : Nat) (d : Drop) (h : List Byte) (score : Nat) (sigs : DropSigs),
     s.Scores x a d → d.state = .active → mappedSlots s.lpc.slotMap a = [n] →
     h = x.halves.getD (n - 1) [] →
     ((cleanHalf n h = false ∧ score = min 255 (d.score + 8) ∧ sigs = d.sigs.skip) ∨
       (cleanHalf n h = true ∧ upEmpty h = true ∧ score = d.score - 1 ∧ sigs = d.sigs.sample (upSignals h))) →
     ∃ t e, exec (.cycleReturn x) s = .next t ∧ t.dropAt a = some e ∧ t.lpc.cycle = none ∧ t.lpc.slipRun = 0 ∧
       e.sigs = sigs ∧
       (if sigs.selfFault.confirmed = true ∨ 192 ≤ score then e.state = .fenced ∧ e.score = max score 192
        else e.score = score ∧ e.state = (if 96 ≤ score then .degraded else .active) ∧
         (d.begun.any (fun b => b.complete && isFinal b.msg) = true → t.txnAt a = none))) ∧
  (∀ (s : State) (x : ReturnedCycle) (a n : Nat) (rest : List Nat) (d z : Drop) (h : List Byte) (sigs : DropSigs),
     s.Scores x a d → mappedSlots s.lpc.slotMap a = n :: rest → h = x.halves.getD (n - 1) [] →
     ((d.state = .active ∧ z = d.takeHalves x.halves (n :: rest)) ∨
       (d.state = .degraded ∧ z = d.takeHalves x.halves [n])) →
     sigs = (if cleanHalf n h then d.sigs.sample (upSignals h) else d.sigs.skip) →
     ∃ t e, exec (.cycleReturn x) s = .next t ∧ t.dropAt a = some e ∧ e.sigs = sigs ∧ e.outOfStep = z.outOfStep ∧
       (if sigs.selfFault.confirmed = true ∨ 192 ≤ z.score then
          e.state = .fenced ∧ e.score = max z.score 192 ∧ e.assembly = []
        else e.score = z.score ∧ e.assembly = z.assembly ∧
          e.state = (if 96 ≤ z.score then .degraded else .active) ∧
          (e.state ≠ d.state → d.kind = .teller → e.statusMark = true))) ∧
  (∀ (s : State) (x : ReturnedCycle) (a n run : Nat) (rest : List Nat) (d : Drop) (h : List Byte) (fault : Sig),
     s.Scores x a d → d.state = .fenced → mappedSlots s.lpc.slotMap a = n :: rest → h = x.halves.getD (n - 1) [] →
     run = (if cleanHalf n h then min 32 (d.probeRun + 1) else 0) →
     fault = (if cleanHalf n h then d.sigs.selfFault.sample (upSignals h).selfFault else d.sigs.selfFault.skip) →
     ∃ t e, exec (.cycleReturn x) s = .next t ∧ t.dropAt a = some e ∧
       e.sigs = ⟨d.sigs.drawerOpen.skip, d.sigs.keyOperate.skip, d.sigs.bookIn.skip, fault⟩ ∧
       (run < 32 ∨ fault.confirmed = true →
         e.state = .fenced ∧ e.score = d.score ∧ e.probeRun = run ∧ e.outOfStep = d.outOfStep) ∧
       (run = 32 → fault.confirmed = false →
         e.state = .active ∧ e.score = 0 ∧ e.probeRun = 0 ∧ e.outOfStep = true ∧
         (d.kind = .teller → e.statusMark = true ∧
           (∀ y ∈ t.rqu.tellers, y.station = some a → y.session ≠ .suspended) ∧
           ((∀ m, m ≠ n → cleanHalf m (x.halves.getD (m - 1) []) = false) → e.held = d.held ∧
             ∀ k y, s.tellerOf k = some y → y.station = some a → y.session = .suspended →
               t.tellerOf k = some { y with session := .active })))) ∧
  (∀ (s : State) (a n : Nat) (rest : List Nat) (d : Drop) (m : DownMessage),
     s.isRunning = true → s.lpc.cycle = none → s.tablesChanged = false → s.lpc.loop = .running →
     s.lpc.drops.map Drop.addr = List.range' 1 28 → s.dropAt a = some d → d.canReceive = true →
     mappedSlots s.lpc.slotMap a = n :: rest → d.begun.any Begun.unsent = false → d.held = some m →
     ∃ t out o e, exec .cycleStart s = .next t ∧ t.lpc.cycle = some (.marker :: out) ∧
       out.getD (n - 1) .filler = .half o ∧ o.first = true ∧ o.last = decide ((messageBytes m).length ≤ 16) ∧
       o.bytes = (messageBytes m).take 16 ∧ t.dropAt a = some e ∧ e.held = none)

/-- An ABSENT drop of the announced type that has a slot becomes ACTIVE, takes its signals from the ANNOUNCE, and
starts its notices at the oldest retained one. A drawer announced open with no release outstanding raises the drawer
alert and asks for its record; a printer that announces a book is asked for the stripe (R10, R15, R77, R142). An
ANNOUNCE from an ACTIVE or DEGRADED drop keeps its state, score and signals: its messages are given up but for its
final reply, which is sent again first, the assembly buffer stays, and one whose last segment went out in the cycle
is given up too (assumption 31); a printer's session is ended as by the removal of its book (R11, R151). It is taken
whatever the outbound queue holds (assumption 55). An ANNOUNCE of the wrong kind is discarded (R10, R11), and one
from a FENCED drop, from an ABSENT drop with no slot or in LOOP-FAULT is not taken (assumption 31). -/
def Obligations.AnnounceJoinsOrRestarts : Prop :=
  (∀ (s : State) (a : Nat) (kind : DropType) (g : Signals) (d : Drop),
     s.isRunning = true → s.lpc.loop = .running → s.dropAt a = some d → d.state = .absent → d.kind = kind →
     (firstSlot s.lpc.slotMap a).isSome = true →
     ∃ t e, exec (.announce a kind g) s = .next t ∧ t.dropAt a = some e ∧
       e.state = .active ∧ e.score = 0 ∧ e.probeRun = 0 ∧ e.assembly = [] ∧ e.outOfStep = false ∧
       e.sigs = ⟨⟨g.drawerOpen, none⟩, ⟨g.keyOperate, none⟩, ⟨g.bookIn, none⟩, ⟨g.selfFault, none⟩⟩ ∧
       e.nextNotice = (s.lpc.notices.head?.map Notice.number).getD s.lpc.noticeCounter ∧
       (kind = .teller → e.statusMark = true ∧ e.outbound = d.outbound) ∧
       (kind = .teller → g.drawerOpen = d.sigs.drawerOpen.confirmed →
         e.alert = d.alert ∧ e.release = d.release ∧ t.jnc = s.jnc) ∧
       (kind = .teller → g.drawerOpen = false → d.sigs.drawerOpen.confirmed = true →
         e.alert = false ∧ t.jnc = s.jnc) ∧
       (kind = .teller → g.drawerOpen = true → d.sigs.drawerOpen.confirmed = false → e.release = false ∧
         (d.release = true → e.alert = d.alert ∧ t.jnc = s.jnc) ∧
         (d.release = false → e.alert = true ∧
           (s.journalTakes (.drawerAlert none) = true → s.Wrote t
             (entry (.drawerAlert ((s.tellerAt a).bind Teller.heldDrawer)) (some a)
               ((s.tellerAt a).map Teller.number))) ∧
           (s.journalTakes (.drawerAlert none) = false → t.jnc = s.jnc))) ∧
       (kind = .printer →
         (g.drawerOpen = false → d.sigs.drawerOpen.confirmed = true → e.alert = false ∧ e.release = d.release) ∧
         (g.drawerOpen = true → d.sigs.drawerOpen.confirmed = false → e.alert = d.alert ∧ e.release = false)) ∧
       (kind = .printer → g.bookIn = true → d.sigs.bookIn.confirmed = false → d.outbound.length < 4 →
         (s.sessionOf a).any (fun x => x.state == .idle) = true →
         t.sessionState a = .identify ∧ e.outbound = d.outbound ++ [.readStripe])) ∧
  (∀ (s : State) (a : Nat) (kind : DropType) (g : Signals) (d : Drop),
     s.isRunning = true → s.lpc.loop = .running → s.dropAt a = some d → d.canReceive = true → d.kind = kind →
     ∃ t e, exec (.announce a kind g) s = .next t ∧ t.dropAt a = some e ∧
       e = { d with
         held := d.held <|> (d.begun.map Begun.msg).find? isFinal <|> d.outbound.find? isFinal
         begun := [], outbound := e.outbound, statusMark := e.statusMark } ∧
       (kind = .teller → e.outbound = [] ∧ e.statusMark = true ∧ t = { s with lpc := t.lpc } ∧ s.OnlyDrop t a) ∧
       (kind = .printer → (s.sessionOf a).isSome = true → e.statusMark = d.statusMark ∧
         if d.sigs.bookIn.confirmed = true then t.sessionState a = .identify ∧ e.outbound = [.readStripe]
         else t.sessionState a = .idle ∧ e.outbound = [])) ∧
  (∀ (s : State) (a : Nat) (kind : DropType) (g : Signals) (d : Drop), s.dropAt a = some d →
     d.kind ≠ kind ∨ d.state = .fenced ∨ (d.state = .absent ∧ firstSlot s.lpc.slotMap a = none) ∨
       s.lpc.loop = .loopFault → exec (.announce a kind g) s = .next s)

/-- NOTICE-NEXT answers with the oldest retained notice for the drop's group from its next number on, or
NO-NOTICE, with the count of numbers missed, and moves the next number past it (R20, R21). -/
def Obligations.NoticeNextAnswers : Prop :=
  ∀ (s : State) (a : Nat) (d : Drop), s.Hears a d →
    let oldest := (s.lpc.notices.head?.map Notice.number).getD d.nextNotice
    let missed := if d.nextNotice < oldest then some (oldest - d.nextNotice) else none
    let found := s.lpc.notices.find? fun n =>
      n.groups.getLsbD (d.group - 1) && decide (d.nextNotice ≤ n.number) && decide (oldest ≤ n.number)
    ∃ t e, exec (.noticeNext a) s = .next t ∧ t = { s with lpc := t.lpc } ∧ s.OnlyDrop t a ∧ t.dropAt a = some e ∧
      e = { d.told (match found with
              | some n => .notice n.number n.text missed
              | none => .noNotice missed) with
            nextNotice := (match found with
              | some n => n.number + 1
              | none => s.lpc.noticeCounter)
            statusMark := d.statusMark || unseenCount s.lpc.notices d != unseenCount s.lpc.notices e }

/-! ### Requests and the transaction path -/

/-- A request from a station whose key is off is answered STATION-LOCKED; with nobody signed on it is answered
NOT-SIGNED-ON, a SIGN-ON apart; a supervisor request of a teller who is none is answered NOT-PERMITTED, of one
in training TRAINING-REFUSED; nothing else changes (R23, R27). A message completed while its drop's outbound
queue holds 3 messages or more is discarded and counted, and has no other effect (R6). A drop with a work item
answers a TXN-REQUEST with BUSY (R45, check 2). A transfer or a count is answered NOT-SIGNED-ON for a session that is
not ACTIVE, TRAINING-REFUSED in training and BUSY with a work item, in that order (R79, checks 2 to 4). -/
def Obligations.RequestsNeedTheirSender : Prop :=
  (∀ (c : Instr) (s : State) (a : Nat) (d : Drop), requestOf c = some a → s.Hears a d →
     (d.sigs.keyOperate.confirmed = false → s.OnlyAnswers c a d .stationLocked) ∧
     (d.sigs.keyOperate.confirmed = true → s.tellerAt a = none → (∀ n k, c ≠ .signOn a n k) →
       s.OnlyAnswers c a d .notSignedOn) ∧
     (supervisorRequest c = true → ∀ x, s.Attends a d x →
       (x.supervises = false → s.OnlyAnswers c a d .notPermitted) ∧
       (x.supervises = true → x.training = true → s.OnlyAnswers c a d .trainingRefused))) ∧
  (∀ (c : Instr) (s : State) (a : Nat) (d : Drop),
     ((requestOf c = some a ∨ c = .noticeNext a) ∧ d.kind = .teller) ∨
       (printerMessageOf c = some a ∧ d.kind = .printer) →
     s.isRunning = true → s.lpc.loop = .running → s.dropAt a = some d → d.canReceive = true →
     3 ≤ d.outbound.length →
     ∃ t, exec c s = .next t ∧ t = { s with lpc := t.lpc } ∧ s.OnlyDrop t a ∧
       t.dropAt a = some { d with refused := if d.refused < 255 then d.refused + 1 else d.refused }) ∧
  (∀ (s : State) (a : Nat) (d : Drop) (x : Teller) (f : TxnFields),
     s.Attends a d x → x.session = .active → s.hasWork a = true → s.OnlyAnswers (.txnRequest a f) a d .busy) ∧
  (∀ (c : Instr) (s : State) (a : Nat) (d : Drop) (x : Teller), requestOf c = some a → cashRequest c = true →
     s.Attends a d x →
     (x.session ≠ .active → s.OnlyAnswers c a d .notSignedOn) ∧
     (x.session = .active → x.training = true → s.OnlyAnswers c a d .trainingRefused) ∧
     (x.session = .active → x.training = false → s.hasWork a = true → s.OnlyAnswers c a d .busy))

/-- A request that fails one of checks 3 to 9 is refused with the first check's outcome: the final reply is handed
over with, for the amount check, the leg concerned, the work item is ANSWERED, and nothing is posted (R42, R45, R57;
the leg, assumption 24; the code of a request with none that can be read, assumption 49; an account of more than 12
digits, assumption 8). -/
def Obligations.EarlyChecksRefuse : Prop :=
  ∀ (s : State) (a : Nat) (d : Drop) (x : Teller) (f : TxnFields) (r : Result)
    (note : Option LegNote),
    s.Asks a d x → s.earlyRefusal x f = some (r, note) → (s.dyc.day = .closeDrain → s.noneUndecided = false) →
    ∃ t y, exec (.txnRequest a f) s = .next t ∧ t = { s with lpc := t.lpc, rqu := t.rqu } ∧
      s.OnlyDrop t a ∧ t.dropAt a = some (d.told (.final (refusalReply (readCode f.code) r note))) ∧
      s.OnlyTxn t a x.number ∧ t.txnAt a = some y ∧ y.stage = .answered ∧ y.outcome = some r ∧
      y.fields = f ∧ y.teller = x.number

/-- A cleared transaction of LOCAL routing is posted with disposition DONE, its cash legs are applied together,
the release is set when cash moved, and DONE carries the sequence (R53, R74). A NEW-BOOK is first handed to the PBU,
which refuses it NO-ACCOUNT for an account with no passbook part and NOT-PERMITTED while its session flag is set, with
no record written; otherwise the next position becomes page 1, line 1, the marker absent, and a BROUGHT FWD line heads
the list when the pool has a free line, with every balance and every other line as it was (R153). -/
def Obligations.LocalTransactionIsPosted : Prop :=
  (∀ (s : State) (a : Nat) (d : Drop) (x : Teller) (f : TxnFields) (y : Txn) (g : Definition),
     s.Asks a d x → s.Cleared a d x f y g → y.routing = .localOnly → s.isNewBook g = false →
     s.jnc.postingsClosed = false →
     ∃ t m, exec (.txnRequest a f) s = .next t ∧
       t = { s with lpc := t.lpc, rqu := t.rqu, csu := t.csu, jnc := t.jnc, tkc := t.tkc } ∧
       s.Wrote t (entry (.posting ⟨y.defIndex, y.code.getD 0, y.account, y.legs, y.exchange, .localMode⟩) (some a)
         (some x.number) none (some .done)) ∧
       s.CashApplied t y ∧ s.OnlyReports t ∧ s.OnlyDropAndMarks t a ∧ s.OnlyTxn t a x.number ∧
       t.txnAt a = some { y with stage := .answered, outcome := some .done, seq := some (s.jnc.counter + 1) } ∧
       t.dropAt a = some { d.told (.final { refusalReply y.code .done none with
           seq := some (s.jnc.counter + 1), legs := y.legs, reduced := y.reduced, unsold := y.unsold }) with
         release := d.releasedBy y, statusMark := m }) ∧
  (∀ (s : State) (a n : Nat) (d : Drop) (x : Teller) (f : TxnFields) (y : Txn) (g : Definition),
     s.Asks a d x → s.Cleared a d x f y g → y.routing = .localOnly → s.isNewBook g = true → g.mode = .home →
     y.account = some n →
     (∀ r, (s.bookOf n = none ∧ r = .noAccount) ∨
         (∃ b, s.bookOf n = some b ∧ b.session.isSome = true ∧ r = .notPermitted) →
       ∃ t, exec (.txnRequest a f) s = .next t ∧ t = { s with lpc := t.lpc, rqu := t.rqu } ∧ s.OnlyDrop t a ∧
         t.dropAt a = some (d.told (.final (refusalReply y.code r none))) ∧ s.OnlyTxn t a x.number ∧
         t.txnAt a = some { y with stage := .answered, outcome := some r }) ∧
     (∀ b, s.bookOf n = some b → b.session = none → s.jnc.postingsClosed = false →
       ∃ t m b', exec (.txnRequest a f) s = .next t ∧
         t = { s with lpc := t.lpc, rqu := t.rqu, jnc := t.jnc, tkc := t.tkc, siu := t.siu } ∧
         s.Wrote t (entry (.posting ⟨y.defIndex, y.code.getD 0, some n, [], none, .localMode⟩) (some a)
           (some x.number) none (some .done)) ∧
         t.siu = { s.siu with sat := t.siu.sat } ∧ (∀ k, k ≠ n → t.satAt k = s.satAt k) ∧
         t.satAt n = (s.satAt n).map (fun e => { e with book := some b' }) ∧
         b' = { b with next := .line 1 1, marker := none, pending := b'.pending } ∧
         (0 < s.poolFree → b'.pending = ⟨s.dyc.date, .broughtFwd, 1, 0, .branch, none⟩ :: b.pending) ∧
         (s.poolFree = 0 → b'.pending = b.pending) ∧
         s.OnlyReports t ∧ s.OnlyDropAndMarks t a ∧ s.OnlyTxn t a x.number ∧
         t.txnAt a = some { y with stage := .answered, outcome := some .done, seq := some (s.jnc.counter + 1) } ∧
         t.dropAt a = some { d.told (.final { refusalReply y.code .done none with
             seq := some (s.jnc.counter + 1) }) with statusMark := m }))

/-- A cleared transaction to be decided online takes the lowest-numbered FREE slot while the link is ONLINE, or
joins the wait list's tail; while the link is SUSPECT it joins the list; nothing is posted yet (R44, R48). -/
def Obligations.OnlineTransactionIsForwarded : Prop :=
  ∀ (s : State) (a : Nat) (d : Drop) (x : Teller) (f : TxnFields) (y : Txn) (g : Definition),
    s.Asks a d x → s.Cleared a d x f y g → y.routing ≠ .localOnly →
    s.tkc.link = .online ∨ s.tkc.link = .suspect →
    ∃ t, exec (.txnRequest a f) s = .next t ∧ t = { s with rqu := t.rqu, tkc := t.tkc } ∧
      t.rqu = { s.rqu with txns := t.rqu.txns, waitList := t.rqu.waitList } ∧ (∀ b, b ≠ a → t.txnAt b = s.txnAt b) ∧
      (s.tkc.link = .online → ∀ i, s.lowestFree = some i →
        t.txnAt a = some { y with stage := .queued, slot := some i } ∧ t.rqu.waitList = s.rqu.waitList ∧
        t.tkc = { s.tkc with slots := t.tkc.slots } ∧ (∀ j, j ≠ i → t.slotAt j = s.slotAt j) ∧
        t.slotAt i = some ⟨i, .queued, a, .txnForward, 0, .stopped⟩) ∧
      (s.tkc.link = .suspect ∨ (s.tkc.link = .online ∧ s.lowestFree = none) →
        t.txnAt a = some { y with stage := .waitListed, slot := none } ∧
        t.rqu.waitList = s.rqu.waitList ++ [a] ∧ t.tkc = s.tkc)

/-- While the link is OFFLINE or RESYNC, a cleared transaction of STAND-IN routing that passes the stand-in
checks is posted with disposition ADVICE-PENDING, its advice queued, its account's entry and drawer moved, and
APPROVED-STAND-IN carries the snapshot; a passbook line asked for is appended with origin STAND-IN, or left out with
PASSBOOK-RANGE raised. A check of the SAT or the SFQ that fails refuses it, and nothing is posted. One of ONLINE-ONLY
routing is refused HEAD-OFFICE-UNAVAILABLE (R48, R112 to R115, R118, R139; a line that joins an overflow whose count
is 0 adds to the amount left over there, assumption 40). -/
def Obligations.StandInIsPosted : Prop :=
  ∀ (s : State) (a : Nat) (d : Drop) (x : Teller) (f : TxnFields) (y : Txn) (g : Definition),
    s.Asks a d x → s.Cleared a d x f y g → s.tkc.link = .offline ∨ s.tkc.link = .resync →
    (y.routing = .onlineOnly → ∃ t, exec (.txnRequest a f) s = .next t ∧
      t = { s with lpc := t.lpc, rqu := t.rqu } ∧ s.OnlyDrop t a ∧ s.OnlyTxn t a x.number ∧
      t.dropAt a = some (d.told (.final (refusalReply y.code .headOfficeUnavailable none)))) ∧
    (∀ n l r, y.routing = .standInAllowed → y.account = some n → accountLeg y.legs = some l →
      s.standInFails n l = some r → ∃ t, exec (.txnRequest a f) s = .next t ∧
        t = { s with lpc := t.lpc, rqu := t.rqu } ∧ s.OnlyDrop t a ∧ s.OnlyTxn t a x.number ∧
        t.dropAt a = some (d.told (.final (refusalReply y.code r none))) ∧
        t.txnAt a = some { y with stage := .answered, outcome := some r }) ∧
    (∀ n e l, y.routing = .standInAllowed → y.account = some n → accountLeg y.legs = some l →
      s.satAt n = some e → e.kind = .full → e.blocked = false →
      (l.kind = .accountDebit → e.used + l.amount ≤ e.limit ∧ (l.amount : Int) ≤ e.snapshot) →
      s.siu.sfq.length < 2040 → s.jnc.postingsClosed = false →
      let e' := if l.kind = .accountDebit then
          { e with used := e.used + l.amount, snapshot := e.snapshot - l.amount, net := e.net - l.amount }
        else { e with
          snapshot := max (-999999999999) (min (e.snapshot + l.amount) 999999999999), net := e.net + l.amount }
      ∃ t m, exec (.txnRequest a f) s = .next t ∧
        t = { s with lpc := t.lpc, rqu := t.rqu, csu := t.csu, jnc := t.jnc, tkc := t.tkc, siu := t.siu } ∧
        s.Wrote t (entry (.posting ⟨y.defIndex, y.code.getD 0, y.account, y.legs, y.exchange, .standIn⟩) (some a)
          (some x.number) none (some .advicePending)) ∧
        t.siu = { s.siu with sfq := s.siu.sfq ++ [⟨s.jnc.counter + 1, .posting⟩], sat := t.siu.sat } ∧
        (∀ k, k ≠ n → t.satAt k = s.satAt k) ∧
        (∃ b, t.satAt n = some { e' with book := b } ∧
          s.BookTakes t n (passbookLine g y.legs s.dyc.date .standIn (s.jnc.counter + 1)) e.book b) ∧
        s.CashApplied t y ∧ s.OnlyDropAndMarks t a ∧ s.OnlyTxn t a x.number ∧
        t.txnAt a = some { y with
          stage := .answered, outcome := some .approvedStandIn, seq := some (s.jnc.counter + 1) } ∧
        t.dropAt a = some { d.told (.final { refusalReply y.code .approvedStandIn none with
            seq := some (s.jnc.counter + 1), legs := y.legs, unsold := y.unsold, snapshot := some e'.snapshot }) with
          release := d.releasedBy y, statusMark := m })

/-- A checked transaction of a class the teller may not handle alone, or above the cash limit, is held:
OVERRIDE-NEEDED carries the reason, the amount and the limit, the hold timer starts, status lines are queued at
every supervisor's drop, and nothing is posted (R33). -/
def Obligations.OverrideHolds : Prop :=
  ∀ (s : State) (a : Nat) (d : Drop) (x : Teller) (f : TxnFields) (y : Txn) (g : Definition) (r : HoldReason),
    s.Asks a d x → s.Checked a x f y g → y.drawer = none → x.training = false →
    r = x.holdReason g y.legs →
    (r.cls || r.amount) = true →
    ∃ t m, exec (.txnRequest a f) s = .next t ∧ t = { s with lpc := t.lpc, rqu := t.rqu } ∧
      s.OnlyDropAndMarks t a ∧ t.rqu = { s.rqu with txns := t.rqu.txns } ∧
      (∀ b, b ≠ a → t.txnAt b = s.txnAt b) ∧
      t.txnAt a = some { y with
        stage := .held, reason := some r, compared := amountCompared y.legs, holdTimer := .running 120 } ∧
      t.dropAt a = some { d.told (.overrideNeeded r (amountCompared y.legs) x.cashLimit) with statusMark := m } ∧
      (∀ w ∈ s.rqu.tellers, w.signedOn = true → w.supervises = true → ∀ b e, w.station = some b →
        t.dropAt b = some e → e.kind = .teller → e.statusMark = true)

/-- Whatever a teller in training asks, a TXN-REQUEST moves no money and writes no record: the journal, the
drawers, the accounts, the printers and the trunk stay as they were (R31, R32). One that passes checks 3 to 9 is
answered TRAINING-OK with the route that would have been taken, LOCAL, ONLINE or STAND-IN, the legs, the unsold
remainder and the override reason there would have been, by the teller's own masks and limit (assumption 28); with the
link RESYNC or OFFLINE it is refused HEAD-OFFICE-UNAVAILABLE for ONLINE-ONLY routing, and by the checks of the SAT and
the SFQ in stand-in (R31, R33, R48, R113). -/
def Obligations.TrainingMovesNothing : Prop :=
  ∀ (s : State) (a : Nat) (d : Drop) (x : Teller) (f : TxnFields),
    s.Attends a d x → x.training = true → (s.dyc.day = .closeDrain → s.noneUndecided = false) →
    ∃ t, exec (.txnRequest a f) s = .next t ∧ t = { s with lpc := t.lpc, rqu := t.rqu } ∧ s.OnlyDrop t a ∧
      ∀ y g, s.Asks a d x → s.Checked a x f y g → y.drawer = none →
        let r := x.holdReason g y.legs
        let would := if (r.cls || r.amount) = true then some r else none
        let passes := fun route : TrainingRoute =>
          t.dropAt a = some (d.told (.final { refusalReply y.code .trainingOk none with
            legs := y.legs, unsold := y.unsold, route := some route, wouldHold := would })) ∧
          t.txnAt a = some { y with stage := .answered, outcome := some .trainingOk, wouldHold := would }
        let fails := fun q : Result =>
          t.dropAt a = some (d.told (.final (refusalReply y.code q none))) ∧
          t.txnAt a = some { y with stage := .answered, outcome := some q, wouldHold := would }
        (y.routing = .localOnly → passes .localRoute) ∧
        (y.routing ≠ .localOnly → s.tkc.link = .online ∨ s.tkc.link = .suspect → passes .online) ∧
        (s.tkc.link = .offline ∨ s.tkc.link = .resync →
          (y.routing = .onlineOnly → fails .headOfficeUnavailable) ∧
          ∀ n l, y.routing = .standInAllowed → y.account = some n → accountLeg y.legs = some l →
            (s.standInFails n l = none → passes .standIn) ∧ ∀ q, s.standInFails n l = some q → fails q)

/-- An accepted OVERRIDE-GRANT ends the hold, saves the teller's allowance once, adds the held class to it, sets
the granting supervisor and limit, answers DONE, and sends the transaction through the path again from the
branch class mask check (R35). -/
def Obligations.GrantReentersThePath : Prop :=
  ∀ (s : State) (a b : Nat) (d : Drop) (sup : Teller) (y : Txn) (g : Definition),
    s.Supervises a d sup → a ≠ b → s.txnAt b = some y → y.stage = .held → y.teller ≠ sup.number →
    y.defn = some g → (y.reason.any (fun r => r.amount) = true → ∀ n, y.compared = some n → n ≤ sup.cashLimit) →
    ∃ u e, exec (.overrideGrant a b) s = .next (u.fromMask { y with
        stage := .checking, holdTimer := .stopped, limit := some sup.cashLimit, supervisor := some sup.number } g) ∧
      u = { s with lpc := u.lpc, rqu := u.rqu } ∧ s.OnlyDropAndMarks u a ∧
      u.dropAt a = some e ∧ e = { d.told (.answer .done .nothing) with statusMark := e.statusMark } ∧
      u.rqu = { s.rqu with
        txns := u.rqu.txns
        tellers := modifyKey Teller.number y.teller
          (fun x => { x with
            saved := some (x.saved.getD x.allowance), allowance := x.allowance ||| BitVec.twoPow 16 g.cls })
          s.rqu.tellers } ∧
      u.holdsOn b = false ∧ ∀ k, k ≠ b → u.txnAt k = s.txnAt k

/-- A hold that a deny, the hold timer or a CANCEL ends is refused OVERRIDE-DENIED, OVERRIDE-EXPIRED or
CANCELLED at its own drop, and the denying supervisor is answered DONE; nothing is posted (R36, R52). -/
def Obligations.HoldEndsWithoutAGrant : Prop :=
  ∀ (c : Instr) (s : State) (b : Nat) (e : Drop) (y : Txn) (r : Result),
    s.isRunning = true → s.lpc.loop = .running → s.dropAt b = some e → e.canReceive = true →
    e.outbound.length < 3 → s.txnAt b = some y → y.stage = .held → y.drop = b →
    (s.dyc.day = .opened ∨ s.dyc.day = .closeProposed) →
    ((∃ a d sup, c = .overrideDeny a b ∧ a ≠ b ∧ s.Supervises a d sup ∧ y.teller ≠ sup.number ∧
        r = .overrideDenied) ∨
      (c = .holdTimerExpiry b ∧ y.holdTimer ≠ .stopped ∧ r = .overrideExpired) ∨
      (∃ x, c = .cancel b ∧ s.Attends b e x ∧ r = .cancelled)) →
    ∃ t e', exec c s = .next t ∧ t = { s with lpc := t.lpc, rqu := t.rqu } ∧
      t.txnAt b = some { y with
        stage := .answered, slot := none, outcome := some r, limit := none, holdTimer := .stopped } ∧
      (∀ k, k ≠ b → t.txnAt k = s.txnAt k) ∧
      t.rqu = { s.rqu with
        txns := t.rqu.txns, tellers := modifyKey Teller.number y.teller Teller.restore s.rqu.tellers } ∧
      t.dropAt b = some e' ∧ e' = { e with
        outbound := e.outbound ++ [.final { refusalReply y.code r none with timedOut := y.timedOut }]
        statusMark := e'.statusMark } ∧
      ∀ a d, c = .overrideDeny a b → s.dropAt a = some d → ∃ d', t.dropAt a = some d' ∧
        d' = { d.told (.answer .done .nothing) with statusMark := d'.statusMark }

/-- CANCEL takes a WAIT-LISTED transaction off the list, or a QUEUED one out of its slot, which serves the wait
list; one on the trunk or answered is too late, and a drop with none is answered NOTHING-HELD (R49, R52). -/
def Obligations.CancelWithdraws : Prop :=
  ∀ (s : State) (a : Nat) (d : Drop) (x : Teller), s.Attends a d x →
    (s.txnAt a = none → s.OnlyAnswers (.cancel a) a d .nothingHeld) ∧
    (∀ y, s.txnAt a = some y → y.stage = .onTrunk ∨ y.stage = .answered →
      s.OnlyAnswers (.cancel a) a d .cancelTooLate) ∧
    (∀ y, s.txnAt a = some y → y.drop = a → s.dyc.day = .opened ∨ s.dyc.day = .closeProposed →
      y.stage = .waitListed ∨ (y.stage = .queued ∧ y.slot.isSome = true) →
      ∃ t, exec (.cancel a) s = .next t ∧ t = { s with lpc := t.lpc, rqu := t.rqu, tkc := t.tkc } ∧
        s.OnlyDrop t a ∧
        t.dropAt a = some (d.told (.final { refusalReply y.code .cancelled none with timedOut := y.timedOut })) ∧
        t.txnAt a = some { y with
          stage := .answered, slot := none, outcome := some .cancelled, limit := none, holdTimer := .stopped } ∧
        (y.stage = .waitListed → t.tkc = s.tkc ∧ t.rqu.waitList = s.rqu.waitList.filter (· != a)) ∧
        (∀ i, y.stage = .queued → y.slot = some i → s.tkc.link ≠ .online →
          t.rqu.waitList = s.rqu.waitList ∧
          t.slotAt i = (s.slotAt i).map (fun z => ⟨z.number, .free, 0, .txnForward, 0, .stopped⟩) ∧
          ∀ j, j ≠ i → t.slotAt j = s.slotAt j) ∧
        (∀ i b rest, y.stage = .queued → y.slot = some i → s.tkc.link = .online → s.rqu.waitList = b :: rest →
          s.lowestFree = none → (s.slotAt i).isSome = true →
          t.rqu.waitList = rest ∧ ∃ z, t.slotAt i = some z ∧ z.state = .queued ∧ z.drop = b))

/-! ### Sessions -/

/-- A SIGN-ON with the right check value begins the session: the teller is ACTIVE at the drop with masks and failure
count cleared, the record is written, the drawer is assigned, and DONE carries the teller's role, training flag and
drawer, the drawer of the entry also in training (R24, R73; assumption 29). A wrong check value is counted, the third
locks the teller out, and a locked, signed-on or unknown teller is refused without one; outside OPEN the day refuses
every SIGN-ON (R24, R25). A teller whose drawer another holds is answered NOT-PERMITTED, and one whose record the
journal cannot take JOURNAL-FULL, with nothing else changed (R24, checks 8 and 9). -/
def Obligations.SignOnBeginsOrIsRefused : Prop :=
  (∀ (s : State) (a n k : Nat) (d : Drop) (x : Teller),
     s.Hears a d → d.sigs.keyOperate.confirmed = true → s.dyc.day = .opened → s.tellerAt a = none →
     s.tellerOf n = some x → x.session = .signedOff → k = x.check →
     (x.training = false → ∀ j w, x.drawer = some j → s.holderOf j = some w → w.number = n) → s.SessionRoom x →
     ∃ t, exec (.signOn a n k) s = .next t ∧
       t = { s with lpc := t.lpc, rqu := t.rqu, csu := t.csu, jnc := t.jnc, tkc := t.tkc } ∧
       t.rqu = { s.rqu with
         tellers := modifyKey Teller.number n
           (fun y => { y with session := .active, station := some a, allowance := 0, saved := none, failures := 0 })
           s.rqu.tellers } ∧
       s.SessionRecorded t x .signOn a none ∧
       t.csu = (if x.training = true then s.csu else match x.drawer with
         | none => s.csu
         | some j => { s.csu with
             drawers := modifyKey Drawer.number j (fun w => { w with assigned := some n }) s.csu.drawers }) ∧
       s.OnlyReports t ∧ s.OnlyDropAndMarks t a ∧
       t.dropAt a = some { d.told (.answer .done (.signedOn x.role x.training x.drawer)) with statusMark := true }) ∧
  (∀ (s : State) (a n k : Nat) (d : Drop), s.Hears a d → d.sigs.keyOperate.confirmed = true →
     ((s.dyc.day = .noDay ∨ s.dyc.day = .loading) → s.OnlyAnswers (.signOn a n k) a d .dayNotOpen) ∧
     (s.dyc.day ≠ .noDay → s.dyc.day ≠ .loading → s.dyc.day ≠ .opened →
       s.OnlyAnswers (.signOn a n k) a d .dayClosing) ∧
     (s.dyc.day = .opened → (s.tellerAt a).isSome = true → s.OnlyAnswers (.signOn a n k) a d .alreadySignedOn) ∧
     (s.dyc.day = .opened → s.tellerAt a = none → s.tellerOf n = none →
       s.OnlyAnswers (.signOn a n k) a d .credentialFail) ∧
     (s.dyc.day = .opened → s.tellerAt a = none → ∀ x, s.tellerOf n = some x →
       (x.session = .lockedOut → s.OnlyAnswers (.signOn a n k) a d .lockedOut) ∧
       (x.signedOn = true → s.OnlyAnswers (.signOn a n k) a d .alreadySignedOn) ∧
       (x.session = .signedOff → k ≠ x.check →
         ∃ t, exec (.signOn a n k) s = .next t ∧ t = { s with lpc := t.lpc, rqu := t.rqu } ∧ s.OnlyDrop t a ∧
           (∀ j, j ≠ n → t.tellerOf j = s.tellerOf j) ∧ t.rqu = { s.rqu with tellers := t.rqu.tellers } ∧
           t.tellerOf n = some { x with
             failures := x.failures + 1, session := if x.failures < 2 then .signedOff else .lockedOut } ∧
           t.dropAt a = some (d.told
             (.answer (if x.failures < 2 then .credentialFail else .lockedOut) .nothing))) ∧
       (x.session = .signedOff → k = x.check →
         ((∃ j w, x.training = false ∧ x.drawer = some j ∧ s.holderOf j = some w ∧ w.number ≠ x.number) →
           s.OnlyAnswers (.signOn a n k) a d .notPermitted) ∧
         ((∀ j w, x.drawer = some j → s.holderOf j = some w → w.number = x.number) → x.training = false →
           65535 ≤ s.jnc.counter → s.OnlyAnswers (.signOn a n k) a d .journalFull))))

/-- SIGN-OFF ends the session with its record, clears the drop's release and queues its status line; a work
item, or in BALANCING a drawer not BALANCED, refuses it (R26). FORCE-SIGN-OFF ends the session at another drop,
with a record that names the supervisor; a decided work item there ends and its reply is discarded wherever it
stands; an undecided one refuses it (R29). -/
def Obligations.SignOffEnds : Prop :=
  (∀ (s : State) (a : Nat) (d : Drop) (x : Teller), s.Attends a d x →
     (s.hasWork a = true → s.OnlyAnswers (.signOff a) a d .inFlight) ∧
     (∀ n w, s.hasWork a = false → s.dyc.day = .balancing → x.heldDrawer = some n → s.drawerAt n = some w →
       w.balance ≠ .balanced → s.OnlyAnswers (.signOff a) a d .drawerNotBalanced) ∧
     (s.hasWork a = false → s.SessionRoom x →
       (s.dyc.day = .balancing → ∀ n w, x.heldDrawer = some n → s.drawerAt n = some w → w.balance = .balanced) →
       ∃ t, exec (.signOff a) s = .next t ∧
         t = { s with lpc := t.lpc, rqu := t.rqu, jnc := t.jnc, tkc := t.tkc, dyc := t.dyc } ∧
         t.rqu = { s.rqu with tellers := modifyKey Teller.number x.number Teller.ended s.rqu.tellers } ∧
         s.SessionRecorded t x .signOff a none ∧ s.OnlyExit t ∧ s.OnlyDropAndMarks t a ∧
         t.dropAt a = some { d.told (.answer .done .nothing) with release := false, statusMark := true })) ∧
  (∀ (s : State) (a b n : Nat) (d e : Drop) (sup x : Teller), s.Supervises a d sup →
     s.tellerOf n = some x → x.signedOn = true → x.station = some b → a ≠ b → s.dropAt b = some e → e.kind = .teller →
     ((∃ y, s.txnAt b = some y ∧ y.stage ≠ .answered) → s.OnlyAnswers (.forceSignOff a n) a d .inFlight) ∧
     ((∀ y, s.txnAt b = some y → y.stage = .answered) → s.SessionRoom x →
       ∃ t e', exec (.forceSignOff a n) s = .next t ∧
         t = { s with lpc := t.lpc, rqu := t.rqu, jnc := t.jnc, tkc := t.tkc, dyc := t.dyc } ∧
         t.rqu = { s.rqu with
           tellers := modifyKey Teller.number n Teller.ended s.rqu.tellers
           txns := eraseKey Txn.drop b s.rqu.txns } ∧
         s.SessionRecorded t x .signOff b (some sup.number) ∧ s.OnlyExit t ∧
         (∃ m, t.dropAt a = some { d.told (.answer .done .nothing) with statusMark := m }) ∧
         (∀ k, k ≠ a → k ≠ b → ∃ m, t.dropAt k = (s.dropAt k).map fun z => { z with statusMark := m }) ∧
         t.dropAt b = some e' ∧ e'.release = false ∧ e'.statusMark = true ∧ e'.state = e.state ∧
         ((s.txnAt b).isSome = true → e'.held = none ∧ (∀ m ∈ e'.outbound, isFinal m = false) ∧
           ∀ m ∈ e'.begun, isFinal m.msg = false)))

/-- UNLOCK makes a LOCKED-OUT teller SIGNED-OFF with failure count 0 and writes no record; any other teller
number is answered NOTHING-HELD (R28). -/
def Obligations.UnlockFreesATeller : Prop :=
  ∀ (s : State) (a n : Nat) (d : Drop) (x : Teller), s.Supervises a d x →
    ((∀ y, s.tellerOf n = some y → y.session ≠ .lockedOut) → s.OnlyAnswers (.unlock a n) a d .nothingHeld) ∧
    (∀ y, s.tellerOf n = some y → y.session = .lockedOut →
      ∃ t, exec (.unlock a n) s = .next t ∧ t = { s with lpc := t.lpc, rqu := t.rqu } ∧ s.OnlyDrop t a ∧
        t.dropAt a = some (d.told (.answer .done .nothing)) ∧
        t.rqu = { s.rqu with
          tellers := modifyKey Teller.number n (fun z => { z with session := .signedOff, failures := 0 })
            s.rqu.tellers })

/-! ### Cash -/

/-- An accepted TRANSFER-OUT raises the sender's transfer-out sum, lists the amount in transit under the number
answered, writes the giving record and sets the release (R78, R79). An accepted TRANSFER-ACCEPT moves the
entry's amount into the to-drawer's transfer-in sum and takes the entry off the list, with its record, the
release and DONE (R80). An accepted TRANSFER-RECALL takes the amount off the from-drawer's transfer-out sum
again and the entry off the list; the release is set only for the holder of the from-drawer, and a supervisor
may recall for a drawer with no holder (R81). Each is refused with the answer of the first of its checks that fails,
and nothing else changes (R79, checks 5 to 12; R80, checks 6 to 9; R81, checks 5 to 7). -/
def Obligations.TransfersMoveCash : Prop :=
  (∀ (s : State) (a n target amount : Nat) (c : Currency) (d : Drop) (x : Teller) (w v : Drawer),
     s.Holds a d x n w → s.drawerAt target = some v → target ≠ n → v.assigned.isSome = true →
     (s.dyc.day = .balancing → w.balance ≠ .held ∧ w.balance ≠ .balanced ∧ v.balance ≠ .held ∧ v.balance ≠ .balanced) →
     1 ≤ amount → amount ≤ 9999999999 → s.csu.transit.length < 16 → (amount : Int) ≤ (w.sums c).position →
     (w.sums c).transferOut + amount ≤ 999999999999 → s.TransferRoom → s.csu.TransitSound →
     ∃ t k m, exec (.transferOut a target (some c) amount) s = .next t ∧
       t = { s with lpc := t.lpc, csu := t.csu, jnc := t.jnc, tkc := t.tkc } ∧
       1 ≤ k ∧ k ≤ 16 ∧ (∀ e ∈ s.csu.transit, e.number ≠ k) ∧
       ((∀ e ∈ s.csu.transit, e.number ≠ s.csu.transitCounter) → k = s.csu.transitCounter) ∧
       t.csu.transit = s.csu.transit ++ [⟨k, n, target, c, amount, x.number, s.jnc.counter + 1⟩] ∧
       t.csu.transitCounter = (if k = 16 then 1 else k + 1) ∧ s.OnlyDrawerAndTransit t n ∧
       t.drawerAt n = some (w.onSums c fun y => { y with transferOut := y.transferOut + amount }).judged ∧
       s.Wrote t (entry (.transfer .give k n target c amount) (some a) (some x.number)) ∧
       s.OnlyReports t ∧ s.OnlyDropAndMarks t a ∧
       t.dropAt a = some { d.told (.answer .done (.transfer k)) with release := true, statusMark := m }) ∧
  (∀ (s : State) (a k n : Nat) (d : Drop) (x : Teller) (w : Drawer) (e : TransitEntry),
     s.Holds a d x n w → s.transitAt k = some e → e.target = n →
     (w.sums e.currency).position + e.amount ≤ 999999999999 →
     (w.sums e.currency).transferIn + e.amount ≤ 999999999999 → s.TransferRoom →
     ∃ t m, exec (.transferAccept a k) s = .next t ∧
       t = { s with lpc := t.lpc, csu := t.csu, jnc := t.jnc, tkc := t.tkc, dyc := t.dyc } ∧
       t.csu.transit = s.csu.transit.filter (fun y => y.number != k) ∧
       t.csu.transitCounter = s.csu.transitCounter ∧ s.OnlyDrawerAndTransit t n ∧
       t.drawerAt n = some (w.onSums e.currency fun y => { y with transferIn := y.transferIn + e.amount }).judged ∧
       s.Wrote t (entry (.transfer .accept k e.source n e.currency e.amount) (some a) (some x.number) none none
         (some e.seq)) ∧
       s.OnlyExit t ∧ s.OnlyDropAndMarks t a ∧
       t.dropAt a = some { d.told (.answer .done .nothing) with release := true, statusMark := m }) ∧
  (∀ (s : State) (a k : Nat) (d : Drop) (x : Teller) (w : Drawer) (e : TransitEntry),
     s.Cashier a d x → s.transitAt k = some e → s.drawerAt e.source = some w →
     x.heldDrawer = some e.source ∨ (x.supervises = true ∧ s.holderOf e.source = none) → s.TransferRoom →
     ∃ t m, exec (.transferRecall a k) s = .next t ∧
       t = { s with lpc := t.lpc, csu := t.csu, jnc := t.jnc, tkc := t.tkc, dyc := t.dyc } ∧
       t.csu.transit = s.csu.transit.filter (fun y => y.number != k) ∧
       t.csu.transitCounter = s.csu.transitCounter ∧ s.OnlyDrawerAndTransit t e.source ∧
       t.drawerAt e.source =
         some (w.onSums e.currency fun y => { y with transferOut := y.transferOut - e.amount }).judged ∧
       s.Wrote t (entry (.transfer .recall k e.source e.target e.currency e.amount) (some a) (some x.number) none none
         (some e.seq)) ∧
       s.OnlyExit t ∧ s.OnlyDropAndMarks t a ∧
       t.dropAt a = some { d.told (.answer .done .nothing) with
         release := d.release || decide (x.heldDrawer = some e.source), statusMark := m }) ∧
  (∀ (s : State) (a : Nat) (d : Drop) (x : Teller) (r : Result), s.Cashier a d x →
     (∀ target currency amount, s.giveFails x target currency amount = some r →
       s.OnlyAnswers (.transferOut a target currency amount) a d r) ∧
     (∀ k, s.acceptFails x k = some r → s.OnlyAnswers (.transferAccept a k) a d r) ∧
     (∀ k, s.recallFails x k = some r → s.OnlyAnswers (.transferRecall a k) a d r))

/-- A COUNT-DECLARE in BALANCING forms each difference from the declared amount and the position. Within both
tolerances and in range the differences are taken and the drawer is BALANCED with its COUNT record; otherwise the
drawer is HELD with the declaration kept (R69 to R71, R84). A declaration that fails a check is refused with the
answer of the first that fails, and nothing else changes (R84, checks 5 to 9). A denomination carried twice counts
with its first count (assumption 25). -/
def Obligations.CountIsDeclared : Prop :=
  (∀ (s : State) (a : Nat) (counts : Counts) (d : Drop) (x : Teller) (r : Result), s.Cashier a d x →
     s.countFails x counts = some r → s.OnlyAnswers (.countDeclare a counts) a d r) ∧
  ∀ (s : State) (a n : Nat) (counts : Counts) (d : Drop) (x : Teller) (w : Drawer) (y : Declaration),
    s.Holds a d x n w → s.dyc.day = .balancing → w.balance = .due ∨ w.balance = .held →
    (∀ e ∈ s.csu.transit, e.source ≠ n ∧ e.target ≠ n) → countsInRange s.csu.denomHome counts.home = true →
    countsInRange s.csu.denomForeign counts.foreign = true → s.jnc.counter < 65535 →
    y.teller = x.number → y.counts = counts →
    y.declaredHome = (s.csu.denomHome.map fun v => countOf counts.home v * v).sum →
    y.declaredForeign = (s.csu.denomForeign.map fun v => countOf counts.foreign v * v).sum →
    y.diffHome = y.declaredHome - w.home.position → y.diffForeign = y.declaredForeign - w.foreign.position →
    let within := y.diffHome.natAbs ≤ s.dyc.params.toleranceHome ∧
      y.diffForeign.natAbs ≤ s.dyc.params.toleranceForeign ∧ s.Takes w y
    ∃ t m, exec (.countDeclare a counts) s = .next t ∧
      t = { s with lpc := t.lpc, csu := t.csu, jnc := t.jnc, tkc := t.tkc, dyc := t.dyc } ∧
      s.OnlyDrawer t n ∧ t.csu.transit = s.csu.transit ∧ s.OnlyDropAndMarks t a ∧ s.OnlyExit t ∧
      (within → t.drawerAt n = some { w.balancedWith y.diffHome y.diffForeign with declaration := some y } ∧
        t.csu.netHome = s.csu.netHome + y.diffHome ∧ t.csu.netForeign = s.csu.netForeign + y.diffForeign ∧
        s.Wrote t (entry (.count n (some (y.declaredHome, y.declaredForeign)) y.diffHome y.diffForeign (some counts)
          false) (some a) (some x.number)) ∧
        t.dropAt a = some { d.told (.answer .done (.counted .balanced y.diffHome y.diffForeign)) with
          statusMark := m }) ∧
      (¬ within → t.drawerAt n = some { w with declaration := some y, balance := .held } ∧
        t.csu.netHome = s.csu.netHome ∧ t.csu.netForeign = s.csu.netForeign ∧ t.jnc = s.jnc ∧ t.tkc = s.tkc ∧
        t.dropAt a = some (d.told (.answer .done (.counted .held y.diffHome y.diffForeign))))

/-- ACCEPT-DIFFERENCE takes the last differences of a HELD drawer into its over/short and the branch net: the
drawer is BALANCED, and the COUNT record names the declaring teller and the supervisor (R71, R85). FORCE-BALANCE
makes a DUE drawer with no holder and nothing in transit BALANCED: its figures and the branch net do not move,
and the COUNT record carries no counts, differences of 0 and the FORCED mark (R86), with no declared amount
(assumption 27). Either is refused with the answer of the first of its checks that fails, and nothing else changes
(R85, checks 1 to 4; R86, checks 1 to 5). -/
def Obligations.DifferenceIsAcceptedOrForced : Prop :=
  (∀ (s : State) (a n : Nat) (d : Drop) (x : Teller) (w : Drawer) (y : Declaration),
     s.Supervises a d x → s.drawerAt n = some w → w.balance = .held → w.declaration = some y →
     w.assigned ≠ some x.number → s.Takes w y → s.dyc.day ≠ .noDay → s.jnc.counter < 65535 →
     ∃ t m, exec (.acceptDifference a n) s = .next t ∧
       t = { s with lpc := t.lpc, csu := t.csu, jnc := t.jnc, tkc := t.tkc, dyc := t.dyc } ∧
       s.OnlyDrawer t n ∧ t.csu.transit = s.csu.transit ∧
       t.drawerAt n = some (w.balancedWith y.diffHome y.diffForeign) ∧
       t.csu.netHome = s.csu.netHome + y.diffHome ∧ t.csu.netForeign = s.csu.netForeign + y.diffForeign ∧
       s.Wrote t (entry (.count n (some (y.declaredHome, y.declaredForeign)) y.diffHome y.diffForeign (some y.counts)
         false) (some a) (some y.teller) (some x.number)) ∧
       s.OnlyExit t ∧ s.OnlyDropAndMarks t a ∧
       t.dropAt a = some { d.told (.answer .done .nothing) with statusMark := m }) ∧
  (∀ (s : State) (a n : Nat) (d : Drop) (x : Teller) (w : Drawer),
     s.Supervises a d x → s.dyc.day = .balancing → s.drawerAt n = some w → w.balance = .due → s.holderOf n = none →
     (∀ e ∈ s.csu.transit, e.source ≠ n ∧ e.target ≠ n) → s.jnc.counter < 65535 →
     ∃ t m, exec (.forceBalance a n) s = .next t ∧
       t = { s with lpc := t.lpc, csu := t.csu, jnc := t.jnc, tkc := t.tkc, dyc := t.dyc } ∧
       t.csu = { s.csu with
         drawers := modifyKey Drawer.number n (fun v => { v with balance := .balanced }) s.csu.drawers } ∧
       s.Wrote t (entry (.count n none 0 0 none true) (some a) none (some x.number)) ∧ s.OnlyExit t ∧
       s.OnlyDropAndMarks t a ∧ t.dropAt a = some { d.told (.answer .done .nothing) with statusMark := m }) ∧
  (∀ (s : State) (a n : Nat) (d : Drop) (x : Teller) (r : Result), s.Supervises a d x →
     (s.DifferenceFails x n r → s.OnlyAnswers (.acceptDifference a n) a d r) ∧
     (s.forceFails n = some r → s.OnlyAnswers (.forceBalance a n) a d r))

/-! ### Closing the counter -/

/-- In OPEN a supervisor's CLOSE-PROPOSE makes the day CLOSE-PROPOSED and starts the 120 s window; in any other
day it is answered NOT-PERMITTED (R161). A withdrawal, the window's expiry, or a confirmation by the proposer
takes the day back to OPEN with the proposal gone (R162, R163). A second supervisor's CLOSE-CONFIRM is answered
DONE and the day enters CLOSE-DRAIN with every hold refused DAY-CLOSING; while a work item is undecided it stays
there (R162, R164). -/
def Obligations.CloseIsProposedAndConfirmed : Prop :=
  (∀ s : State,
     (∀ a d x, s.Supervises a d x →
       (s.dyc.day ≠ .opened → s.OnlyAnswers (.closePropose a) a d .notPermitted) ∧
       (s.dyc.day = .opened → ∃ t, exec (.closePropose a) s = .next t ∧ t = { s with lpc := t.lpc, dyc := t.dyc } ∧
         t.dyc = { s.dyc with day := .closeProposed, proposal := some ⟨x.number, none, .running 120⟩ } ∧
         t.dropAt a = some { d.told (.answer .done .nothing) with statusMark := true } ∧
         ∀ b, b ≠ a → t.dropAt b = (s.dropAt b).map Drop.queueStatus) ∧
       (s.dyc.day ≠ .closeProposed →
         s.OnlyAnswers (.closeWithdraw a) a d .nothingHeld ∧ s.OnlyAnswers (.closeConfirm a) a d .nothingHeld)) ∧
     (∀ c, s.dyc.day = .closeProposed →
       ((∃ a d x, c = .closeWithdraw a ∧ s.Supervises a d x) ∨
         (∃ a d x p, c = .closeConfirm a ∧ s.Supervises a d x ∧ s.dyc.proposal = some p ∧ p.proposer = x.number) ∨
         (∃ p n, c = .closeWindowExpiry ∧ s.isRunning = true ∧ s.dyc.proposal = some p ∧ p.window = .running n)) →
       ∃ t, exec c s = .next t ∧ t = { s with lpc := t.lpc, dyc := t.dyc } ∧
         t.dyc = { s.dyc with day := .opened, proposal := none } ∧
         (∀ a, c = .closeWithdraw a → ∀ d, s.dropAt a = some d →
           t.dropAt a = some { d.told (.answer .done .nothing) with statusMark := true }) ∧
         (∀ a, c = .closeConfirm a → ∀ d, s.dropAt a = some d →
           t.dropAt a = some { d.told (.answer .samePerson .nothing) with statusMark := true }))) ∧
  (∀ (s : State) (a : Nat) (d : Drop) (x : Teller) (p : Proposal),
     s.Supervises a d x → s.dyc.day = .closeProposed → s.dyc.proposal = some p → p.proposer ≠ x.number →
     (s.rqu.txns.any fun y => y.stage != .answered && y.stage != .held) = true →
     ∃ t, exec (.closeConfirm a) s = .next t ∧ t = { s with lpc := t.lpc, rqu := t.rqu, dyc := t.dyc } ∧
       t.dyc = { s.dyc with
         day := .closeDrain, proposal := some { p with confirmer := some x.number, window := .stopped } } ∧
       (∀ b y, s.txnAt b = some y → y.stage ≠ .held → t.txnAt b = some y) ∧
       (∀ b y, s.txnAt b = some y → y.stage = .held → t.txnAt b = some { y with
         stage := .answered, slot := none, outcome := some .dayClosing, limit := none, holdTimer := .stopped }) ∧
       ((s.txnAt a).all (fun y => y.stage != .held) = true →
         t.dropAt a = some { d.told (.answer .done .nothing) with statusMark := true }))

/-- Once no work item is undecided the drain ends: the cutoff is the used count, the CLOSE-MARK is written with
the proposer and the confirmer, postings are refused from now on, and the day is BALANCING with the reserve and
every assigned drawer DUE and their holders' releases set (R83, R129, R164, R165). BALANCING ends when every
drawer that was due has balanced, nothing is in transit and nobody is signed on: the batch is fixed with its
records, its blocks of 16 and its control totals, slot 6 is freed, NODE-STATUS SENDING is raised, and the day is
SENDING on an ONLINE link, else SEND-STALLED (R123, R166, R167, R175). -/
def Obligations.DrainAndBalancingEnd : Prop :=
  (∀ (s : State), s.isRunning = true → s.dyc.day = .closeDrain →
     (s.noneUndecided = false → exec .drainEnd s = .next s) ∧
     (s.noneUndecided = true → s.jnc.counter < 65535 →
       (∃ w ∈ s.csu.drawers, w.number = 0 ∨ w.assigned.isSome = true) →
       ∃ t, exec .drainEnd s = .next t ∧
         t = { s with lpc := t.lpc, csu := t.csu, jnc := t.jnc, tkc := t.tkc, dyc := t.dyc } ∧
         t.dyc = { s.dyc with day := .balancing, cutoff := some s.jnc.counter, proposal := none } ∧
         t.jnc = { s.jnc with
           postingsClosed := true, counter := s.jnc.counter + 1
           records := s.jnc.records ++ [{ entry (.closeMark s.jnc.counter) none (s.dyc.proposal.map Proposal.proposer)
               (s.dyc.proposal.bind Proposal.confirmer) with seq := s.jnc.counter + 1, stamp := s.jnc.clock }] } ∧
         t.csu = { s.csu with drawers := s.csu.drawers.map fun w =>
           if w.number = 0 ∨ w.assigned.isSome = true then { w with balance := .due } else w } ∧
         s.OnlyReports t ∧
         ∀ w ∈ s.csu.drawers, w.number = 0 ∨ w.assigned.isSome = true → ∀ x b e, s.holderOf w.number = some x →
           x.station = some b → t.dropAt b = some e → e.release = true)) ∧
  (∀ (s : State), s.isRunning = true → s.dyc.day = .balancing →
     (¬ s.BalancingOver → exec .balancingExit s = .next s) ∧
     (s.BalancingOver → ∃ t b, exec .balancingExit s = .next t ∧
         t = { s with lpc := t.lpc, tkc := t.tkc, dyc := t.dyc } ∧
       t.dyc.batch = some b ∧ b.records = s.jnc.counter ∧ 16 * b.blocks < s.jnc.counter + 16 ∧
       s.jnc.counter ≤ 16 * b.blocks ∧ b.totals = controlTotals s.jnc.records ∧ b.oldest = 1 ∧ b.next = 1 ∧
       b.attempts = 0 ∧ b.trailer = false ∧ b.verdict = none ∧ b.refusals = 0 ∧
       t.dyc.day = (if s.tkc.link = .online then .sending else .sendStalled) ∧
       t.tkc.slot6 = ⟨.free, 0, .stopped⟩ ∧ t.tkc.slots = s.tkc.slots ∧
       (s.nodeRoom = true → t.tkc.nodeQueue =
         s.tkc.nodeQueue ++ [⟨0, .nodeStatus (.sending s.jnc.counter (b.blocks + 1))⟩]) ∧
       (s.nodeRoom = false → t.tkc.nodeQueue = s.tkc.nodeQueue ∧
         t.tkc.waiting = some ⟨0, .nodeStatus (.sending s.jnc.counter (b.blocks + 1))⟩)))

/-! ### The trunk -/

/-- A LINE-CHECK is echoed and drives the link: from OFFLINE to RESYNC with run count 1; in RESYNC the next number
raises the run and the third brings ONLINE, another starts a new run; while ONLINE or SUSPECT the next number keeps
or restores ONLINE, another means RESYNC; each restarts the supervision timer (R93 to R96, R98). Its echo stands
before the reports of the link's change (assumption 19). The supervision timer's expiry moves ONLINE to SUSPECT with
the timer restarted, a sending batch stalling with it, so that a frame started before the stall starts no block timer
(assumption 44); SUSPECT and RESYNC fall to OFFLINE, counted, with the timer stopped; a stopped timer does not expire
(R92, R94 to R97, R108, R175). -/
def Obligations.LinkIsSupervised : Prop :=
  (∀ (s : State) (h : FrameHeader) (n : Nat), s.Accepts h →
     ∃ t, exec (.lineCheck h n) s = .next t ∧ t.tkc.lastCheck = some n ∧
       t.tkc.supervision = .running s.dyc.params.checkPeriod ∧
       (∃ more, t.tkc.nodeQueue = s.tkc.nodeQueue ++ ⟨h.tag, .lineEcho n⟩ :: more) ∧
       let follows := ∃ m, s.tkc.lastCheck = some m ∧ n = (m + 1) % 256
       (s.tkc.link = .offline → t.tkc.link = .resync ∧ t.tkc.runCount = 1 ∧ t = { s with lpc := t.lpc, tkc := t.tkc } ∧
         t.lpc = { s.lpc with drops := s.lpc.drops.map Drop.queueStatus }) ∧
       (s.tkc.link = .resync → follows → s.tkc.runCount < 2 → t.tkc.link = .resync ∧
         t.tkc.runCount = s.tkc.runCount + 1 ∧ t = { s with tkc := t.tkc }) ∧
       (s.tkc.link = .resync → follows → 2 ≤ s.tkc.runCount → t.tkc.link = .online ∧ t.tkc.runCount = 0 ∧
         t.retainedLost = false ∧ (s.dyc.day = .sendStalled → s.dyc.batch.isSome = true → t.dyc.day = .sending)) ∧
       (s.tkc.link = .resync → ¬ follows → t.tkc.link = .resync ∧ t.tkc.runCount = 1 ∧ t = { s with tkc := t.tkc }) ∧
       (s.tkc.link = .online ∨ s.tkc.link = .suspect → follows → t.tkc.link = .online ∧
         t.tkc.runCount = s.tkc.runCount) ∧
       (s.tkc.link = .online ∨ s.tkc.link = .suspect → ¬ follows → t.tkc.link = .resync ∧ t.tkc.runCount = 1)) ∧
  (∀ s : State, s.isRunning = true →
     (s.tkc.supervision = .stopped → exec .supervisionTimerExpiry s = .next s) ∧
     (s.tkc.supervision ≠ .stopped → s.tkc.link = .online →
       ∃ t, exec .supervisionTimerExpiry s = .next t ∧ t = { s with tkc := t.tkc, lpc := t.lpc, dyc := t.dyc } ∧
         t.tkc = { s.tkc with
           link := .suspect, supervision := .running s.dyc.params.checkPeriod, transmitter := t.tkc.transmitter } ∧
         (s.dyc.day ≠ .sending → t.dyc = s.dyc ∧ t.tkc.transmitter = s.tkc.transmitter ∧ t.lpc = s.lpc) ∧
         (s.dyc.day = .sending →
           t.tkc.transmitter = s.tkc.transmitter.map (fun f => { f with startsTimer := false }) ∧
           t.dyc = { s.dyc with day := .sendStalled, blockTimer := .stopped, resumed := false })) ∧
     (s.tkc.supervision ≠ .stopped → s.tkc.link = .suspect ∨ s.tkc.link = .resync →
       ∃ t, exec .supervisionTimerExpiry s = .next t ∧ t.tkc.link = .offline ∧ t.tkc.supervision = .stopped ∧
         t.tkc.runCount = 0 ∧ t.tkc.lastCheck = s.tkc.lastCheck ∧
         t.tkc.stats = { s.tkc.stats with offlineEntries := counted s.tkc.stats.offlineEntries } ∧
         (s.tkc.link = .resync → t = { s with tkc := t.tkc, lpc := t.lpc } ∧ t.tkc.slots = s.tkc.slots) ∧
         (s.tkc.link = .suspect → ∀ x ∈ t.tkc.slots, x.state ≠ .queued)))

/-- Bytes that are no valid frame, and a frame with another branch number or under branch strap 0, are counted
as bad and have no other effect. A valid frame of a kind that may need an answer is refused and counted while
the node queue is full; supervision sees it, as it sees every valid frame: it restarts the timer of an ONLINE
link, brings SUSPECT back to ONLINE, and does nothing in OFFLINE and RESYNC (R90, R94 to R96, R98, R106, R185;
the byte and bit orders of raw bytes, assumption 7). -/
def Obligations.FramesAreJudged : Prop :=
  (∀ (s : State) (bytes : List Byte), s.isRunning = true → rawFrameValid s.straps.branch bytes = false →
    exec (.badFrame bytes) s = .next { s with
      tkc := { s.tkc with stats := { s.tkc.stats with badFrames := counted s.tkc.stats.badFrames } } }) ∧
  (∀ (s : State) (c : Instr) (h : FrameHeader), headerOf c = some h → s.isRunning = true →
    h.branch ≠ s.straps.branch ∨ s.straps.branch = 0 →
    exec c s = .next { s with
      tkc := { s.tkc with stats := { s.tkc.stats with badFrames := counted s.tkc.stats.badFrames } } }) ∧
  (∀ (s : State) (c : Instr) (h : FrameHeader), headerOf c = some h → neverRefused c = false → s.Receives h →
    4 ≤ s.tkc.nodeQueue.length →
    ∃ u, u = s.seeFrame ∧ exec c s = .next { u with
      tkc := { u.tkc with stats := { u.tkc.stats with nodeOverruns := counted u.tkc.stats.nodeOverruns } } }) ∧
  ∀ s : State,
    (s.tkc.link = .offline ∨ s.tkc.link = .resync → s.seeFrame = s) ∧
    (s.tkc.link = .online →
      s.seeFrame = { s with tkc := { s.tkc with supervision := .running s.dyc.params.checkPeriod } }) ∧
    (s.tkc.link = .suspect → s.seeFrame.tkc.link = .online ∧
      s.seeFrame.tkc.supervision = .running s.dyc.params.checkPeriod ∧ s.seeFrame.jnc = s.jnc ∧
      s.seeFrame.csu = s.csu ∧ s.seeFrame.siu = s.siu ∧ s.seeFrame.tkc.stats = s.tkc.stats)

/-- On an ONLINE link the wait list is served until no slot is FREE or it is empty, its oldest entry taking the
lowest-numbered FREE slot; otherwise nothing is served (R49). A waiting report joins the node queue's tail when
there is room, and only then (R106). -/
def Obligations.WaitListIsServed : Prop :=
  (∀ s : State, s.isRunning = true → s.TrunkSound →
     (s.tkc.link ≠ .online → exec .waitListServing s = .next s) ∧
     (s.tkc.link = .online → ∃ t, exec .waitListServing s = .next t ∧ t = { s with rqu := t.rqu, tkc := t.tkc } ∧
       (t.rqu.waitList = [] ∨ t.lowestFree = none) ∧ (∃ served, s.rqu.waitList = served ++ t.rqu.waitList) ∧
       ∀ a rest i, s.rqu.waitList = a :: rest → s.lowestFree = some i →
         t.slotAt i = some ⟨i, .queued, a, if (s.txnAt a).isSome then .txnForward else .passbookFetch, 0, .stopped⟩)) ∧
  (∀ s : State, s.isRunning = true →
     (s.tkc.waiting = none ∨ 4 ≤ s.tkc.nodeQueue.length → exec .waitingReportJoin s = .next s) ∧
     (∀ e, s.tkc.waiting = some e → s.tkc.nodeQueue.length < 4 →
       exec .waitingReportJoin s = .next { s with
         tkc := { s.tkc with nodeQueue := s.tkc.nodeQueue ++ [e], waiting := none } }))

/-- The start of a TXN-FORWARD writes the POSTING record AWAITING, whose sequence is the tag; the slot is SENDING
with its reply timer started and the transaction ON-TRUNK. The frame carries the drop, the definition, the code, the
account and the legs (assumption 42). When the journal refuses the record no frame starts, the slot is freed and
offered, and the outcome is JOURNAL-FULL (R50, R99, R101); the new grant is left to the next start (assumption 18).
The start of a PASSBOOK-FETCH takes the fetch counter as its tag, which then counts on past 65,535 to 1; the slot is
SENDING with its reply timer started and the fetch ON-TRUNK; nothing is journalled (R58, R101). -/
def Obligations.OnlineFramesStart : Prop :=
  (∀ (s : State) (x : OnlineSlot) (y : Txn), s.GrantsSlot x → x.kind = .txnForward → s.txnAt x.drop = some y →
     s.dyc.day ≠ .noDay →
     (s.jnc.postingsClosed = false → s.jnc.counter < 65279 →
       ∃ t, exec .txnForwardStart s = .next t ∧ t = { s with rqu := t.rqu, jnc := t.jnc, tkc := t.tkc, lpc := t.lpc } ∧
         s.Wrote t (entry (.posting ⟨y.defIndex, y.code.getD 0, y.account, y.legs, y.exchange, .online⟩) (some y.drop)
           (some y.teller) y.supervisor (some .awaiting)) ∧
         t.slotAt x.number = some { x with
           state := .sending, tag := s.jnc.counter + 1, timer := .running s.dyc.params.replyTimeout } ∧
         s.OnlySlot t x.number ∧
         t.txnAt x.drop = some { y with
           stage := .onTrunk, slot := some x.number, seq := some (s.jnc.counter + 1) } ∧
         t.tkc.transmitter = some ⟨⟨s.straps.branch, x.number, s.jnc.counter + 1,
           .txnForward y.drop y.defIndex (y.code.getD 0) y.account y.legs⟩, false⟩) ∧
     (s.jnc.postingsClosed = true ∨ 65279 ≤ s.jnc.counter →
       ∃ v, exec .txnForwardStart s = .next (v.judgeDrain).serveWaitList ∧
         v = { s with lpc := v.lpc, rqu := v.rqu, tkc := v.tkc } ∧
         v.tkc = { s.tkc with slots := v.tkc.slots } ∧ v.slotAt x.number = some (freeSlot x.number) ∧
         s.OnlySlot v x.number ∧ ∃ z, v.txnAt x.drop = some z ∧ z.stage = .answered ∧ z.outcome = some .journalFull)) ∧
  (∀ (s : State) (x : OnlineSlot) (f : Fetch), s.GrantsSlot x → x.kind = .passbookFetch →
     s.fetchAt x.drop = some f →
     ∃ t, exec .passbookFetchStart s = .next t ∧ t = { s with rqu := t.rqu, tkc := t.tkc } ∧
       t.slotAt x.number = some { x with
         state := .sending, tag := s.tkc.fetchCounter, timer := .running s.dyc.params.replyTimeout } ∧
       s.OnlySlot t x.number ∧ t.fetchAt x.drop = some { f with stage := .onTrunk, slot := some x.number } ∧
       t.tkc.fetchCounter = (if s.tkc.fetchCounter = 65535 then 1 else s.tkc.fetchCounter + 1) ∧
       t.tkc.transmitter = some ⟨⟨s.straps.branch, x.number, s.tkc.fetchCounter,
         .passbookFetch f.account f.pos⟩, false⟩)

/-- With no online slot ready, slot 6 sends the head of the SFQ while the link is ONLINE or RESYNC; else slot 7 sends
the oldest answer; else the next block of the batch starts, the window of four allowing; each frame takes its tag as
the rules say (R100, R105, R106, R119, R168, R171). An ADVICE carries its record as it stands at the start
(assumption 42), and the first block after a resumption is marked to start the timer (assumption 44). While a frame
is being sent, or under branch strap 0, no frame starts (R89, R100, R185). -/
def Obligations.LowerSourcesStart : Prop :=
  (∀ s : State, s.NoSlotReady →
     (∀ e rest, s.siu.sfq = e :: rest → s.tkc.slot6.state = .free →
       s.tkc.link = .online ∨ s.tkc.link = .resync →
       s.dyc.day ≠ .sending → s.dyc.day ≠ .sendStalled → s.dyc.day ≠ .sent →
       exec .adviceStart s = .next { s with tkc := { s.tkc with
         slot6 := ⟨.sending, e.seq, .running s.dyc.params.replyTimeout⟩
         transmitter := some ⟨⟨s.straps.branch, 6, e.seq, .advice e.kind (s.recordAt e.seq)⟩, false⟩ } }) ∧
     (s.siu.sfq = [] ∨ s.tkc.link = .offline ∨ s.tkc.link = .suspect ∨ s.tkc.slot6.state ≠ .free ∨
         s.dyc.day = .sending ∨ s.dyc.day = .sendStalled ∨ s.dyc.day = .sent →
       (∀ e rest, s.tkc.nodeQueue = e :: rest → s.tkc.slot7 = none → s.tkc.nodeQueue.length ≤ 4 →
         exec .nodeAnswerStart s = .next { s with tkc := { s.tkc with
           nodeQueue := rest ++ s.tkc.waiting.toList, waiting := none, slot7 := some e
           transmitter := some ⟨⟨s.straps.branch, 7, e.tag, .node e.body⟩, false⟩ } }) ∧
       (∀ b, s.tkc.nodeQueue = [] → s.dyc.day = .sending → s.dyc.batch = some b → b.next ≤ b.blocks + 1 →
         b.next < b.oldest + 4 →
         exec .batchBlockStart s = .next { s with
           tkc := { s.tkc with
             transmitter := some ⟨⟨s.straps.branch, 7, b.next,
               if b.next ≤ b.blocks then .batchBlock (s.jnc.records.filter fun r =>
                 decide (16 * (b.next - 1) < r.seq ∧ r.seq ≤ 16 * b.next ∧ r.seq ≤ b.records))
               else .batchTrailer b.records b.blocks s.dyc.date s.dyc.time b.totals⟩, s.dyc.resumed⟩ }
           dyc := { s.dyc with batch := some { b with next := b.next + 1 }, resumed := false } }))) ∧
  (∀ (s : State) (c : Instr), frameStart c → s.tkc.transmitter.isSome = true ∨ s.straps.branch = 0 → exec c s = .next s)

/-- At the end of its frame an online slot or slot 6 that is still SENDING with the frame's tag is AWAIT, slot 7
is FREE, and a batch frame starts the block timer when it is the oldest unacknowledged or the first of a
resumption; the transmitter is idle again (R89, R101, R105, R106, R171, R176). It starts no timer when no started
block is unacknowledged, nor by R176 for a frame started before a stall (assumption 44). -/
def Obligations.FrameEnds : Prop :=
  ∀ (s : State) (x : Transmission), s.isRunning = true → s.restarting = none → s.tkc.transmitter = some x →
    (∀ y, s.slotAt x.frame.slot = some y →
      (∃ a i c n l, x.frame.body = .txnForward a i c n l) ∨ (∃ n p, x.frame.body = .passbookFetch n p) →
      ∃ t, exec .trunkFrameEnd s = .next t ∧ t = { s with tkc := t.tkc } ∧
        t.tkc = { s.tkc with transmitter := none, slots := t.tkc.slots } ∧ s.OnlySlot t x.frame.slot ∧
        t.slotAt x.frame.slot =
          some (if y.state = .sending ∧ y.tag = x.frame.tag then { y with state := .await } else y)) ∧
    (∀ k r, x.frame.body = .advice k r → exec .trunkFrameEnd s = .next { s with tkc := { s.tkc with
      transmitter := none
      slot6 :=
        if s.tkc.slot6.state = .sending ∧ s.tkc.slot6.seq = x.frame.tag then { s.tkc.slot6 with state := .await }
        else s.tkc.slot6 } }) ∧
    (∀ b, x.frame.body = .node b →
      exec .trunkFrameEnd s = .next { s with tkc := { s.tkc with transmitter := none, slot7 := none } }) ∧
    (∀ b, (∃ l, x.frame.body = .batchBlock l) ∨ (∃ n k d m o, x.frame.body = .batchTrailer n k d m o) →
      s.dyc.batch = some b →
      exec .trunkFrameEnd s = .next { s with
        tkc := { s.tkc with transmitter := none }
        dyc := { s.dyc with
          blockTimer :=
            if s.dyc.day = .sending ∧ b.oldest < b.next ∧ (x.startsTimer = true ∨ x.frame.tag = b.oldest) then
              .running s.dyc.params.blockTimer
            else s.dyc.blockTimer } })

/-- A matched APPROVED reply frees the slot, makes the record APPROVED with head office's reference, applies every
cash leg, refreshes the snapshot from a balance in range, or leaves it as it was, appends the passbook line asked for
with origin BRANCH, and APPROVED is handed over, as the held reply when the drop cannot receive; the freed slot is
then offered to the wait list, after the drain is judged (R8, R54, R74, R116, R134, R139, R164; assumption 17). A
line that joins an overflow whose count is 0 adds to the amount left over there (assumption 40). The reply shows a
balance that is a number as it came, and no other (assumption 50). Supervision sees the frame first, so on a SUSPECT
link the wait list is served before the reply frees its slot (assumption 19). -/
def Obligations.ApprovedReplyCompletes : Prop :=
  ∀ (s u : State) (h : FrameHeader) (x : OnlineSlot) (y : Txn) (r : Record) (reference : Nat) (balance : ReplyBalance)
    (d : Drop),
    s.Receives h → u = s.seeFrame → u.Matches h .txnForward x → u.txnAt x.drop = some y →
    u.recordAt h.tag = some r → r.disposition = some .awaiting → u.dropAt y.drop = some d →
    let reply : DownMessage := .final { refusalReply y.code .approved none with
      seq := some h.tag, reference := some reference, legs := y.legs, unsold := y.unsold
      balance := (match balance with | .value n => some n | _ => none), timedOut := y.timedOut }
    ∃ v m, exec (.txnReply h (.approved reference balance)) s = .next (v.judgeDrain).serveWaitList ∧
      u.OnlyRecord v h.tag { r with disposition := some .approved, reference := some reference } ∧
      u.CashApplied v y ∧ v.slotAt x.number = some (freeSlot x.number) ∧ u.OnlySlot v x.number ∧
      v.dyc = u.dyc ∧ v.pbu = u.pbu ∧ u.OnlyDropAndMarks v y.drop ∧ u.OnlyTxn v y.drop y.teller ∧
      v.siu.sfq = u.siu.sfq ∧ (∀ k, some k ≠ y.account → v.satAt k = u.satAt k) ∧
      (∀ k e, y.account = some k → u.satAt k = some e → ∃ snapshot b,
        v.satAt k = some { e with snapshot := snapshot, book := b } ∧
        (∀ n, balance = .value n → -999999999999 ≤ n → n ≤ 999999999999 →
          snapshot = max (-999999999999) (min (n + e.net) 999999999999)) ∧
        ((∀ n, balance = .value n → n < -999999999999 ∨ 999999999999 < n) → snapshot = e.snapshot) ∧
        u.BookTakes v k (y.defn.bind fun g => passbookLine g y.legs u.dyc.date .branch h.tag) e.book b) ∧
      v.txnAt y.drop = some { y with
        stage := .answered, slot := none, outcome := some .approved, limit := none, holdTimer := .stopped } ∧
      (d.canReceive = true → u.lpc.loop = .running → d.outbound.length < 4 →
        v.dropAt y.drop = some { d.told reply with release := d.releasedBy y, statusMark := m }) ∧
      (d.canReceive = false ∨ u.lpc.loop = .loopFault →
        v.dropAt y.drop = some { d with held := some reply, release := d.releasedBy y, statusMark := m })

/-- A matched DECLINED reply makes the record DECLINED with head office's reason, which the reply carries; no
leg is applied, the SAT and the passbooks are not changed and no release is set; a reply that is neither is
taken as DECLINED with reason 99 (R55). The slot is freed and offered, after the drain is judged (R49, R102, R164;
assumption 17). Supervision sees the frame first (assumption 19). -/
def Obligations.DeclinedReplyEnds : Prop :=
  ∀ (s u : State) (h : FrameHeader) (x : OnlineSlot) (y : Txn) (r : Record) (answer : ReplyAnswer) (reason : Nat)
    (d : Drop),
    s.Receives h → u = s.seeFrame → u.Matches h .txnForward x → u.txnAt x.drop = some y →
    u.recordAt h.tag = some r → r.disposition = some .awaiting → u.dropAt y.drop = some d → d.canReceive = true →
    u.lpc.loop = .running → d.outbound.length < 4 →
    (answer = .declined reason ∨ (answer = .neither ∧ reason = 99)) →
    ∃ v, exec (.txnReply h answer) s = .next (v.judgeDrain).serveWaitList ∧
      v = { u with lpc := v.lpc, rqu := v.rqu, jnc := v.jnc, tkc := v.tkc } ∧
      u.OnlyRecord v h.tag { r with disposition := some .declined, reference := some reason } ∧
      v.slotAt x.number = some (freeSlot x.number) ∧ u.OnlySlot v x.number ∧ u.OnlyDrop v y.drop ∧
      u.OnlyTxn v y.drop y.teller ∧
      v.txnAt y.drop = some { y with
        stage := .answered, slot := none, outcome := some .declined, limit := none, holdTimer := .stopped } ∧
      v.dropAt y.drop = some (d.told (.final { refusalReply y.code .declined none with
        seq := some h.tag, reason := some reason, timedOut := y.timedOut }))

/-- A valid TXN-REPLY or FETCH-REPLY that matches no slot is a late reply: it is counted and changes no record,
no drawer and no SAT entry (R103). -/
def Obligations.LateReplyIsDiscarded : Prop :=
  ∀ (s u : State) (h : FrameHeader) (c : Instr) (k : OnlineKind),
    s.Receives h → u = s.seeFrame → (∀ x, ¬ u.Matches h k x) →
    ((∃ answer, c = .txnReply h answer ∧ k = .txnForward) ∨ (∃ lines, c = .fetchReply h lines ∧ k = .passbookFetch)) →
    exec c s = .next { u with
        tkc := { u.tkc with stats := { u.tkc.stats with lateReplies := counted u.tkc.stats.lateReplies } } } ∧
      u.jnc = s.jnc ∧ u.csu = s.csu ∧ u.siu = s.siu

/-- A matched FETCH-REPLY frees its slot and ends the fetch; a line that can be read joins the account's pending
lines with origin HEAD-OFFICE, and a FETCHING session goes on to print (R58, R145, R147). Of several lines the first
16 are taken, one that cannot be read is passed by, and a session that is not FETCHING stays as it is (R145).
Supervision sees the frame first, so on a SUSPECT link the wait list is served before the reply frees its slot
(assumption 19). A line's text is kept as carried, whatever its length (assumption 33). -/
def Obligations.FetchReplyBringsLines : Prop :=
  (∀ (s u : State) (h : FrameHeader) (x : OnlineSlot) (f : Fetch) (b : Passbook) (z : Session) (date : Date)
     (text : Text) (n : Int) (p l : Nat),
     s.Receives h → u = s.seeFrame → u.Matches h .passbookFetch x → u.fetchAt x.drop = some f →
     u.bookOf f.account = some b → b.session = some x.drop → b.next = .line p l → b.overflow = ⟨0, 0, none⟩ →
     0 < u.poolFree → -999999999999999 ≤ b.lineBalance + n → b.lineBalance + n ≤ 999999999999999 →
     u.sessionOf x.drop = some z → z.state = .fetching → z.account = some f.account →
     ∃ v b', exec (.fetchReply h [⟨date, text, some n⟩]) s = .next v.serveWaitList ∧
       v = { u with lpc := v.lpc, rqu := v.rqu, tkc := v.tkc, siu := v.siu, pbu := v.pbu } ∧
       v.slotAt x.number = some (freeSlot x.number) ∧ u.OnlySlot v x.number ∧ v.fetchAt x.drop = none ∧
       v.bookOf f.account = some b' ∧ b'.lineBalance = b.lineBalance + n ∧
       b'.pending = b.pending ++ [⟨some date, .text text, 1, n, .headOffice, none⟩] ∧ b'.printed = b.printed ∧
       v.sessionState x.drop = .printing ∧ (∃ m, b'.marker = some m ∧ m.page = p ∧ m.line = l)) ∧
  (∀ (s u : State) (h : FrameHeader) (x : OnlineSlot) (f : Fetch) (b : Passbook) (lines : List FetchLine),
     s.Receives h → u = s.seeFrame → u.Matches h .passbookFetch x → u.fetchAt x.drop = some f →
     u.bookOf f.account = some b →
     (∀ k, k ≤ 16 → -999999999999999 ≤ b.lineBalance + ((lines.take k).filterMap FetchLine.amount).sum ∧
       b.lineBalance + ((lines.take k).filterMap FetchLine.amount).sum ≤ 999999999999999) →
     ∃ v b', exec (.fetchReply h lines) s = .next v.serveWaitList ∧
       v.slotAt x.number = some (freeSlot x.number) ∧ u.OnlySlot v x.number ∧ v.fetchAt x.drop = none ∧
       v.csu = u.csu ∧ v.bookOf f.account = some b' ∧ b'.printed = b.printed ∧
       b'.lineBalance = b.lineBalance + ((lines.take 16).filterMap FetchLine.amount).sum ∧
       (u.sessionState x.drop ≠ .fetching → v = { u with rqu := v.rqu, tkc := v.tkc, siu := v.siu } ∧
         v.siu = { u.siu with sat := v.siu.sat } ∧ ∀ k, k ≠ f.account → v.satAt k = u.satAt k))

/-- The reply timer of a TXN-FORWARD frees its slot, makes the record TIMED-OUT and queues a reversal advice for
it, or makes it TIMED-OUT-UNADVISED when none can be made; the work item is then decided again without being
forwarded, and an ONLINE-ONLY one is HEAD-OFFICE-UNAVAILABLE; the slot is offered to the wait list. A stopped
timer does not expire (R56, R104, R124, R125). -/
def Obligations.ReplyTimerExpires : Prop :=
  ∀ (s : State) (i : Nat) (x : OnlineSlot), s.isRunning = true → s.slotAt i = some x →
    (x.timer = .stopped → exec (.replyTimerExpiry i) s = .next s) ∧
    (∀ y r p, x.timer ≠ .stopped → x.kind = .txnForward → s.txnAt x.drop = some y → s.recordAt x.tag = some r →
      r.disposition = some .awaiting → r.body = .posting p → s.dyc.day ≠ .noDay → s.JournalNumbered →
      ∃ w, exec (.replyTimerExpiry i) s =
          .next (w.decideAgain { y with timedOut := some x.tag, slot := none }).serveWaitList ∧
        w.tkc.stats = { s.tkc.stats with timeouts := counted s.tkc.stats.timeouts } ∧
        w.slotAt i = some (freeSlot i) ∧ s.OnlySlot w i ∧ w.csu = s.csu ∧ w.rqu = s.rqu ∧ w.dyc = s.dyc ∧
        (s.siu.sfq.length < 2048 → s.jnc.counter < 65535 →
          w.recordAt x.tag = some { r with disposition := some .timedOut } ∧
          w.recordAt (s.jnc.counter + 1) = some { entry (.reversalAdvice p.definition p.code p.account p.legs) r.drop
            r.teller none (some .reversalPending) (some r.seq) with
              seq := s.jnc.counter + 1, stamp := s.jnc.clock } ∧
          w.siu = { s.siu with sfq := s.siu.sfq ++ [⟨s.jnc.counter + 1, .reversal⟩] }) ∧
        (2048 ≤ s.siu.sfq.length ∨ 65535 ≤ s.jnc.counter →
          w.recordAt x.tag = some { r with disposition := some .timedOutUnadvised } ∧ w.siu = s.siu ∧
          w.jnc.counter = s.jnc.counter) ∧
        (y.routing = .onlineOnly →
          ∃ z, (w.decideAgain { y with timedOut := some x.tag, slot := none }).txnAt y.drop = some z ∧
            z.stage = .answered ∧ z.outcome = some .headOfficeUnavailable)) ∧
    (∀ f, x.timer ≠ .stopped → x.kind = .passbookFetch → s.fetchAt x.drop = some f →
      ∃ v : State, exec (.replyTimerExpiry i) s = .next v.serveWaitList ∧ v.fetchAt x.drop = none ∧
        v.slotAt i = some (freeSlot i) ∧
        v.tkc.stats = { s.tkc.stats with timeouts := counted s.tkc.stats.timeouts })

/-- An ADVICE-ACK or ADVICE-EXCEPTION that matches slot 6 frees it and takes the head off the SFQ: a posting
becomes ADVICE-CONFIRMED, or EXCEPTION with head office's reason, and its signed amount leaves its account's
unconfirmed net; a reversal becomes REVERSAL-SENT. One that does not match is a late acknowledgment, counted and
discarded (R105, R117, R120, R121, R124). Slot 6's reply timer frees it and is counted; the advice stays at the
head of the SFQ to be sent again, and its record is not changed. A stopped timer does not expire (R105, R122).
-/
def Obligations.AdviceIsAnswered : Prop :=
  (∀ (s u : State) (h : FrameHeader) (c : Instr) (new : Disposition) (reference : Option Nat),
     s.Receives h → u = s.seeFrame →
     ((c = .adviceAck h ∧ new = .adviceConfirmed ∧ reference = none) ∨
       (∃ n, c = .adviceException h n ∧ new = .exception ∧ reference = some n)) →
     (u.adviceMatched h = false → exec c s = .next { u with
       tkc := { u.tkc with stats := { u.tkc.stats with lateAcks := counted u.tkc.stats.lateAcks } } }) ∧
     (∀ e rest r, u.adviceMatched h = true → u.siu.sfq = e :: rest → u.recordAt e.seq = some r →
       ∃ t, exec c s = .next t ∧ t = { u with jnc := t.jnc, tkc := t.tkc, siu := t.siu } ∧
         t.tkc = { u.tkc with slot6 := ⟨.free, 0, .stopped⟩ } ∧ t.siu.sfq = rest ∧
         (∀ p, e.kind = .posting → r.disposition = some .advicePending → r.body = .posting p →
           u.OnlyRecord t e.seq { r with disposition := some new, reference := reference <|> r.reference } ∧
           ∀ k, t.satAt k = (u.satAt k).map fun z =>
             if p.account = some k then { z with net := z.net - signedAccount p.legs } else z) ∧
         (e.kind = .reversal → r.disposition = some .reversalPending →
           u.OnlyRecord t e.seq { r with disposition := some .reversalSent, reference := reference <|> r.reference } ∧
           t.siu.sat = u.siu.sat))) ∧
  (∀ s : State, s.isRunning = true →
     (s.tkc.slot6.timer = .stopped → exec .adviceReplyTimerExpiry s = .next s) ∧
     (s.tkc.slot6.timer ≠ .stopped → exec .adviceReplyTimerExpiry s = .next { s with tkc := { s.tkc with
       slot6 := ⟨.free, 0, .stopped⟩, stats := { s.tkc.stats with timeouts := counted s.tkc.stats.timeouts } } }))

/-! ### Head office's single frames -/

/-- Each INQUIRY is answered with an INQUIRY-ANSWER that carries its tag and the figures of the moment, and changes
nothing else; one of an unknown kind is answered NODE-STATUS FIELD-RANGE (R107, R136). The moment is the one after
supervision has seen the frame (assumption 19). -/
def Obligations.InquiriesAreAnswered : Prop :=
  ∀ (s u : State) (h : FrameHeader) (c : Instr) (b : NodeBody), s.Accepts h → u = s.seeFrame →
    (let report := fun x : Sums => (⟨x.opening, x.cashIn, x.cashOut, x.transferIn, x.transferOut, x.overShort,
        x.opening + x.cashIn - x.cashOut + x.transferIn - x.transferOut + x.overShort⟩ : CurrencyReport)
     let having := fun q => u.jnc.records.countP fun r => decide (r.disposition = some q)
     (c = .inquiryDrawers h ∧ b = .inquiryAnswer (.drawers (u.csu.drawers.map fun d =>
        ⟨d.number, d.assigned, (u.holderOf d.number).isSome, d.balance, d.cashHigh, report d.home, report d.foreign⟩)
        u.csu.transit u.csu.netHome u.csu.netForeign)) ∨
     (c = .inquiryLink h ∧ b = .inquiryAnswer (.link u.tkc.link u.tkc.lastCheck u.tkc.runCount
        u.dyc.params.checkPeriod u.dyc.params.replyTimeout u.tkc.stats)) ∨
     (c = .inquiryQueues h ∧ b = .inquiryAnswer (.queues u.siu.sfq.length
        (u.siu.sfq.countP fun e => decide (e.kind = .reversal)) u.rqu.waitList
        (u.tkc.slots.map (fun x => ⟨x.number, x.state, if x.state = .free then none else some x.drop,
          if x.state = .free ∨ x.state = .queued then none else some x.tag⟩) ++
         [⟨6, u.tkc.slot6.state, none, if u.tkc.slot6.state = .free then none else some u.tkc.slot6.seq⟩,
          ⟨7, if u.tkc.slot7.isSome then .sending else .free, none, u.tkc.slot7.map NodeEntry.tag⟩])
        u.tkc.nodeQueue.length)) ∨
     (c = .inquiryJournal h ∧ b = .inquiryAnswer (.journal u.jnc.counter u.jnc.counter
        (if 65535 ≤ u.jnc.counter then .exhausted else if 65279 ≤ u.jnc.counter then .full
         else if 61439 ≤ u.jnc.counter then .nearFull else .none)
        (having .awaiting) (having .advicePending) (having .reversalPending) (having .timedOutUnadvised)
        (having .exception))) ∨
     (c = .inquiryDay h ∧ b = .inquiryAnswer (.day u.dyc.day u.dyc.cutoff u.jnc.clock
        (u.dyc.batch.map fun x => ⟨x.blocks + 1, x.oldest, x.next, x.attempts⟩))) ∨
     (c = .inquiryDrops h ∧ b = .inquiryAnswer (.drops (u.lpc.drops.map fun d =>
        ⟨d.addr, d.kind, d.group, d.state, d.score, d.refused⟩) u.lpc.loop u.lpc.slips)) ∨
     (c = .inquiryPassbook h ∧ b = .inquiryAnswer (.passbook
        (8192 - (u.siu.sat.map fun e => ((e.book.map fun k => k.pending.length).getD 0)).sum)
        (u.siu.sat.countP fun e => e.book.any fun k => k.overflow.items != 0)
        (u.pbu.sessions.map fun x => ⟨x.drop, x.state, x.account, x.printed⟩))) ∨
     (c = .inquiryUnknownKind h ∧ b = .nodeStatus (.fieldRange .inquiry))) →
    exec c s = .next { u with tkc := { u.tkc with nodeQueue := u.tkc.nodeQueue ++ [⟨h.tag, b⟩] } }

/-- MASK-SET replaces the branch class mask from OPEN on and is answered with the mask; in NO-DAY and LOADING it
changes nothing and is answered WRONG-STATE (R38). A NOTICE in range takes the counter's number, enters as the
newest, pushes out the oldest of 8 and draws no answer; each TELLER drop whose unseen count changes has a status
line queued. One out of range is answered FIELD-RANGE, and one past number 65,535 NOTICE-LIMIT (R19, R20). -/
def Obligations.MaskAndNoticesAreSet : Prop :=
  (∀ (s u : State) (h : FrameHeader) (mask : ClassMask), s.Accepts h → u = s.seeFrame →
     (u.dyc.day = .noDay ∨ u.dyc.day = .loading → exec (.maskSet h mask) s = .next { u with
       tkc := { u.tkc with nodeQueue := u.tkc.nodeQueue ++ [⟨h.tag, .nodeStatus (.wrongState .maskSet)⟩] } }) ∧
     (u.dyc.day ≠ .noDay → u.dyc.day ≠ .loading → exec (.maskSet h mask) s = .next { u with
       rqu := { u.rqu with classMask := mask }
       tkc := { u.tkc with nodeQueue := u.tkc.nodeQueue ++ [⟨h.tag, .nodeStatus (.maskSet mask)⟩] } })) ∧
  (∀ (s u : State) (h : FrameHeader) (groups : BitVec 8) (text : Text), s.Accepts h → u = s.seeFrame →
     (groups = 0 ∨ text = [] ∨ 64 < text.length → exec (.notice h groups text) s = .next { u with
       tkc := { u.tkc with nodeQueue := u.tkc.nodeQueue ++ [⟨h.tag, .nodeStatus (.fieldRange .notice)⟩] } }) ∧
     (groups ≠ 0 → text ≠ [] → text.length ≤ 64 → 65536 ≤ u.lpc.noticeCounter →
       exec (.notice h groups text) s = .next { u with
         tkc := { u.tkc with nodeQueue := u.tkc.nodeQueue ++ [⟨h.tag, .nodeStatus .noticeLimit⟩] } }) ∧
     (groups ≠ 0 → text ≠ [] → text.length ≤ 64 → u.lpc.noticeCounter < 65536 →
       ∃ t, exec (.notice h groups text) s = .next t ∧ t = { u with lpc := t.lpc } ∧
         t.lpc = { u.lpc with
           drops := t.lpc.drops, noticeCounter := u.lpc.noticeCounter + 1
           notices := (if u.lpc.notices.length < 8 then u.lpc.notices else u.lpc.notices.tail) ++
             [⟨u.lpc.noticeCounter, groups, text⟩] } ∧
         ∀ a d, u.dropAt a = some d → t.dropAt a = some { d with
           statusMark := d.statusMark || (d.kind == .teller &&
             unseenCount u.lpc.notices d != unseenCount t.lpc.notices d) }))

/-! ### Starting, loading and opening the day -/

/-- A DAY-START in NO-DAY or LOADING with its fields in range empties the journal, sets the day clock to 0,
clears the rate, the mask, the link statistics, the loaded-key sets, the cutoff and the batch progress, and
makes the day LOADING; out of range it is answered FIELD-RANGE, and later in the day WRONG-STATE, with nothing
changed (R127, R155). The day clock counts one each second from the DAY-START on, in every day state, and stops
at 4,294,967,295 (R127), while the part is powered, with the reset pin held low too (assumption 39); nothing else
changes. A date of any year of the Gregorian calendar is in range (assumption 9). -/
def Obligations.DayStartsItsClock : Prop :=
  (∀ (s u : State) (h : FrameHeader) (date : Date) (time : TimeOfDay) (expected : PerKind Nat),
     s.Accepts h → u = s.seeFrame →
     (u.dyc.day ≠ .noDay → u.dyc.day ≠ .loading → exec (.dayStart h date time expected) s = .next { u with
       tkc := { u.tkc with nodeQueue := u.tkc.nodeQueue ++ [⟨h.tag, .nodeStatus (.wrongState .dayStart)⟩] } }) ∧
     (u.dyc.day = .noDay ∨ u.dyc.day = .loading → dayStartOk date time expected = false →
       exec (.dayStart h date time expected) s = .next { u with
         tkc := { u.tkc with nodeQueue := u.tkc.nodeQueue ++ [⟨h.tag, .nodeStatus (.fieldRange .dayStart)⟩] } }) ∧
     (u.dyc.day = .noDay ∨ u.dyc.day = .loading → dayStartOk date time expected = true →
       ∃ t, exec (.dayStart h date time expected) s = .next t ∧
         t = { u with lpc := t.lpc, rqu := t.rqu, tkc := t.tkc, siu := t.siu, jnc := t.jnc, dyc := t.dyc } ∧
         t.jnc = ⟨[], 0, 0, 0, true, false⟩ ∧ t.rqu = { u.rqu with classMask := 0 } ∧
         t.siu = { u.siu with rate := none } ∧
         t.tkc = { u.tkc with
           stats := ⟨0, 0, 0, 0, 0, 0⟩
           nodeQueue := u.tkc.nodeQueue ++ [⟨h.tag, .nodeStatus (.loading (some date))⟩] } ∧
         t.dyc = { u.dyc with
           day := .loading, date := some date, time := some time, expected := expected
           loaded := ⟨[], [], [], [], [], [], [], [], []⟩, cutoff := none, batch := none } ∧
         ∀ a, ∃ m, t.dropAt a = (u.dropAt a).map fun d => { d with statusMark := m })) ∧
  (∀ s : State, s.supply = true →
     (s.jnc.clockRuns = false → exec .dayClockTick s = .next s) ∧
     (s.jnc.clockRuns = true →
       exec .dayClockTick s = .next { s with jnc := { s.jnc with
         clock := if s.jnc.clock < 4294967295 then s.jnc.clock + 1 else s.jnc.clock
         clockKept := if s.jnc.clock < 4294967295 then s.jnc.clock + 1 else s.jnc.clock } }))

/-- Entries of a load that is taken: the node queue answers LOAD-ACK with the accepted count, and the kind's
loaded-key set gains the entries' keys; RATES is taken in OPEN and CLOSE-PROPOSED too (R156). A load is refused whole
with LOAD-NAK and changes no table: WRONG-STATE in a day that does not accept the kind; then FIELD-RANGE, naming the
first entry that cannot be read or is out of range, counted from 1, and naming none in a frame with no entry; then for
TELLERS in OPEN IN-USE, naming the first entry whose teller is signed on; then TABLE-FULL for new keys beyond the free
entries (R156, R157; positions and free places, assumption 34; the printable mark of a layout, assumption 10; the
12 characters of a definition's text, assumption 33). -/
def Obligations.LoadsAreApplied : Prop :=
  (∀ (s u : State) (h : FrameHeader), s.Accepts h → u = s.seeFrame → u.dyc.day = .loading →
    (∀ l, l ≠ [] → l.all codeEntryOk = true → ∃ t, exec (.loadCodes h (l.map some)) s = .next t ∧
      u.LoadTaken t h .codes CodeEntry.code l ∧
      t = { u with rqu := { u.rqu with codeMap := t.rqu.codeMap }, tkc := t.tkc, dyc := t.dyc } ∧
      ∀ k, findKey Prod.fst k t.rqu.codeMap = match lastWith CodeEntry.code k l with
        | some e => e.index.map fun i => (k, i)
        | none => findKey Prod.fst k u.rqu.codeMap) ∧
    (∀ l, l ≠ [] → l.all definitionEntryOk = true → ∃ t, exec (.loadDefinitions h (l.map some)) s = .next t ∧
      u.LoadTaken t h .definitions DefinitionEntry.index l ∧
      t = { u with rqu := { u.rqu with definitions := t.rqu.definitions }, tkc := t.tkc, dyc := t.dyc } ∧
      ∀ k, findKey Prod.fst k t.rqu.definitions = match lastWith DefinitionEntry.index k l with
        | some e => e.body.map fun g => (k, g)
        | none => findKey Prod.fst k u.rqu.definitions) ∧
    (∀ l, l ≠ [] → l.all routeEntryOk = true → ∃ t, exec (.loadRoutes h (l.map some)) s = .next t ∧
      u.LoadTaken t h .routes RouteEntry.index l ∧
      t = { u with rqu := { u.rqu with routes := t.rqu.routes }, tkc := t.tkc, dyc := t.dyc } ∧
      ∀ k, findKey Prod.fst k t.rqu.routes = match lastWith RouteEntry.index k l with
        | some e => e.body.map fun r => (k, r)
        | none => findKey Prod.fst k u.rqu.routes) ∧
    (∀ l e, (l ++ [e]).all denominationEntryOk = true →
      ∃ t, exec (.loadDenominations h ((l ++ [e]).map some)) s = .next t ∧
      u.LoadTaken t h .denominations (fun x => currencyKey x.currency) (l ++ [e]) ∧
      t = { u with
        csu := { u.csu with denomHome := t.csu.denomHome, denomForeign := t.csu.denomForeign }
        tkc := t.tkc, dyc := t.dyc } ∧
      (if e.currency = .home then t.csu.denomHome else t.csu.denomForeign) = e.values) ∧
    (∀ l e, (l ++ [e]).all layoutOk = true → ∃ t, exec (.loadLayout h ((l ++ [e]).map some)) s = .next t ∧
      u.LoadTaken t h .layout (fun _ => 0) (l ++ [e]) ∧
      t = { u with pbu := { u.pbu with layout := e }, tkc := t.tkc, dyc := t.dyc })) ∧
  (∀ (s u : State) (h : FrameHeader) (l : List RateLoad) (e : RateLoad), s.Accepts h → u = s.seeFrame →
    u.dyc.day = .loading ∨ u.dyc.day = .opened ∨ u.dyc.day = .closeProposed →
    (l ++ [e]).all rateLoadOk = true → ∃ t, exec (.loadRates h ((l ++ [e]).map some)) s = .next t ∧
      u.LoadTaken t h .rates (fun _ => 0) (l ++ [e]) ∧
      t = { u with siu := { u.siu with rate := some ⟨e, u.jnc.clock⟩ }, tkc := t.tkc, dyc := t.dyc }) ∧
  (∀ (s u : State) (h : FrameHeader) (r : LoadFault), s.Accepts h → u = s.seeFrame →
    (∀ l, u.LoadFails .tellers tellerEntryOk l r → exec (.loadTellers h l) s = .next (u.nak h .tellers r)) ∧
    (∀ l, u.LoadFails .codes codeEntryOk l r → exec (.loadCodes h l) s = .next (u.nak h .codes r)) ∧
    (∀ l, u.LoadFails .definitions definitionEntryOk l r →
      exec (.loadDefinitions h l) s = .next (u.nak h .definitions r)) ∧
    (∀ l, u.LoadFails .routes routeEntryOk l r → exec (.loadRoutes h l) s = .next (u.nak h .routes r)) ∧
    (∀ l, u.LoadFails .sat satLoadOk l r → exec (.loadSat h l) s = .next (u.nak h .sat r)) ∧
    (∀ l, u.LoadFails .rates rateLoadOk l r → exec (.loadRates h l) s = .next (u.nak h .rates r)) ∧
    (∀ l, u.LoadFails .denominations denominationEntryOk l r →
      exec (.loadDenominations h l) s = .next (u.nak h .denominations r)) ∧
    (∀ l, u.LoadFails .layout layoutOk l r → exec (.loadLayout h l) s = .next (u.nak h .layout r)) ∧
    (∀ l, u.LoadFails .parameters paramsOk l r → exec (.loadParameters h l) s = .next (u.nak h .parameters r))) ∧
  (∀ (s u : State) (h : FrameHeader), s.Accepts h → u = s.seeFrame →
    (∀ p e q, u.dyc.day = .opened → (p ++ e :: q).all tellerEntryOk = true →
      (∀ y ∈ p, ∀ x, u.tellerOf (tellerKey y) = some x → x.signedOn = false) →
      (u.tellerOf (tellerKey e)).any Teller.signedOn = true →
      exec (.loadTellers h ((p ++ e :: q).map some)) s = .next (u.nak h .tellers (.inUse (p.length + 1)))) ∧
    (∀ (l : List TellerEntry) (keys : List Nat), u.TakesTellers l → l.all tellerEntryOk = true →
      keys ≠ [] → keys.Nodup →
      (∀ n ∈ keys, n ∈ l.filterMap loadedNumber ∧ u.tellerOf n = none) → 32 < keys.length + u.rqu.tellers.length →
      exec (.loadTellers h (l.map some)) s = .next (u.nak h .tellers .tableFull)) ∧
    (∀ (l : List SatLoad) (keys : List Nat), u.dyc.day = .loading → l.all satLoadOk = true → keys ≠ [] → keys.Nodup →
      (∀ n ∈ keys, n ∈ l.map SatLoad.account ∧ u.satAt n = none) → 4096 < keys.length + u.siu.sat.length →
      exec (.loadSat h (l.map some)) s = .next (u.nak h .sat .tableFull)))

/-- A TELLERS load replaces the loaded fields of an entry and keeps its session state and failure count, starts
a new number SIGNED-OFF with failure count 0, and removes an entry; an SAT load makes the entry FULL with used 0
and unconfirmed net 0, and keeps a passbook part that is there (R22, R157, R158). A PARAMETERS load replaces the
parameters record: every drawer takes its cash-high limit at once and cash-high is judged again; the slot map
and the drop table in use wait for the next cycle (R2, R72, R75, R157). Supervision sees the frame first, with the
check period it replaces (assumption 19); a REMOVE's key joins the loaded-key set (assumption 34); a reload touches
the table alone (assumption 45). A TELLERS load is taken in OPEN too when no entry names a teller who is signed on
(R156). -/
def Obligations.TellersAccountsAndParametersAreLoaded : Prop :=
  (∀ (s u : State) (h : FrameHeader), s.Accepts h → u = s.seeFrame →
     (∀ l, u.TakesTellers l → l ≠ [] → l.all tellerEntryOk = true →
       (∃ free, free + u.rqu.tellers.length = 32 ∧ (l.filterMap loadedNumber).length ≤ free) →
       ∃ t, exec (.loadTellers h (l.map some)) s = .next t ∧ u.LoadTaken t h .tellers tellerKey l ∧
         t = { u with rqu := { u.rqu with tellers := t.rqu.tellers }, tkc := t.tkc, dyc := t.dyc } ∧
         (∀ n, (∀ e ∈ l, tellerKey e ≠ n) → t.tellerOf n = u.tellerOf n) ∧
         ∀ e, l = [e] → match e with
           | .remove n => t.tellerOf n = none
           | .load n role training check limit restriction drawer => ∃ x, t.tellerOf n = some x ∧ x.role = role ∧
               x.training = training ∧ x.check = check ∧ x.cashLimit = limit ∧ x.restriction = restriction ∧
               x.drawer = drawer ∧ x.session = ((u.tellerOf n).map Teller.session).getD .signedOff ∧
               x.failures = ((u.tellerOf n).map Teller.failures).getD 0) ∧
     (∀ l, u.dyc.day = .loading → l ≠ [] → l.all satLoadOk = true → l.length + u.siu.sat.length ≤ 4096 →
       ∃ t, exec (.loadSat h (l.map some)) s = .next t ∧ u.LoadTaken t h .sat SatLoad.account l ∧
         t = { u with siu := { u.siu with sat := t.siu.sat }, tkc := t.tkc, dyc := t.dyc } ∧
         ∀ n, match lastWith SatLoad.account n l with
           | none => t.satAt n = u.satAt n
           | some e => ∃ x, t.satAt n = some x ∧ x.kind = .full ∧ x.snapshot = e.snapshot ∧ x.limit = e.limit ∧
               x.blocked = e.blocked ∧ x.used = 0 ∧ x.net = 0 ∧
               ∀ b, (u.satAt n).bind SatEntry.book = some b → x.book = some b)) ∧
  (∀ (s u : State) (h : FrameHeader) (p : Params), s.Accepts h → u = s.seeFrame →
     u.dyc.day = .noDay ∨ u.dyc.day = .loading → paramsOk p = true →
     u.csu.drawers.map Drawer.number = List.range 25 →
     ∃ t, exec (.loadParameters h [some p]) s = .next t ∧
       t = { u with lpc := t.lpc, csu := t.csu, tkc := t.tkc, dyc := t.dyc } ∧
       t.dyc = { u.dyc with params := p, loaded := t.dyc.loaded } ∧
       t.csu = { u.csu with drawers := u.csu.drawers.map fun d =>
         let limit := p.cashHigh.getD d.number d.limit
         { d with limit := limit, cashHigh := decide ((limit : Int) < d.home.position) } } ∧
       t.lpc = { u.lpc with drops := t.lpc.drops } ∧
       (∀ a, ∃ m, t.dropAt a = (u.dropAt a).map fun d => { d with statusMark := m }) ∧
       t.tkc = { u.tkc with nodeQueue :=
         u.tkc.nodeQueue ++ [⟨h.tag, .loadAck .parameters t.dyc.loaded.parameters.length⟩] })

/-- A DAY-OPEN in LOADING with every accepted count as expected sweeps the SAT and opens the day; the first kind
that differs is answered LOAD-MISMATCH with both counts, and in any other day it is answered WRONG-STATE (R159).
-/
def Obligations.DayOpens : Prop :=
  ∀ (s u : State) (h : FrameHeader), s.Accepts h → u = s.seeFrame →
    (u.dyc.day ≠ .loading → exec (.dayOpen h) s = .next { u with
      tkc := { u.tkc with nodeQueue := u.tkc.nodeQueue ++ [⟨h.tag, .nodeStatus (.wrongState .dayOpen)⟩] } }) ∧
    (∀ l k r, u.dyc.day = .loading → tableKinds = l ++ k :: r →
      (∀ j ∈ l, (kindGet u.dyc.loaded j).length = kindGet u.dyc.expected j) →
      (kindGet u.dyc.loaded k).length ≠ kindGet u.dyc.expected k →
      exec (.dayOpen h) s = .next { u with tkc := { u.tkc with nodeQueue := u.tkc.nodeQueue ++
        [⟨h.tag, .nodeStatus (.loadMismatch k (kindGet u.dyc.expected k) (kindGet u.dyc.loaded k).length)⟩] } }) ∧
    (u.dyc.day = .loading → (∀ j ∈ tableKinds, (kindGet u.dyc.loaded j).length = kindGet u.dyc.expected j) →
      ∃ t, exec (.dayOpen h) s = .next t ∧
        t = { u with lpc := t.lpc, tkc := t.tkc, siu := t.siu, dyc := t.dyc } ∧
        t.dyc = { u.dyc with day := .opened } ∧ t.siu = { u.siu with sat := t.siu.sat } ∧
        t.tkc = { u.tkc with nodeQueue := u.tkc.nodeQueue ++ [⟨h.tag, .nodeStatus (.opened u.dyc.date)⟩] } ∧
        ∀ e, e ∈ t.siu.sat ↔ (e ∈ u.siu.sat ∧ e.account ∈ u.dyc.loaded.sat) ∨
          ∃ o b, o ∈ u.siu.sat ∧ o.account ∉ u.dyc.loaded.sat ∧ o.book = some b ∧
            (b.pending ≠ [] ∨ b.overflow.items ≠ 0 ∨ b.marker.isSome = true ∨ b.session.isSome = true) ∧
            e = { o with kind := .pendingOnly })

/-! ### The batch -/

/-- A BLOCK-ACK of a block in flight acknowledges every block up to it and sets the attempts to 0; the block
timer restarts when the next block has been started, else stops, and stays stopped in SEND-STALLED. A BLOCK-NAK
in SENDING goes back to its block, counting the attempt, and the fifth stalls the batch with NODE-STATUS
BATCH-STALLED. Outside their range and day both are discarded (R172, R173). The block timer's expiry counts an
attempt and sends again from the oldest unacknowledged block; the fifth attempt stalls the batch with
NODE-STATUS BATCH-STALLED. A stopped timer does not expire (R174, R175). Supervision sees a frame first, so on a
SUSPECT link it is judged after the resumption (assumption 19); after an expiry the timer is stopped, and no frame
starts it by a resumption that a stall has ended (assumption 44); an acknowledgment of the oldest block that comes
before its frame is started again is discarded (assumption 51). -/
def Obligations.BlocksAreAcknowledged : Prop :=
  (∀ (s u : State) (h : FrameHeader) (n : Nat) (b : Batch), s.Receives h → u = s.seeFrame → u.dyc.batch = some b →
     ((n < b.oldest ∨ b.next ≤ n) ∨ (u.dyc.day ≠ .sending ∧ u.dyc.day ≠ .sendStalled) →
       exec (.blockAck h n) s = .next u) ∧
     (b.oldest ≤ n → n < b.next → u.dyc.day = .sending ∨ u.dyc.day = .sendStalled →
       exec (.blockAck h n) s = .next { u with dyc := { u.dyc with
         batch := some { b with oldest := n + 1, attempts := 0, trailer := b.trailer || n == b.blocks + 1 }
         blockTimer := if u.dyc.day = .sendStalled then u.dyc.blockTimer
           else if n + 1 < b.next then .running u.dyc.params.blockTimer else .stopped } }) ∧
     ((n < b.oldest ∨ b.next ≤ n) ∨ u.dyc.day ≠ .sending → exec (.blockNak h n) s = .next u) ∧
     (b.oldest ≤ n → n < b.next → u.dyc.day = .sending →
       let attempts := (if n = b.oldest then b.attempts else 0) + 1
       ∃ t, exec (.blockNak h n) s = .next t ∧
         t.dyc.batch = some { b with oldest := n, next := n, attempts := attempts } ∧ t.dyc.blockTimer = .stopped ∧
         (attempts < 5 → t = { u with dyc := t.dyc } ∧ t.dyc.day = .sending) ∧
         (5 ≤ attempts → t = { u with lpc := t.lpc, dyc := t.dyc, tkc := t.tkc } ∧ t.dyc.day = .sendStalled ∧
           (u.nodeRoom = true → t.tkc.nodeQueue = u.tkc.nodeQueue ++ [⟨0, .nodeStatus (.batchStalled n)⟩])))) ∧
  (∀ (s : State) (b : Batch), s.isRunning = true → s.dyc.batch = some b →
     (s.dyc.blockTimer = .stopped → exec .blockTimerExpiry s = .next s) ∧
     (s.dyc.blockTimer ≠ .stopped → b.attempts + 1 < 5 → exec .blockTimerExpiry s = .next { s with dyc := { s.dyc with
       batch := some { b with attempts := b.attempts + 1, next := b.oldest }, blockTimer := .stopped } }) ∧
     (s.dyc.blockTimer ≠ .stopped → 5 ≤ b.attempts + 1 → ∃ t, exec .blockTimerExpiry s = .next t ∧
       t.dyc.day = .sendStalled ∧ t.dyc.blockTimer = .stopped ∧ t.dyc.resumed = false ∧
       t.dyc.batch = some { b with attempts := b.attempts + 1 } ∧
       t = { s with lpc := t.lpc, dyc := t.dyc, tkc := t.tkc } ∧
       (s.nodeRoom = true → t.tkc.nodeQueue = s.tkc.nodeQueue ++ [⟨0, .nodeStatus (.batchStalled b.oldest)⟩])))

/-- BATCH-RESUME in SEND-STALLED on an ONLINE link names a block from 1 to the next block to send: it becomes
the next to send, the oldest unacknowledged goes back with it, and the day is SENDING with no answer. Another
block is counted and answered RESUME-REFUSED; anywhere else it is answered WRONG-STATE (R176). RESEND-BATCH in
SENT clears the verdict and the acknowledgments, refills the SFQ with the entries of the batch's records still
pending, and sends the batch again from block 1, or stalls without an ONLINE link; elsewhere it is answered
WRONG-STATE (R175, R178). Both act under the link and the day that supervision makes of the frame (assumption 19); a
resumption marks its first frame to start the block timer (assumption 44), and with no frame left to send it leaves
the timer stopped (assumption 52). -/
def Obligations.BatchResumesOrStartsAgain : Prop :=
  (∀ (s u : State) (h : FrameHeader) (n : Nat), s.Accepts h → u = s.seeFrame →
     (u.dyc.day ≠ .sendStalled ∨ u.tkc.link ≠ .online ∨ u.dyc.batch = none →
       exec (.batchResume h n) s = .next { u with
         tkc := { u.tkc with nodeQueue := u.tkc.nodeQueue ++ [⟨h.tag, .nodeStatus (.wrongState .batchResume)⟩] } }) ∧
     (∀ b, u.dyc.day = .sendStalled → u.tkc.link = .online → u.dyc.batch = some b →
       (n = 0 ∨ b.next < n → exec (.batchResume h n) s = .next { u with
         dyc := { u.dyc with batch := some { b with refusals := counted b.refusals } }
         tkc := { u.tkc with nodeQueue := u.tkc.nodeQueue ++
           [⟨h.tag, .nodeStatus (.resumeRefused n b.next (counted b.refusals))⟩] } }) ∧
       (1 ≤ n → n ≤ b.next → ∃ t, exec (.batchResume h n) s = .next t ∧ t = { u with dyc := t.dyc } ∧
         t.dyc = { u.dyc with
           day := .sending, resumed := decide (n ≤ b.blocks + 1)
           batch := some { b with
             oldest := min n b.oldest, next := n, attempts := 0
             trailer := b.trailer && decide (b.blocks + 1 < n) } }))) ∧
  (∀ (s u : State) (h : FrameHeader) (b : Batch), s.Accepts h → u = s.seeFrame →
     (u.dyc.day ≠ .sent → exec (.resendBatch h) s = .next { u with
       tkc := { u.tkc with nodeQueue := u.tkc.nodeQueue ++ [⟨h.tag, .nodeStatus (.wrongState .resendBatch)⟩] } }) ∧
     (u.dyc.day = .sent → u.dyc.batch = some b → ∃ t, exec (.resendBatch h) s = .next t ∧
       t.dyc.batch = some { b with verdict := none, trailer := false, oldest := 1, next := 1, attempts := 0 } ∧
       t.dyc.day = (if u.tkc.link = .online then .sending else .sendStalled) ∧ t.dyc.resumed = false ∧
       t.jnc = u.jnc ∧ t.csu = u.csu ∧ t.rqu = u.rqu ∧ t.tkc.nodeQueue = u.tkc.nodeQueue ∧
       t.siu = { u.siu with sfq := t.siu.sfq } ∧
       ∀ e : SfqEntry, e ∈ t.siu.sfq ↔ ∃ r ∈ u.jnc.records, r.seq ≤ b.records ∧ r.seq = e.seq ∧
         ((e.kind = .posting ∧ r.disposition = some .advicePending) ∨
           (e.kind = .reversal ∧ r.disposition = some .reversalPending))))

/-- Once the trailer is acknowledged, BATCH-VERDICT compares the totals in order: all equal is AGREED, else DISPUTED
names the first that differs with both values; the day is SENT and the SFQ emptied. In SENT a kept verdict is
answered again, and anywhere else the answer is WRONG-STATE (R177). Supervision sees the frame first, so on a SUSPECT
link the day and the batch are those of the resumption (assumption 19). -/
def Obligations.VerdictIsTaken : Prop :=
  ∀ (s u : State) (h : FrameHeader) (theirs : Totals), s.Accepts h → u = s.seeFrame →
    (u.dyc.batch = none → exec (.batchVerdict h theirs) s = .next { u with
      tkc := { u.tkc with nodeQueue := u.tkc.nodeQueue ++ [⟨h.tag, .nodeStatus (.wrongState .batchVerdict)⟩] } }) ∧
    ∀ b, u.dyc.batch = some b →
    (b.trailer = true → u.dyc.day = .sending ∨ u.dyc.day = .sendStalled →
      ∃ t v, exec (.batchVerdict h theirs) s = .next t ∧
        t = { u with lpc := t.lpc, tkc := t.tkc, siu := t.siu, dyc := t.dyc } ∧
        t.siu = { u.siu with sfq := [] } ∧ t.dyc.day = .sent ∧ t.dyc.blockTimer = .stopped ∧
        t.dyc.batch = some { b with verdict := some v } ∧
        (v = .agreed ↔ b.totals = theirs) ∧
        (∀ k x y, v = .disputed k x y → 1 ≤ k ∧ (totalsList b.totals)[k - 1]? = some x ∧
          (totalsList theirs)[k - 1]? = some y ∧ x ≠ y ∧
          (totalsList b.totals).take (k - 1) = (totalsList theirs).take (k - 1)) ∧
        t.tkc = { u.tkc with nodeQueue := u.tkc.nodeQueue ++ [⟨h.tag, .nodeStatus (verdictCondition v)⟩] }) ∧
    (∀ v, u.dyc.day = .sent → b.verdict = some v → exec (.batchVerdict h theirs) s = .next { u with
      tkc := { u.tkc with nodeQueue := u.tkc.nodeQueue ++ [⟨h.tag, .nodeStatus (verdictCondition v)⟩] } }) ∧
    ((b.trailer = false ∧ u.dyc.day ≠ .sent) ∨
        (u.dyc.day ≠ .sending ∧ u.dyc.day ≠ .sendStalled ∧ u.dyc.day ≠ .sent) →
      exec (.batchVerdict h theirs) s = .next { u with
        tkc := { u.tkc with nodeQueue := u.tkc.nodeQueue ++ [⟨h.tag, .nodeStatus (.wrongState .batchVerdict)⟩] } })

/-- DAY-END in SENT empties the journal, rolls every drawer (the opening becomes the position, the sums and the
nets 0, the state NOT-DUE, the assigned teller and the declaration none), clears every unconfirmed net, empties
the notices with every next number 1, clears the batch progress and makes the day NO-DAY, answered with the date
that ends; in any other day it is answered WRONG-STATE (R88, R179). The mark of the captured cutoff goes with the
journal (assumption 26). -/
def Obligations.DayEnds : Prop :=
  ∀ (s u : State) (h : FrameHeader), s.Accepts h → u = s.seeFrame →
    u.csu.drawers.map Drawer.number = List.range 25 →
    (u.dyc.day ≠ .sent → exec (.dayEnd h) s = .next { u with
      tkc := { u.tkc with nodeQueue := u.tkc.nodeQueue ++ [⟨h.tag, .nodeStatus (.wrongState .dayEnd)⟩] } }) ∧
    (u.dyc.day = .sent → ∃ t, exec (.dayEnd h) s = .next t ∧
      t = { u with lpc := t.lpc, csu := t.csu, tkc := t.tkc, siu := t.siu, jnc := t.jnc, dyc := t.dyc } ∧
      t.jnc = { u.jnc with records := [], counter := 0, postingsClosed := false } ∧
      t.csu = { u.csu with
        netHome := 0, netForeign := 0
        drawers := u.csu.drawers.map fun w => { w with
          home := ⟨w.home.position, 0, 0, 0, 0, 0⟩, foreign := ⟨w.foreign.position, 0, 0, 0, 0, 0⟩
          assigned := none, balance := .notDue, declaration := none
          cashHigh := decide ((w.limit : Int) < w.home.position) } } ∧
      t.siu = { u.siu with sat := u.siu.sat.map fun e => { e with net := 0 } } ∧
      t.lpc.notices = [] ∧ t.lpc.noticeCounter = 1 ∧ (∀ d ∈ t.lpc.drops, d.nextNotice = 1) ∧
      t.dyc = { u.dyc with day := .noDay, batch := none, cutoff := none, date := none, time := none } ∧
      t.tkc = { u.tkc with nodeQueue := u.tkc.nodeQueue ++ [⟨h.tag, .nodeStatus (.noDay u.dyc.date)⟩] })

/-! ### Passbooks -/

/-- A book presented in IDENTIFY that fails a check is ejected with its reason and a PASSBOOK-ALERT record, and its
session is REFUSED: no stripe, a day not open, no passbook part, an account in a session, a full book, one
superseded, or a position that does not match (R142, R143). A book that matches the account's next position begins
its session: on an ONLINE link a fetch is forwarded first; otherwise the first pending line is printed at once, with
its marker and the 30 s answer timer (R58, R142 to R144, R146, R147; the fetch's position, assumption 40; the printed
characters, assumption 10). A book one position past its marked line has that line counted as printed, lines printed
1, and its session goes on from there; past the last line of page 32 it ends at once with BOOK-FULL (R143, R148,
R149, R152). -/
def Obligations.BookIsTakenOrRefused : Prop :=
  (∀ (s : State) (a : Nat) (stripe : Stripe) (d : Drop) (z : Session) (account : Option Nat) (pos : Option BookPos)
     (reason : BookReason),
     s.HearsPrinter a d → s.sessionOf a = some z → z.state = .identify →
     ((stripe = .unreadable ∧ account = none ∧ pos = none ∧ reason = .noStripe) ∨
       ∃ n p, stripe = .read n p ∧ account = some n ∧ pos = some p ∧
         ((reason = .dayNotOpen ∧ (s.dyc.day = .noDay ∨ s.dyc.day = .loading)) ∨
          (s.dyc.day ≠ .noDay ∧ s.dyc.day ≠ .loading ∧
           ((reason = .notPassbook ∧ s.bookOf n = none) ∨
            ∃ b, s.bookOf n = some b ∧
              ((reason = .accountBusy ∧ b.session.isSome = true) ∨
               (b.session = none ∧
                 ((reason = .bookFull ∧ b.next = .full) ∨
                  (∃ q l, b.next = .line q l ∧ p ≠ .line q l ∧ ¬ (p = positionAfter q l ∧ b.marker.isSome = true) ∧
                    reason = if positionBefore p (.line q l) = true then .bookSuperseded
                      else .positionMismatch)))))))) →
     ∃ t m, exec (.bookPresent a stripe) s = .next t ∧
       t = { s with lpc := t.lpc, pbu := t.pbu, jnc := t.jnc, tkc := t.tkc } ∧ s.OnlyReports t ∧
       s.OnlyDropAndMarks t a ∧
       t.dropAt a = some { d.told (.eject (some reason)) with statusMark := m } ∧ t.sessionState a = .refused ∧
       (s.journalTakes (.passbookAlert account pos reason) = true →
         s.Wrote t (entry (.passbookAlert account pos reason) (some a))) ∧
       (s.journalTakes (.passbookAlert account pos reason) = false → t.jnc = s.jnc)) ∧
  (∀ (s : State) (a n q l : Nat) (d : Drop) (z : Session) (b : Passbook) (g : Line) (rest : List Line),
     s.HearsPrinter a d → s.sessionOf a = some z → z.state = .identify → s.dyc.day ≠ .noDay → s.dyc.day ≠ .loading →
     s.bookOf n = some b → b.session = none → b.next = .line q l → b.overflow.items = 0 → b.pending = g :: rest →
     s.hasWork a = false →
     ∃ t b', exec (.bookPresent a (.read n (.line q l))) s = .next t ∧ t.bookOf n = some b' ∧ b'.session = some a ∧
       b'.pending = b.pending ∧ b'.printed = b.printed ∧ b'.next = b.next ∧ t.jnc = s.jnc ∧ t.csu = s.csu ∧
       t.dyc = s.dyc ∧ t.siu = { s.siu with sat := t.siu.sat } ∧ (∀ k, k ≠ n → t.satAt k = s.satAt k) ∧
       (s.tkc.link = .online → t.sessionState a = .fetching ∧ b'.marker = none ∧ t.lpc = s.lpc ∧
         ∃ f, t.fetchAt a = some f ∧ f.account = n ∧ f.pos = .line q l ∧
           (f.stage = .queued ∨ (f.stage = .waitListed ∧ s.lowestFree = none))) ∧
       (s.tkc.link ≠ .online → t.rqu = s.rqu ∧ t.tkc = s.tkc ∧ s.OnlyDrop t a ∧
         b'.marker = some ⟨q, l, g.amount, g.items, .list⟩ ∧
         t.dropAt a = some (d.told (.printLine q l (lineColumns s.pbu.layout b.printed g))) ∧
         ∃ z', t.sessionOf a = some z' ∧ z'.state = .printing ∧ z'.account = some n ∧ z'.printed = 0 ∧
           z'.command = some (.printLine q l) ∧ z'.timer = .running 30)) ∧
  (∀ (s : State) (a n q l : Nat) (pos : BookPos) (d : Drop) (z : Session) (b : Passbook) (g : Line) (rest : List Line),
     s.HearsPrinter a d → s.sessionOf a = some z → z.state = .identify → s.dyc.day ≠ .noDay → s.dyc.day ≠ .loading →
     s.bookOf n = some b → b.session = none → b.next = .line q l → b.overflow.items = 0 → b.pending = g :: rest →
     b.marker = some ⟨q, l, g.amount, g.items, .list⟩ → pos = positionAfter q l → s.hasWork a = false →
     ∃ t b' z', exec (.bookPresent a (.read n pos)) s = .next t ∧ t.bookOf n = some b' ∧ t.sessionOf a = some z' ∧
       b'.printed = b.printed + g.amount ∧ b'.next = pos ∧ z'.account = some n ∧ z'.printed = 1 ∧
       (rest.length ≤ 40 → b'.pending = rest) ∧ t.csu = s.csu ∧ t.dyc = s.dyc ∧
       t.siu = { s.siu with sat := t.siu.sat } ∧ (∀ k, k ≠ n → t.satAt k = s.satAt k) ∧
       (pos = .full ∨ (s.tkc.link ≠ .online ∧ rest = []) → z'.state = .finished ∧ b'.session = none ∧
         b'.marker = none ∧
         (∃ m, t.dropAt a = some { d.told (.eject (if pos = .full then some .bookFull else none)) with
           statusMark := m }) ∧
         (s.jnc.counter < 65535 →
           s.Wrote t (entry (.passbookPrint n 1 pos (b.printed + g.amount)) (some a)))) ∧
       (pos ≠ .full → s.tkc.link = .online → z'.state = .fetching ∧ b'.session = some a ∧ b'.marker = none ∧
         b'.pending = rest ∧ ∃ f, t.fetchAt a = some f ∧ f.account = n ∧ f.pos = pos) ∧
       (∀ q' l' g' more, pos = .line q' l' → s.tkc.link ≠ .online → rest = g' :: more →
         z'.state = .printing ∧ b'.session = some a ∧ b'.pending = rest ∧
         b'.marker = some ⟨q', l', g'.amount, g'.items, .list⟩ ∧
         t.dropAt a = some (d.told
           (.printLine q' l' (lineColumns s.pbu.layout (b.printed + g.amount) g')))))

/-- A LINE-DONE for the line outstanding confirms it: the printed balance moves by its amount, the line leaves the
list and the position moves on. Before line 24 the next line is printed; when none is left, the book is ejected, the
session FINISHED, and a PASSBOOK-PRINT record asked for; after line 24 of a page with lines left the page is turned,
and a PAGE-READY prints its first line; after line 24 of page 32 the book is ejected with BOOK-FULL and the lines
left stay pending (R147 to R149, R152; the printed characters, assumption 10). With no pending line an overflow
becomes a line of the list when the pool has one free, and is else printed itself, its marker's source OVERFLOW; the
confirmation of such a line lowers the overflow by the marker's count and amount, and what amount a count of 0 leaves
is kept (R139, R147, R148; assumption 40). -/
def Obligations.LinesAreConfirmed : Prop :=
  (∀ (s : State) (a n q l : Nat) (d : Drop) (z : Session) (b : Passbook) (g : Line) (rest : List Line),
    s.HearsPrinter a d → s.sessionOf a = some z → z.account = some n → s.bookOf n = some b →
    b.overflow.items = 0 → b.pending = g :: rest →
    (z.state = .printing → z.command = some (.printLine q l) → b.marker = some ⟨q, l, g.amount, g.items, .list⟩ →
      ∃ t b' z', exec (.lineDone a q l) s = .next t ∧ t.bookOf n = some b' ∧ t.sessionOf a = some z' ∧
        b'.printed = b.printed + g.amount ∧ z'.printed = z.printed + 1 ∧ b'.next = positionAfter q l ∧
        t.csu = s.csu ∧ t.rqu = s.rqu ∧ t.dyc = s.dyc ∧ (∀ k, k ≠ n → t.satAt k = s.satAt k) ∧
        (rest = [] → l < 24 ∨ q < 32 → b'.pending = [] ∧ b'.session = none ∧ z'.state = .finished ∧
          (∃ m, t.dropAt a = some { d.told (.eject none) with statusMark := m }) ∧
          (s.dyc.day ≠ .noDay → s.jnc.counter < 65535 →
            s.Wrote t (entry (.passbookPrint n (z.printed + 1) (positionAfter q l) (b.printed + g.amount)) (some a)))) ∧
        (∀ g' more, rest = g' :: more → l < 24 → b'.pending = rest ∧ z'.state = .printing ∧
          z'.command = some (.printLine q (l + 1)) ∧ b'.marker = some ⟨q, l + 1, g'.amount, g'.items, .list⟩ ∧
          t.dropAt a = some (d.told
            (.printLine q (l + 1) (lineColumns s.pbu.layout (b.printed + g.amount) g')))) ∧
        (rest ≠ [] → l = 24 → q < 32 → b'.pending = rest ∧ b'.marker = none ∧ z'.state = .turning ∧
          t.dropAt a = some (d.told .turnPage)) ∧
        (24 ≤ l → 32 ≤ q → (rest.length ≤ 40 → b'.pending = rest) ∧ b'.marker = none ∧ b'.session = none ∧
          z'.state = .finished ∧ (∃ m, t.dropAt a = some { d.told (.eject (some .bookFull)) with statusMark := m }) ∧
          (s.dyc.day ≠ .noDay → s.jnc.counter < 65535 →
            s.Wrote t (entry (.passbookPrint n (z.printed + 1) .full (b.printed + g.amount)) (some a))))) ∧
    (z.state = .turning → b.next = .line q l →
      ∃ t b' z', exec (.pageReady a) s = .next t ∧ t.bookOf n = some b' ∧ t.sessionOf a = some z' ∧
        t = { s with lpc := t.lpc, siu := t.siu, pbu := t.pbu } ∧ z'.state = .printing ∧
        b'.marker = some ⟨q, l, g.amount, g.items, .list⟩ ∧ b'.pending = b.pending ∧
        t.dropAt a = some (d.told (.printLine q l (lineColumns s.pbu.layout b.printed g))))) ∧
  (∀ (s : State) (c : Instr) (a n q l printed : Nat) (balance : Int) (d : Drop) (z : Session) (b : Passbook)
     (o : Overflow) (y : Line),
     s.HearsPrinter a d → s.sessionOf a = some z → z.account = some n → s.bookOf n = some b → b.pending = [] →
     ((∃ p k m, c = .lineDone a p k ∧ k < 24 ∧ z.state = .printing ∧ z.command = some (.printLine p k) ∧
         b.marker = some m ∧ m.source = .overflow ∧ m.page = p ∧ m.line = k ∧ q = p ∧ l = k + 1 ∧
         printed = z.printed + 1 ∧ balance = b.printed + m.amount ∧
         o = ⟨b.overflow.items - m.items, b.overflow.amount - m.amount, b.overflow.date⟩) ∨
       (c = .pageReady a ∧ z.state = .turning ∧ b.marker = none ∧ b.next = .line q l ∧ printed = z.printed ∧
         balance = b.printed ∧ o = b.overflow)) →
     y = ⟨o.date, .summary, o.items, o.amount, .branch, none⟩ →
     ∃ t b' z', exec c s = .next t ∧ t.bookOf n = some b' ∧ t.sessionOf a = some z' ∧ b'.printed = balance ∧
       b'.next = .line q l ∧ z'.printed = printed ∧ t.csu = s.csu ∧ t.rqu = s.rqu ∧ t.dyc = s.dyc ∧
       (∀ k, k ≠ n → t.satAt k = s.satAt k) ∧
       (o.items = 0 → b'.overflow = o ∧ b'.pending = [] ∧ b'.session = none ∧ z'.state = .finished ∧
         (∃ m, t.dropAt a = some { d.told (.eject none) with statusMark := m }) ∧
         (0 < printed → s.dyc.day ≠ .noDay → s.jnc.counter < 65535 →
           s.Wrote t (entry (.passbookPrint n printed (.line q l) balance) (some a)))) ∧
       (o.items ≠ 0 → t.jnc = s.jnc ∧ z'.state = .printing ∧ z'.command = some (.printLine q l) ∧
         z'.timer = .running 30 ∧ t.dropAt a = some (d.told (.printLine q l (lineColumns s.pbu.layout balance y))) ∧
         (0 < s.poolFree → b'.overflow = ⟨0, 0, none⟩ ∧ b'.pending = [y] ∧
           b'.marker = some ⟨q, l, o.amount, o.items, .list⟩) ∧
         (s.poolFree = 0 → b'.overflow = o ∧ b'.pending = [] ∧
           b'.marker = some ⟨q, l, o.amount, o.items, .overflow⟩)))

/-- A PRINTER-FAULT, or the answer timer's expiry, in PRINTING ends the session: the book is ejected, the
session is FINISHED, the account's flag is cleared, the marker and the balance stay, and nothing is confirmed;
with no session open nothing happens, and a stopped timer does not expire (R150, R152). -/
def Obligations.PrinterFaultEndsTheSession : Prop :=
  ∀ (s : State) (c : Instr) (a : Nat) (d : Drop) (z : Session),
    s.HearsPrinter a d → s.sessionOf a = some z →
    (c = .printerFault a ∨ (c = .answerTimerExpiry a ∧ z.timer ≠ .stopped)) →
    (z.state = .idle ∨ z.state = .finished ∨ z.state = .refused → exec c s = .next s) ∧
    (∀ n b, z.state = .printing → z.account = some n → s.bookOf n = some b → s.fetchAt a = none →
      b.pending.length ≤ 40 →
      ∃ t m, exec c s = .next t ∧ t = { s with lpc := t.lpc, siu := t.siu, pbu := t.pbu, jnc := t.jnc, tkc := t.tkc } ∧
        t.dropAt a = some { d.told (.eject (some .printerFault)) with statusMark := m } ∧ s.OnlyDropAndMarks t a ∧
        t.sessionState a = .finished ∧ t.bookOf n = some { b with session := none } ∧
        (∀ k, k ≠ n → t.satAt k = s.satAt k) ∧
        (z.printed = 0 → t.jnc = s.jnc) ∧
        (0 < z.printed → s.dyc.day ≠ .noDay → s.jnc.counter < 65535 →
          s.Wrote t (entry (.passbookPrint n z.printed b.next b.printed) (some a)))) ∧
    (z.timer = .stopped → exec (.answerTimerExpiry a) s = .next s)

/-! ### Arithmetic and formats -/

/-- Rounding down gives the largest multiple of the unit not above the exact product, rounding up the smallest
not below it, rounding to the nearest a value within one half, a half up. A SELL whose arithmetic succeeds
reduces the keyed amount to the largest multiple of the foreign unit not above it, keeps the remainder as
unsold, and rounds each home leg from the exact product of the reduced amount and the SELL rate by its kind
(R59, R64 to R66). -/
def Obligations.RoundingIsExact : Prop :=
  (∀ p unit : Nat, 0 < unit →
    (unit ∣ roundDown p unit ∧ 1000000 * roundDown p unit ≤ p ∧ p < 1000000 * (roundDown p unit + unit)) ∧
    (unit ∣ roundUp p unit ∧ p ≤ 1000000 * roundUp p unit ∧ 1000000 * roundUp p unit < p + 1000000 * unit) ∧
    (2 * p < 2000000 * roundNearest p + 1000000 ∧ 2000000 * roundNearest p ≤ 2 * p + 1000000)) ∧
  ∀ (d : Definition) (f : TxnFields) (r : RateRecord) (n : Nat) (legs : List Leg) (x : Exchange),
    d.mode = .sellForeign → f.foreign = .value n → 0 < r.rates.unitForeign →
    amounts d f (some r) = .legs legs (some x) →
    x.name = .sell ∧ x.rate = r.rates.sell ∧ x.keyed = n ∧ r.rates.unitForeign ∣ x.reduced ∧ 0 < x.reduced ∧
      x.reduced ≤ n ∧ n < x.reduced + r.rates.unitForeign ∧ x.unsold = n - x.reduced ∧
      legs = ⟨.foreign, .cashOut, x.reduced⟩ :: (homeKinds d).map fun k =>
        (⟨.home, k, roundHome k (x.reduced * r.rates.sell) r.rates.unitHome⟩ : Leg)

/-- A message of up to 15 segments, sent segment by segment to a drop with nothing open, is assembled whole and
without error (R6). Every downstream half is 20 bytes, and the sum of all of them, the segment check included, is 0
modulo 256; its first byte holds FIRST, LAST, DRAWER-RELEASE, ALERT and PROBE (R186). A cycle is 32 slots of 20 bytes
(R185); every slot but the marker's carries a half with a right check, and an offer no indication and no probe; an
upstream half is sent unfilled, so that a drop that writes nothing is NO-REPLY (R3, R5, R16, R186; assumption 47). An
amount takes 5 bytes and a difference 6 bytes of two's complement, and both read back; the own fields of a COUNT hold
each currency's declared amount and difference, those of a TRANSFER its amount (R131, R186; byte order and order of
the fields, assumptions 7 and 21). The length in a frame's header is that of its body (R186). What zero-bit insertion
sends, the receiver restores, and it never sends six one-bits in a row, so no frame holds a flag (R186). -/
def Obligations.LoopAndTrunkFormats : Prop :=
  (∀ (d : Drop) (segments : List (List Byte)), segments ≠ [] → segments.length ≤ 15 →
     (∀ x ∈ segments, x ≠ []) → d.assembly = [] →
     assembleAll d segments true =
       ⟨false, { d with outOfStep := false, assembly := [] }, some segments.flatten⟩) ∧
  (∀ h : DownHalf, (downHalfBytes h).length = 20 ∧ byteSum (downHalfBytes h) = 0 ∧
     (List.range 5).map (byteAt (downHalfBytes h) 0).getLsbD = [h.first, h.last, h.release, h.alert, h.probe]) ∧
  (∀ out : List SlotOut, out.length = 32 → (cycleBytes out).length = 640) ∧
  (∀ n : Nat, (sentUpBytes n).length = 20 ∧ byteSum (sentUpBytes n) = 0 ∧ upFilled (sentUpBytes n) = false ∧
     ∀ m, cleanHalf m (sentUpBytes n) = false) ∧
  (∀ (n : Nat) (o : SlotOut), (slotBytes n o).length = 20 ∧ (o ≠ .marker → byteSum (slotBytes n o) = 0) ∧
     (n ≤ 31 → o = .offer → byteAt (slotBytes n o) 1 = BitVec.ofNat 8 n ∧
       ((List.range 5).map (byteAt (slotBytes n o) 0).getLsbD).drop 2 = [false, false, false])) ∧
  (∀ n : Nat, n ≤ 9999999999 → (natBytes 5 n).length = 5 ∧ bytesNat (natBytes 5 n) = n) ∧
  (∀ n : Int, -999999999999 ≤ n → n ≤ 999999999999 →
     (twosBytes 6 n).length = 6 ∧ twosValue (twosBytes 6 n) = n) ∧
  (∀ (n x y : Nat) (dx dy : Int) (counts : Option Counts) (forced : Bool), ∃ front back,
     ownFields (.count n (some (x, y)) dx dy counts forced) =
       front ++ (natBytes 5 x ++ twosBytes 6 dx ++ natBytes 5 y ++ twosBytes 6 dy) ++ back) ∧
  (∀ (step : TransferStep) (n source target amount : Nat) (c : Currency), ∃ front,
     ownFields (.transfer step n source target c amount) = front ++ natBytes 5 amount) ∧
  (∀ f : OutFrame, bytesNat (((frameContent f).drop 6).take 2) = (frameContent f).length - 8 ∧
     (frameContent f).length ≤ 4105) ∧
  (∀ bits : List Bool, unstuffBits 0 false (stuffBits 0 bits) = bits ∧
     ¬ List.replicate 6 true <:+: stuffBits 0 bits)

/-! ### What every step keeps -/

/-- Every step keeps the journal numbered from 1 without gap or repeat up to its counter (R128, R129). Every step
keeps the unconfirmed net of every account equal to what its pending stand-in postings come to, along with what that
rests on: the numbering, and work items whose tellers are signed on (R114, R117, R158, R179). -/
def Obligations.StepKeepsTheJournalNumbered : Prop :=
  (∀ s t : State, s.JournalNumbered → step s = .next t → t.JournalNumbered) ∧
  (∀ s t : State, s.JournalNumbered → s.WorkAttended → s.NetsAgree → step s = .next t →
     t.JournalNumbered ∧ t.WorkAttended ∧ t.NetsAgree)

/-- Every step keeps the cash of the branch accounted for in each currency: positions and transit equal openings plus
cash in less cash out plus the over/short net (R87, second law). Every step keeps every drawer's position at 0 or
above (R87, first law), along with what that rests on: a waiting transaction's cash-out legs stay within the
positions of the drawer its teller holds, and a HELD drawer's differences bring it to declared amounts (R46, R68,
R74, R84, R85), each work item stands where its stage says, and its teller is signed on at its drop (R23, R44, R48,
R49, R57). -/
def Obligations.StepConservesCash : Prop :=
  (∀ s t : State, s.CashConserved → step s = .next t → t.CashConserved) ∧
  (∀ s t : State, s.WorkAttended → s.WorkPlaced → s.CashCovered → step s = .next t →
     t.WorkAttended ∧ t.WorkPlaced ∧ t.CashCovered)

/-- Every step keeps each drop's score where its state says it stands (R5, R7, R8). Every step keeps every
outbound queue at 4 messages or fewer (R4). Every step keeps the teller table in order, the parameters record
whole, and the store of a running part marked valid (R2, R22, R181). -/
def Obligations.StepKeepsLoopAndTables : Prop :=
  (∀ s t : State, s.ScoresAgree → step s = .next t → t.ScoresAgree) ∧
  (∀ s t : State, s.OutboundBounded → step s = .next t → t.OutboundBounded) ∧
  (∀ s t : State, s.TablesSound → step s = .next t → t.TablesSound)

/-- Every step keeps the trunk's slots, the node queue's four places and the unreported loss of the store as they
must be (R99, R106, R181). Every step keeps the stand-in used of each account within its limit, each passbook's line
balance equal to its printed balance and all that waits to be printed, a marker on the first waiting line equal to
it, and the waiting lines within the pool (R114, R137, R138, R147; the amount left in an overflow whose item count
has fallen to 0 is counted, assumption 40). -/
def Obligations.StepKeepsTheTrunk : Prop :=
  (∀ s t : State, s.TrunkSound → step s = .next t → t.TrunkSound) ∧
  (∀ s t : State, s.AccountsSound → step s = .next t → t.AccountsSound)

/-- The relations that every step keeps hold right after reset (R2, R5, R22, R44, R87, R99, R106, R114, R117, R128,
R137, R181). -/
def Obligations.ResetIsSafe : Prop :=
  State.reset.JournalNumbered ∧ State.reset.CashConserved ∧ State.reset.ScoresAgree ∧ State.reset.TrunkSound ∧
    State.reset.OutboundBounded ∧ State.reset.TablesSound ∧ State.reset.WorkAttended ∧ State.reset.WorkPlaced ∧
    State.reset.CashCovered ∧ State.reset.AccountsSound ∧ State.reset.NetsAgree
end

