-- ==== Sys2Proof/Laws/State.lean ====
section
/-! SUPPORT. One lemma for each field of State under each of the eight block updates. -/

namespace Sys2Proof.Machine

@[simp] theorem State.onLpc_supply (s : State) (f : Lpc → Lpc) : (s.onLpc f).supply = s.supply := rfl
@[simp] theorem State.onLpc_resetLow (s : State) (f : Lpc → Lpc) : (s.onLpc f).resetLow = s.resetLow := rfl
@[simp] theorem State.onLpc_straps (s : State) (f : Lpc → Lpc) : (s.onLpc f).straps = s.straps := rfl
@[simp] theorem State.onLpc_restarting (s : State) (f : Lpc → Lpc) : (s.onLpc f).restarting = s.restarting := rfl
@[simp] theorem State.onLpc_storeValid (s : State) (f : Lpc → Lpc) : (s.onLpc f).storeValid = s.storeValid := rfl
@[simp] theorem State.onLpc_retainedLost (s : State) (f : Lpc → Lpc) : (s.onLpc f).retainedLost = s.retainedLost := rfl
@[simp] theorem State.onLpc_lpc (s : State) (f : Lpc → Lpc) : (s.onLpc f).lpc = f s.lpc := rfl
@[simp] theorem State.onLpc_rqu (s : State) (f : Lpc → Lpc) : (s.onLpc f).rqu = s.rqu := rfl
@[simp] theorem State.onLpc_csu (s : State) (f : Lpc → Lpc) : (s.onLpc f).csu = s.csu := rfl
@[simp] theorem State.onLpc_tkc (s : State) (f : Lpc → Lpc) : (s.onLpc f).tkc = s.tkc := rfl
@[simp] theorem State.onLpc_siu (s : State) (f : Lpc → Lpc) : (s.onLpc f).siu = s.siu := rfl
@[simp] theorem State.onLpc_jnc (s : State) (f : Lpc → Lpc) : (s.onLpc f).jnc = s.jnc := rfl
@[simp] theorem State.onLpc_pbu (s : State) (f : Lpc → Lpc) : (s.onLpc f).pbu = s.pbu := rfl
@[simp] theorem State.onLpc_dyc (s : State) (f : Lpc → Lpc) : (s.onLpc f).dyc = s.dyc := rfl
@[simp] theorem State.onLpc_pending (s : State) (f : Lpc → Lpc) : (s.onLpc f).pending = s.pending := rfl

@[simp] theorem State.onRqu_supply (s : State) (f : Rqu → Rqu) : (s.onRqu f).supply = s.supply := rfl
@[simp] theorem State.onRqu_resetLow (s : State) (f : Rqu → Rqu) : (s.onRqu f).resetLow = s.resetLow := rfl
@[simp] theorem State.onRqu_straps (s : State) (f : Rqu → Rqu) : (s.onRqu f).straps = s.straps := rfl
@[simp] theorem State.onRqu_restarting (s : State) (f : Rqu → Rqu) : (s.onRqu f).restarting = s.restarting := rfl
@[simp] theorem State.onRqu_storeValid (s : State) (f : Rqu → Rqu) : (s.onRqu f).storeValid = s.storeValid := rfl
@[simp] theorem State.onRqu_retainedLost (s : State) (f : Rqu → Rqu) : (s.onRqu f).retainedLost = s.retainedLost := rfl
@[simp] theorem State.onRqu_lpc (s : State) (f : Rqu → Rqu) : (s.onRqu f).lpc = s.lpc := rfl
@[simp] theorem State.onRqu_rqu (s : State) (f : Rqu → Rqu) : (s.onRqu f).rqu = f s.rqu := rfl
@[simp] theorem State.onRqu_csu (s : State) (f : Rqu → Rqu) : (s.onRqu f).csu = s.csu := rfl
@[simp] theorem State.onRqu_tkc (s : State) (f : Rqu → Rqu) : (s.onRqu f).tkc = s.tkc := rfl
@[simp] theorem State.onRqu_siu (s : State) (f : Rqu → Rqu) : (s.onRqu f).siu = s.siu := rfl
@[simp] theorem State.onRqu_jnc (s : State) (f : Rqu → Rqu) : (s.onRqu f).jnc = s.jnc := rfl
@[simp] theorem State.onRqu_pbu (s : State) (f : Rqu → Rqu) : (s.onRqu f).pbu = s.pbu := rfl
@[simp] theorem State.onRqu_dyc (s : State) (f : Rqu → Rqu) : (s.onRqu f).dyc = s.dyc := rfl
@[simp] theorem State.onRqu_pending (s : State) (f : Rqu → Rqu) : (s.onRqu f).pending = s.pending := rfl

@[simp] theorem State.onCsu_supply (s : State) (f : Csu → Csu) : (s.onCsu f).supply = s.supply := rfl
@[simp] theorem State.onCsu_resetLow (s : State) (f : Csu → Csu) : (s.onCsu f).resetLow = s.resetLow := rfl
@[simp] theorem State.onCsu_straps (s : State) (f : Csu → Csu) : (s.onCsu f).straps = s.straps := rfl
@[simp] theorem State.onCsu_restarting (s : State) (f : Csu → Csu) : (s.onCsu f).restarting = s.restarting := rfl
@[simp] theorem State.onCsu_storeValid (s : State) (f : Csu → Csu) : (s.onCsu f).storeValid = s.storeValid := rfl
@[simp] theorem State.onCsu_retainedLost (s : State) (f : Csu → Csu) : (s.onCsu f).retainedLost = s.retainedLost := rfl
@[simp] theorem State.onCsu_lpc (s : State) (f : Csu → Csu) : (s.onCsu f).lpc = s.lpc := rfl
@[simp] theorem State.onCsu_rqu (s : State) (f : Csu → Csu) : (s.onCsu f).rqu = s.rqu := rfl
@[simp] theorem State.onCsu_csu (s : State) (f : Csu → Csu) : (s.onCsu f).csu = f s.csu := rfl
@[simp] theorem State.onCsu_tkc (s : State) (f : Csu → Csu) : (s.onCsu f).tkc = s.tkc := rfl
@[simp] theorem State.onCsu_siu (s : State) (f : Csu → Csu) : (s.onCsu f).siu = s.siu := rfl
@[simp] theorem State.onCsu_jnc (s : State) (f : Csu → Csu) : (s.onCsu f).jnc = s.jnc := rfl
@[simp] theorem State.onCsu_pbu (s : State) (f : Csu → Csu) : (s.onCsu f).pbu = s.pbu := rfl
@[simp] theorem State.onCsu_dyc (s : State) (f : Csu → Csu) : (s.onCsu f).dyc = s.dyc := rfl
@[simp] theorem State.onCsu_pending (s : State) (f : Csu → Csu) : (s.onCsu f).pending = s.pending := rfl

@[simp] theorem State.onTkc_supply (s : State) (f : Tkc → Tkc) : (s.onTkc f).supply = s.supply := rfl
@[simp] theorem State.onTkc_resetLow (s : State) (f : Tkc → Tkc) : (s.onTkc f).resetLow = s.resetLow := rfl
@[simp] theorem State.onTkc_straps (s : State) (f : Tkc → Tkc) : (s.onTkc f).straps = s.straps := rfl
@[simp] theorem State.onTkc_restarting (s : State) (f : Tkc → Tkc) : (s.onTkc f).restarting = s.restarting := rfl
@[simp] theorem State.onTkc_storeValid (s : State) (f : Tkc → Tkc) : (s.onTkc f).storeValid = s.storeValid := rfl
@[simp] theorem State.onTkc_retainedLost (s : State) (f : Tkc → Tkc) : (s.onTkc f).retainedLost = s.retainedLost := rfl
@[simp] theorem State.onTkc_lpc (s : State) (f : Tkc → Tkc) : (s.onTkc f).lpc = s.lpc := rfl
@[simp] theorem State.onTkc_rqu (s : State) (f : Tkc → Tkc) : (s.onTkc f).rqu = s.rqu := rfl
@[simp] theorem State.onTkc_csu (s : State) (f : Tkc → Tkc) : (s.onTkc f).csu = s.csu := rfl
@[simp] theorem State.onTkc_tkc (s : State) (f : Tkc → Tkc) : (s.onTkc f).tkc = f s.tkc := rfl
@[simp] theorem State.onTkc_siu (s : State) (f : Tkc → Tkc) : (s.onTkc f).siu = s.siu := rfl
@[simp] theorem State.onTkc_jnc (s : State) (f : Tkc → Tkc) : (s.onTkc f).jnc = s.jnc := rfl
@[simp] theorem State.onTkc_pbu (s : State) (f : Tkc → Tkc) : (s.onTkc f).pbu = s.pbu := rfl
@[simp] theorem State.onTkc_dyc (s : State) (f : Tkc → Tkc) : (s.onTkc f).dyc = s.dyc := rfl
@[simp] theorem State.onTkc_pending (s : State) (f : Tkc → Tkc) : (s.onTkc f).pending = s.pending := rfl

@[simp] theorem State.onSiu_supply (s : State) (f : Siu → Siu) : (s.onSiu f).supply = s.supply := rfl
@[simp] theorem State.onSiu_resetLow (s : State) (f : Siu → Siu) : (s.onSiu f).resetLow = s.resetLow := rfl
@[simp] theorem State.onSiu_straps (s : State) (f : Siu → Siu) : (s.onSiu f).straps = s.straps := rfl
@[simp] theorem State.onSiu_restarting (s : State) (f : Siu → Siu) : (s.onSiu f).restarting = s.restarting := rfl
@[simp] theorem State.onSiu_storeValid (s : State) (f : Siu → Siu) : (s.onSiu f).storeValid = s.storeValid := rfl
@[simp] theorem State.onSiu_retainedLost (s : State) (f : Siu → Siu) : (s.onSiu f).retainedLost = s.retainedLost := rfl
@[simp] theorem State.onSiu_lpc (s : State) (f : Siu → Siu) : (s.onSiu f).lpc = s.lpc := rfl
@[simp] theorem State.onSiu_rqu (s : State) (f : Siu → Siu) : (s.onSiu f).rqu = s.rqu := rfl
@[simp] theorem State.onSiu_csu (s : State) (f : Siu → Siu) : (s.onSiu f).csu = s.csu := rfl
@[simp] theorem State.onSiu_tkc (s : State) (f : Siu → Siu) : (s.onSiu f).tkc = s.tkc := rfl
@[simp] theorem State.onSiu_siu (s : State) (f : Siu → Siu) : (s.onSiu f).siu = f s.siu := rfl
@[simp] theorem State.onSiu_jnc (s : State) (f : Siu → Siu) : (s.onSiu f).jnc = s.jnc := rfl
@[simp] theorem State.onSiu_pbu (s : State) (f : Siu → Siu) : (s.onSiu f).pbu = s.pbu := rfl
@[simp] theorem State.onSiu_dyc (s : State) (f : Siu → Siu) : (s.onSiu f).dyc = s.dyc := rfl
@[simp] theorem State.onSiu_pending (s : State) (f : Siu → Siu) : (s.onSiu f).pending = s.pending := rfl

@[simp] theorem State.onJnc_supply (s : State) (f : Jnc → Jnc) : (s.onJnc f).supply = s.supply := rfl
@[simp] theorem State.onJnc_resetLow (s : State) (f : Jnc → Jnc) : (s.onJnc f).resetLow = s.resetLow := rfl
@[simp] theorem State.onJnc_straps (s : State) (f : Jnc → Jnc) : (s.onJnc f).straps = s.straps := rfl
@[simp] theorem State.onJnc_restarting (s : State) (f : Jnc → Jnc) : (s.onJnc f).restarting = s.restarting := rfl
@[simp] theorem State.onJnc_storeValid (s : State) (f : Jnc → Jnc) : (s.onJnc f).storeValid = s.storeValid := rfl
@[simp] theorem State.onJnc_retainedLost (s : State) (f : Jnc → Jnc) : (s.onJnc f).retainedLost = s.retainedLost := rfl
@[simp] theorem State.onJnc_lpc (s : State) (f : Jnc → Jnc) : (s.onJnc f).lpc = s.lpc := rfl
@[simp] theorem State.onJnc_rqu (s : State) (f : Jnc → Jnc) : (s.onJnc f).rqu = s.rqu := rfl
@[simp] theorem State.onJnc_csu (s : State) (f : Jnc → Jnc) : (s.onJnc f).csu = s.csu := rfl
@[simp] theorem State.onJnc_tkc (s : State) (f : Jnc → Jnc) : (s.onJnc f).tkc = s.tkc := rfl
@[simp] theorem State.onJnc_siu (s : State) (f : Jnc → Jnc) : (s.onJnc f).siu = s.siu := rfl
@[simp] theorem State.onJnc_jnc (s : State) (f : Jnc → Jnc) : (s.onJnc f).jnc = f s.jnc := rfl
@[simp] theorem State.onJnc_pbu (s : State) (f : Jnc → Jnc) : (s.onJnc f).pbu = s.pbu := rfl
@[simp] theorem State.onJnc_dyc (s : State) (f : Jnc → Jnc) : (s.onJnc f).dyc = s.dyc := rfl
@[simp] theorem State.onJnc_pending (s : State) (f : Jnc → Jnc) : (s.onJnc f).pending = s.pending := rfl

@[simp] theorem State.onPbu_supply (s : State) (f : Pbu → Pbu) : (s.onPbu f).supply = s.supply := rfl
@[simp] theorem State.onPbu_resetLow (s : State) (f : Pbu → Pbu) : (s.onPbu f).resetLow = s.resetLow := rfl
@[simp] theorem State.onPbu_straps (s : State) (f : Pbu → Pbu) : (s.onPbu f).straps = s.straps := rfl
@[simp] theorem State.onPbu_restarting (s : State) (f : Pbu → Pbu) : (s.onPbu f).restarting = s.restarting := rfl
@[simp] theorem State.onPbu_storeValid (s : State) (f : Pbu → Pbu) : (s.onPbu f).storeValid = s.storeValid := rfl
@[simp] theorem State.onPbu_retainedLost (s : State) (f : Pbu → Pbu) : (s.onPbu f).retainedLost = s.retainedLost := rfl
@[simp] theorem State.onPbu_lpc (s : State) (f : Pbu → Pbu) : (s.onPbu f).lpc = s.lpc := rfl
@[simp] theorem State.onPbu_rqu (s : State) (f : Pbu → Pbu) : (s.onPbu f).rqu = s.rqu := rfl
@[simp] theorem State.onPbu_csu (s : State) (f : Pbu → Pbu) : (s.onPbu f).csu = s.csu := rfl
@[simp] theorem State.onPbu_tkc (s : State) (f : Pbu → Pbu) : (s.onPbu f).tkc = s.tkc := rfl
@[simp] theorem State.onPbu_siu (s : State) (f : Pbu → Pbu) : (s.onPbu f).siu = s.siu := rfl
@[simp] theorem State.onPbu_jnc (s : State) (f : Pbu → Pbu) : (s.onPbu f).jnc = s.jnc := rfl
@[simp] theorem State.onPbu_pbu (s : State) (f : Pbu → Pbu) : (s.onPbu f).pbu = f s.pbu := rfl
@[simp] theorem State.onPbu_dyc (s : State) (f : Pbu → Pbu) : (s.onPbu f).dyc = s.dyc := rfl
@[simp] theorem State.onPbu_pending (s : State) (f : Pbu → Pbu) : (s.onPbu f).pending = s.pending := rfl

@[simp] theorem State.onDyc_supply (s : State) (f : Dyc → Dyc) : (s.onDyc f).supply = s.supply := rfl
@[simp] theorem State.onDyc_resetLow (s : State) (f : Dyc → Dyc) : (s.onDyc f).resetLow = s.resetLow := rfl
@[simp] theorem State.onDyc_straps (s : State) (f : Dyc → Dyc) : (s.onDyc f).straps = s.straps := rfl
@[simp] theorem State.onDyc_restarting (s : State) (f : Dyc → Dyc) : (s.onDyc f).restarting = s.restarting := rfl
@[simp] theorem State.onDyc_storeValid (s : State) (f : Dyc → Dyc) : (s.onDyc f).storeValid = s.storeValid := rfl
@[simp] theorem State.onDyc_retainedLost (s : State) (f : Dyc → Dyc) : (s.onDyc f).retainedLost = s.retainedLost := rfl
@[simp] theorem State.onDyc_lpc (s : State) (f : Dyc → Dyc) : (s.onDyc f).lpc = s.lpc := rfl
@[simp] theorem State.onDyc_rqu (s : State) (f : Dyc → Dyc) : (s.onDyc f).rqu = s.rqu := rfl
@[simp] theorem State.onDyc_csu (s : State) (f : Dyc → Dyc) : (s.onDyc f).csu = s.csu := rfl
@[simp] theorem State.onDyc_tkc (s : State) (f : Dyc → Dyc) : (s.onDyc f).tkc = s.tkc := rfl
@[simp] theorem State.onDyc_siu (s : State) (f : Dyc → Dyc) : (s.onDyc f).siu = s.siu := rfl
@[simp] theorem State.onDyc_jnc (s : State) (f : Dyc → Dyc) : (s.onDyc f).jnc = s.jnc := rfl
@[simp] theorem State.onDyc_pbu (s : State) (f : Dyc → Dyc) : (s.onDyc f).pbu = s.pbu := rfl
@[simp] theorem State.onDyc_dyc (s : State) (f : Dyc → Dyc) : (s.onDyc f).dyc = f s.dyc := rfl
@[simp] theorem State.onDyc_pending (s : State) (f : Dyc → Dyc) : (s.onDyc f).pending = s.pending := rfl

end Sys2Proof.Machine
end

