-- ==== Sys2Proof/Laws/Frames.lean ====
section
/-! SUPPORT. Frames: for each shared operation, the parts of the state it never changes. -/

namespace Sys2Proof.Machine

/-- What every step of a fold keeps, the fold keeps. -/
theorem foldl_fixed {σ α β : Type} {g : σ → β} {f : σ → α → σ} (h : ∀ s x, g (f s x) = g s) (l : List α) (s : σ) :
    g (l.foldl f s) = g s := by
  induction l generalizing s with
  | nil => rfl
  | cons x xs ih => rw [List.foldl_cons, ih, h]

@[simp] theorem State.modifyDrop_frame (s : State) (a : Nat) (f : Drop → Drop) :
    (s.modifyDrop a f).supply = s.supply ∧ (s.modifyDrop a f).resetLow = s.resetLow ∧
    (s.modifyDrop a f).straps = s.straps ∧ (s.modifyDrop a f).restarting = s.restarting ∧
    (s.modifyDrop a f).storeValid = s.storeValid ∧ (s.modifyDrop a f).retainedLost = s.retainedLost ∧
    (s.modifyDrop a f).rqu = s.rqu ∧ (s.modifyDrop a f).csu = s.csu ∧ (s.modifyDrop a f).tkc = s.tkc ∧
    (s.modifyDrop a f).siu = s.siu ∧ (s.modifyDrop a f).jnc = s.jnc ∧ (s.modifyDrop a f).pbu = s.pbu ∧
    (s.modifyDrop a f).dyc = s.dyc ∧ (s.modifyDrop a f).pending = s.pending := by
  simp [State.modifyDrop]

@[simp] theorem State.modifyDrops_frame (s : State) (f : Drop → Drop) :
    (s.modifyDrops f).supply = s.supply ∧ (s.modifyDrops f).resetLow = s.resetLow ∧
    (s.modifyDrops f).straps = s.straps ∧ (s.modifyDrops f).restarting = s.restarting ∧
    (s.modifyDrops f).storeValid = s.storeValid ∧ (s.modifyDrops f).retainedLost = s.retainedLost ∧
    (s.modifyDrops f).rqu = s.rqu ∧ (s.modifyDrops f).csu = s.csu ∧ (s.modifyDrops f).tkc = s.tkc ∧
    (s.modifyDrops f).siu = s.siu ∧ (s.modifyDrops f).jnc = s.jnc ∧ (s.modifyDrops f).pbu = s.pbu ∧
    (s.modifyDrops f).dyc = s.dyc ∧ (s.modifyDrops f).pending = s.pending := by
  simp [State.modifyDrops]

@[simp] theorem State.modifyTeller_frame (s : State) (n : Nat) (f : Teller → Teller) :
    (s.modifyTeller n f).supply = s.supply ∧ (s.modifyTeller n f).resetLow = s.resetLow ∧
    (s.modifyTeller n f).straps = s.straps ∧ (s.modifyTeller n f).restarting = s.restarting ∧
    (s.modifyTeller n f).storeValid = s.storeValid ∧ (s.modifyTeller n f).retainedLost = s.retainedLost ∧
    (s.modifyTeller n f).lpc = s.lpc ∧ (s.modifyTeller n f).csu = s.csu ∧ (s.modifyTeller n f).tkc = s.tkc ∧
    (s.modifyTeller n f).siu = s.siu ∧ (s.modifyTeller n f).jnc = s.jnc ∧ (s.modifyTeller n f).pbu = s.pbu ∧
    (s.modifyTeller n f).dyc = s.dyc ∧ (s.modifyTeller n f).pending = s.pending := by
  simp [State.modifyTeller]

@[simp] theorem State.modifyDrawer_frame (s : State) (d : Nat) (f : Drawer → Drawer) :
    (s.modifyDrawer d f).supply = s.supply ∧ (s.modifyDrawer d f).resetLow = s.resetLow ∧
    (s.modifyDrawer d f).straps = s.straps ∧ (s.modifyDrawer d f).restarting = s.restarting ∧
    (s.modifyDrawer d f).storeValid = s.storeValid ∧ (s.modifyDrawer d f).retainedLost = s.retainedLost ∧
    (s.modifyDrawer d f).lpc = s.lpc ∧ (s.modifyDrawer d f).rqu = s.rqu ∧ (s.modifyDrawer d f).tkc = s.tkc ∧
    (s.modifyDrawer d f).siu = s.siu ∧ (s.modifyDrawer d f).jnc = s.jnc ∧ (s.modifyDrawer d f).pbu = s.pbu ∧
    (s.modifyDrawer d f).dyc = s.dyc ∧ (s.modifyDrawer d f).pending = s.pending := by
  simp [State.modifyDrawer]

@[simp] theorem State.putTxn_frame (s : State) (t : Txn) :
    (s.putTxn t).supply = s.supply ∧ (s.putTxn t).resetLow = s.resetLow ∧ (s.putTxn t).straps = s.straps ∧
    (s.putTxn t).restarting = s.restarting ∧ (s.putTxn t).storeValid = s.storeValid ∧
    (s.putTxn t).retainedLost = s.retainedLost ∧ (s.putTxn t).lpc = s.lpc ∧ (s.putTxn t).csu = s.csu ∧
    (s.putTxn t).tkc = s.tkc ∧ (s.putTxn t).siu = s.siu ∧ (s.putTxn t).jnc = s.jnc ∧ (s.putTxn t).pbu = s.pbu ∧
    (s.putTxn t).dyc = s.dyc ∧ (s.putTxn t).pending = s.pending := by
  simp [State.putTxn]

@[simp] theorem State.modifyTxn_frame (s : State) (a : Nat) (f : Txn → Txn) :
    (s.modifyTxn a f).supply = s.supply ∧ (s.modifyTxn a f).resetLow = s.resetLow ∧
    (s.modifyTxn a f).straps = s.straps ∧ (s.modifyTxn a f).restarting = s.restarting ∧
    (s.modifyTxn a f).storeValid = s.storeValid ∧ (s.modifyTxn a f).retainedLost = s.retainedLost ∧
    (s.modifyTxn a f).lpc = s.lpc ∧ (s.modifyTxn a f).csu = s.csu ∧ (s.modifyTxn a f).tkc = s.tkc ∧
    (s.modifyTxn a f).siu = s.siu ∧ (s.modifyTxn a f).jnc = s.jnc ∧ (s.modifyTxn a f).pbu = s.pbu ∧
    (s.modifyTxn a f).dyc = s.dyc ∧ (s.modifyTxn a f).pending = s.pending := by
  simp [State.modifyTxn]

@[simp] theorem State.endTxn_frame (s : State) (a : Nat) :
    (s.endTxn a).supply = s.supply ∧ (s.endTxn a).resetLow = s.resetLow ∧ (s.endTxn a).straps = s.straps ∧
    (s.endTxn a).restarting = s.restarting ∧ (s.endTxn a).storeValid = s.storeValid ∧
    (s.endTxn a).retainedLost = s.retainedLost ∧ (s.endTxn a).lpc = s.lpc ∧ (s.endTxn a).csu = s.csu ∧
    (s.endTxn a).tkc = s.tkc ∧ (s.endTxn a).siu = s.siu ∧ (s.endTxn a).jnc = s.jnc ∧ (s.endTxn a).pbu = s.pbu ∧
    (s.endTxn a).dyc = s.dyc ∧ (s.endTxn a).pending = s.pending := by
  simp [State.endTxn]

@[simp] theorem State.putFetch_frame (s : State) (f : Fetch) :
    (s.putFetch f).supply = s.supply ∧ (s.putFetch f).resetLow = s.resetLow ∧
    (s.putFetch f).straps = s.straps ∧ (s.putFetch f).restarting = s.restarting ∧
    (s.putFetch f).storeValid = s.storeValid ∧ (s.putFetch f).retainedLost = s.retainedLost ∧
    (s.putFetch f).lpc = s.lpc ∧ (s.putFetch f).csu = s.csu ∧ (s.putFetch f).tkc = s.tkc ∧
    (s.putFetch f).siu = s.siu ∧ (s.putFetch f).jnc = s.jnc ∧ (s.putFetch f).pbu = s.pbu ∧
    (s.putFetch f).dyc = s.dyc ∧ (s.putFetch f).pending = s.pending := by
  simp [State.putFetch]

@[simp] theorem State.modifyFetch_frame (s : State) (a : Nat) (f : Fetch → Fetch) :
    (s.modifyFetch a f).supply = s.supply ∧ (s.modifyFetch a f).resetLow = s.resetLow ∧
    (s.modifyFetch a f).straps = s.straps ∧ (s.modifyFetch a f).restarting = s.restarting ∧
    (s.modifyFetch a f).storeValid = s.storeValid ∧ (s.modifyFetch a f).retainedLost = s.retainedLost ∧
    (s.modifyFetch a f).lpc = s.lpc ∧ (s.modifyFetch a f).csu = s.csu ∧ (s.modifyFetch a f).tkc = s.tkc ∧
    (s.modifyFetch a f).siu = s.siu ∧ (s.modifyFetch a f).jnc = s.jnc ∧ (s.modifyFetch a f).pbu = s.pbu ∧
    (s.modifyFetch a f).dyc = s.dyc ∧ (s.modifyFetch a f).pending = s.pending := by
  simp [State.modifyFetch]

@[simp] theorem State.endFetch_frame (s : State) (a : Nat) :
    (s.endFetch a).supply = s.supply ∧ (s.endFetch a).resetLow = s.resetLow ∧
    (s.endFetch a).straps = s.straps ∧ (s.endFetch a).restarting = s.restarting ∧
    (s.endFetch a).storeValid = s.storeValid ∧ (s.endFetch a).retainedLost = s.retainedLost ∧
    (s.endFetch a).lpc = s.lpc ∧ (s.endFetch a).csu = s.csu ∧ (s.endFetch a).tkc = s.tkc ∧
    (s.endFetch a).siu = s.siu ∧ (s.endFetch a).jnc = s.jnc ∧ (s.endFetch a).pbu = s.pbu ∧
    (s.endFetch a).dyc = s.dyc ∧ (s.endFetch a).pending = s.pending := by
  simp [State.endFetch]

@[simp] theorem State.modifySlot_frame (s : State) (i : Nat) (f : OnlineSlot → OnlineSlot) :
    (s.modifySlot i f).supply = s.supply ∧ (s.modifySlot i f).resetLow = s.resetLow ∧
    (s.modifySlot i f).straps = s.straps ∧ (s.modifySlot i f).restarting = s.restarting ∧
    (s.modifySlot i f).storeValid = s.storeValid ∧ (s.modifySlot i f).retainedLost = s.retainedLost ∧
    (s.modifySlot i f).lpc = s.lpc ∧ (s.modifySlot i f).rqu = s.rqu ∧ (s.modifySlot i f).csu = s.csu ∧
    (s.modifySlot i f).siu = s.siu ∧ (s.modifySlot i f).jnc = s.jnc ∧ (s.modifySlot i f).pbu = s.pbu ∧
    (s.modifySlot i f).dyc = s.dyc ∧ (s.modifySlot i f).pending = s.pending := by
  simp [State.modifySlot]

@[simp] theorem State.modifySat_frame (s : State) (account : Nat) (f : SatEntry → SatEntry) :
    (s.modifySat account f).supply = s.supply ∧ (s.modifySat account f).resetLow = s.resetLow ∧
    (s.modifySat account f).straps = s.straps ∧ (s.modifySat account f).restarting = s.restarting ∧
    (s.modifySat account f).storeValid = s.storeValid ∧ (s.modifySat account f).retainedLost = s.retainedLost ∧
    (s.modifySat account f).lpc = s.lpc ∧ (s.modifySat account f).rqu = s.rqu ∧
    (s.modifySat account f).csu = s.csu ∧ (s.modifySat account f).tkc = s.tkc ∧
    (s.modifySat account f).jnc = s.jnc ∧ (s.modifySat account f).pbu = s.pbu ∧
    (s.modifySat account f).dyc = s.dyc ∧ (s.modifySat account f).pending = s.pending := by
  simp [State.modifySat]

@[simp] theorem State.modifyBook_frame (s : State) (account : Nat) (f : Passbook → Passbook) :
    (s.modifyBook account f).supply = s.supply ∧ (s.modifyBook account f).resetLow = s.resetLow ∧
    (s.modifyBook account f).straps = s.straps ∧ (s.modifyBook account f).restarting = s.restarting ∧
    (s.modifyBook account f).storeValid = s.storeValid ∧
    (s.modifyBook account f).retainedLost = s.retainedLost ∧ (s.modifyBook account f).lpc = s.lpc ∧
    (s.modifyBook account f).rqu = s.rqu ∧ (s.modifyBook account f).csu = s.csu ∧
    (s.modifyBook account f).tkc = s.tkc ∧ (s.modifyBook account f).jnc = s.jnc ∧
    (s.modifyBook account f).pbu = s.pbu ∧ (s.modifyBook account f).dyc = s.dyc ∧
    (s.modifyBook account f).pending = s.pending := by
  simp [State.modifyBook]

@[simp] theorem State.modifySession_frame (s : State) (a : Nat) (f : Session → Session) :
    (s.modifySession a f).supply = s.supply ∧ (s.modifySession a f).resetLow = s.resetLow ∧
    (s.modifySession a f).straps = s.straps ∧ (s.modifySession a f).restarting = s.restarting ∧
    (s.modifySession a f).storeValid = s.storeValid ∧ (s.modifySession a f).retainedLost = s.retainedLost ∧
    (s.modifySession a f).lpc = s.lpc ∧ (s.modifySession a f).rqu = s.rqu ∧ (s.modifySession a f).csu = s.csu ∧
    (s.modifySession a f).tkc = s.tkc ∧ (s.modifySession a f).siu = s.siu ∧ (s.modifySession a f).jnc = s.jnc ∧
    (s.modifySession a f).dyc = s.dyc ∧ (s.modifySession a f).pending = s.pending := by
  simp [State.modifySession]

@[simp] theorem State.queueStatus_frame (s : State) (a : Nat) :
    (s.queueStatus a).supply = s.supply ∧ (s.queueStatus a).resetLow = s.resetLow ∧
    (s.queueStatus a).straps = s.straps ∧ (s.queueStatus a).restarting = s.restarting ∧
    (s.queueStatus a).storeValid = s.storeValid ∧ (s.queueStatus a).retainedLost = s.retainedLost ∧
    (s.queueStatus a).rqu = s.rqu ∧ (s.queueStatus a).csu = s.csu ∧ (s.queueStatus a).tkc = s.tkc ∧
    (s.queueStatus a).siu = s.siu ∧ (s.queueStatus a).jnc = s.jnc ∧ (s.queueStatus a).pbu = s.pbu ∧
    (s.queueStatus a).dyc = s.dyc ∧ (s.queueStatus a).pending = s.pending := by
  simp [State.queueStatus]

@[simp] theorem State.queueStatusAll_frame (s : State) :
    s.queueStatusAll.supply = s.supply ∧ s.queueStatusAll.resetLow = s.resetLow ∧
    s.queueStatusAll.straps = s.straps ∧ s.queueStatusAll.restarting = s.restarting ∧
    s.queueStatusAll.storeValid = s.storeValid ∧ s.queueStatusAll.retainedLost = s.retainedLost ∧
    s.queueStatusAll.rqu = s.rqu ∧ s.queueStatusAll.csu = s.csu ∧ s.queueStatusAll.tkc = s.tkc ∧
    s.queueStatusAll.siu = s.siu ∧ s.queueStatusAll.jnc = s.jnc ∧ s.queueStatusAll.pbu = s.pbu ∧
    s.queueStatusAll.dyc = s.dyc ∧ s.queueStatusAll.pending = s.pending := by
  simp [State.queueStatusAll]

@[simp] theorem State.queueUnseen_frame (s before : State) :
    (s.queueUnseen before).supply = s.supply ∧ (s.queueUnseen before).resetLow = s.resetLow ∧
    (s.queueUnseen before).straps = s.straps ∧ (s.queueUnseen before).restarting = s.restarting ∧
    (s.queueUnseen before).storeValid = s.storeValid ∧ (s.queueUnseen before).retainedLost = s.retainedLost ∧
    (s.queueUnseen before).rqu = s.rqu ∧ (s.queueUnseen before).csu = s.csu ∧
    (s.queueUnseen before).tkc = s.tkc ∧ (s.queueUnseen before).siu = s.siu ∧
    (s.queueUnseen before).jnc = s.jnc ∧ (s.queueUnseen before).pbu = s.pbu ∧
    (s.queueUnseen before).dyc = s.dyc ∧ (s.queueUnseen before).pending = s.pending := by
  simp [State.queueUnseen]

@[simp] theorem State.setRelease_frame (s : State) (a : Nat) :
    (s.setRelease a).supply = s.supply ∧ (s.setRelease a).resetLow = s.resetLow ∧
    (s.setRelease a).straps = s.straps ∧ (s.setRelease a).restarting = s.restarting ∧
    (s.setRelease a).storeValid = s.storeValid ∧ (s.setRelease a).retainedLost = s.retainedLost ∧
    (s.setRelease a).rqu = s.rqu ∧ (s.setRelease a).csu = s.csu ∧ (s.setRelease a).tkc = s.tkc ∧
    (s.setRelease a).siu = s.siu ∧ (s.setRelease a).jnc = s.jnc ∧ (s.setRelease a).pbu = s.pbu ∧
    (s.setRelease a).dyc = s.dyc ∧ (s.setRelease a).pending = s.pending := by
  simp [State.setRelease]

@[simp] theorem State.clearRelease_frame (s : State) (a : Nat) :
    (s.clearRelease a).supply = s.supply ∧ (s.clearRelease a).resetLow = s.resetLow ∧
    (s.clearRelease a).straps = s.straps ∧ (s.clearRelease a).restarting = s.restarting ∧
    (s.clearRelease a).storeValid = s.storeValid ∧ (s.clearRelease a).retainedLost = s.retainedLost ∧
    (s.clearRelease a).rqu = s.rqu ∧ (s.clearRelease a).csu = s.csu ∧ (s.clearRelease a).tkc = s.tkc ∧
    (s.clearRelease a).siu = s.siu ∧ (s.clearRelease a).jnc = s.jnc ∧ (s.clearRelease a).pbu = s.pbu ∧
    (s.clearRelease a).dyc = s.dyc ∧ (s.clearRelease a).pending = s.pending := by
  simp [State.clearRelease]

@[simp] theorem State.handOver_frame (s : State) (a : Nat) (m : DownMessage) :
    (s.handOver a m).supply = s.supply ∧ (s.handOver a m).resetLow = s.resetLow ∧
    (s.handOver a m).straps = s.straps ∧ (s.handOver a m).restarting = s.restarting ∧
    (s.handOver a m).storeValid = s.storeValid ∧ (s.handOver a m).retainedLost = s.retainedLost ∧
    (s.handOver a m).rqu = s.rqu ∧ (s.handOver a m).csu = s.csu ∧ (s.handOver a m).tkc = s.tkc ∧
    (s.handOver a m).siu = s.siu ∧ (s.handOver a m).jnc = s.jnc ∧ (s.handOver a m).pbu = s.pbu ∧
    (s.handOver a m).dyc = s.dyc ∧ (s.handOver a m).pending = s.pending := by
  simp [State.handOver]

@[simp] theorem State.answer_frame (s : State) (a : Nat) (r : Result) :
    (s.answer a r).supply = s.supply ∧ (s.answer a r).resetLow = s.resetLow ∧
    (s.answer a r).straps = s.straps ∧ (s.answer a r).restarting = s.restarting ∧
    (s.answer a r).storeValid = s.storeValid ∧ (s.answer a r).retainedLost = s.retainedLost ∧
    (s.answer a r).rqu = s.rqu ∧ (s.answer a r).csu = s.csu ∧ (s.answer a r).tkc = s.tkc ∧
    (s.answer a r).siu = s.siu ∧ (s.answer a r).jnc = s.jnc ∧ (s.answer a r).pbu = s.pbu ∧
    (s.answer a r).dyc = s.dyc ∧ (s.answer a r).pending = s.pending := by
  simp [State.answer]

@[simp] theorem State.pushNode_frame (s : State) (e : NodeEntry) :
    (s.pushNode e).supply = s.supply ∧ (s.pushNode e).resetLow = s.resetLow ∧
    (s.pushNode e).straps = s.straps ∧ (s.pushNode e).restarting = s.restarting ∧
    (s.pushNode e).storeValid = s.storeValid ∧ (s.pushNode e).retainedLost = s.retainedLost ∧
    (s.pushNode e).lpc = s.lpc ∧ (s.pushNode e).rqu = s.rqu ∧ (s.pushNode e).csu = s.csu ∧
    (s.pushNode e).siu = s.siu ∧ (s.pushNode e).jnc = s.jnc ∧ (s.pushNode e).pbu = s.pbu ∧
    (s.pushNode e).dyc = s.dyc ∧ (s.pushNode e).pending = s.pending := by
  simp [State.pushNode]

@[simp] theorem State.nodeStatus_frame (s : State) (h : FrameHeader) (c : Condition) :
    (s.nodeStatus h c).supply = s.supply ∧ (s.nodeStatus h c).resetLow = s.resetLow ∧
    (s.nodeStatus h c).straps = s.straps ∧ (s.nodeStatus h c).restarting = s.restarting ∧
    (s.nodeStatus h c).storeValid = s.storeValid ∧ (s.nodeStatus h c).retainedLost = s.retainedLost ∧
    (s.nodeStatus h c).lpc = s.lpc ∧ (s.nodeStatus h c).rqu = s.rqu ∧ (s.nodeStatus h c).csu = s.csu ∧
    (s.nodeStatus h c).siu = s.siu ∧ (s.nodeStatus h c).jnc = s.jnc ∧ (s.nodeStatus h c).pbu = s.pbu ∧
    (s.nodeStatus h c).dyc = s.dyc ∧ (s.nodeStatus h c).pending = s.pending := by
  simp [State.nodeStatus]

@[simp] theorem State.raiseTagged_frame (s : State) (tag : Nat) (c : Condition) :
    (s.raiseTagged tag c).supply = s.supply ∧ (s.raiseTagged tag c).resetLow = s.resetLow ∧
    (s.raiseTagged tag c).straps = s.straps ∧ (s.raiseTagged tag c).restarting = s.restarting ∧
    (s.raiseTagged tag c).storeValid = s.storeValid ∧ (s.raiseTagged tag c).retainedLost = s.retainedLost ∧
    (s.raiseTagged tag c).lpc = s.lpc ∧ (s.raiseTagged tag c).rqu = s.rqu ∧ (s.raiseTagged tag c).csu = s.csu ∧
    (s.raiseTagged tag c).siu = s.siu ∧ (s.raiseTagged tag c).jnc = s.jnc ∧ (s.raiseTagged tag c).pbu = s.pbu ∧
    (s.raiseTagged tag c).dyc = s.dyc ∧ (s.raiseTagged tag c).pending = s.pending := by
  refine ⟨?_, ?_, ?_, ?_, ?_, ?_, ?_, ?_, ?_, ?_, ?_, ?_, ?_, ?_⟩ <;> (unfold State.raiseTagged; (repeat' split) <;> simp)

@[simp] theorem State.raise_frame (s : State) (c : Condition) :
    (s.raise c).supply = s.supply ∧ (s.raise c).resetLow = s.resetLow ∧ (s.raise c).straps = s.straps ∧
    (s.raise c).restarting = s.restarting ∧ (s.raise c).storeValid = s.storeValid ∧
    (s.raise c).retainedLost = s.retainedLost ∧ (s.raise c).lpc = s.lpc ∧ (s.raise c).rqu = s.rqu ∧
    (s.raise c).csu = s.csu ∧ (s.raise c).siu = s.siu ∧ (s.raise c).jnc = s.jnc ∧ (s.raise c).pbu = s.pbu ∧
    (s.raise c).dyc = s.dyc ∧ (s.raise c).pending = s.pending := by
  simp [State.raise]

@[simp] theorem State.joinWaiting_frame (s : State) :
    s.joinWaiting.supply = s.supply ∧ s.joinWaiting.resetLow = s.resetLow ∧
    s.joinWaiting.straps = s.straps ∧ s.joinWaiting.restarting = s.restarting ∧
    s.joinWaiting.storeValid = s.storeValid ∧ s.joinWaiting.retainedLost = s.retainedLost ∧
    s.joinWaiting.lpc = s.lpc ∧ s.joinWaiting.rqu = s.rqu ∧ s.joinWaiting.csu = s.csu ∧
    s.joinWaiting.siu = s.siu ∧ s.joinWaiting.jnc = s.jnc ∧ s.joinWaiting.pbu = s.pbu ∧
    s.joinWaiting.dyc = s.dyc ∧ s.joinWaiting.pending = s.pending := by
  refine ⟨?_, ?_, ?_, ?_, ?_, ?_, ?_, ?_, ?_, ?_, ?_, ?_, ?_, ?_⟩ <;> (unfold State.joinWaiting; (repeat' split) <;> simp)

@[simp] theorem State.onStats_frame (s : State) (f : LinkStats → LinkStats) :
    (s.onStats f).supply = s.supply ∧ (s.onStats f).resetLow = s.resetLow ∧ (s.onStats f).straps = s.straps ∧
    (s.onStats f).restarting = s.restarting ∧ (s.onStats f).storeValid = s.storeValid ∧
    (s.onStats f).retainedLost = s.retainedLost ∧ (s.onStats f).lpc = s.lpc ∧ (s.onStats f).rqu = s.rqu ∧
    (s.onStats f).csu = s.csu ∧ (s.onStats f).siu = s.siu ∧ (s.onStats f).jnc = s.jnc ∧
    (s.onStats f).pbu = s.pbu ∧ (s.onStats f).dyc = s.dyc ∧ (s.onStats f).pending = s.pending := by
  simp [State.onStats]

@[simp] theorem State.judgeThresholds_frame (s : State) :
    s.judgeThresholds.supply = s.supply ∧ s.judgeThresholds.resetLow = s.resetLow ∧
    s.judgeThresholds.straps = s.straps ∧ s.judgeThresholds.restarting = s.restarting ∧
    s.judgeThresholds.storeValid = s.storeValid ∧ s.judgeThresholds.retainedLost = s.retainedLost ∧
    s.judgeThresholds.rqu = s.rqu ∧ s.judgeThresholds.csu = s.csu ∧ s.judgeThresholds.siu = s.siu ∧
    s.judgeThresholds.jnc = s.jnc ∧ s.judgeThresholds.pbu = s.pbu ∧ s.judgeThresholds.dyc = s.dyc ∧
    s.judgeThresholds.pending = s.pending := by
  refine ⟨?_, ?_, ?_, ?_, ?_, ?_, ?_, ?_, ?_, ?_, ?_, ?_, ?_⟩ <;> (simp only [State.judgeThresholds]; (repeat' split) <;> simp)

@[simp] theorem State.appendRecord_frame (s : State) (r : Record) :
    (s.appendRecord r).supply = s.supply ∧ (s.appendRecord r).resetLow = s.resetLow ∧
    (s.appendRecord r).straps = s.straps ∧ (s.appendRecord r).restarting = s.restarting ∧
    (s.appendRecord r).storeValid = s.storeValid ∧ (s.appendRecord r).retainedLost = s.retainedLost ∧
    (s.appendRecord r).rqu = s.rqu ∧ (s.appendRecord r).csu = s.csu ∧ (s.appendRecord r).siu = s.siu ∧
    (s.appendRecord r).pbu = s.pbu ∧ (s.appendRecord r).dyc = s.dyc ∧ (s.appendRecord r).pending = s.pending := by
  simp [State.appendRecord]

@[simp] theorem State.writeRecord_frame (s : State) (r : Record) :
    (s.writeRecord r).supply = s.supply ∧ (s.writeRecord r).resetLow = s.resetLow ∧
    (s.writeRecord r).straps = s.straps ∧ (s.writeRecord r).restarting = s.restarting ∧
    (s.writeRecord r).storeValid = s.storeValid ∧ (s.writeRecord r).retainedLost = s.retainedLost ∧
    (s.writeRecord r).rqu = s.rqu ∧ (s.writeRecord r).csu = s.csu ∧ (s.writeRecord r).siu = s.siu ∧
    (s.writeRecord r).pbu = s.pbu ∧ (s.writeRecord r).dyc = s.dyc ∧ (s.writeRecord r).pending = s.pending := by
  refine ⟨?_, ?_, ?_, ?_, ?_, ?_, ?_, ?_, ?_, ?_, ?_, ?_⟩ <;> (unfold State.writeRecord; (repeat' split) <;> simp)

@[simp] theorem State.changeDisposition_frame (s : State) (seq : Nat) (expected new : Disposition) (reference : Option Nat) :
    (s.changeDisposition seq expected new reference).supply = s.supply ∧
    (s.changeDisposition seq expected new reference).resetLow = s.resetLow ∧
    (s.changeDisposition seq expected new reference).straps = s.straps ∧
    (s.changeDisposition seq expected new reference).restarting = s.restarting ∧
    (s.changeDisposition seq expected new reference).storeValid = s.storeValid ∧
    (s.changeDisposition seq expected new reference).retainedLost = s.retainedLost ∧
    (s.changeDisposition seq expected new reference).lpc = s.lpc ∧
    (s.changeDisposition seq expected new reference).rqu = s.rqu ∧
    (s.changeDisposition seq expected new reference).csu = s.csu ∧
    (s.changeDisposition seq expected new reference).tkc = s.tkc ∧
    (s.changeDisposition seq expected new reference).siu = s.siu ∧
    (s.changeDisposition seq expected new reference).pbu = s.pbu ∧
    (s.changeDisposition seq expected new reference).dyc = s.dyc ∧
    (s.changeDisposition seq expected new reference).pending = s.pending := by
  refine ⟨?_, ?_, ?_, ?_, ?_, ?_, ?_, ?_, ?_, ?_, ?_, ?_, ?_, ?_⟩ <;> (unfold State.changeDisposition; (repeat' split) <;> simp)

@[simp] theorem State.emptyJournal_frame (s : State) :
    s.emptyJournal.supply = s.supply ∧ s.emptyJournal.resetLow = s.resetLow ∧
    s.emptyJournal.straps = s.straps ∧ s.emptyJournal.restarting = s.restarting ∧
    s.emptyJournal.storeValid = s.storeValid ∧ s.emptyJournal.retainedLost = s.retainedLost ∧
    s.emptyJournal.rqu = s.rqu ∧ s.emptyJournal.csu = s.csu ∧ s.emptyJournal.tkc = s.tkc ∧
    s.emptyJournal.siu = s.siu ∧ s.emptyJournal.pbu = s.pbu ∧ s.emptyJournal.dyc = s.dyc ∧
    s.emptyJournal.pending = s.pending := by
  refine ⟨?_, ?_, ?_, ?_, ?_, ?_, ?_, ?_, ?_, ?_, ?_, ?_, ?_⟩ <;> (unfold State.emptyJournal; (repeat' split) <;> simp)

@[simp] theorem State.setStage_frame (s : State) (a : Nat) (g : Stage) (slot : Option Nat) :
    (s.setStage a g slot).supply = s.supply ∧ (s.setStage a g slot).resetLow = s.resetLow ∧
    (s.setStage a g slot).straps = s.straps ∧ (s.setStage a g slot).restarting = s.restarting ∧
    (s.setStage a g slot).storeValid = s.storeValid ∧ (s.setStage a g slot).retainedLost = s.retainedLost ∧
    (s.setStage a g slot).lpc = s.lpc ∧ (s.setStage a g slot).csu = s.csu ∧ (s.setStage a g slot).tkc = s.tkc ∧
    (s.setStage a g slot).siu = s.siu ∧ (s.setStage a g slot).jnc = s.jnc ∧ (s.setStage a g slot).pbu = s.pbu ∧
    (s.setStage a g slot).dyc = s.dyc ∧ (s.setStage a g slot).pending = s.pending := by
  simp [State.setStage]

@[simp] theorem State.takeSlot_frame (s : State) (a i : Nat) :
    (s.takeSlot a i).supply = s.supply ∧ (s.takeSlot a i).resetLow = s.resetLow ∧
    (s.takeSlot a i).straps = s.straps ∧ (s.takeSlot a i).restarting = s.restarting ∧
    (s.takeSlot a i).storeValid = s.storeValid ∧ (s.takeSlot a i).retainedLost = s.retainedLost ∧
    (s.takeSlot a i).lpc = s.lpc ∧ (s.takeSlot a i).csu = s.csu ∧ (s.takeSlot a i).siu = s.siu ∧
    (s.takeSlot a i).jnc = s.jnc ∧ (s.takeSlot a i).pbu = s.pbu ∧ (s.takeSlot a i).dyc = s.dyc ∧
    (s.takeSlot a i).pending = s.pending := by
  simp [State.takeSlot]

@[simp] theorem State.joinWaitList_frame (s : State) (a : Nat) :
    (s.joinWaitList a).supply = s.supply ∧ (s.joinWaitList a).resetLow = s.resetLow ∧
    (s.joinWaitList a).straps = s.straps ∧ (s.joinWaitList a).restarting = s.restarting ∧
    (s.joinWaitList a).storeValid = s.storeValid ∧ (s.joinWaitList a).retainedLost = s.retainedLost ∧
    (s.joinWaitList a).lpc = s.lpc ∧ (s.joinWaitList a).csu = s.csu ∧ (s.joinWaitList a).tkc = s.tkc ∧
    (s.joinWaitList a).siu = s.siu ∧ (s.joinWaitList a).jnc = s.jnc ∧ (s.joinWaitList a).pbu = s.pbu ∧
    (s.joinWaitList a).dyc = s.dyc ∧ (s.joinWaitList a).pending = s.pending := by
  simp [State.joinWaitList]

@[simp] theorem State.leaveWaitList_frame (s : State) (a : Nat) :
    (s.leaveWaitList a).supply = s.supply ∧ (s.leaveWaitList a).resetLow = s.resetLow ∧
    (s.leaveWaitList a).straps = s.straps ∧ (s.leaveWaitList a).restarting = s.restarting ∧
    (s.leaveWaitList a).storeValid = s.storeValid ∧ (s.leaveWaitList a).retainedLost = s.retainedLost ∧
    (s.leaveWaitList a).lpc = s.lpc ∧ (s.leaveWaitList a).csu = s.csu ∧ (s.leaveWaitList a).tkc = s.tkc ∧
    (s.leaveWaitList a).siu = s.siu ∧ (s.leaveWaitList a).jnc = s.jnc ∧ (s.leaveWaitList a).pbu = s.pbu ∧
    (s.leaveWaitList a).dyc = s.dyc ∧ (s.leaveWaitList a).pending = s.pending := by
  simp [State.leaveWaitList]

@[simp] theorem State.forward_frame (s : State) (a : Nat) :
    (s.forward a).supply = s.supply ∧ (s.forward a).resetLow = s.resetLow ∧ (s.forward a).straps = s.straps ∧
    (s.forward a).restarting = s.restarting ∧ (s.forward a).storeValid = s.storeValid ∧
    (s.forward a).retainedLost = s.retainedLost ∧ (s.forward a).lpc = s.lpc ∧ (s.forward a).csu = s.csu ∧
    (s.forward a).siu = s.siu ∧ (s.forward a).jnc = s.jnc ∧ (s.forward a).pbu = s.pbu ∧
    (s.forward a).dyc = s.dyc ∧ (s.forward a).pending = s.pending := by
  refine ⟨?_, ?_, ?_, ?_, ?_, ?_, ?_, ?_, ?_, ?_, ?_, ?_, ?_⟩ <;> (unfold State.forward; (repeat' split) <;> simp)

@[simp] theorem State.serveOne_frame (s : State) :
    s.serveOne.supply = s.supply ∧ s.serveOne.resetLow = s.resetLow ∧ s.serveOne.straps = s.straps ∧
    s.serveOne.restarting = s.restarting ∧ s.serveOne.storeValid = s.storeValid ∧
    s.serveOne.retainedLost = s.retainedLost ∧ s.serveOne.lpc = s.lpc ∧ s.serveOne.csu = s.csu ∧
    s.serveOne.siu = s.siu ∧ s.serveOne.jnc = s.jnc ∧ s.serveOne.pbu = s.pbu ∧ s.serveOne.dyc = s.dyc ∧
    s.serveOne.pending = s.pending := by
  refine ⟨?_, ?_, ?_, ?_, ?_, ?_, ?_, ?_, ?_, ?_, ?_, ?_, ?_⟩ <;> (unfold State.serveOne; (repeat' split) <;> simp)

@[simp] theorem State.serveWaitList_frame (s : State) :
    s.serveWaitList.supply = s.supply ∧ s.serveWaitList.resetLow = s.resetLow ∧
    s.serveWaitList.straps = s.straps ∧ s.serveWaitList.restarting = s.restarting ∧
    s.serveWaitList.storeValid = s.storeValid ∧ s.serveWaitList.retainedLost = s.retainedLost ∧
    s.serveWaitList.lpc = s.lpc ∧ s.serveWaitList.csu = s.csu ∧ s.serveWaitList.siu = s.siu ∧
    s.serveWaitList.jnc = s.jnc ∧ s.serveWaitList.pbu = s.pbu ∧ s.serveWaitList.dyc = s.dyc ∧
    s.serveWaitList.pending = s.pending := by
  simp [State.serveWaitList]

@[simp] theorem State.freeSlotAt_frame (s : State) (i : Nat) :
    (s.freeSlotAt i).supply = s.supply ∧ (s.freeSlotAt i).resetLow = s.resetLow ∧
    (s.freeSlotAt i).straps = s.straps ∧ (s.freeSlotAt i).restarting = s.restarting ∧
    (s.freeSlotAt i).storeValid = s.storeValid ∧ (s.freeSlotAt i).retainedLost = s.retainedLost ∧
    (s.freeSlotAt i).lpc = s.lpc ∧ (s.freeSlotAt i).rqu = s.rqu ∧ (s.freeSlotAt i).csu = s.csu ∧
    (s.freeSlotAt i).siu = s.siu ∧ (s.freeSlotAt i).jnc = s.jnc ∧ (s.freeSlotAt i).pbu = s.pbu ∧
    (s.freeSlotAt i).dyc = s.dyc ∧ (s.freeSlotAt i).pending = s.pending := by
  simp [State.freeSlotAt]

@[simp] theorem State.freeAndOffer_frame (s : State) (i : Nat) :
    (s.freeAndOffer i).supply = s.supply ∧ (s.freeAndOffer i).resetLow = s.resetLow ∧
    (s.freeAndOffer i).straps = s.straps ∧ (s.freeAndOffer i).restarting = s.restarting ∧
    (s.freeAndOffer i).storeValid = s.storeValid ∧ (s.freeAndOffer i).retainedLost = s.retainedLost ∧
    (s.freeAndOffer i).lpc = s.lpc ∧ (s.freeAndOffer i).csu = s.csu ∧ (s.freeAndOffer i).siu = s.siu ∧
    (s.freeAndOffer i).jnc = s.jnc ∧ (s.freeAndOffer i).pbu = s.pbu ∧ (s.freeAndOffer i).dyc = s.dyc ∧
    (s.freeAndOffer i).pending = s.pending := by
  simp [State.freeAndOffer]

@[simp] theorem State.restartSupervision_frame (s : State) :
    s.restartSupervision.supply = s.supply ∧ s.restartSupervision.resetLow = s.resetLow ∧
    s.restartSupervision.straps = s.straps ∧ s.restartSupervision.restarting = s.restarting ∧
    s.restartSupervision.storeValid = s.storeValid ∧ s.restartSupervision.retainedLost = s.retainedLost ∧
    s.restartSupervision.lpc = s.lpc ∧ s.restartSupervision.rqu = s.rqu ∧
    s.restartSupervision.csu = s.csu ∧ s.restartSupervision.siu = s.siu ∧
    s.restartSupervision.jnc = s.jnc ∧ s.restartSupervision.pbu = s.pbu ∧
    s.restartSupervision.dyc = s.dyc ∧ s.restartSupervision.pending = s.pending := by
  simp [State.restartSupervision]

@[simp] theorem State.setDay_frame (s : State) (d : DayState) :
    (s.setDay d).supply = s.supply ∧ (s.setDay d).resetLow = s.resetLow ∧ (s.setDay d).straps = s.straps ∧
    (s.setDay d).restarting = s.restarting ∧ (s.setDay d).storeValid = s.storeValid ∧
    (s.setDay d).retainedLost = s.retainedLost ∧ (s.setDay d).rqu = s.rqu ∧ (s.setDay d).csu = s.csu ∧
    (s.setDay d).tkc = s.tkc ∧ (s.setDay d).siu = s.siu ∧ (s.setDay d).jnc = s.jnc ∧ (s.setDay d).pbu = s.pbu ∧
    (s.setDay d).pending = s.pending := by
  refine ⟨?_, ?_, ?_, ?_, ?_, ?_, ?_, ?_, ?_, ?_, ?_, ?_, ?_⟩ <;> (unfold State.setDay; (repeat' split) <;> simp)

@[simp] theorem State.forgetResumption_frame (s : State) :
    s.forgetResumption.supply = s.supply ∧ s.forgetResumption.resetLow = s.resetLow ∧
    s.forgetResumption.straps = s.straps ∧ s.forgetResumption.restarting = s.restarting ∧
    s.forgetResumption.storeValid = s.storeValid ∧ s.forgetResumption.retainedLost = s.retainedLost ∧
    s.forgetResumption.lpc = s.lpc ∧ s.forgetResumption.rqu = s.rqu ∧ s.forgetResumption.csu = s.csu ∧
    s.forgetResumption.siu = s.siu ∧ s.forgetResumption.jnc = s.jnc ∧ s.forgetResumption.pbu = s.pbu ∧
    s.forgetResumption.dyc = s.dyc ∧ s.forgetResumption.pending = s.pending := by
  simp [State.forgetResumption]

@[simp] theorem State.stall_frame (s : State) :
    s.stall.supply = s.supply ∧ s.stall.resetLow = s.resetLow ∧ s.stall.straps = s.straps ∧
    s.stall.restarting = s.restarting ∧ s.stall.storeValid = s.storeValid ∧
    s.stall.retainedLost = s.retainedLost ∧ s.stall.rqu = s.rqu ∧ s.stall.csu = s.csu ∧
    s.stall.siu = s.siu ∧ s.stall.jnc = s.jnc ∧ s.stall.pbu = s.pbu ∧ s.stall.pending = s.pending := by
  simp [State.stall]

@[simp] theorem State.freezeSfq_frame (s : State) :
    s.freezeSfq.supply = s.supply ∧ s.freezeSfq.resetLow = s.resetLow ∧ s.freezeSfq.straps = s.straps ∧
    s.freezeSfq.restarting = s.restarting ∧ s.freezeSfq.storeValid = s.storeValid ∧
    s.freezeSfq.retainedLost = s.retainedLost ∧ s.freezeSfq.lpc = s.lpc ∧ s.freezeSfq.rqu = s.rqu ∧
    s.freezeSfq.csu = s.csu ∧ s.freezeSfq.siu = s.siu ∧ s.freezeSfq.jnc = s.jnc ∧
    s.freezeSfq.pbu = s.pbu ∧ s.freezeSfq.dyc = s.dyc ∧ s.freezeSfq.pending = s.pending := by
  simp [State.freezeSfq]

@[simp] theorem State.stallUnlessOnline_frame (s : State) :
    s.stallUnlessOnline.supply = s.supply ∧ s.stallUnlessOnline.resetLow = s.resetLow ∧
    s.stallUnlessOnline.straps = s.straps ∧ s.stallUnlessOnline.restarting = s.restarting ∧
    s.stallUnlessOnline.storeValid = s.storeValid ∧ s.stallUnlessOnline.retainedLost = s.retainedLost ∧
    s.stallUnlessOnline.rqu = s.rqu ∧ s.stallUnlessOnline.csu = s.csu ∧ s.stallUnlessOnline.siu = s.siu ∧
    s.stallUnlessOnline.jnc = s.jnc ∧ s.stallUnlessOnline.pbu = s.pbu ∧
    s.stallUnlessOnline.pending = s.pending := by
  refine ⟨?_, ?_, ?_, ?_, ?_, ?_, ?_, ?_, ?_, ?_, ?_, ?_⟩ <;> (unfold State.stallUnlessOnline; (repeat' split) <;> simp)

@[simp] theorem State.enterSending_frame (s : State) :
    s.enterSending.supply = s.supply ∧ s.enterSending.resetLow = s.resetLow ∧
    s.enterSending.straps = s.straps ∧ s.enterSending.restarting = s.restarting ∧
    s.enterSending.storeValid = s.storeValid ∧ s.enterSending.retainedLost = s.retainedLost ∧
    s.enterSending.rqu = s.rqu ∧ s.enterSending.csu = s.csu ∧ s.enterSending.siu = s.siu ∧
    s.enterSending.jnc = s.jnc ∧ s.enterSending.pbu = s.pbu ∧ s.enterSending.pending = s.pending := by
  simp [State.enterSending]

@[simp] theorem State.judgeExit_frame (s : State) :
    s.judgeExit.supply = s.supply ∧ s.judgeExit.resetLow = s.resetLow ∧ s.judgeExit.straps = s.straps ∧
    s.judgeExit.restarting = s.restarting ∧ s.judgeExit.storeValid = s.storeValid ∧
    s.judgeExit.retainedLost = s.retainedLost ∧ s.judgeExit.rqu = s.rqu ∧ s.judgeExit.csu = s.csu ∧
    s.judgeExit.siu = s.siu ∧ s.judgeExit.jnc = s.jnc ∧ s.judgeExit.pbu = s.pbu ∧
    s.judgeExit.pending = s.pending := by
  refine ⟨?_, ?_, ?_, ?_, ?_, ?_, ?_, ?_, ?_, ?_, ?_, ?_⟩ <;> (unfold State.judgeExit; (repeat' split) <;> simp)

@[simp] theorem State.captureCutoff_frame (s : State) :
    s.captureCutoff.supply = s.supply ∧ s.captureCutoff.resetLow = s.resetLow ∧
    s.captureCutoff.straps = s.straps ∧ s.captureCutoff.restarting = s.restarting ∧
    s.captureCutoff.storeValid = s.storeValid ∧ s.captureCutoff.retainedLost = s.retainedLost ∧
    s.captureCutoff.lpc = s.lpc ∧ s.captureCutoff.rqu = s.rqu ∧ s.captureCutoff.csu = s.csu ∧
    s.captureCutoff.tkc = s.tkc ∧ s.captureCutoff.siu = s.siu ∧ s.captureCutoff.pbu = s.pbu ∧
    s.captureCutoff.pending = s.pending := by
  simp [State.captureCutoff]

@[simp] theorem State.appendLine_frame (s : State) (account : Nat) (l : Line) :
    (s.appendLine account l).supply = s.supply ∧ (s.appendLine account l).resetLow = s.resetLow ∧
    (s.appendLine account l).straps = s.straps ∧ (s.appendLine account l).restarting = s.restarting ∧
    (s.appendLine account l).storeValid = s.storeValid ∧
    (s.appendLine account l).retainedLost = s.retainedLost ∧ (s.appendLine account l).lpc = s.lpc ∧
    (s.appendLine account l).rqu = s.rqu ∧ (s.appendLine account l).csu = s.csu ∧
    (s.appendLine account l).jnc = s.jnc ∧ (s.appendLine account l).pbu = s.pbu ∧
    (s.appendLine account l).dyc = s.dyc ∧ (s.appendLine account l).pending = s.pending := by
  refine ⟨?_, ?_, ?_, ?_, ?_, ?_, ?_, ?_, ?_, ?_, ?_, ?_, ?_⟩ <;> (unfold State.appendLine; (repeat' split) <;> simp)

@[simp] theorem State.sendCommand_frame (s : State) (a : Nat) (c : PrinterCommand) (m : DownMessage) :
    (s.sendCommand a c m).supply = s.supply ∧ (s.sendCommand a c m).resetLow = s.resetLow ∧
    (s.sendCommand a c m).straps = s.straps ∧ (s.sendCommand a c m).restarting = s.restarting ∧
    (s.sendCommand a c m).storeValid = s.storeValid ∧ (s.sendCommand a c m).retainedLost = s.retainedLost ∧
    (s.sendCommand a c m).rqu = s.rqu ∧ (s.sendCommand a c m).csu = s.csu ∧ (s.sendCommand a c m).tkc = s.tkc ∧
    (s.sendCommand a c m).siu = s.siu ∧ (s.sendCommand a c m).jnc = s.jnc ∧ (s.sendCommand a c m).dyc = s.dyc ∧
    (s.sendCommand a c m).pending = s.pending := by
  simp [State.sendCommand]

@[simp] theorem State.startIdentify_frame (s : State) (a : Nat) :
    (s.startIdentify a).supply = s.supply ∧ (s.startIdentify a).resetLow = s.resetLow ∧
    (s.startIdentify a).straps = s.straps ∧ (s.startIdentify a).restarting = s.restarting ∧
    (s.startIdentify a).storeValid = s.storeValid ∧ (s.startIdentify a).retainedLost = s.retainedLost ∧
    (s.startIdentify a).rqu = s.rqu ∧ (s.startIdentify a).csu = s.csu ∧ (s.startIdentify a).tkc = s.tkc ∧
    (s.startIdentify a).siu = s.siu ∧ (s.startIdentify a).jnc = s.jnc ∧ (s.startIdentify a).dyc = s.dyc ∧
    (s.startIdentify a).pending = s.pending := by
  refine ⟨?_, ?_, ?_, ?_, ?_, ?_, ?_, ?_, ?_, ?_, ?_, ?_, ?_⟩ <;> (unfold State.startIdentify; (repeat' split) <;> simp)

@[simp] theorem State.endSession_frame (s : State) (a : Nat) :
    (s.endSession a).supply = s.supply ∧ (s.endSession a).resetLow = s.resetLow ∧
    (s.endSession a).straps = s.straps ∧ (s.endSession a).restarting = s.restarting ∧
    (s.endSession a).storeValid = s.storeValid ∧ (s.endSession a).retainedLost = s.retainedLost ∧
    (s.endSession a).rqu = s.rqu ∧ (s.endSession a).csu = s.csu ∧ (s.endSession a).pbu = s.pbu ∧
    (s.endSession a).dyc = s.dyc ∧ (s.endSession a).pending = s.pending := by
  refine ⟨?_, ?_, ?_, ?_, ?_, ?_, ?_, ?_, ?_, ?_, ?_⟩ <;> (simp only [State.endSession]; (repeat' split) <;> simp)

@[simp] theorem State.finishSession_frame (s : State) (a : Nat) (reason : Option BookReason) :
    (s.finishSession a reason).supply = s.supply ∧ (s.finishSession a reason).resetLow = s.resetLow ∧
    (s.finishSession a reason).straps = s.straps ∧ (s.finishSession a reason).restarting = s.restarting ∧
    (s.finishSession a reason).storeValid = s.storeValid ∧
    (s.finishSession a reason).retainedLost = s.retainedLost ∧ (s.finishSession a reason).rqu = s.rqu ∧
    (s.finishSession a reason).csu = s.csu ∧ (s.finishSession a reason).dyc = s.dyc ∧
    (s.finishSession a reason).pending = s.pending := by
  simp [State.finishSession]

@[simp] theorem State.withdrawFetch_frame (s : State) (a : Nat) :
    (s.withdrawFetch a).supply = s.supply ∧ (s.withdrawFetch a).resetLow = s.resetLow ∧
    (s.withdrawFetch a).straps = s.straps ∧ (s.withdrawFetch a).restarting = s.restarting ∧
    (s.withdrawFetch a).storeValid = s.storeValid ∧ (s.withdrawFetch a).retainedLost = s.retainedLost ∧
    (s.withdrawFetch a).lpc = s.lpc ∧ (s.withdrawFetch a).csu = s.csu ∧ (s.withdrawFetch a).siu = s.siu ∧
    (s.withdrawFetch a).jnc = s.jnc ∧ (s.withdrawFetch a).pbu = s.pbu ∧ (s.withdrawFetch a).dyc = s.dyc ∧
    (s.withdrawFetch a).pending = s.pending := by
  refine ⟨?_, ?_, ?_, ?_, ?_, ?_, ?_, ?_, ?_, ?_, ?_, ?_, ?_⟩ <;> (unfold State.withdrawFetch; (repeat' split) <;> simp)

@[simp] theorem State.faultSession_frame (s : State) (a : Nat) :
    (s.faultSession a).supply = s.supply ∧ (s.faultSession a).resetLow = s.resetLow ∧
    (s.faultSession a).straps = s.straps ∧ (s.faultSession a).restarting = s.restarting ∧
    (s.faultSession a).storeValid = s.storeValid ∧ (s.faultSession a).retainedLost = s.retainedLost ∧
    (s.faultSession a).csu = s.csu ∧ (s.faultSession a).dyc = s.dyc ∧ (s.faultSession a).pending = s.pending := by
  simp [State.faultSession]

@[simp] theorem State.refuseBook_frame (s : State) (a : Nat) (account : Option Nat) (pos : Option BookPos) (reason : BookReason) :
    (s.refuseBook a account pos reason).supply = s.supply ∧
    (s.refuseBook a account pos reason).resetLow = s.resetLow ∧
    (s.refuseBook a account pos reason).straps = s.straps ∧
    (s.refuseBook a account pos reason).restarting = s.restarting ∧
    (s.refuseBook a account pos reason).storeValid = s.storeValid ∧
    (s.refuseBook a account pos reason).retainedLost = s.retainedLost ∧
    (s.refuseBook a account pos reason).rqu = s.rqu ∧ (s.refuseBook a account pos reason).csu = s.csu ∧
    (s.refuseBook a account pos reason).siu = s.siu ∧ (s.refuseBook a account pos reason).dyc = s.dyc ∧
    (s.refuseBook a account pos reason).pending = s.pending := by
  simp [State.refuseBook]

@[simp] theorem State.printerFaultAt_frame (s : State) (a : Nat) :
    (s.printerFaultAt a).supply = s.supply ∧ (s.printerFaultAt a).resetLow = s.resetLow ∧
    (s.printerFaultAt a).straps = s.straps ∧ (s.printerFaultAt a).restarting = s.restarting ∧
    (s.printerFaultAt a).storeValid = s.storeValid ∧ (s.printerFaultAt a).retainedLost = s.retainedLost ∧
    (s.printerFaultAt a).csu = s.csu ∧ (s.printerFaultAt a).dyc = s.dyc ∧
    (s.printerFaultAt a).pending = s.pending := by
  refine ⟨?_, ?_, ?_, ?_, ?_, ?_, ?_, ?_, ?_⟩ <;> (unfold State.printerFaultAt; (repeat' split) <;> simp)

@[simp] theorem State.interruptSession_frame (s : State) (a : Nat) :
    (s.interruptSession a).supply = s.supply ∧ (s.interruptSession a).resetLow = s.resetLow ∧
    (s.interruptSession a).straps = s.straps ∧ (s.interruptSession a).restarting = s.restarting ∧
    (s.interruptSession a).storeValid = s.storeValid ∧ (s.interruptSession a).retainedLost = s.retainedLost ∧
    (s.interruptSession a).csu = s.csu ∧ (s.interruptSession a).dyc = s.dyc ∧
    (s.interruptSession a).pending = s.pending := by
  refine ⟨?_, ?_, ?_, ?_, ?_, ?_, ?_, ?_, ?_⟩ <;> (unfold State.interruptSession; (repeat' split) <;> simp)

@[simp] theorem State.bookInChanged_frame (s : State) (a : Nat) (on : Bool) :
    (s.bookInChanged a on).supply = s.supply ∧ (s.bookInChanged a on).resetLow = s.resetLow ∧
    (s.bookInChanged a on).straps = s.straps ∧ (s.bookInChanged a on).restarting = s.restarting ∧
    (s.bookInChanged a on).storeValid = s.storeValid ∧ (s.bookInChanged a on).retainedLost = s.retainedLost ∧
    (s.bookInChanged a on).csu = s.csu ∧ (s.bookInChanged a on).dyc = s.dyc ∧
    (s.bookInChanged a on).pending = s.pending := by
  refine ⟨?_, ?_, ?_, ?_, ?_, ?_, ?_, ?_, ?_⟩ <;> (unfold State.bookInChanged; (repeat' split) <;> simp)

@[simp] theorem State.printLine_frame (s : State) (a account : Nat) (b : Passbook) (l : Line) (src : MarkerSource) :
    (s.printLine a account b l src).supply = s.supply ∧ (s.printLine a account b l src).resetLow = s.resetLow ∧
    (s.printLine a account b l src).straps = s.straps ∧
    (s.printLine a account b l src).restarting = s.restarting ∧
    (s.printLine a account b l src).storeValid = s.storeValid ∧
    (s.printLine a account b l src).retainedLost = s.retainedLost ∧
    (s.printLine a account b l src).rqu = s.rqu ∧ (s.printLine a account b l src).csu = s.csu ∧
    (s.printLine a account b l src).dyc = s.dyc ∧ (s.printLine a account b l src).pending = s.pending := by
  refine ⟨?_, ?_, ?_, ?_, ?_, ?_, ?_, ?_, ?_, ?_⟩ <;> (unfold State.printLine; (repeat' split) <;> simp)

@[simp] theorem State.chooseLine_frame (s : State) (a account : Nat) :
    (s.chooseLine a account).supply = s.supply ∧ (s.chooseLine a account).resetLow = s.resetLow ∧
    (s.chooseLine a account).straps = s.straps ∧ (s.chooseLine a account).restarting = s.restarting ∧
    (s.chooseLine a account).storeValid = s.storeValid ∧
    (s.chooseLine a account).retainedLost = s.retainedLost ∧ (s.chooseLine a account).rqu = s.rqu ∧
    (s.chooseLine a account).csu = s.csu ∧ (s.chooseLine a account).dyc = s.dyc ∧
    (s.chooseLine a account).pending = s.pending := by
  refine ⟨?_, ?_, ?_, ?_, ?_, ?_, ?_, ?_, ?_, ?_⟩ <;> (simp only [State.chooseLine]; (repeat' split) <;> simp)

@[simp] theorem State.startPrinting_frame (s : State) (a account : Nat) :
    (s.startPrinting a account).supply = s.supply ∧ (s.startPrinting a account).resetLow = s.resetLow ∧
    (s.startPrinting a account).straps = s.straps ∧ (s.startPrinting a account).restarting = s.restarting ∧
    (s.startPrinting a account).storeValid = s.storeValid ∧
    (s.startPrinting a account).retainedLost = s.retainedLost ∧ (s.startPrinting a account).rqu = s.rqu ∧
    (s.startPrinting a account).csu = s.csu ∧ (s.startPrinting a account).dyc = s.dyc ∧
    (s.startPrinting a account).pending = s.pending := by
  simp [State.startPrinting]

@[simp] theorem State.resumeFetching_frame (s : State) (a : Nat) :
    (s.resumeFetching a).supply = s.supply ∧ (s.resumeFetching a).resetLow = s.resetLow ∧
    (s.resumeFetching a).straps = s.straps ∧ (s.resumeFetching a).restarting = s.restarting ∧
    (s.resumeFetching a).storeValid = s.storeValid ∧ (s.resumeFetching a).retainedLost = s.retainedLost ∧
    (s.resumeFetching a).rqu = s.rqu ∧ (s.resumeFetching a).csu = s.csu ∧ (s.resumeFetching a).dyc = s.dyc ∧
    (s.resumeFetching a).pending = s.pending := by
  refine ⟨?_, ?_, ?_, ?_, ?_, ?_, ?_, ?_, ?_, ?_⟩ <;> (unfold State.resumeFetching; (repeat' split) <;> simp)

@[simp] theorem State.requestFetch_frame (s : State) (a account : Nat) :
    (s.requestFetch a account).supply = s.supply ∧ (s.requestFetch a account).resetLow = s.resetLow ∧
    (s.requestFetch a account).straps = s.straps ∧ (s.requestFetch a account).restarting = s.restarting ∧
    (s.requestFetch a account).storeValid = s.storeValid ∧
    (s.requestFetch a account).retainedLost = s.retainedLost ∧ (s.requestFetch a account).csu = s.csu ∧
    (s.requestFetch a account).dyc = s.dyc ∧ (s.requestFetch a account).pending = s.pending := by
  refine ⟨?_, ?_, ?_, ?_, ?_, ?_, ?_, ?_, ?_⟩ <;> (unfold State.requestFetch; (repeat' split) <;> simp)

@[simp] theorem State.proceedSession_frame (s : State) (a account printed : Nat) :
    (s.proceedSession a account printed).supply = s.supply ∧
    (s.proceedSession a account printed).resetLow = s.resetLow ∧
    (s.proceedSession a account printed).straps = s.straps ∧
    (s.proceedSession a account printed).restarting = s.restarting ∧
    (s.proceedSession a account printed).storeValid = s.storeValid ∧
    (s.proceedSession a account printed).retainedLost = s.retainedLost ∧
    (s.proceedSession a account printed).csu = s.csu ∧ (s.proceedSession a account printed).dyc = s.dyc ∧
    (s.proceedSession a account printed).pending = s.pending := by
  refine ⟨?_, ?_, ?_, ?_, ?_, ?_, ?_, ?_, ?_⟩ <;> (simp only [State.proceedSession]; (repeat' split) <;> simp)

@[simp] theorem State.reconcile_frame (s : State) (a account : Nat) (pos : BookPos) (b : Passbook) :
    (s.reconcile a account pos b).supply = s.supply ∧ (s.reconcile a account pos b).resetLow = s.resetLow ∧
    (s.reconcile a account pos b).straps = s.straps ∧ (s.reconcile a account pos b).restarting = s.restarting ∧
    (s.reconcile a account pos b).storeValid = s.storeValid ∧
    (s.reconcile a account pos b).retainedLost = s.retainedLost ∧ (s.reconcile a account pos b).csu = s.csu ∧
    (s.reconcile a account pos b).dyc = s.dyc ∧ (s.reconcile a account pos b).pending = s.pending := by
  refine ⟨?_, ?_, ?_, ?_, ?_, ?_, ?_, ?_, ?_⟩ <;> (unfold State.reconcile; (repeat' split) <;> simp)

@[simp] theorem State.checkBook_frame (s : State) (a : Nat) (x : Stripe) :
    (s.checkBook a x).supply = s.supply ∧ (s.checkBook a x).resetLow = s.resetLow ∧
    (s.checkBook a x).straps = s.straps ∧ (s.checkBook a x).restarting = s.restarting ∧
    (s.checkBook a x).storeValid = s.storeValid ∧ (s.checkBook a x).retainedLost = s.retainedLost ∧
    (s.checkBook a x).csu = s.csu ∧ (s.checkBook a x).dyc = s.dyc ∧ (s.checkBook a x).pending = s.pending := by
  refine ⟨?_, ?_, ?_, ?_, ?_, ?_, ?_, ?_, ?_⟩ <;> (unfold State.checkBook; (repeat' split) <;> simp)

@[simp] theorem State.bookPresent_frame (s : State) (a : Nat) (stripe : Stripe) :
    (s.bookPresent a stripe).supply = s.supply ∧ (s.bookPresent a stripe).resetLow = s.resetLow ∧
    (s.bookPresent a stripe).straps = s.straps ∧ (s.bookPresent a stripe).restarting = s.restarting ∧
    (s.bookPresent a stripe).storeValid = s.storeValid ∧
    (s.bookPresent a stripe).retainedLost = s.retainedLost ∧ (s.bookPresent a stripe).csu = s.csu ∧
    (s.bookPresent a stripe).dyc = s.dyc ∧ (s.bookPresent a stripe).pending = s.pending := by
  refine ⟨?_, ?_, ?_, ?_, ?_, ?_, ?_, ?_, ?_⟩ <;> (unfold State.bookPresent; (repeat' split) <;> simp)

@[simp] theorem State.pageEnd_frame (s : State) (a account page : Nat) :
    (s.pageEnd a account page).supply = s.supply ∧ (s.pageEnd a account page).resetLow = s.resetLow ∧
    (s.pageEnd a account page).straps = s.straps ∧ (s.pageEnd a account page).restarting = s.restarting ∧
    (s.pageEnd a account page).storeValid = s.storeValid ∧
    (s.pageEnd a account page).retainedLost = s.retainedLost ∧ (s.pageEnd a account page).rqu = s.rqu ∧
    (s.pageEnd a account page).csu = s.csu ∧ (s.pageEnd a account page).dyc = s.dyc ∧
    (s.pageEnd a account page).pending = s.pending := by
  refine ⟨?_, ?_, ?_, ?_, ?_, ?_, ?_, ?_, ?_, ?_⟩ <;> (unfold State.pageEnd; (repeat' split) <;> simp)

@[simp] theorem State.lineConfirmed_frame (s : State) (a account page line : Nat) :
    (s.lineConfirmed a account page line).supply = s.supply ∧
    (s.lineConfirmed a account page line).resetLow = s.resetLow ∧
    (s.lineConfirmed a account page line).straps = s.straps ∧
    (s.lineConfirmed a account page line).restarting = s.restarting ∧
    (s.lineConfirmed a account page line).storeValid = s.storeValid ∧
    (s.lineConfirmed a account page line).retainedLost = s.retainedLost ∧
    (s.lineConfirmed a account page line).rqu = s.rqu ∧ (s.lineConfirmed a account page line).csu = s.csu ∧
    (s.lineConfirmed a account page line).dyc = s.dyc ∧
    (s.lineConfirmed a account page line).pending = s.pending := by
  refine ⟨?_, ?_, ?_, ?_, ?_, ?_, ?_, ?_, ?_, ?_⟩ <;> (unfold State.lineConfirmed; (repeat' split) <;> simp)

@[simp] theorem State.lineDone_frame (s : State) (a page line : Nat) :
    (s.lineDone a page line).supply = s.supply ∧ (s.lineDone a page line).resetLow = s.resetLow ∧
    (s.lineDone a page line).straps = s.straps ∧ (s.lineDone a page line).restarting = s.restarting ∧
    (s.lineDone a page line).storeValid = s.storeValid ∧
    (s.lineDone a page line).retainedLost = s.retainedLost ∧ (s.lineDone a page line).csu = s.csu ∧
    (s.lineDone a page line).dyc = s.dyc ∧ (s.lineDone a page line).pending = s.pending := by
  refine ⟨?_, ?_, ?_, ?_, ?_, ?_, ?_, ?_, ?_⟩ <;> (unfold State.lineDone; (repeat' split) <;> simp)

@[simp] theorem State.pageReady_frame (s : State) (a : Nat) :
    (s.pageReady a).supply = s.supply ∧ (s.pageReady a).resetLow = s.resetLow ∧
    (s.pageReady a).straps = s.straps ∧ (s.pageReady a).restarting = s.restarting ∧
    (s.pageReady a).storeValid = s.storeValid ∧ (s.pageReady a).retainedLost = s.retainedLost ∧
    (s.pageReady a).csu = s.csu ∧ (s.pageReady a).dyc = s.dyc ∧ (s.pageReady a).pending = s.pending := by
  refine ⟨?_, ?_, ?_, ?_, ?_, ?_, ?_, ?_, ?_⟩ <;> (unfold State.pageReady; (repeat' split) <;> simp)

@[simp] theorem State.answerTimerExpiry_frame (s : State) (a : Nat) :
    (s.answerTimerExpiry a).supply = s.supply ∧ (s.answerTimerExpiry a).resetLow = s.resetLow ∧
    (s.answerTimerExpiry a).straps = s.straps ∧ (s.answerTimerExpiry a).restarting = s.restarting ∧
    (s.answerTimerExpiry a).storeValid = s.storeValid ∧ (s.answerTimerExpiry a).retainedLost = s.retainedLost ∧
    (s.answerTimerExpiry a).csu = s.csu ∧ (s.answerTimerExpiry a).dyc = s.dyc ∧
    (s.answerTimerExpiry a).pending = s.pending := by
  refine ⟨?_, ?_, ?_, ?_, ?_, ?_, ?_, ?_, ?_⟩ <;> (unfold State.answerTimerExpiry; (repeat' split) <;> simp)

@[simp] theorem State.appendSfq_frame (s : State) (seq : Nat) (k : AdviceKind) :
    (s.appendSfq seq k).supply = s.supply ∧ (s.appendSfq seq k).resetLow = s.resetLow ∧
    (s.appendSfq seq k).straps = s.straps ∧ (s.appendSfq seq k).restarting = s.restarting ∧
    (s.appendSfq seq k).storeValid = s.storeValid ∧ (s.appendSfq seq k).retainedLost = s.retainedLost ∧
    (s.appendSfq seq k).lpc = s.lpc ∧ (s.appendSfq seq k).rqu = s.rqu ∧ (s.appendSfq seq k).csu = s.csu ∧
    (s.appendSfq seq k).tkc = s.tkc ∧ (s.appendSfq seq k).jnc = s.jnc ∧ (s.appendSfq seq k).pbu = s.pbu ∧
    (s.appendSfq seq k).dyc = s.dyc ∧ (s.appendSfq seq k).pending = s.pending := by
  simp [State.appendSfq]

@[simp] theorem State.appendTxnLine_frame (s : State) (t : Txn) (d : Definition) (o : Origin) (seq : Nat) :
    (s.appendTxnLine t d o seq).supply = s.supply ∧ (s.appendTxnLine t d o seq).resetLow = s.resetLow ∧
    (s.appendTxnLine t d o seq).straps = s.straps ∧ (s.appendTxnLine t d o seq).restarting = s.restarting ∧
    (s.appendTxnLine t d o seq).storeValid = s.storeValid ∧
    (s.appendTxnLine t d o seq).retainedLost = s.retainedLost ∧ (s.appendTxnLine t d o seq).lpc = s.lpc ∧
    (s.appendTxnLine t d o seq).rqu = s.rqu ∧ (s.appendTxnLine t d o seq).csu = s.csu ∧
    (s.appendTxnLine t d o seq).jnc = s.jnc ∧ (s.appendTxnLine t d o seq).pbu = s.pbu ∧
    (s.appendTxnLine t d o seq).dyc = s.dyc ∧ (s.appendTxnLine t d o seq).pending = s.pending := by
  refine ⟨?_, ?_, ?_, ?_, ?_, ?_, ?_, ?_, ?_, ?_, ?_, ?_, ?_⟩ <;> (unfold State.appendTxnLine; (repeat' split) <;> simp)

@[simp] theorem State.addTransferIn_frame (s : State) (d : Nat) (c : Currency) (n : Int) :
    (s.addTransferIn d c n).supply = s.supply ∧ (s.addTransferIn d c n).resetLow = s.resetLow ∧
    (s.addTransferIn d c n).straps = s.straps ∧ (s.addTransferIn d c n).restarting = s.restarting ∧
    (s.addTransferIn d c n).storeValid = s.storeValid ∧ (s.addTransferIn d c n).retainedLost = s.retainedLost ∧
    (s.addTransferIn d c n).lpc = s.lpc ∧ (s.addTransferIn d c n).rqu = s.rqu ∧
    (s.addTransferIn d c n).tkc = s.tkc ∧ (s.addTransferIn d c n).siu = s.siu ∧
    (s.addTransferIn d c n).jnc = s.jnc ∧ (s.addTransferIn d c n).pbu = s.pbu ∧
    (s.addTransferIn d c n).dyc = s.dyc ∧ (s.addTransferIn d c n).pending = s.pending := by
  simp [State.addTransferIn]

@[simp] theorem State.addTransferOut_frame (s : State) (d : Nat) (c : Currency) (n : Int) :
    (s.addTransferOut d c n).supply = s.supply ∧ (s.addTransferOut d c n).resetLow = s.resetLow ∧
    (s.addTransferOut d c n).straps = s.straps ∧ (s.addTransferOut d c n).restarting = s.restarting ∧
    (s.addTransferOut d c n).storeValid = s.storeValid ∧
    (s.addTransferOut d c n).retainedLost = s.retainedLost ∧ (s.addTransferOut d c n).lpc = s.lpc ∧
    (s.addTransferOut d c n).rqu = s.rqu ∧ (s.addTransferOut d c n).tkc = s.tkc ∧
    (s.addTransferOut d c n).siu = s.siu ∧ (s.addTransferOut d c n).jnc = s.jnc ∧
    (s.addTransferOut d c n).pbu = s.pbu ∧ (s.addTransferOut d c n).dyc = s.dyc ∧
    (s.addTransferOut d c n).pending = s.pending := by
  simp [State.addTransferOut]

@[simp] theorem State.removeTransit_frame (s : State) (n : Nat) :
    (s.removeTransit n).supply = s.supply ∧ (s.removeTransit n).resetLow = s.resetLow ∧
    (s.removeTransit n).straps = s.straps ∧ (s.removeTransit n).restarting = s.restarting ∧
    (s.removeTransit n).storeValid = s.storeValid ∧ (s.removeTransit n).retainedLost = s.retainedLost ∧
    (s.removeTransit n).lpc = s.lpc ∧ (s.removeTransit n).rqu = s.rqu ∧ (s.removeTransit n).tkc = s.tkc ∧
    (s.removeTransit n).siu = s.siu ∧ (s.removeTransit n).jnc = s.jnc ∧ (s.removeTransit n).pbu = s.pbu ∧
    (s.removeTransit n).dyc = s.dyc ∧ (s.removeTransit n).pending = s.pending := by
  simp [State.removeTransit]

@[simp] theorem State.setAlert_frame (s : State) (a : Nat) (on : Bool) :
    (s.setAlert a on).supply = s.supply ∧ (s.setAlert a on).resetLow = s.resetLow ∧
    (s.setAlert a on).straps = s.straps ∧ (s.setAlert a on).restarting = s.restarting ∧
    (s.setAlert a on).storeValid = s.storeValid ∧ (s.setAlert a on).retainedLost = s.retainedLost ∧
    (s.setAlert a on).rqu = s.rqu ∧ (s.setAlert a on).csu = s.csu ∧ (s.setAlert a on).tkc = s.tkc ∧
    (s.setAlert a on).siu = s.siu ∧ (s.setAlert a on).jnc = s.jnc ∧ (s.setAlert a on).pbu = s.pbu ∧
    (s.setAlert a on).dyc = s.dyc ∧ (s.setAlert a on).pending = s.pending := by
  simp [State.setAlert]

@[simp] theorem State.drawerChanged_frame (s : State) (a : Nat) (isOpen : Bool) :
    (s.drawerChanged a isOpen).supply = s.supply ∧ (s.drawerChanged a isOpen).resetLow = s.resetLow ∧
    (s.drawerChanged a isOpen).straps = s.straps ∧ (s.drawerChanged a isOpen).restarting = s.restarting ∧
    (s.drawerChanged a isOpen).storeValid = s.storeValid ∧
    (s.drawerChanged a isOpen).retainedLost = s.retainedLost ∧ (s.drawerChanged a isOpen).rqu = s.rqu ∧
    (s.drawerChanged a isOpen).csu = s.csu ∧ (s.drawerChanged a isOpen).siu = s.siu ∧
    (s.drawerChanged a isOpen).pbu = s.pbu ∧ (s.drawerChanged a isOpen).dyc = s.dyc ∧
    (s.drawerChanged a isOpen).pending = s.pending := by
  refine ⟨?_, ?_, ?_, ?_, ?_, ?_, ?_, ?_, ?_, ?_, ?_, ?_⟩ <;> (unfold State.drawerChanged; (repeat' split) <;> simp)

@[simp] theorem State.sessionRecord_frame (s : State) (t : Teller) (body : RecordBody) (a : Nat) (supervisor : Option Nat) :
    (s.sessionRecord t body a supervisor).supply = s.supply ∧
    (s.sessionRecord t body a supervisor).resetLow = s.resetLow ∧
    (s.sessionRecord t body a supervisor).straps = s.straps ∧
    (s.sessionRecord t body a supervisor).restarting = s.restarting ∧
    (s.sessionRecord t body a supervisor).storeValid = s.storeValid ∧
    (s.sessionRecord t body a supervisor).retainedLost = s.retainedLost ∧
    (s.sessionRecord t body a supervisor).rqu = s.rqu ∧ (s.sessionRecord t body a supervisor).csu = s.csu ∧
    (s.sessionRecord t body a supervisor).siu = s.siu ∧ (s.sessionRecord t body a supervisor).pbu = s.pbu ∧
    (s.sessionRecord t body a supervisor).dyc = s.dyc ∧
    (s.sessionRecord t body a supervisor).pending = s.pending := by
  refine ⟨?_, ?_, ?_, ?_, ?_, ?_, ?_, ?_, ?_, ?_, ?_, ?_⟩ <;> (unfold State.sessionRecord; (repeat' split) <;> simp)

@[simp] theorem State.assignDrawer_frame (s : State) (t : Teller) :
    (s.assignDrawer t).supply = s.supply ∧ (s.assignDrawer t).resetLow = s.resetLow ∧
    (s.assignDrawer t).straps = s.straps ∧ (s.assignDrawer t).restarting = s.restarting ∧
    (s.assignDrawer t).storeValid = s.storeValid ∧ (s.assignDrawer t).retainedLost = s.retainedLost ∧
    (s.assignDrawer t).lpc = s.lpc ∧ (s.assignDrawer t).rqu = s.rqu ∧ (s.assignDrawer t).tkc = s.tkc ∧
    (s.assignDrawer t).siu = s.siu ∧ (s.assignDrawer t).jnc = s.jnc ∧ (s.assignDrawer t).pbu = s.pbu ∧
    (s.assignDrawer t).dyc = s.dyc ∧ (s.assignDrawer t).pending = s.pending := by
  refine ⟨?_, ?_, ?_, ?_, ?_, ?_, ?_, ?_, ?_, ?_, ?_, ?_, ?_, ?_⟩ <;> (unfold State.assignDrawer; (repeat' split) <;> simp)

@[simp] theorem State.beginSession_frame (s : State) (a : Nat) (t : Teller) :
    (s.beginSession a t).supply = s.supply ∧ (s.beginSession a t).resetLow = s.resetLow ∧
    (s.beginSession a t).straps = s.straps ∧ (s.beginSession a t).restarting = s.restarting ∧
    (s.beginSession a t).storeValid = s.storeValid ∧ (s.beginSession a t).retainedLost = s.retainedLost ∧
    (s.beginSession a t).siu = s.siu ∧ (s.beginSession a t).pbu = s.pbu ∧ (s.beginSession a t).dyc = s.dyc ∧
    (s.beginSession a t).pending = s.pending := by
  simp [State.beginSession]

@[simp] theorem State.checkSignOn_frame (s : State) (a : Nat) (t : Teller) (check : Nat) :
    (s.checkSignOn a t check).supply = s.supply ∧ (s.checkSignOn a t check).resetLow = s.resetLow ∧
    (s.checkSignOn a t check).straps = s.straps ∧ (s.checkSignOn a t check).restarting = s.restarting ∧
    (s.checkSignOn a t check).storeValid = s.storeValid ∧
    (s.checkSignOn a t check).retainedLost = s.retainedLost ∧ (s.checkSignOn a t check).siu = s.siu ∧
    (s.checkSignOn a t check).pbu = s.pbu ∧ (s.checkSignOn a t check).dyc = s.dyc ∧
    (s.checkSignOn a t check).pending = s.pending := by
  refine ⟨?_, ?_, ?_, ?_, ?_, ?_, ?_, ?_, ?_, ?_⟩ <;> (unfold State.checkSignOn; (repeat' split) <;> simp)

@[simp] theorem State.signOn_frame (s : State) (a teller check : Nat) :
    (s.signOn a teller check).supply = s.supply ∧ (s.signOn a teller check).resetLow = s.resetLow ∧
    (s.signOn a teller check).straps = s.straps ∧ (s.signOn a teller check).restarting = s.restarting ∧
    (s.signOn a teller check).storeValid = s.storeValid ∧
    (s.signOn a teller check).retainedLost = s.retainedLost ∧ (s.signOn a teller check).siu = s.siu ∧
    (s.signOn a teller check).pbu = s.pbu ∧ (s.signOn a teller check).dyc = s.dyc ∧
    (s.signOn a teller check).pending = s.pending := by
  refine ⟨?_, ?_, ?_, ?_, ?_, ?_, ?_, ?_, ?_, ?_⟩ <;> (unfold State.signOn; (repeat' split) <;> simp)

@[simp] theorem State.endTellerSession_frame (s : State) (a : Nat) (t : Teller) (supervisor : Option Nat) :
    (s.endTellerSession a t supervisor).supply = s.supply ∧
    (s.endTellerSession a t supervisor).resetLow = s.resetLow ∧
    (s.endTellerSession a t supervisor).straps = s.straps ∧
    (s.endTellerSession a t supervisor).restarting = s.restarting ∧
    (s.endTellerSession a t supervisor).storeValid = s.storeValid ∧
    (s.endTellerSession a t supervisor).retainedLost = s.retainedLost ∧
    (s.endTellerSession a t supervisor).csu = s.csu ∧ (s.endTellerSession a t supervisor).siu = s.siu ∧
    (s.endTellerSession a t supervisor).pbu = s.pbu ∧ (s.endTellerSession a t supervisor).dyc = s.dyc ∧
    (s.endTellerSession a t supervisor).pending = s.pending := by
  simp [State.endTellerSession]

@[simp] theorem State.discardReply_frame (s : State) (a : Nat) :
    (s.discardReply a).supply = s.supply ∧ (s.discardReply a).resetLow = s.resetLow ∧
    (s.discardReply a).straps = s.straps ∧ (s.discardReply a).restarting = s.restarting ∧
    (s.discardReply a).storeValid = s.storeValid ∧ (s.discardReply a).retainedLost = s.retainedLost ∧
    (s.discardReply a).csu = s.csu ∧ (s.discardReply a).tkc = s.tkc ∧ (s.discardReply a).siu = s.siu ∧
    (s.discardReply a).jnc = s.jnc ∧ (s.discardReply a).pbu = s.pbu ∧ (s.discardReply a).dyc = s.dyc ∧
    (s.discardReply a).pending = s.pending := by
  refine ⟨?_, ?_, ?_, ?_, ?_, ?_, ?_, ?_, ?_, ?_, ?_, ?_, ?_⟩ <;> (unfold State.discardReply; (repeat' split) <;> simp)

@[simp] theorem State.onSessionsAt_frame (s : State) (a : Nat) (f : Teller → Teller) :
    (s.onSessionsAt a f).supply = s.supply ∧ (s.onSessionsAt a f).resetLow = s.resetLow ∧
    (s.onSessionsAt a f).straps = s.straps ∧ (s.onSessionsAt a f).restarting = s.restarting ∧
    (s.onSessionsAt a f).storeValid = s.storeValid ∧ (s.onSessionsAt a f).retainedLost = s.retainedLost ∧
    (s.onSessionsAt a f).lpc = s.lpc ∧ (s.onSessionsAt a f).csu = s.csu ∧ (s.onSessionsAt a f).tkc = s.tkc ∧
    (s.onSessionsAt a f).siu = s.siu ∧ (s.onSessionsAt a f).jnc = s.jnc ∧ (s.onSessionsAt a f).pbu = s.pbu ∧
    (s.onSessionsAt a f).dyc = s.dyc ∧ (s.onSessionsAt a f).pending = s.pending := by
  simp [State.onSessionsAt]

@[simp] theorem State.suspendAt_frame (s : State) (a : Nat) :
    (s.suspendAt a).supply = s.supply ∧ (s.suspendAt a).resetLow = s.resetLow ∧
    (s.suspendAt a).straps = s.straps ∧ (s.suspendAt a).restarting = s.restarting ∧
    (s.suspendAt a).storeValid = s.storeValid ∧ (s.suspendAt a).retainedLost = s.retainedLost ∧
    (s.suspendAt a).lpc = s.lpc ∧ (s.suspendAt a).csu = s.csu ∧ (s.suspendAt a).tkc = s.tkc ∧
    (s.suspendAt a).siu = s.siu ∧ (s.suspendAt a).jnc = s.jnc ∧ (s.suspendAt a).pbu = s.pbu ∧
    (s.suspendAt a).dyc = s.dyc ∧ (s.suspendAt a).pending = s.pending := by
  simp [State.suspendAt]

@[simp] theorem State.resumeAt_frame (s : State) (a : Nat) :
    (s.resumeAt a).supply = s.supply ∧ (s.resumeAt a).resetLow = s.resetLow ∧
    (s.resumeAt a).straps = s.straps ∧ (s.resumeAt a).restarting = s.restarting ∧
    (s.resumeAt a).storeValid = s.storeValid ∧ (s.resumeAt a).retainedLost = s.retainedLost ∧
    (s.resumeAt a).lpc = s.lpc ∧ (s.resumeAt a).csu = s.csu ∧ (s.resumeAt a).tkc = s.tkc ∧
    (s.resumeAt a).siu = s.siu ∧ (s.resumeAt a).jnc = s.jnc ∧ (s.resumeAt a).pbu = s.pbu ∧
    (s.resumeAt a).dyc = s.dyc ∧ (s.resumeAt a).pending = s.pending := by
  simp [State.resumeAt]

@[simp] theorem State.abandonClose_frame (s : State) :
    s.abandonClose.supply = s.supply ∧ s.abandonClose.resetLow = s.resetLow ∧
    s.abandonClose.straps = s.straps ∧ s.abandonClose.restarting = s.restarting ∧
    s.abandonClose.storeValid = s.storeValid ∧ s.abandonClose.retainedLost = s.retainedLost ∧
    s.abandonClose.rqu = s.rqu ∧ s.abandonClose.csu = s.csu ∧ s.abandonClose.tkc = s.tkc ∧
    s.abandonClose.siu = s.siu ∧ s.abandonClose.jnc = s.jnc ∧ s.abandonClose.pbu = s.pbu ∧
    s.abandonClose.pending = s.pending := by
  simp [State.abandonClose]

@[simp] theorem State.windowExpiry_frame (s : State) :
    s.windowExpiry.supply = s.supply ∧ s.windowExpiry.resetLow = s.resetLow ∧
    s.windowExpiry.straps = s.straps ∧ s.windowExpiry.restarting = s.restarting ∧
    s.windowExpiry.storeValid = s.storeValid ∧ s.windowExpiry.retainedLost = s.retainedLost ∧
    s.windowExpiry.rqu = s.rqu ∧ s.windowExpiry.csu = s.csu ∧ s.windowExpiry.tkc = s.tkc ∧
    s.windowExpiry.siu = s.siu ∧ s.windowExpiry.jnc = s.jnc ∧ s.windowExpiry.pbu = s.pbu ∧
    s.windowExpiry.pending = s.pending := by
  refine ⟨?_, ?_, ?_, ?_, ?_, ?_, ?_, ?_, ?_, ?_, ?_, ?_, ?_⟩ <;> (unfold State.windowExpiry; (repeat' split) <;> simp)

@[simp] theorem State.resumeBatch_frame (s : State) (oldest next : Nat) (trailer : Bool) :
    (s.resumeBatch oldest next trailer).supply = s.supply ∧
    (s.resumeBatch oldest next trailer).resetLow = s.resetLow ∧
    (s.resumeBatch oldest next trailer).straps = s.straps ∧
    (s.resumeBatch oldest next trailer).restarting = s.restarting ∧
    (s.resumeBatch oldest next trailer).storeValid = s.storeValid ∧
    (s.resumeBatch oldest next trailer).retainedLost = s.retainedLost ∧
    (s.resumeBatch oldest next trailer).rqu = s.rqu ∧ (s.resumeBatch oldest next trailer).csu = s.csu ∧
    (s.resumeBatch oldest next trailer).tkc = s.tkc ∧ (s.resumeBatch oldest next trailer).siu = s.siu ∧
    (s.resumeBatch oldest next trailer).jnc = s.jnc ∧ (s.resumeBatch oldest next trailer).pbu = s.pbu ∧
    (s.resumeBatch oldest next trailer).pending = s.pending := by
  refine ⟨?_, ?_, ?_, ?_, ?_, ?_, ?_, ?_, ?_, ?_, ?_, ?_, ?_⟩ <;> (unfold State.resumeBatch; (repeat' split) <;> simp)

@[simp] theorem State.resumeOnline_frame (s : State) :
    s.resumeOnline.supply = s.supply ∧ s.resumeOnline.resetLow = s.resetLow ∧
    s.resumeOnline.straps = s.straps ∧ s.resumeOnline.restarting = s.restarting ∧
    s.resumeOnline.storeValid = s.storeValid ∧ s.resumeOnline.retainedLost = s.retainedLost ∧
    s.resumeOnline.rqu = s.rqu ∧ s.resumeOnline.csu = s.csu ∧ s.resumeOnline.tkc = s.tkc ∧
    s.resumeOnline.siu = s.siu ∧ s.resumeOnline.jnc = s.jnc ∧ s.resumeOnline.pbu = s.pbu ∧
    s.resumeOnline.pending = s.pending := by
  refine ⟨?_, ?_, ?_, ?_, ?_, ?_, ?_, ?_, ?_, ?_, ?_, ?_, ?_⟩ <;> (unfold State.resumeOnline; (repeat' split) <;> simp)

@[simp] theorem State.reportLost_frame (s : State) :
    s.reportLost.supply = s.supply ∧ s.reportLost.resetLow = s.resetLow ∧
    s.reportLost.straps = s.straps ∧ s.reportLost.restarting = s.restarting ∧
    s.reportLost.storeValid = s.storeValid ∧ s.reportLost.lpc = s.lpc ∧ s.reportLost.rqu = s.rqu ∧
    s.reportLost.csu = s.csu ∧ s.reportLost.siu = s.siu ∧ s.reportLost.jnc = s.jnc ∧
    s.reportLost.pbu = s.pbu ∧ s.reportLost.dyc = s.dyc ∧ s.reportLost.pending = s.pending := by
  refine ⟨?_, ?_, ?_, ?_, ?_, ?_, ?_, ?_, ?_, ?_, ?_, ?_, ?_⟩ <;> (unfold State.reportLost; (repeat' split) <;> simp)

@[simp] theorem State.reportOnline_frame (s : State) :
    s.reportOnline.supply = s.supply ∧ s.reportOnline.resetLow = s.resetLow ∧
    s.reportOnline.straps = s.straps ∧ s.reportOnline.restarting = s.restarting ∧
    s.reportOnline.storeValid = s.storeValid ∧ s.reportOnline.csu = s.csu ∧ s.reportOnline.siu = s.siu ∧
    s.reportOnline.jnc = s.jnc ∧ s.reportOnline.pbu = s.pbu ∧ s.reportOnline.pending = s.pending := by
  simp [State.reportOnline]

@[simp] theorem State.reportOffline_frame (s : State) :
    s.reportOffline.supply = s.supply ∧ s.reportOffline.resetLow = s.resetLow ∧
    s.reportOffline.straps = s.straps ∧ s.reportOffline.restarting = s.restarting ∧
    s.reportOffline.storeValid = s.storeValid ∧ s.reportOffline.retainedLost = s.retainedLost ∧
    s.reportOffline.rqu = s.rqu ∧ s.reportOffline.csu = s.csu ∧ s.reportOffline.siu = s.siu ∧
    s.reportOffline.jnc = s.jnc ∧ s.reportOffline.pbu = s.pbu ∧ s.reportOffline.pending = s.pending := by
  refine ⟨?_, ?_, ?_, ?_, ?_, ?_, ?_, ?_, ?_, ?_, ?_, ?_⟩ <;> (unfold State.reportOffline; (repeat' split) <;> simp)

@[simp] theorem State.setRun_frame (s : State) (last : Option Nat) (run : Nat) :
    (s.setRun last run).supply = s.supply ∧ (s.setRun last run).resetLow = s.resetLow ∧
    (s.setRun last run).straps = s.straps ∧ (s.setRun last run).restarting = s.restarting ∧
    (s.setRun last run).storeValid = s.storeValid ∧ (s.setRun last run).retainedLost = s.retainedLost ∧
    (s.setRun last run).lpc = s.lpc ∧ (s.setRun last run).rqu = s.rqu ∧ (s.setRun last run).csu = s.csu ∧
    (s.setRun last run).siu = s.siu ∧ (s.setRun last run).jnc = s.jnc ∧ (s.setRun last run).pbu = s.pbu ∧
    (s.setRun last run).dyc = s.dyc ∧ (s.setRun last run).pending = s.pending := by
  simp [State.setRun]

@[simp] theorem State.stopSupervision_frame (s : State) :
    s.stopSupervision.supply = s.supply ∧ s.stopSupervision.resetLow = s.resetLow ∧
    s.stopSupervision.straps = s.straps ∧ s.stopSupervision.restarting = s.restarting ∧
    s.stopSupervision.storeValid = s.storeValid ∧ s.stopSupervision.retainedLost = s.retainedLost ∧
    s.stopSupervision.lpc = s.lpc ∧ s.stopSupervision.rqu = s.rqu ∧ s.stopSupervision.csu = s.csu ∧
    s.stopSupervision.siu = s.siu ∧ s.stopSupervision.jnc = s.jnc ∧ s.stopSupervision.pbu = s.pbu ∧
    s.stopSupervision.dyc = s.dyc ∧ s.stopSupervision.pending = s.pending := by
  simp [State.stopSupervision]

@[simp] theorem State.countBad_frame (s : State) :
    s.countBad.supply = s.supply ∧ s.countBad.resetLow = s.resetLow ∧ s.countBad.straps = s.straps ∧
    s.countBad.restarting = s.restarting ∧ s.countBad.storeValid = s.storeValid ∧
    s.countBad.retainedLost = s.retainedLost ∧ s.countBad.lpc = s.lpc ∧ s.countBad.rqu = s.rqu ∧
    s.countBad.csu = s.csu ∧ s.countBad.siu = s.siu ∧ s.countBad.jnc = s.jnc ∧ s.countBad.pbu = s.pbu ∧
    s.countBad.dyc = s.dyc ∧ s.countBad.pending = s.pending := by
  simp [State.countBad]

@[simp] theorem State.countOverrun_frame (s : State) :
    s.countOverrun.supply = s.supply ∧ s.countOverrun.resetLow = s.resetLow ∧
    s.countOverrun.straps = s.straps ∧ s.countOverrun.restarting = s.restarting ∧
    s.countOverrun.storeValid = s.storeValid ∧ s.countOverrun.retainedLost = s.retainedLost ∧
    s.countOverrun.lpc = s.lpc ∧ s.countOverrun.rqu = s.rqu ∧ s.countOverrun.csu = s.csu ∧
    s.countOverrun.siu = s.siu ∧ s.countOverrun.jnc = s.jnc ∧ s.countOverrun.pbu = s.pbu ∧
    s.countOverrun.dyc = s.dyc ∧ s.countOverrun.pending = s.pending := by
  simp [State.countOverrun]

@[simp] theorem State.send_frame (s : State) (slot tag : Nat) (body : FrameBody) (startsTimer : Bool) :
    (s.send slot tag body startsTimer).supply = s.supply ∧
    (s.send slot tag body startsTimer).resetLow = s.resetLow ∧
    (s.send slot tag body startsTimer).straps = s.straps ∧
    (s.send slot tag body startsTimer).restarting = s.restarting ∧
    (s.send slot tag body startsTimer).storeValid = s.storeValid ∧
    (s.send slot tag body startsTimer).retainedLost = s.retainedLost ∧
    (s.send slot tag body startsTimer).lpc = s.lpc ∧ (s.send slot tag body startsTimer).rqu = s.rqu ∧
    (s.send slot tag body startsTimer).csu = s.csu ∧ (s.send slot tag body startsTimer).siu = s.siu ∧
    (s.send slot tag body startsTimer).jnc = s.jnc ∧ (s.send slot tag body startsTimer).pbu = s.pbu ∧
    (s.send slot tag body startsTimer).dyc = s.dyc ∧ (s.send slot tag body startsTimer).pending = s.pending := by
  simp [State.send]

@[simp] theorem State.startSlot_frame (s : State) (x : OnlineSlot) (tag : Nat) :
    (s.startSlot x tag).supply = s.supply ∧ (s.startSlot x tag).resetLow = s.resetLow ∧
    (s.startSlot x tag).straps = s.straps ∧ (s.startSlot x tag).restarting = s.restarting ∧
    (s.startSlot x tag).storeValid = s.storeValid ∧ (s.startSlot x tag).retainedLost = s.retainedLost ∧
    (s.startSlot x tag).lpc = s.lpc ∧ (s.startSlot x tag).csu = s.csu ∧ (s.startSlot x tag).siu = s.siu ∧
    (s.startSlot x tag).jnc = s.jnc ∧ (s.startSlot x tag).pbu = s.pbu ∧ (s.startSlot x tag).dyc = s.dyc ∧
    (s.startSlot x tag).pending = s.pending := by
  simp [State.startSlot]

@[simp] theorem State.startFetch_frame (s : State) (x : OnlineSlot) (f : Fetch) :
    (s.startFetch x f).supply = s.supply ∧ (s.startFetch x f).resetLow = s.resetLow ∧
    (s.startFetch x f).straps = s.straps ∧ (s.startFetch x f).restarting = s.restarting ∧
    (s.startFetch x f).storeValid = s.storeValid ∧ (s.startFetch x f).retainedLost = s.retainedLost ∧
    (s.startFetch x f).lpc = s.lpc ∧ (s.startFetch x f).csu = s.csu ∧ (s.startFetch x f).siu = s.siu ∧
    (s.startFetch x f).jnc = s.jnc ∧ (s.startFetch x f).pbu = s.pbu ∧ (s.startFetch x f).dyc = s.dyc ∧
    (s.startFetch x f).pending = s.pending := by
  simp [State.startFetch]

@[simp] theorem State.adviceStart_frame (s : State) :
    s.adviceStart.supply = s.supply ∧ s.adviceStart.resetLow = s.resetLow ∧
    s.adviceStart.straps = s.straps ∧ s.adviceStart.restarting = s.restarting ∧
    s.adviceStart.storeValid = s.storeValid ∧ s.adviceStart.retainedLost = s.retainedLost ∧
    s.adviceStart.lpc = s.lpc ∧ s.adviceStart.rqu = s.rqu ∧ s.adviceStart.csu = s.csu ∧
    s.adviceStart.siu = s.siu ∧ s.adviceStart.jnc = s.jnc ∧ s.adviceStart.pbu = s.pbu ∧
    s.adviceStart.dyc = s.dyc ∧ s.adviceStart.pending = s.pending := by
  refine ⟨?_, ?_, ?_, ?_, ?_, ?_, ?_, ?_, ?_, ?_, ?_, ?_, ?_, ?_⟩ <;> (unfold State.adviceStart; (repeat' split) <;> simp)

@[simp] theorem State.answerStart_frame (s : State) :
    s.answerStart.supply = s.supply ∧ s.answerStart.resetLow = s.resetLow ∧
    s.answerStart.straps = s.straps ∧ s.answerStart.restarting = s.restarting ∧
    s.answerStart.storeValid = s.storeValid ∧ s.answerStart.retainedLost = s.retainedLost ∧
    s.answerStart.lpc = s.lpc ∧ s.answerStart.rqu = s.rqu ∧ s.answerStart.csu = s.csu ∧
    s.answerStart.siu = s.siu ∧ s.answerStart.jnc = s.jnc ∧ s.answerStart.pbu = s.pbu ∧
    s.answerStart.dyc = s.dyc ∧ s.answerStart.pending = s.pending := by
  refine ⟨?_, ?_, ?_, ?_, ?_, ?_, ?_, ?_, ?_, ?_, ?_, ?_, ?_, ?_⟩ <;> (unfold State.answerStart; (repeat' split) <;> simp)

@[simp] theorem State.blockStart_frame (s : State) :
    s.blockStart.supply = s.supply ∧ s.blockStart.resetLow = s.resetLow ∧
    s.blockStart.straps = s.straps ∧ s.blockStart.restarting = s.restarting ∧
    s.blockStart.storeValid = s.storeValid ∧ s.blockStart.retainedLost = s.retainedLost ∧
    s.blockStart.lpc = s.lpc ∧ s.blockStart.rqu = s.rqu ∧ s.blockStart.csu = s.csu ∧
    s.blockStart.siu = s.siu ∧ s.blockStart.jnc = s.jnc ∧ s.blockStart.pbu = s.pbu ∧
    s.blockStart.pending = s.pending := by
  refine ⟨?_, ?_, ?_, ?_, ?_, ?_, ?_, ?_, ?_, ?_, ?_, ?_, ?_⟩ <;> (unfold State.blockStart; (repeat' split) <;> simp)

@[simp] theorem State.startBlockTimer_frame (s : State) :
    s.startBlockTimer.supply = s.supply ∧ s.startBlockTimer.resetLow = s.resetLow ∧
    s.startBlockTimer.straps = s.straps ∧ s.startBlockTimer.restarting = s.restarting ∧
    s.startBlockTimer.storeValid = s.storeValid ∧ s.startBlockTimer.retainedLost = s.retainedLost ∧
    s.startBlockTimer.lpc = s.lpc ∧ s.startBlockTimer.rqu = s.rqu ∧ s.startBlockTimer.csu = s.csu ∧
    s.startBlockTimer.tkc = s.tkc ∧ s.startBlockTimer.siu = s.siu ∧ s.startBlockTimer.jnc = s.jnc ∧
    s.startBlockTimer.pbu = s.pbu ∧ s.startBlockTimer.pending = s.pending := by
  simp [State.startBlockTimer]

@[simp] theorem State.blockEnd_frame (s : State) (tag : Nat) (startsTimer : Bool) :
    (s.blockEnd tag startsTimer).supply = s.supply ∧ (s.blockEnd tag startsTimer).resetLow = s.resetLow ∧
    (s.blockEnd tag startsTimer).straps = s.straps ∧ (s.blockEnd tag startsTimer).restarting = s.restarting ∧
    (s.blockEnd tag startsTimer).storeValid = s.storeValid ∧
    (s.blockEnd tag startsTimer).retainedLost = s.retainedLost ∧ (s.blockEnd tag startsTimer).lpc = s.lpc ∧
    (s.blockEnd tag startsTimer).rqu = s.rqu ∧ (s.blockEnd tag startsTimer).csu = s.csu ∧
    (s.blockEnd tag startsTimer).tkc = s.tkc ∧ (s.blockEnd tag startsTimer).siu = s.siu ∧
    (s.blockEnd tag startsTimer).jnc = s.jnc ∧ (s.blockEnd tag startsTimer).pbu = s.pbu ∧
    (s.blockEnd tag startsTimer).pending = s.pending := by
  refine ⟨?_, ?_, ?_, ?_, ?_, ?_, ?_, ?_, ?_, ?_, ?_, ?_, ?_, ?_⟩ <;> (unfold State.blockEnd; (repeat' split) <;> simp)

@[simp] theorem State.frameEnd_frame (s : State) :
    s.frameEnd.supply = s.supply ∧ s.frameEnd.resetLow = s.resetLow ∧ s.frameEnd.straps = s.straps ∧
    s.frameEnd.restarting = s.restarting ∧ s.frameEnd.storeValid = s.storeValid ∧
    s.frameEnd.retainedLost = s.retainedLost ∧ s.frameEnd.lpc = s.lpc ∧ s.frameEnd.rqu = s.rqu ∧
    s.frameEnd.csu = s.csu ∧ s.frameEnd.siu = s.siu ∧ s.frameEnd.jnc = s.jnc ∧ s.frameEnd.pbu = s.pbu ∧
    s.frameEnd.pending = s.pending := by
  refine ⟨?_, ?_, ?_, ?_, ?_, ?_, ?_, ?_, ?_, ?_, ?_, ?_, ?_⟩ <;> (unfold State.frameEnd; (repeat' split) <;> simp)

@[simp] theorem State.countLateReply_frame (s : State) :
    s.countLateReply.supply = s.supply ∧ s.countLateReply.resetLow = s.resetLow ∧
    s.countLateReply.straps = s.straps ∧ s.countLateReply.restarting = s.restarting ∧
    s.countLateReply.storeValid = s.storeValid ∧ s.countLateReply.retainedLost = s.retainedLost ∧
    s.countLateReply.lpc = s.lpc ∧ s.countLateReply.rqu = s.rqu ∧ s.countLateReply.csu = s.csu ∧
    s.countLateReply.siu = s.siu ∧ s.countLateReply.jnc = s.jnc ∧ s.countLateReply.pbu = s.pbu ∧
    s.countLateReply.dyc = s.dyc ∧ s.countLateReply.pending = s.pending := by
  simp [State.countLateReply]

@[simp] theorem State.refreshSnapshot_frame (s : State) (account : Option Nat) (x : ReplyBalance) :
    (s.refreshSnapshot account x).supply = s.supply ∧ (s.refreshSnapshot account x).resetLow = s.resetLow ∧
    (s.refreshSnapshot account x).straps = s.straps ∧ (s.refreshSnapshot account x).restarting = s.restarting ∧
    (s.refreshSnapshot account x).storeValid = s.storeValid ∧
    (s.refreshSnapshot account x).retainedLost = s.retainedLost ∧ (s.refreshSnapshot account x).lpc = s.lpc ∧
    (s.refreshSnapshot account x).rqu = s.rqu ∧ (s.refreshSnapshot account x).csu = s.csu ∧
    (s.refreshSnapshot account x).tkc = s.tkc ∧ (s.refreshSnapshot account x).jnc = s.jnc ∧
    (s.refreshSnapshot account x).pbu = s.pbu ∧ (s.refreshSnapshot account x).dyc = s.dyc ∧
    (s.refreshSnapshot account x).pending = s.pending := by
  refine ⟨?_, ?_, ?_, ?_, ?_, ?_, ?_, ?_, ?_, ?_, ?_, ?_, ?_, ?_⟩ <;> (unfold State.refreshSnapshot; (repeat' split) <;> simp)

@[simp] theorem State.timeOut_frame (s : State) (seq : Nat) :
    (s.timeOut seq).supply = s.supply ∧ (s.timeOut seq).resetLow = s.resetLow ∧
    (s.timeOut seq).straps = s.straps ∧ (s.timeOut seq).restarting = s.restarting ∧
    (s.timeOut seq).storeValid = s.storeValid ∧ (s.timeOut seq).retainedLost = s.retainedLost ∧
    (s.timeOut seq).rqu = s.rqu ∧ (s.timeOut seq).csu = s.csu ∧ (s.timeOut seq).pbu = s.pbu ∧
    (s.timeOut seq).dyc = s.dyc ∧ (s.timeOut seq).pending = s.pending := by
  refine ⟨?_, ?_, ?_, ?_, ?_, ?_, ?_, ?_, ?_, ?_, ?_⟩ <;> (unfold State.timeOut; (repeat' split) <;> simp)

@[simp] theorem State.countTimeout_frame (s : State) :
    s.countTimeout.supply = s.supply ∧ s.countTimeout.resetLow = s.resetLow ∧
    s.countTimeout.straps = s.straps ∧ s.countTimeout.restarting = s.restarting ∧
    s.countTimeout.storeValid = s.storeValid ∧ s.countTimeout.retainedLost = s.retainedLost ∧
    s.countTimeout.lpc = s.lpc ∧ s.countTimeout.rqu = s.rqu ∧ s.countTimeout.csu = s.csu ∧
    s.countTimeout.siu = s.siu ∧ s.countTimeout.jnc = s.jnc ∧ s.countTimeout.pbu = s.pbu ∧
    s.countTimeout.dyc = s.dyc ∧ s.countTimeout.pending = s.pending := by
  simp [State.countTimeout]

@[simp] theorem State.releaseNet_frame (s : State) (p : Posting) :
    (s.releaseNet p).supply = s.supply ∧ (s.releaseNet p).resetLow = s.resetLow ∧
    (s.releaseNet p).straps = s.straps ∧ (s.releaseNet p).restarting = s.restarting ∧
    (s.releaseNet p).storeValid = s.storeValid ∧ (s.releaseNet p).retainedLost = s.retainedLost ∧
    (s.releaseNet p).lpc = s.lpc ∧ (s.releaseNet p).rqu = s.rqu ∧ (s.releaseNet p).csu = s.csu ∧
    (s.releaseNet p).tkc = s.tkc ∧ (s.releaseNet p).jnc = s.jnc ∧ (s.releaseNet p).pbu = s.pbu ∧
    (s.releaseNet p).dyc = s.dyc ∧ (s.releaseNet p).pending = s.pending := by
  refine ⟨?_, ?_, ?_, ?_, ?_, ?_, ?_, ?_, ?_, ?_, ?_, ?_, ?_, ?_⟩ <;> (unfold State.releaseNet; (repeat' split) <;> simp)

@[simp] theorem State.settlePosting_frame (s : State) (seq : Nat) (new : Disposition) (reference : Option Nat) :
    (s.settlePosting seq new reference).supply = s.supply ∧
    (s.settlePosting seq new reference).resetLow = s.resetLow ∧
    (s.settlePosting seq new reference).straps = s.straps ∧
    (s.settlePosting seq new reference).restarting = s.restarting ∧
    (s.settlePosting seq new reference).storeValid = s.storeValid ∧
    (s.settlePosting seq new reference).retainedLost = s.retainedLost ∧
    (s.settlePosting seq new reference).lpc = s.lpc ∧ (s.settlePosting seq new reference).rqu = s.rqu ∧
    (s.settlePosting seq new reference).csu = s.csu ∧ (s.settlePosting seq new reference).tkc = s.tkc ∧
    (s.settlePosting seq new reference).pbu = s.pbu ∧ (s.settlePosting seq new reference).dyc = s.dyc ∧
    (s.settlePosting seq new reference).pending = s.pending := by
  refine ⟨?_, ?_, ?_, ?_, ?_, ?_, ?_, ?_, ?_, ?_, ?_, ?_, ?_⟩ <;> (unfold State.settlePosting; (repeat' split) <;> simp)

@[simp] theorem State.settleAdvice_frame (s : State) (posting : Disposition) (reference : Option Nat) :
    (s.settleAdvice posting reference).supply = s.supply ∧
    (s.settleAdvice posting reference).resetLow = s.resetLow ∧
    (s.settleAdvice posting reference).straps = s.straps ∧
    (s.settleAdvice posting reference).restarting = s.restarting ∧
    (s.settleAdvice posting reference).storeValid = s.storeValid ∧
    (s.settleAdvice posting reference).retainedLost = s.retainedLost ∧
    (s.settleAdvice posting reference).lpc = s.lpc ∧ (s.settleAdvice posting reference).rqu = s.rqu ∧
    (s.settleAdvice posting reference).csu = s.csu ∧ (s.settleAdvice posting reference).pbu = s.pbu ∧
    (s.settleAdvice posting reference).dyc = s.dyc ∧ (s.settleAdvice posting reference).pending = s.pending := by
  refine ⟨?_, ?_, ?_, ?_, ?_, ?_, ?_, ?_, ?_, ?_, ?_, ?_⟩ <;> (simp only [State.settleAdvice]; (repeat' split) <;> simp)

@[simp] theorem State.adviceOutcome_frame (s : State) (h : FrameHeader) (posting : Disposition) (reference : Option Nat) :
    (s.adviceOutcome h posting reference).supply = s.supply ∧
    (s.adviceOutcome h posting reference).resetLow = s.resetLow ∧
    (s.adviceOutcome h posting reference).straps = s.straps ∧
    (s.adviceOutcome h posting reference).restarting = s.restarting ∧
    (s.adviceOutcome h posting reference).storeValid = s.storeValid ∧
    (s.adviceOutcome h posting reference).retainedLost = s.retainedLost ∧
    (s.adviceOutcome h posting reference).lpc = s.lpc ∧ (s.adviceOutcome h posting reference).rqu = s.rqu ∧
    (s.adviceOutcome h posting reference).csu = s.csu ∧ (s.adviceOutcome h posting reference).pbu = s.pbu ∧
    (s.adviceOutcome h posting reference).dyc = s.dyc ∧
    (s.adviceOutcome h posting reference).pending = s.pending := by
  refine ⟨?_, ?_, ?_, ?_, ?_, ?_, ?_, ?_, ?_, ?_, ?_, ?_⟩ <;> (unfold State.adviceOutcome; (repeat' split) <;> simp)

@[simp] theorem State.adviceExpiry_frame (s : State) :
    s.adviceExpiry.supply = s.supply ∧ s.adviceExpiry.resetLow = s.resetLow ∧
    s.adviceExpiry.straps = s.straps ∧ s.adviceExpiry.restarting = s.restarting ∧
    s.adviceExpiry.storeValid = s.storeValid ∧ s.adviceExpiry.retainedLost = s.retainedLost ∧
    s.adviceExpiry.lpc = s.lpc ∧ s.adviceExpiry.rqu = s.rqu ∧ s.adviceExpiry.csu = s.csu ∧
    s.adviceExpiry.siu = s.siu ∧ s.adviceExpiry.jnc = s.jnc ∧ s.adviceExpiry.pbu = s.pbu ∧
    s.adviceExpiry.dyc = s.dyc ∧ s.adviceExpiry.pending = s.pending := by
  refine ⟨?_, ?_, ?_, ?_, ?_, ?_, ?_, ?_, ?_, ?_, ?_, ?_, ?_, ?_⟩ <;> (unfold State.adviceExpiry; (repeat' split) <;> simp)

@[simp] theorem State.applyTeller_frame (s : State) (x : TellerEntry) :
    (s.applyTeller x).supply = s.supply ∧ (s.applyTeller x).resetLow = s.resetLow ∧
    (s.applyTeller x).straps = s.straps ∧ (s.applyTeller x).restarting = s.restarting ∧
    (s.applyTeller x).storeValid = s.storeValid ∧ (s.applyTeller x).retainedLost = s.retainedLost ∧
    (s.applyTeller x).lpc = s.lpc ∧ (s.applyTeller x).csu = s.csu ∧ (s.applyTeller x).tkc = s.tkc ∧
    (s.applyTeller x).siu = s.siu ∧ (s.applyTeller x).jnc = s.jnc ∧ (s.applyTeller x).pbu = s.pbu ∧
    (s.applyTeller x).dyc = s.dyc ∧ (s.applyTeller x).pending = s.pending := by
  refine ⟨?_, ?_, ?_, ?_, ?_, ?_, ?_, ?_, ?_, ?_, ?_, ?_, ?_, ?_⟩ <;> (unfold State.applyTeller; (repeat' split) <;> simp)

@[simp] theorem State.applyCode_frame (s : State) (e : CodeEntry) :
    (s.applyCode e).supply = s.supply ∧ (s.applyCode e).resetLow = s.resetLow ∧
    (s.applyCode e).straps = s.straps ∧ (s.applyCode e).restarting = s.restarting ∧
    (s.applyCode e).storeValid = s.storeValid ∧ (s.applyCode e).retainedLost = s.retainedLost ∧
    (s.applyCode e).lpc = s.lpc ∧ (s.applyCode e).csu = s.csu ∧ (s.applyCode e).tkc = s.tkc ∧
    (s.applyCode e).siu = s.siu ∧ (s.applyCode e).jnc = s.jnc ∧ (s.applyCode e).pbu = s.pbu ∧
    (s.applyCode e).dyc = s.dyc ∧ (s.applyCode e).pending = s.pending := by
  simp [State.applyCode]

@[simp] theorem State.applyDefinition_frame (s : State) (e : DefinitionEntry) :
    (s.applyDefinition e).supply = s.supply ∧ (s.applyDefinition e).resetLow = s.resetLow ∧
    (s.applyDefinition e).straps = s.straps ∧ (s.applyDefinition e).restarting = s.restarting ∧
    (s.applyDefinition e).storeValid = s.storeValid ∧ (s.applyDefinition e).retainedLost = s.retainedLost ∧
    (s.applyDefinition e).lpc = s.lpc ∧ (s.applyDefinition e).csu = s.csu ∧ (s.applyDefinition e).tkc = s.tkc ∧
    (s.applyDefinition e).siu = s.siu ∧ (s.applyDefinition e).jnc = s.jnc ∧ (s.applyDefinition e).pbu = s.pbu ∧
    (s.applyDefinition e).dyc = s.dyc ∧ (s.applyDefinition e).pending = s.pending := by
  simp [State.applyDefinition]

@[simp] theorem State.applyRoute_frame (s : State) (e : RouteEntry) :
    (s.applyRoute e).supply = s.supply ∧ (s.applyRoute e).resetLow = s.resetLow ∧
    (s.applyRoute e).straps = s.straps ∧ (s.applyRoute e).restarting = s.restarting ∧
    (s.applyRoute e).storeValid = s.storeValid ∧ (s.applyRoute e).retainedLost = s.retainedLost ∧
    (s.applyRoute e).lpc = s.lpc ∧ (s.applyRoute e).csu = s.csu ∧ (s.applyRoute e).tkc = s.tkc ∧
    (s.applyRoute e).siu = s.siu ∧ (s.applyRoute e).jnc = s.jnc ∧ (s.applyRoute e).pbu = s.pbu ∧
    (s.applyRoute e).dyc = s.dyc ∧ (s.applyRoute e).pending = s.pending := by
  simp [State.applyRoute]

@[simp] theorem State.applySat_frame (s : State) (e : SatLoad) :
    (s.applySat e).supply = s.supply ∧ (s.applySat e).resetLow = s.resetLow ∧
    (s.applySat e).straps = s.straps ∧ (s.applySat e).restarting = s.restarting ∧
    (s.applySat e).storeValid = s.storeValid ∧ (s.applySat e).retainedLost = s.retainedLost ∧
    (s.applySat e).lpc = s.lpc ∧ (s.applySat e).rqu = s.rqu ∧ (s.applySat e).csu = s.csu ∧
    (s.applySat e).tkc = s.tkc ∧ (s.applySat e).jnc = s.jnc ∧ (s.applySat e).pbu = s.pbu ∧
    (s.applySat e).dyc = s.dyc ∧ (s.applySat e).pending = s.pending := by
  simp [State.applySat]

@[simp] theorem State.applyRates_frame (s : State) (r : RateLoad) :
    (s.applyRates r).supply = s.supply ∧ (s.applyRates r).resetLow = s.resetLow ∧
    (s.applyRates r).straps = s.straps ∧ (s.applyRates r).restarting = s.restarting ∧
    (s.applyRates r).storeValid = s.storeValid ∧ (s.applyRates r).retainedLost = s.retainedLost ∧
    (s.applyRates r).lpc = s.lpc ∧ (s.applyRates r).rqu = s.rqu ∧ (s.applyRates r).csu = s.csu ∧
    (s.applyRates r).tkc = s.tkc ∧ (s.applyRates r).jnc = s.jnc ∧ (s.applyRates r).pbu = s.pbu ∧
    (s.applyRates r).dyc = s.dyc ∧ (s.applyRates r).pending = s.pending := by
  simp [State.applyRates]

@[simp] theorem State.applyDenominations_frame (s : State) (e : DenominationEntry) :
    (s.applyDenominations e).supply = s.supply ∧ (s.applyDenominations e).resetLow = s.resetLow ∧
    (s.applyDenominations e).straps = s.straps ∧ (s.applyDenominations e).restarting = s.restarting ∧
    (s.applyDenominations e).storeValid = s.storeValid ∧
    (s.applyDenominations e).retainedLost = s.retainedLost ∧ (s.applyDenominations e).lpc = s.lpc ∧
    (s.applyDenominations e).rqu = s.rqu ∧ (s.applyDenominations e).tkc = s.tkc ∧
    (s.applyDenominations e).siu = s.siu ∧ (s.applyDenominations e).jnc = s.jnc ∧
    (s.applyDenominations e).pbu = s.pbu ∧ (s.applyDenominations e).dyc = s.dyc ∧
    (s.applyDenominations e).pending = s.pending := by
  simp [State.applyDenominations]

@[simp] theorem State.applyLayout_frame (s : State) (y : Layout) :
    (s.applyLayout y).supply = s.supply ∧ (s.applyLayout y).resetLow = s.resetLow ∧
    (s.applyLayout y).straps = s.straps ∧ (s.applyLayout y).restarting = s.restarting ∧
    (s.applyLayout y).storeValid = s.storeValid ∧ (s.applyLayout y).retainedLost = s.retainedLost ∧
    (s.applyLayout y).lpc = s.lpc ∧ (s.applyLayout y).rqu = s.rqu ∧ (s.applyLayout y).csu = s.csu ∧
    (s.applyLayout y).tkc = s.tkc ∧ (s.applyLayout y).siu = s.siu ∧ (s.applyLayout y).jnc = s.jnc ∧
    (s.applyLayout y).dyc = s.dyc ∧ (s.applyLayout y).pending = s.pending := by
  simp [State.applyLayout]

@[simp] theorem State.startClock_frame (s : State) :
    s.startClock.supply = s.supply ∧ s.startClock.resetLow = s.resetLow ∧
    s.startClock.straps = s.straps ∧ s.startClock.restarting = s.restarting ∧
    s.startClock.storeValid = s.storeValid ∧ s.startClock.retainedLost = s.retainedLost ∧
    s.startClock.lpc = s.lpc ∧ s.startClock.rqu = s.rqu ∧ s.startClock.csu = s.csu ∧
    s.startClock.tkc = s.tkc ∧ s.startClock.siu = s.siu ∧ s.startClock.pbu = s.pbu ∧
    s.startClock.dyc = s.dyc ∧ s.startClock.pending = s.pending := by
  simp [State.startClock]

@[simp] theorem State.startDay_frame (s : State) (date : Date) (time : TimeOfDay) (expected : PerKind Nat) :
    (s.startDay date time expected).supply = s.supply ∧ (s.startDay date time expected).resetLow = s.resetLow ∧
    (s.startDay date time expected).straps = s.straps ∧
    (s.startDay date time expected).restarting = s.restarting ∧
    (s.startDay date time expected).storeValid = s.storeValid ∧
    (s.startDay date time expected).retainedLost = s.retainedLost ∧
    (s.startDay date time expected).csu = s.csu ∧ (s.startDay date time expected).pbu = s.pbu ∧
    (s.startDay date time expected).pending = s.pending := by
  simp [State.startDay]

@[simp] theorem State.sweepSat_frame (s : State) :
    s.sweepSat.supply = s.supply ∧ s.sweepSat.resetLow = s.resetLow ∧ s.sweepSat.straps = s.straps ∧
    s.sweepSat.restarting = s.restarting ∧ s.sweepSat.storeValid = s.storeValid ∧
    s.sweepSat.retainedLost = s.retainedLost ∧ s.sweepSat.lpc = s.lpc ∧ s.sweepSat.rqu = s.rqu ∧
    s.sweepSat.csu = s.csu ∧ s.sweepSat.tkc = s.tkc ∧ s.sweepSat.jnc = s.jnc ∧ s.sweepSat.pbu = s.pbu ∧
    s.sweepSat.dyc = s.dyc ∧ s.sweepSat.pending = s.pending := by
  simp [State.sweepSat]

@[simp] theorem State.enterNotice_frame (s : State) (groups : BitVec 8) (text : Text) :
    (s.enterNotice groups text).supply = s.supply ∧ (s.enterNotice groups text).resetLow = s.resetLow ∧
    (s.enterNotice groups text).straps = s.straps ∧ (s.enterNotice groups text).restarting = s.restarting ∧
    (s.enterNotice groups text).storeValid = s.storeValid ∧
    (s.enterNotice groups text).retainedLost = s.retainedLost ∧ (s.enterNotice groups text).rqu = s.rqu ∧
    (s.enterNotice groups text).csu = s.csu ∧ (s.enterNotice groups text).tkc = s.tkc ∧
    (s.enterNotice groups text).siu = s.siu ∧ (s.enterNotice groups text).jnc = s.jnc ∧
    (s.enterNotice groups text).pbu = s.pbu ∧ (s.enterNotice groups text).dyc = s.dyc ∧
    (s.enterNotice groups text).pending = s.pending := by
  simp [State.enterNotice]

@[simp] theorem State.onBatch_frame (s : State) (f : Batch → Batch) :
    (s.onBatch f).supply = s.supply ∧ (s.onBatch f).resetLow = s.resetLow ∧ (s.onBatch f).straps = s.straps ∧
    (s.onBatch f).restarting = s.restarting ∧ (s.onBatch f).storeValid = s.storeValid ∧
    (s.onBatch f).retainedLost = s.retainedLost ∧ (s.onBatch f).lpc = s.lpc ∧ (s.onBatch f).rqu = s.rqu ∧
    (s.onBatch f).csu = s.csu ∧ (s.onBatch f).tkc = s.tkc ∧ (s.onBatch f).siu = s.siu ∧
    (s.onBatch f).jnc = s.jnc ∧ (s.onBatch f).pbu = s.pbu ∧ (s.onBatch f).pending = s.pending := by
  simp [State.onBatch]

@[simp] theorem State.stopBlockTimer_frame (s : State) :
    s.stopBlockTimer.supply = s.supply ∧ s.stopBlockTimer.resetLow = s.resetLow ∧
    s.stopBlockTimer.straps = s.straps ∧ s.stopBlockTimer.restarting = s.restarting ∧
    s.stopBlockTimer.storeValid = s.storeValid ∧ s.stopBlockTimer.retainedLost = s.retainedLost ∧
    s.stopBlockTimer.lpc = s.lpc ∧ s.stopBlockTimer.rqu = s.rqu ∧ s.stopBlockTimer.csu = s.csu ∧
    s.stopBlockTimer.tkc = s.tkc ∧ s.stopBlockTimer.siu = s.siu ∧ s.stopBlockTimer.jnc = s.jnc ∧
    s.stopBlockTimer.pbu = s.pbu ∧ s.stopBlockTimer.pending = s.pending := by
  simp [State.stopBlockTimer]

@[simp] theorem State.blockAck_frame (s : State) (n : Nat) :
    (s.blockAck n).supply = s.supply ∧ (s.blockAck n).resetLow = s.resetLow ∧
    (s.blockAck n).straps = s.straps ∧ (s.blockAck n).restarting = s.restarting ∧
    (s.blockAck n).storeValid = s.storeValid ∧ (s.blockAck n).retainedLost = s.retainedLost ∧
    (s.blockAck n).lpc = s.lpc ∧ (s.blockAck n).rqu = s.rqu ∧ (s.blockAck n).csu = s.csu ∧
    (s.blockAck n).tkc = s.tkc ∧ (s.blockAck n).siu = s.siu ∧ (s.blockAck n).jnc = s.jnc ∧
    (s.blockAck n).pbu = s.pbu ∧ (s.blockAck n).pending = s.pending := by
  refine ⟨?_, ?_, ?_, ?_, ?_, ?_, ?_, ?_, ?_, ?_, ?_, ?_, ?_, ?_⟩ <;> (unfold State.blockAck; (repeat' split) <;> simp)

@[simp] theorem State.stallAttempts_frame (s : State) (oldest : Nat) :
    (s.stallAttempts oldest).supply = s.supply ∧ (s.stallAttempts oldest).resetLow = s.resetLow ∧
    (s.stallAttempts oldest).straps = s.straps ∧ (s.stallAttempts oldest).restarting = s.restarting ∧
    (s.stallAttempts oldest).storeValid = s.storeValid ∧
    (s.stallAttempts oldest).retainedLost = s.retainedLost ∧ (s.stallAttempts oldest).rqu = s.rqu ∧
    (s.stallAttempts oldest).csu = s.csu ∧ (s.stallAttempts oldest).siu = s.siu ∧
    (s.stallAttempts oldest).jnc = s.jnc ∧ (s.stallAttempts oldest).pbu = s.pbu ∧
    (s.stallAttempts oldest).pending = s.pending := by
  simp [State.stallAttempts]

@[simp] theorem State.blockNak_frame (s : State) (n : Nat) :
    (s.blockNak n).supply = s.supply ∧ (s.blockNak n).resetLow = s.resetLow ∧
    (s.blockNak n).straps = s.straps ∧ (s.blockNak n).restarting = s.restarting ∧
    (s.blockNak n).storeValid = s.storeValid ∧ (s.blockNak n).retainedLost = s.retainedLost ∧
    (s.blockNak n).rqu = s.rqu ∧ (s.blockNak n).csu = s.csu ∧ (s.blockNak n).siu = s.siu ∧
    (s.blockNak n).jnc = s.jnc ∧ (s.blockNak n).pbu = s.pbu ∧ (s.blockNak n).pending = s.pending := by
  refine ⟨?_, ?_, ?_, ?_, ?_, ?_, ?_, ?_, ?_, ?_, ?_, ?_⟩ <;> (unfold State.blockNak; (repeat' split) <;> simp)

@[simp] theorem State.blockExpiry_frame (s : State) :
    s.blockExpiry.supply = s.supply ∧ s.blockExpiry.resetLow = s.resetLow ∧
    s.blockExpiry.straps = s.straps ∧ s.blockExpiry.restarting = s.restarting ∧
    s.blockExpiry.storeValid = s.storeValid ∧ s.blockExpiry.retainedLost = s.retainedLost ∧
    s.blockExpiry.rqu = s.rqu ∧ s.blockExpiry.csu = s.csu ∧ s.blockExpiry.siu = s.siu ∧
    s.blockExpiry.jnc = s.jnc ∧ s.blockExpiry.pbu = s.pbu ∧ s.blockExpiry.pending = s.pending := by
  refine ⟨?_, ?_, ?_, ?_, ?_, ?_, ?_, ?_, ?_, ?_, ?_, ?_⟩ <;> (unfold State.blockExpiry; (repeat' split) <;> simp)

@[simp] theorem State.refuseResume_frame (s : State) (h : FrameHeader) (b : Batch) (n : Nat) :
    (s.refuseResume h b n).supply = s.supply ∧ (s.refuseResume h b n).resetLow = s.resetLow ∧
    (s.refuseResume h b n).straps = s.straps ∧ (s.refuseResume h b n).restarting = s.restarting ∧
    (s.refuseResume h b n).storeValid = s.storeValid ∧ (s.refuseResume h b n).retainedLost = s.retainedLost ∧
    (s.refuseResume h b n).lpc = s.lpc ∧ (s.refuseResume h b n).rqu = s.rqu ∧
    (s.refuseResume h b n).csu = s.csu ∧ (s.refuseResume h b n).siu = s.siu ∧
    (s.refuseResume h b n).jnc = s.jnc ∧ (s.refuseResume h b n).pbu = s.pbu ∧
    (s.refuseResume h b n).pending = s.pending := by
  simp [State.refuseResume]

@[simp] theorem State.takeVerdict_frame (s : State) (v : Verdict) :
    (s.takeVerdict v).supply = s.supply ∧ (s.takeVerdict v).resetLow = s.resetLow ∧
    (s.takeVerdict v).straps = s.straps ∧ (s.takeVerdict v).restarting = s.restarting ∧
    (s.takeVerdict v).storeValid = s.storeValid ∧ (s.takeVerdict v).retainedLost = s.retainedLost ∧
    (s.takeVerdict v).rqu = s.rqu ∧ (s.takeVerdict v).csu = s.csu ∧ (s.takeVerdict v).tkc = s.tkc ∧
    (s.takeVerdict v).jnc = s.jnc ∧ (s.takeVerdict v).pbu = s.pbu ∧ (s.takeVerdict v).pending = s.pending := by
  simp [State.takeVerdict]

@[simp] theorem State.emptyNotices_frame (s : State) :
    s.emptyNotices.supply = s.supply ∧ s.emptyNotices.resetLow = s.resetLow ∧
    s.emptyNotices.straps = s.straps ∧ s.emptyNotices.restarting = s.restarting ∧
    s.emptyNotices.storeValid = s.storeValid ∧ s.emptyNotices.retainedLost = s.retainedLost ∧
    s.emptyNotices.rqu = s.rqu ∧ s.emptyNotices.csu = s.csu ∧ s.emptyNotices.tkc = s.tkc ∧
    s.emptyNotices.siu = s.siu ∧ s.emptyNotices.jnc = s.jnc ∧ s.emptyNotices.pbu = s.pbu ∧
    s.emptyNotices.dyc = s.dyc ∧ s.emptyNotices.pending = s.pending := by
  simp [State.emptyNotices]

@[simp] theorem State.noticeNext_frame (s : State) (a : Nat) :
    (s.noticeNext a).supply = s.supply ∧ (s.noticeNext a).resetLow = s.resetLow ∧
    (s.noticeNext a).straps = s.straps ∧ (s.noticeNext a).restarting = s.restarting ∧
    (s.noticeNext a).storeValid = s.storeValid ∧ (s.noticeNext a).retainedLost = s.retainedLost ∧
    (s.noticeNext a).rqu = s.rqu ∧ (s.noticeNext a).csu = s.csu ∧ (s.noticeNext a).tkc = s.tkc ∧
    (s.noticeNext a).siu = s.siu ∧ (s.noticeNext a).jnc = s.jnc ∧ (s.noticeNext a).pbu = s.pbu ∧
    (s.noticeNext a).dyc = s.dyc ∧ (s.noticeNext a).pending = s.pending := by
  refine ⟨?_, ?_, ?_, ?_, ?_, ?_, ?_, ?_, ?_, ?_, ?_, ?_, ?_, ?_⟩ <;> (unfold State.noticeNext; (repeat' split) <;> simp)

@[simp] theorem State.passBook_frame (s : State) (a : Nat) (on : Bool) :
    (s.passBook a on).supply = s.supply ∧ (s.passBook a on).resetLow = s.resetLow ∧
    (s.passBook a on).straps = s.straps ∧ (s.passBook a on).restarting = s.restarting ∧
    (s.passBook a on).storeValid = s.storeValid ∧ (s.passBook a on).retainedLost = s.retainedLost ∧
    (s.passBook a on).csu = s.csu ∧ (s.passBook a on).dyc = s.dyc ∧ (s.passBook a on).pending = s.pending := by
  refine ⟨?_, ?_, ?_, ?_, ?_, ?_, ?_, ?_, ?_⟩ <;> (unfold State.passBook; (repeat' split) <;> simp)

@[simp] theorem State.passChanges_frame (s : State) (a : Nat) (old new : DropSigs) :
    (s.passChanges a old new).supply = s.supply ∧ (s.passChanges a old new).resetLow = s.resetLow ∧
    (s.passChanges a old new).straps = s.straps ∧ (s.passChanges a old new).restarting = s.restarting ∧
    (s.passChanges a old new).storeValid = s.storeValid ∧
    (s.passChanges a old new).retainedLost = s.retainedLost ∧ (s.passChanges a old new).csu = s.csu ∧
    (s.passChanges a old new).dyc = s.dyc ∧ (s.passChanges a old new).pending = s.pending := by
  refine ⟨?_, ?_, ?_, ?_, ?_, ?_, ?_, ?_, ?_⟩ <;> (unfold State.passChanges; (repeat' split) <;> simp)

@[simp] theorem State.setSignals_frame (s : State) (a : Nat) (new : DropSigs) :
    (s.setSignals a new).supply = s.supply ∧ (s.setSignals a new).resetLow = s.resetLow ∧
    (s.setSignals a new).straps = s.straps ∧ (s.setSignals a new).restarting = s.restarting ∧
    (s.setSignals a new).storeValid = s.storeValid ∧ (s.setSignals a new).retainedLost = s.retainedLost ∧
    (s.setSignals a new).csu = s.csu ∧ (s.setSignals a new).dyc = s.dyc ∧
    (s.setSignals a new).pending = s.pending := by
  refine ⟨?_, ?_, ?_, ?_, ?_, ?_, ?_, ?_, ?_⟩ <;> (unfold State.setSignals; (repeat' split) <;> simp)

@[simp] theorem State.announceAbsent_frame (s : State) (a : Nat) (g : Signals) :
    (s.announceAbsent a g).supply = s.supply ∧ (s.announceAbsent a g).resetLow = s.resetLow ∧
    (s.announceAbsent a g).straps = s.straps ∧ (s.announceAbsent a g).restarting = s.restarting ∧
    (s.announceAbsent a g).storeValid = s.storeValid ∧ (s.announceAbsent a g).retainedLost = s.retainedLost ∧
    (s.announceAbsent a g).csu = s.csu ∧ (s.announceAbsent a g).dyc = s.dyc ∧
    (s.announceAbsent a g).pending = s.pending := by
  simp [State.announceAbsent]

@[simp] theorem State.identifyIfBook_frame (s : State) (a : Nat) :
    (s.identifyIfBook a).supply = s.supply ∧ (s.identifyIfBook a).resetLow = s.resetLow ∧
    (s.identifyIfBook a).straps = s.straps ∧ (s.identifyIfBook a).restarting = s.restarting ∧
    (s.identifyIfBook a).storeValid = s.storeValid ∧ (s.identifyIfBook a).retainedLost = s.retainedLost ∧
    (s.identifyIfBook a).rqu = s.rqu ∧ (s.identifyIfBook a).csu = s.csu ∧ (s.identifyIfBook a).tkc = s.tkc ∧
    (s.identifyIfBook a).siu = s.siu ∧ (s.identifyIfBook a).jnc = s.jnc ∧ (s.identifyIfBook a).dyc = s.dyc ∧
    (s.identifyIfBook a).pending = s.pending := by
  refine ⟨?_, ?_, ?_, ?_, ?_, ?_, ?_, ?_, ?_, ?_, ?_, ?_, ?_⟩ <;> (unfold State.identifyIfBook; (repeat' split) <;> simp)

@[simp] theorem State.announceAgain_frame (s : State) (a : Nat) (kind : DropType) :
    (s.announceAgain a kind).supply = s.supply ∧ (s.announceAgain a kind).resetLow = s.resetLow ∧
    (s.announceAgain a kind).straps = s.straps ∧ (s.announceAgain a kind).restarting = s.restarting ∧
    (s.announceAgain a kind).storeValid = s.storeValid ∧
    (s.announceAgain a kind).retainedLost = s.retainedLost ∧ (s.announceAgain a kind).csu = s.csu ∧
    (s.announceAgain a kind).dyc = s.dyc ∧ (s.announceAgain a kind).pending = s.pending := by
  refine ⟨?_, ?_, ?_, ?_, ?_, ?_, ?_, ?_, ?_⟩ <;> (unfold State.announceAgain; (repeat' split) <;> simp)

@[simp] theorem State.announce_frame (s : State) (a : Nat) (kind : DropType) (g : Signals) :
    (s.announce a kind g).supply = s.supply ∧ (s.announce a kind g).resetLow = s.resetLow ∧
    (s.announce a kind g).straps = s.straps ∧ (s.announce a kind g).restarting = s.restarting ∧
    (s.announce a kind g).storeValid = s.storeValid ∧ (s.announce a kind g).retainedLost = s.retainedLost ∧
    (s.announce a kind g).csu = s.csu ∧ (s.announce a kind g).dyc = s.dyc ∧
    (s.announce a kind g).pending = s.pending := by
  refine ⟨?_, ?_, ?_, ?_, ?_, ?_, ?_, ?_, ?_⟩ <;> (unfold State.announce; (repeat' split) <;> simp)

@[simp] theorem State.sendSegment_frame (s : State) (d : Drop) (slot : Nat) :
    (s.sendSegment d slot).2.supply = s.supply ∧ (s.sendSegment d slot).2.resetLow = s.resetLow ∧
    (s.sendSegment d slot).2.straps = s.straps ∧ (s.sendSegment d slot).2.restarting = s.restarting ∧
    (s.sendSegment d slot).2.storeValid = s.storeValid ∧
    (s.sendSegment d slot).2.retainedLost = s.retainedLost ∧ (s.sendSegment d slot).2.rqu = s.rqu ∧
    (s.sendSegment d slot).2.csu = s.csu ∧ (s.sendSegment d slot).2.tkc = s.tkc ∧
    (s.sendSegment d slot).2.siu = s.siu ∧ (s.sendSegment d slot).2.jnc = s.jnc ∧
    (s.sendSegment d slot).2.pbu = s.pbu ∧ (s.sendSegment d slot).2.dyc = s.dyc ∧
    (s.sendSegment d slot).2.pending = s.pending := by
  simp [State.sendSegment]

@[simp] theorem State.ownedSlot_frame (s : State) (d : Drop) (slot : Nat) :
    (s.ownedSlot d slot).2.supply = s.supply ∧ (s.ownedSlot d slot).2.resetLow = s.resetLow ∧
    (s.ownedSlot d slot).2.straps = s.straps ∧ (s.ownedSlot d slot).2.restarting = s.restarting ∧
    (s.ownedSlot d slot).2.storeValid = s.storeValid ∧ (s.ownedSlot d slot).2.retainedLost = s.retainedLost ∧
    (s.ownedSlot d slot).2.rqu = s.rqu ∧ (s.ownedSlot d slot).2.csu = s.csu ∧
    (s.ownedSlot d slot).2.tkc = s.tkc ∧ (s.ownedSlot d slot).2.siu = s.siu ∧
    (s.ownedSlot d slot).2.jnc = s.jnc ∧ (s.ownedSlot d slot).2.pbu = s.pbu ∧
    (s.ownedSlot d slot).2.dyc = s.dyc ∧ (s.ownedSlot d slot).2.pending = s.pending := by
  refine ⟨?_, ?_, ?_, ?_, ?_, ?_, ?_, ?_, ?_, ?_, ?_, ?_, ?_, ?_⟩ <;> (simp only [State.ownedSlot]; (repeat' split) <;> simp)

@[simp] theorem State.composeSlot_frame (s : State) (slot : Nat) :
    (s.composeSlot slot).2.supply = s.supply ∧ (s.composeSlot slot).2.resetLow = s.resetLow ∧
    (s.composeSlot slot).2.straps = s.straps ∧ (s.composeSlot slot).2.restarting = s.restarting ∧
    (s.composeSlot slot).2.storeValid = s.storeValid ∧ (s.composeSlot slot).2.retainedLost = s.retainedLost ∧
    (s.composeSlot slot).2.rqu = s.rqu ∧ (s.composeSlot slot).2.csu = s.csu ∧
    (s.composeSlot slot).2.tkc = s.tkc ∧ (s.composeSlot slot).2.siu = s.siu ∧
    (s.composeSlot slot).2.jnc = s.jnc ∧ (s.composeSlot slot).2.pbu = s.pbu ∧
    (s.composeSlot slot).2.dyc = s.dyc ∧ (s.composeSlot slot).2.pending = s.pending := by
  refine ⟨?_, ?_, ?_, ?_, ?_, ?_, ?_, ?_, ?_, ?_, ?_, ?_, ?_, ?_⟩ <;> (unfold State.composeSlot; (repeat' split) <;> simp)

@[simp] theorem State.sampleFirst_frame (s : State) (a slot : Nat) (h : List Byte) :
    (s.sampleFirst a slot h).supply = s.supply ∧ (s.sampleFirst a slot h).resetLow = s.resetLow ∧
    (s.sampleFirst a slot h).straps = s.straps ∧ (s.sampleFirst a slot h).restarting = s.restarting ∧
    (s.sampleFirst a slot h).storeValid = s.storeValid ∧
    (s.sampleFirst a slot h).retainedLost = s.retainedLost ∧ (s.sampleFirst a slot h).csu = s.csu ∧
    (s.sampleFirst a slot h).dyc = s.dyc ∧ (s.sampleFirst a slot h).pending = s.pending := by
  refine ⟨?_, ?_, ?_, ?_, ?_, ?_, ?_, ?_, ?_⟩ <;> (unfold State.sampleFirst; (repeat' split) <;> simp)

@[simp] theorem State.probeSlot_frame (s : State) (d : Drop) (slot : Nat) (h : List Byte) :
    (s.probeSlot d slot h).supply = s.supply ∧ (s.probeSlot d slot h).resetLow = s.resetLow ∧
    (s.probeSlot d slot h).straps = s.straps ∧ (s.probeSlot d slot h).restarting = s.restarting ∧
    (s.probeSlot d slot h).storeValid = s.storeValid ∧ (s.probeSlot d slot h).retainedLost = s.retainedLost ∧
    (s.probeSlot d slot h).csu = s.csu ∧ (s.probeSlot d slot h).dyc = s.dyc ∧
    (s.probeSlot d slot h).pending = s.pending := by
  refine ⟨?_, ?_, ?_, ?_, ?_, ?_, ?_, ?_, ?_⟩ <;> (unfold State.probeSlot; (repeat' split) <;> simp)

@[simp] theorem State.offerSlot_frame (s : State) (a slot : Nat) (h : List Byte) :
    (s.offerSlot a slot h).supply = s.supply ∧ (s.offerSlot a slot h).resetLow = s.resetLow ∧
    (s.offerSlot a slot h).straps = s.straps ∧ (s.offerSlot a slot h).restarting = s.restarting ∧
    (s.offerSlot a slot h).storeValid = s.storeValid ∧ (s.offerSlot a slot h).retainedLost = s.retainedLost ∧
    (s.offerSlot a slot h).csu = s.csu ∧ (s.offerSlot a slot h).dyc = s.dyc ∧
    (s.offerSlot a slot h).pending = s.pending := by
  refine ⟨?_, ?_, ?_, ?_, ?_, ?_, ?_, ?_, ?_⟩ <;> (unfold State.offerSlot; (repeat' split) <;> simp)

@[simp] theorem State.tellFenced_frame (s : State) (d : Drop) :
    (s.tellFenced d).supply = s.supply ∧ (s.tellFenced d).resetLow = s.resetLow ∧
    (s.tellFenced d).straps = s.straps ∧ (s.tellFenced d).restarting = s.restarting ∧
    (s.tellFenced d).storeValid = s.storeValid ∧ (s.tellFenced d).retainedLost = s.retainedLost ∧
    (s.tellFenced d).csu = s.csu ∧ (s.tellFenced d).dyc = s.dyc ∧ (s.tellFenced d).pending = s.pending := by
  refine ⟨?_, ?_, ?_, ?_, ?_, ?_, ?_, ?_, ?_⟩ <;> (unfold State.tellFenced; (repeat' split) <;> simp)

@[simp] theorem State.evaluateUsed_frame (s : State) (d : Drop) :
    (s.evaluateUsed d).supply = s.supply ∧ (s.evaluateUsed d).resetLow = s.resetLow ∧
    (s.evaluateUsed d).straps = s.straps ∧ (s.evaluateUsed d).restarting = s.restarting ∧
    (s.evaluateUsed d).storeValid = s.storeValid ∧ (s.evaluateUsed d).retainedLost = s.retainedLost ∧
    (s.evaluateUsed d).csu = s.csu ∧ (s.evaluateUsed d).dyc = s.dyc ∧ (s.evaluateUsed d).pending = s.pending := by
  refine ⟨?_, ?_, ?_, ?_, ?_, ?_, ?_, ?_, ?_⟩ <;> (simp only [State.evaluateUsed]; (repeat' split) <;> simp)

@[simp] theorem State.tellRecovered_frame (s : State) (d : Drop) :
    (s.tellRecovered d).supply = s.supply ∧ (s.tellRecovered d).resetLow = s.resetLow ∧
    (s.tellRecovered d).straps = s.straps ∧ (s.tellRecovered d).restarting = s.restarting ∧
    (s.tellRecovered d).storeValid = s.storeValid ∧ (s.tellRecovered d).retainedLost = s.retainedLost ∧
    (s.tellRecovered d).csu = s.csu ∧ (s.tellRecovered d).tkc = s.tkc ∧ (s.tellRecovered d).siu = s.siu ∧
    (s.tellRecovered d).jnc = s.jnc ∧ (s.tellRecovered d).dyc = s.dyc ∧
    (s.tellRecovered d).pending = s.pending := by
  refine ⟨?_, ?_, ?_, ?_, ?_, ?_, ?_, ?_, ?_, ?_, ?_, ?_⟩ <;> (unfold State.tellRecovered; (repeat' split) <;> simp)

@[simp] theorem State.evaluateFenced_frame (s : State) (d : Drop) :
    (s.evaluateFenced d).supply = s.supply ∧ (s.evaluateFenced d).resetLow = s.resetLow ∧
    (s.evaluateFenced d).straps = s.straps ∧ (s.evaluateFenced d).restarting = s.restarting ∧
    (s.evaluateFenced d).storeValid = s.storeValid ∧ (s.evaluateFenced d).retainedLost = s.retainedLost ∧
    (s.evaluateFenced d).csu = s.csu ∧ (s.evaluateFenced d).tkc = s.tkc ∧ (s.evaluateFenced d).siu = s.siu ∧
    (s.evaluateFenced d).jnc = s.jnc ∧ (s.evaluateFenced d).dyc = s.dyc ∧
    (s.evaluateFenced d).pending = s.pending := by
  refine ⟨?_, ?_, ?_, ?_, ?_, ?_, ?_, ?_, ?_, ?_, ?_, ?_⟩ <;> (unfold State.evaluateFenced; (repeat' split) <;> simp)

@[simp] theorem State.evaluate_frame (s : State) (a : Nat) :
    (s.evaluate a).supply = s.supply ∧ (s.evaluate a).resetLow = s.resetLow ∧
    (s.evaluate a).straps = s.straps ∧ (s.evaluate a).restarting = s.restarting ∧
    (s.evaluate a).storeValid = s.storeValid ∧ (s.evaluate a).retainedLost = s.retainedLost ∧
    (s.evaluate a).csu = s.csu ∧ (s.evaluate a).dyc = s.dyc ∧ (s.evaluate a).pending = s.pending := by
  refine ⟨?_, ?_, ?_, ?_, ?_, ?_, ?_, ?_, ?_⟩ <;> (unfold State.evaluate; (repeat' split) <;> simp)

@[simp] theorem State.deliver_frame (s : State) (a : Nat) :
    (s.deliver a).supply = s.supply ∧ (s.deliver a).resetLow = s.resetLow ∧ (s.deliver a).straps = s.straps ∧
    (s.deliver a).restarting = s.restarting ∧ (s.deliver a).storeValid = s.storeValid ∧
    (s.deliver a).retainedLost = s.retainedLost ∧ (s.deliver a).csu = s.csu ∧ (s.deliver a).tkc = s.tkc ∧
    (s.deliver a).siu = s.siu ∧ (s.deliver a).jnc = s.jnc ∧ (s.deliver a).pbu = s.pbu ∧
    (s.deliver a).dyc = s.dyc ∧ (s.deliver a).pending = s.pending := by
  refine ⟨?_, ?_, ?_, ?_, ?_, ?_, ?_, ?_, ?_, ?_, ?_, ?_, ?_⟩ <;> (unfold State.deliver; (repeat' split) <;> simp)

@[simp] theorem State.enterLoopFault_frame (s : State) :
    s.enterLoopFault.supply = s.supply ∧ s.enterLoopFault.resetLow = s.resetLow ∧
    s.enterLoopFault.straps = s.straps ∧ s.enterLoopFault.restarting = s.restarting ∧
    s.enterLoopFault.storeValid = s.storeValid ∧ s.enterLoopFault.retainedLost = s.retainedLost ∧
    s.enterLoopFault.rqu = s.rqu ∧ s.enterLoopFault.csu = s.csu ∧ s.enterLoopFault.tkc = s.tkc ∧
    s.enterLoopFault.siu = s.siu ∧ s.enterLoopFault.jnc = s.jnc ∧ s.enterLoopFault.pbu = s.pbu ∧
    s.enterLoopFault.dyc = s.dyc ∧ s.enterLoopFault.pending = s.pending := by
  simp [State.enterLoopFault]

@[simp] theorem State.slippedCycle_frame (s : State) :
    s.slippedCycle.supply = s.supply ∧ s.slippedCycle.resetLow = s.resetLow ∧
    s.slippedCycle.straps = s.straps ∧ s.slippedCycle.restarting = s.restarting ∧
    s.slippedCycle.storeValid = s.storeValid ∧ s.slippedCycle.retainedLost = s.retainedLost ∧
    s.slippedCycle.rqu = s.rqu ∧ s.slippedCycle.csu = s.csu ∧ s.slippedCycle.tkc = s.tkc ∧
    s.slippedCycle.siu = s.siu ∧ s.slippedCycle.jnc = s.jnc ∧ s.slippedCycle.pbu = s.pbu ∧
    s.slippedCycle.dyc = s.dyc ∧ s.slippedCycle.pending = s.pending := by
  refine ⟨?_, ?_, ?_, ?_, ?_, ?_, ?_, ?_, ?_, ?_, ?_, ?_, ?_, ?_⟩ <;> (simp only [State.slippedCycle]; (repeat' split) <;> simp)

@[simp] theorem State.leaveLoopFault_frame (s : State) :
    s.leaveLoopFault.supply = s.supply ∧ s.leaveLoopFault.resetLow = s.resetLow ∧
    s.leaveLoopFault.straps = s.straps ∧ s.leaveLoopFault.restarting = s.restarting ∧
    s.leaveLoopFault.storeValid = s.storeValid ∧ s.leaveLoopFault.retainedLost = s.retainedLost ∧
    s.leaveLoopFault.rqu = s.rqu ∧ s.leaveLoopFault.csu = s.csu ∧ s.leaveLoopFault.tkc = s.tkc ∧
    s.leaveLoopFault.siu = s.siu ∧ s.leaveLoopFault.jnc = s.jnc ∧ s.leaveLoopFault.pbu = s.pbu ∧
    s.leaveLoopFault.dyc = s.dyc ∧ s.leaveLoopFault.pending = s.pending := by
  simp [State.leaveLoopFault]

@[simp] theorem State.faultCycle_frame (s : State) :
    s.faultCycle.supply = s.supply ∧ s.faultCycle.resetLow = s.resetLow ∧
    s.faultCycle.straps = s.straps ∧ s.faultCycle.restarting = s.restarting ∧
    s.faultCycle.storeValid = s.storeValid ∧ s.faultCycle.retainedLost = s.retainedLost ∧
    s.faultCycle.rqu = s.rqu ∧ s.faultCycle.csu = s.csu ∧ s.faultCycle.tkc = s.tkc ∧
    s.faultCycle.siu = s.siu ∧ s.faultCycle.jnc = s.jnc ∧ s.faultCycle.pbu = s.pbu ∧
    s.faultCycle.dyc = s.dyc ∧ s.faultCycle.pending = s.pending := by
  refine ⟨?_, ?_, ?_, ?_, ?_, ?_, ?_, ?_, ?_, ?_, ?_, ?_, ?_, ?_⟩ <;> (unfold State.faultCycle; (repeat' split) <;> simp)

@[simp] theorem State.clearCycle_frame (s : State) :
    s.clearCycle.supply = s.supply ∧ s.clearCycle.resetLow = s.resetLow ∧
    s.clearCycle.straps = s.straps ∧ s.clearCycle.restarting = s.restarting ∧
    s.clearCycle.storeValid = s.storeValid ∧ s.clearCycle.retainedLost = s.retainedLost ∧
    s.clearCycle.rqu = s.rqu ∧ s.clearCycle.csu = s.csu ∧ s.clearCycle.tkc = s.tkc ∧
    s.clearCycle.siu = s.siu ∧ s.clearCycle.jnc = s.jnc ∧ s.clearCycle.pbu = s.pbu ∧
    s.clearCycle.dyc = s.dyc ∧ s.clearCycle.pending = s.pending := by
  simp [State.clearCycle]

@[simp] theorem State.cycleLost_frame (s : State) :
    s.cycleLost.supply = s.supply ∧ s.cycleLost.resetLow = s.resetLow ∧ s.cycleLost.straps = s.straps ∧
    s.cycleLost.restarting = s.restarting ∧ s.cycleLost.storeValid = s.storeValid ∧
    s.cycleLost.retainedLost = s.retainedLost ∧ s.cycleLost.rqu = s.rqu ∧ s.cycleLost.csu = s.csu ∧
    s.cycleLost.tkc = s.tkc ∧ s.cycleLost.siu = s.siu ∧ s.cycleLost.jnc = s.jnc ∧
    s.cycleLost.pbu = s.pbu ∧ s.cycleLost.dyc = s.dyc ∧ s.cycleLost.pending = s.pending := by
  refine ⟨?_, ?_, ?_, ?_, ?_, ?_, ?_, ?_, ?_, ?_, ?_, ?_, ?_, ?_⟩ <;> (unfold State.cycleLost; (repeat' split) <;> simp)

@[simp] theorem State.clearVolatile_frame (s : State) :
    s.clearVolatile.supply = s.supply ∧ s.clearVolatile.resetLow = s.resetLow ∧
    s.clearVolatile.straps = s.straps ∧ s.clearVolatile.storeValid = s.storeValid ∧
    s.clearVolatile.retainedLost = s.retainedLost ∧ s.clearVolatile.csu = s.csu ∧
    s.clearVolatile.pending = s.pending := by
  simp [State.clearVolatile]

@[simp] theorem State.clearStore_frame (s : State) :
    s.clearStore.supply = s.supply ∧ s.clearStore.resetLow = s.resetLow ∧
    s.clearStore.straps = s.straps ∧ s.clearStore.restarting = s.restarting ∧ s.clearStore.tkc = s.tkc ∧
    s.clearStore.pending = s.pending := by
  simp [State.clearStore]

@[simp] theorem State.settleDrawer_frame (s : State) (d : Nat) :
    (s.settleDrawer d).supply = s.supply ∧ (s.settleDrawer d).resetLow = s.resetLow ∧
    (s.settleDrawer d).straps = s.straps ∧ (s.settleDrawer d).restarting = s.restarting ∧
    (s.settleDrawer d).storeValid = s.storeValid ∧ (s.settleDrawer d).retainedLost = s.retainedLost ∧
    (s.settleDrawer d).rqu = s.rqu ∧ (s.settleDrawer d).siu = s.siu ∧ (s.settleDrawer d).pbu = s.pbu ∧
    (s.settleDrawer d).dyc = s.dyc ∧ (s.settleDrawer d).pending = s.pending := by
  refine ⟨?_, ?_, ?_, ?_, ?_, ?_, ?_, ?_, ?_, ?_, ?_⟩ <;> (unfold State.settleDrawer; (repeat' split) <;> simp)

@[simp] theorem State.clearMarks_frame (s : State) :
    s.clearMarks.supply = s.supply ∧ s.clearMarks.resetLow = s.resetLow ∧
    s.clearMarks.straps = s.straps ∧ s.clearMarks.restarting = s.restarting ∧
    s.clearMarks.storeValid = s.storeValid ∧ s.clearMarks.retainedLost = s.retainedLost ∧
    s.clearMarks.rqu = s.rqu ∧ s.clearMarks.csu = s.csu ∧ s.clearMarks.tkc = s.tkc ∧
    s.clearMarks.siu = s.siu ∧ s.clearMarks.jnc = s.jnc ∧ s.clearMarks.pbu = s.pbu ∧
    s.clearMarks.dyc = s.dyc ∧ s.clearMarks.pending = s.pending := by
  simp [State.clearMarks]

@[simp] theorem State.powerLoss_frame (s : State) :
    s.powerLoss.resetLow = s.resetLow ∧ s.powerLoss.straps = s.straps ∧
    s.powerLoss.storeValid = s.storeValid ∧ s.powerLoss.retainedLost = s.retainedLost ∧
    s.powerLoss.csu = s.csu ∧ s.powerLoss.pending = s.pending := by
  refine ⟨?_, ?_, ?_, ?_, ?_, ?_⟩ <;> (unfold State.powerLoss; (repeat' split) <;> simp)

@[simp] theorem State.resetAssert_frame (s : State) :
    s.resetAssert.supply = s.supply ∧ s.resetAssert.straps = s.straps ∧
    s.resetAssert.storeValid = s.storeValid ∧ s.resetAssert.retainedLost = s.retainedLost ∧
    s.resetAssert.csu = s.csu ∧ s.resetAssert.pending = s.pending := by
  refine ⟨?_, ?_, ?_, ?_, ?_, ?_⟩ <;> (unfold State.resetAssert; (repeat' split) <;> simp)

@[simp] theorem State.tick_frame (s : State) :
    s.tick.supply = s.supply ∧ s.tick.resetLow = s.resetLow ∧ s.tick.straps = s.straps ∧
    s.tick.restarting = s.restarting ∧ s.tick.storeValid = s.storeValid ∧
    s.tick.retainedLost = s.retainedLost ∧ s.tick.lpc = s.lpc ∧ s.tick.rqu = s.rqu ∧
    s.tick.csu = s.csu ∧ s.tick.tkc = s.tkc ∧ s.tick.siu = s.siu ∧ s.tick.pbu = s.pbu ∧
    s.tick.dyc = s.dyc ∧ s.tick.pending = s.pending := by
  refine ⟨?_, ?_, ?_, ?_, ?_, ?_, ?_, ?_, ?_, ?_, ?_, ?_, ?_, ?_⟩ <;> (unfold State.tick; (repeat' split) <;> simp)

/-! ### Operations that fold or go on with another operation -/

@[simp] theorem State.queueStatusFor_frame (s : State) (l : List Nat) :
    (s.queueStatusFor l).supply = s.supply ∧ (s.queueStatusFor l).resetLow = s.resetLow ∧
    (s.queueStatusFor l).straps = s.straps ∧ (s.queueStatusFor l).restarting = s.restarting ∧
    (s.queueStatusFor l).storeValid = s.storeValid ∧ (s.queueStatusFor l).retainedLost = s.retainedLost ∧
    (s.queueStatusFor l).rqu = s.rqu ∧ (s.queueStatusFor l).csu = s.csu ∧ (s.queueStatusFor l).tkc = s.tkc ∧
    (s.queueStatusFor l).siu = s.siu ∧ (s.queueStatusFor l).jnc = s.jnc ∧ (s.queueStatusFor l).pbu = s.pbu ∧
    (s.queueStatusFor l).dyc = s.dyc ∧ (s.queueStatusFor l).pending = s.pending := by
  refine ⟨?_, ?_, ?_, ?_, ?_, ?_, ?_, ?_, ?_, ?_, ?_, ?_, ?_, ?_⟩ <;> exact foldl_fixed (by simp) _ _

@[simp] theorem State.queueHolder_frame (s : State) (d : Nat) :
    (s.queueHolder d).supply = s.supply ∧ (s.queueHolder d).resetLow = s.resetLow ∧
    (s.queueHolder d).straps = s.straps ∧ (s.queueHolder d).restarting = s.restarting ∧
    (s.queueHolder d).storeValid = s.storeValid ∧ (s.queueHolder d).retainedLost = s.retainedLost ∧
    (s.queueHolder d).rqu = s.rqu ∧ (s.queueHolder d).csu = s.csu ∧ (s.queueHolder d).tkc = s.tkc ∧
    (s.queueHolder d).siu = s.siu ∧ (s.queueHolder d).jnc = s.jnc ∧ (s.queueHolder d).pbu = s.pbu ∧
    (s.queueHolder d).dyc = s.dyc ∧ (s.queueHolder d).pending = s.pending := by
  simp [State.queueHolder]

@[simp] theorem State.queueSupervisors_frame (s : State) :
    s.queueSupervisors.supply = s.supply ∧ s.queueSupervisors.resetLow = s.resetLow ∧
    s.queueSupervisors.straps = s.straps ∧ s.queueSupervisors.restarting = s.restarting ∧
    s.queueSupervisors.storeValid = s.storeValid ∧ s.queueSupervisors.retainedLost = s.retainedLost ∧
    s.queueSupervisors.rqu = s.rqu ∧ s.queueSupervisors.csu = s.csu ∧ s.queueSupervisors.tkc = s.tkc ∧
    s.queueSupervisors.siu = s.siu ∧ s.queueSupervisors.jnc = s.jnc ∧ s.queueSupervisors.pbu = s.pbu ∧
    s.queueSupervisors.dyc = s.dyc ∧ s.queueSupervisors.pending = s.pending := by
  simp [State.queueSupervisors]

@[simp] theorem State.judgeCashHigh_frame (s : State) (d : Nat) :
    (s.judgeCashHigh d).supply = s.supply ∧ (s.judgeCashHigh d).resetLow = s.resetLow ∧
    (s.judgeCashHigh d).straps = s.straps ∧ (s.judgeCashHigh d).restarting = s.restarting ∧
    (s.judgeCashHigh d).storeValid = s.storeValid ∧ (s.judgeCashHigh d).retainedLost = s.retainedLost ∧
    (s.judgeCashHigh d).rqu = s.rqu ∧ (s.judgeCashHigh d).tkc = s.tkc ∧ (s.judgeCashHigh d).siu = s.siu ∧
    (s.judgeCashHigh d).jnc = s.jnc ∧ (s.judgeCashHigh d).pbu = s.pbu ∧ (s.judgeCashHigh d).dyc = s.dyc ∧
    (s.judgeCashHigh d).pending = s.pending := by
  refine ⟨?_, ?_, ?_, ?_, ?_, ?_, ?_, ?_, ?_, ?_, ?_, ?_, ?_⟩ <;> (unfold State.judgeCashHigh; (repeat' split) <;> simp)

@[simp] theorem State.applyCash_frame (s : State) (t : Txn) :
    (s.applyCash t).supply = s.supply ∧ (s.applyCash t).resetLow = s.resetLow ∧
    (s.applyCash t).straps = s.straps ∧ (s.applyCash t).restarting = s.restarting ∧
    (s.applyCash t).storeValid = s.storeValid ∧ (s.applyCash t).retainedLost = s.retainedLost ∧
    (s.applyCash t).rqu = s.rqu ∧ (s.applyCash t).tkc = s.tkc ∧ (s.applyCash t).siu = s.siu ∧
    (s.applyCash t).jnc = s.jnc ∧ (s.applyCash t).pbu = s.pbu ∧ (s.applyCash t).dyc = s.dyc ∧
    (s.applyCash t).pending = s.pending := by
  refine ⟨?_, ?_, ?_, ?_, ?_, ?_, ?_, ?_, ?_, ?_, ?_, ?_, ?_⟩ <;> (unfold State.applyCash; (repeat' split) <;> simp)

@[simp] theorem State.drawersDue_frame (s : State) :
    s.drawersDue.supply = s.supply ∧ s.drawersDue.resetLow = s.resetLow ∧
    s.drawersDue.straps = s.straps ∧ s.drawersDue.restarting = s.restarting ∧
    s.drawersDue.storeValid = s.storeValid ∧ s.drawersDue.retainedLost = s.retainedLost ∧
    s.drawersDue.rqu = s.rqu ∧ s.drawersDue.tkc = s.tkc ∧ s.drawersDue.siu = s.siu ∧
    s.drawersDue.jnc = s.jnc ∧ s.drawersDue.pbu = s.pbu ∧ s.drawersDue.dyc = s.dyc ∧
    s.drawersDue.pending = s.pending := by
  refine ⟨?_, ?_, ?_, ?_, ?_, ?_, ?_, ?_, ?_, ?_, ?_, ?_, ?_⟩ <;> exact foldl_fixed (by simp) _ _

@[simp] theorem State.endDrain_frame (s : State) :
    s.endDrain.supply = s.supply ∧ s.endDrain.resetLow = s.resetLow ∧ s.endDrain.straps = s.straps ∧
    s.endDrain.restarting = s.restarting ∧ s.endDrain.storeValid = s.storeValid ∧
    s.endDrain.retainedLost = s.retainedLost ∧ s.endDrain.rqu = s.rqu ∧ s.endDrain.siu = s.siu ∧
    s.endDrain.pbu = s.pbu ∧ s.endDrain.pending = s.pending := by
  simp [State.endDrain]

@[simp] theorem State.judgeDrain_frame (s : State) :
    s.judgeDrain.supply = s.supply ∧ s.judgeDrain.resetLow = s.resetLow ∧
    s.judgeDrain.straps = s.straps ∧ s.judgeDrain.restarting = s.restarting ∧
    s.judgeDrain.storeValid = s.storeValid ∧ s.judgeDrain.retainedLost = s.retainedLost ∧
    s.judgeDrain.rqu = s.rqu ∧ s.judgeDrain.siu = s.siu ∧ s.judgeDrain.pbu = s.pbu ∧
    s.judgeDrain.pending = s.pending := by
  refine ⟨?_, ?_, ?_, ?_, ?_, ?_, ?_, ?_, ?_, ?_⟩ <;> (unfold State.judgeDrain; (repeat' split) <;> simp)

@[simp] theorem State.reachOutcome_frame (s : State) (t : Txn) (r : FinalReply) :
    (s.reachOutcome t r).supply = s.supply ∧ (s.reachOutcome t r).resetLow = s.resetLow ∧
    (s.reachOutcome t r).straps = s.straps ∧ (s.reachOutcome t r).restarting = s.restarting ∧
    (s.reachOutcome t r).storeValid = s.storeValid ∧ (s.reachOutcome t r).retainedLost = s.retainedLost ∧
    (s.reachOutcome t r).siu = s.siu ∧ (s.reachOutcome t r).pbu = s.pbu ∧
    (s.reachOutcome t r).pending = s.pending := by
  simp [State.reachOutcome]

@[simp] theorem State.refuse_frame (s : State) (t : Txn) (r : Result) (note : Option LegNote) :
    (s.refuse t r note).supply = s.supply ∧ (s.refuse t r note).resetLow = s.resetLow ∧
    (s.refuse t r note).straps = s.straps ∧ (s.refuse t r note).restarting = s.restarting ∧
    (s.refuse t r note).storeValid = s.storeValid ∧ (s.refuse t r note).retainedLost = s.retainedLost ∧
    (s.refuse t r note).siu = s.siu ∧ (s.refuse t r note).pbu = s.pbu ∧
    (s.refuse t r note).pending = s.pending := by
  simp [State.refuse]

@[simp] theorem State.trainingOk_frame (s : State) (t : Txn) (route : TrainingRoute) :
    (s.trainingOk t route).supply = s.supply ∧ (s.trainingOk t route).resetLow = s.resetLow ∧
    (s.trainingOk t route).straps = s.straps ∧ (s.trainingOk t route).restarting = s.restarting ∧
    (s.trainingOk t route).storeValid = s.storeValid ∧ (s.trainingOk t route).retainedLost = s.retainedLost ∧
    (s.trainingOk t route).siu = s.siu ∧ (s.trainingOk t route).pbu = s.pbu ∧
    (s.trainingOk t route).pending = s.pending := by
  simp [State.trainingOk]

@[simp] theorem State.postLocal_frame (s : State) (t : Txn) :
    (s.postLocal t).supply = s.supply ∧ (s.postLocal t).resetLow = s.resetLow ∧
    (s.postLocal t).straps = s.straps ∧ (s.postLocal t).restarting = s.restarting ∧
    (s.postLocal t).storeValid = s.storeValid ∧ (s.postLocal t).retainedLost = s.retainedLost ∧
    (s.postLocal t).siu = s.siu ∧ (s.postLocal t).pbu = s.pbu ∧ (s.postLocal t).pending = s.pending := by
  refine ⟨?_, ?_, ?_, ?_, ?_, ?_, ?_, ?_, ?_⟩ <;> (simp only [State.postLocal]; (repeat' split) <;> simp)

@[simp] theorem State.completeLocal_frame (s : State) (t : Txn) (d : Definition) :
    (s.completeLocal t d).supply = s.supply ∧ (s.completeLocal t d).resetLow = s.resetLow ∧
    (s.completeLocal t d).straps = s.straps ∧ (s.completeLocal t d).restarting = s.restarting ∧
    (s.completeLocal t d).storeValid = s.storeValid ∧ (s.completeLocal t d).retainedLost = s.retainedLost ∧
    (s.completeLocal t d).pbu = s.pbu ∧ (s.completeLocal t d).pending = s.pending := by
  refine ⟨?_, ?_, ?_, ?_, ?_, ?_, ?_, ?_⟩ <;> (simp only [State.completeLocal]; (repeat' split) <;> simp)

@[simp] theorem State.postStandIn_frame (s : State) (t : Txn) (d : Definition) (account : Nat) (g : Leg) :
    (s.postStandIn t d account g).supply = s.supply ∧ (s.postStandIn t d account g).resetLow = s.resetLow ∧
    (s.postStandIn t d account g).straps = s.straps ∧ (s.postStandIn t d account g).restarting = s.restarting ∧
    (s.postStandIn t d account g).storeValid = s.storeValid ∧
    (s.postStandIn t d account g).retainedLost = s.retainedLost ∧ (s.postStandIn t d account g).pbu = s.pbu ∧
    (s.postStandIn t d account g).pending = s.pending := by
  simp [State.postStandIn]

@[simp] theorem State.standIn_frame (s : State) (t : Txn) (d : Definition) :
    (s.standIn t d).supply = s.supply ∧ (s.standIn t d).resetLow = s.resetLow ∧
    (s.standIn t d).straps = s.straps ∧ (s.standIn t d).restarting = s.restarting ∧
    (s.standIn t d).storeValid = s.storeValid ∧ (s.standIn t d).retainedLost = s.retainedLost ∧
    (s.standIn t d).pbu = s.pbu ∧ (s.standIn t d).pending = s.pending := by
  refine ⟨?_, ?_, ?_, ?_, ?_, ?_, ?_, ?_⟩ <;> (unfold State.standIn; (repeat' split) <;> simp)

@[simp] theorem State.route_frame (s : State) (t : Txn) (d : Definition) :
    (s.route t d).supply = s.supply ∧ (s.route t d).resetLow = s.resetLow ∧ (s.route t d).straps = s.straps ∧
    (s.route t d).restarting = s.restarting ∧ (s.route t d).storeValid = s.storeValid ∧
    (s.route t d).retainedLost = s.retainedLost ∧ (s.route t d).pbu = s.pbu ∧
    (s.route t d).pending = s.pending := by
  refine ⟨?_, ?_, ?_, ?_, ?_, ?_, ?_, ?_⟩ <;> (unfold State.route; (repeat' split) <;> simp)

@[simp] theorem State.fromDrawer_frame (s : State) (t : Txn) (d : Definition) :
    (s.fromDrawer t d).supply = s.supply ∧ (s.fromDrawer t d).resetLow = s.resetLow ∧
    (s.fromDrawer t d).straps = s.straps ∧ (s.fromDrawer t d).restarting = s.restarting ∧
    (s.fromDrawer t d).storeValid = s.storeValid ∧ (s.fromDrawer t d).retainedLost = s.retainedLost ∧
    (s.fromDrawer t d).pbu = s.pbu ∧ (s.fromDrawer t d).pending = s.pending := by
  refine ⟨?_, ?_, ?_, ?_, ?_, ?_, ?_, ?_⟩ <;> (simp only [State.fromDrawer]; (repeat' split) <;> simp)

@[simp] theorem State.holdTxn_frame (s : State) (t : Txn) (r : HoldReason) :
    (s.holdTxn t r).supply = s.supply ∧ (s.holdTxn t r).resetLow = s.resetLow ∧
    (s.holdTxn t r).straps = s.straps ∧ (s.holdTxn t r).restarting = s.restarting ∧
    (s.holdTxn t r).storeValid = s.storeValid ∧ (s.holdTxn t r).retainedLost = s.retainedLost ∧
    (s.holdTxn t r).csu = s.csu ∧ (s.holdTxn t r).tkc = s.tkc ∧ (s.holdTxn t r).siu = s.siu ∧
    (s.holdTxn t r).jnc = s.jnc ∧ (s.holdTxn t r).pbu = s.pbu ∧ (s.holdTxn t r).dyc = s.dyc ∧
    (s.holdTxn t r).pending = s.pending := by
  simp [State.holdTxn]

@[simp] theorem State.fromOverride_frame (s : State) (t : Txn) (d : Definition) :
    (s.fromOverride t d).supply = s.supply ∧ (s.fromOverride t d).resetLow = s.resetLow ∧
    (s.fromOverride t d).straps = s.straps ∧ (s.fromOverride t d).restarting = s.restarting ∧
    (s.fromOverride t d).storeValid = s.storeValid ∧ (s.fromOverride t d).retainedLost = s.retainedLost ∧
    (s.fromOverride t d).pbu = s.pbu ∧ (s.fromOverride t d).pending = s.pending := by
  refine ⟨?_, ?_, ?_, ?_, ?_, ?_, ?_, ?_⟩ <;> (simp only [State.fromOverride]; (repeat' split) <;> simp)

@[simp] theorem State.fromRoute_frame (s : State) (t : Txn) (d : Definition) :
    (s.fromRoute t d).supply = s.supply ∧ (s.fromRoute t d).resetLow = s.resetLow ∧
    (s.fromRoute t d).straps = s.straps ∧ (s.fromRoute t d).restarting = s.restarting ∧
    (s.fromRoute t d).storeValid = s.storeValid ∧ (s.fromRoute t d).retainedLost = s.retainedLost ∧
    (s.fromRoute t d).pbu = s.pbu ∧ (s.fromRoute t d).pending = s.pending := by
  refine ⟨?_, ?_, ?_, ?_, ?_, ?_, ?_, ?_⟩ <;> (unfold State.fromRoute; (repeat' split) <;> simp)

@[simp] theorem State.fromMask_frame (s : State) (t : Txn) (d : Definition) :
    (s.fromMask t d).supply = s.supply ∧ (s.fromMask t d).resetLow = s.resetLow ∧
    (s.fromMask t d).straps = s.straps ∧ (s.fromMask t d).restarting = s.restarting ∧
    (s.fromMask t d).storeValid = s.storeValid ∧ (s.fromMask t d).retainedLost = s.retainedLost ∧
    (s.fromMask t d).pbu = s.pbu ∧ (s.fromMask t d).pending = s.pending := by
  refine ⟨?_, ?_, ?_, ?_, ?_, ?_, ?_, ?_⟩ <;> (unfold State.fromMask; (repeat' split) <;> simp)

@[simp] theorem State.endHold_frame (s : State) (t : Txn) :
    (s.endHold t).supply = s.supply ∧ (s.endHold t).resetLow = s.resetLow ∧ (s.endHold t).straps = s.straps ∧
    (s.endHold t).restarting = s.restarting ∧ (s.endHold t).storeValid = s.storeValid ∧
    (s.endHold t).retainedLost = s.retainedLost ∧ (s.endHold t).csu = s.csu ∧ (s.endHold t).tkc = s.tkc ∧
    (s.endHold t).siu = s.siu ∧ (s.endHold t).jnc = s.jnc ∧ (s.endHold t).pbu = s.pbu ∧
    (s.endHold t).dyc = s.dyc ∧ (s.endHold t).pending = s.pending := by
  simp [State.endHold]

@[simp] theorem State.endHoldWith_frame (s : State) (t : Txn) (r : Result) :
    (s.endHoldWith t r).supply = s.supply ∧ (s.endHoldWith t r).resetLow = s.resetLow ∧
    (s.endHoldWith t r).straps = s.straps ∧ (s.endHoldWith t r).restarting = s.restarting ∧
    (s.endHoldWith t r).storeValid = s.storeValid ∧ (s.endHoldWith t r).retainedLost = s.retainedLost ∧
    (s.endHoldWith t r).siu = s.siu ∧ (s.endHoldWith t r).pbu = s.pbu ∧
    (s.endHoldWith t r).pending = s.pending := by
  simp [State.endHoldWith]

@[simp] theorem State.decideAgain_frame (s : State) (t : Txn) :
    (s.decideAgain t).supply = s.supply ∧ (s.decideAgain t).resetLow = s.resetLow ∧
    (s.decideAgain t).straps = s.straps ∧ (s.decideAgain t).restarting = s.restarting ∧
    (s.decideAgain t).storeValid = s.storeValid ∧ (s.decideAgain t).retainedLost = s.retainedLost ∧
    (s.decideAgain t).pbu = s.pbu ∧ (s.decideAgain t).pending = s.pending := by
  refine ⟨?_, ?_, ?_, ?_, ?_, ?_, ?_, ?_⟩ <;> (unfold State.decideAgain; (repeat' split) <;> simp)

@[simp] theorem State.checkRequest_frame (s : State) (t : Txn) :
    (s.checkRequest t).supply = s.supply ∧ (s.checkRequest t).resetLow = s.resetLow ∧
    (s.checkRequest t).straps = s.straps ∧ (s.checkRequest t).restarting = s.restarting ∧
    (s.checkRequest t).storeValid = s.storeValid ∧ (s.checkRequest t).retainedLost = s.retainedLost ∧
    (s.checkRequest t).pbu = s.pbu ∧ (s.checkRequest t).pending = s.pending := by
  refine ⟨?_, ?_, ?_, ?_, ?_, ?_, ?_, ?_⟩ <;> (unfold State.checkRequest; (repeat' split) <;> simp)

@[simp] theorem State.acceptGrant_frame (s : State) (a : Nat) (sup : Teller) (t : Txn) :
    (s.acceptGrant a sup t).supply = s.supply ∧ (s.acceptGrant a sup t).resetLow = s.resetLow ∧
    (s.acceptGrant a sup t).straps = s.straps ∧ (s.acceptGrant a sup t).restarting = s.restarting ∧
    (s.acceptGrant a sup t).storeValid = s.storeValid ∧ (s.acceptGrant a sup t).retainedLost = s.retainedLost ∧
    (s.acceptGrant a sup t).pbu = s.pbu ∧ (s.acceptGrant a sup t).pending = s.pending := by
  refine ⟨?_, ?_, ?_, ?_, ?_, ?_, ?_, ?_⟩ <;> (unfold State.acceptGrant; (repeat' split) <;> simp)

@[simp] theorem State.holdExpiry_frame (s : State) (a : Nat) :
    (s.holdExpiry a).supply = s.supply ∧ (s.holdExpiry a).resetLow = s.resetLow ∧
    (s.holdExpiry a).straps = s.straps ∧ (s.holdExpiry a).restarting = s.restarting ∧
    (s.holdExpiry a).storeValid = s.storeValid ∧ (s.holdExpiry a).retainedLost = s.retainedLost ∧
    (s.holdExpiry a).siu = s.siu ∧ (s.holdExpiry a).pbu = s.pbu ∧ (s.holdExpiry a).pending = s.pending := by
  refine ⟨?_, ?_, ?_, ?_, ?_, ?_, ?_, ?_, ?_⟩ <;> (unfold State.holdExpiry; (repeat' split) <;> simp)

@[simp] theorem State.give_frame (s : State) (a : Nat) (t : Teller) (x : Drawer) (target : Nat) (c : Currency) (amount : Nat) :
    (s.give a t x target c amount).supply = s.supply ∧ (s.give a t x target c amount).resetLow = s.resetLow ∧
    (s.give a t x target c amount).straps = s.straps ∧
    (s.give a t x target c amount).restarting = s.restarting ∧
    (s.give a t x target c amount).storeValid = s.storeValid ∧
    (s.give a t x target c amount).retainedLost = s.retainedLost ∧ (s.give a t x target c amount).rqu = s.rqu ∧
    (s.give a t x target c amount).siu = s.siu ∧ (s.give a t x target c amount).pbu = s.pbu ∧
    (s.give a t x target c amount).dyc = s.dyc ∧ (s.give a t x target c amount).pending = s.pending := by
  simp [State.give]

@[simp] theorem State.takeDifferences_frame (s : State) (d : Nat) (home foreign : Int) :
    (s.takeDifferences d home foreign).supply = s.supply ∧
    (s.takeDifferences d home foreign).resetLow = s.resetLow ∧
    (s.takeDifferences d home foreign).straps = s.straps ∧
    (s.takeDifferences d home foreign).restarting = s.restarting ∧
    (s.takeDifferences d home foreign).storeValid = s.storeValid ∧
    (s.takeDifferences d home foreign).retainedLost = s.retainedLost ∧
    (s.takeDifferences d home foreign).rqu = s.rqu ∧ (s.takeDifferences d home foreign).tkc = s.tkc ∧
    (s.takeDifferences d home foreign).siu = s.siu ∧ (s.takeDifferences d home foreign).jnc = s.jnc ∧
    (s.takeDifferences d home foreign).pbu = s.pbu ∧ (s.takeDifferences d home foreign).dyc = s.dyc ∧
    (s.takeDifferences d home foreign).pending = s.pending := by
  simp [State.takeDifferences]

@[simp] theorem State.acceptCount_frame (s : State) (a : Nat) (x : Drawer) (y : Declaration) :
    (s.acceptCount a x y).supply = s.supply ∧ (s.acceptCount a x y).resetLow = s.resetLow ∧
    (s.acceptCount a x y).straps = s.straps ∧ (s.acceptCount a x y).restarting = s.restarting ∧
    (s.acceptCount a x y).storeValid = s.storeValid ∧ (s.acceptCount a x y).retainedLost = s.retainedLost ∧
    (s.acceptCount a x y).rqu = s.rqu ∧ (s.acceptCount a x y).siu = s.siu ∧ (s.acceptCount a x y).pbu = s.pbu ∧
    (s.acceptCount a x y).pending = s.pending := by
  refine ⟨?_, ?_, ?_, ?_, ?_, ?_, ?_, ?_, ?_, ?_⟩ <;> (unfold State.acceptCount; (repeat' split) <;> simp)

@[simp] theorem State.rollDrawers_frame (s : State) :
    s.rollDrawers.supply = s.supply ∧ s.rollDrawers.resetLow = s.resetLow ∧
    s.rollDrawers.straps = s.straps ∧ s.rollDrawers.restarting = s.restarting ∧
    s.rollDrawers.storeValid = s.storeValid ∧ s.rollDrawers.retainedLost = s.retainedLost ∧
    s.rollDrawers.rqu = s.rqu ∧ s.rollDrawers.tkc = s.tkc ∧ s.rollDrawers.siu = s.siu ∧
    s.rollDrawers.jnc = s.jnc ∧ s.rollDrawers.pbu = s.pbu ∧ s.rollDrawers.dyc = s.dyc ∧
    s.rollDrawers.pending = s.pending := by
  refine ⟨?_, ?_, ?_, ?_, ?_, ?_, ?_, ?_, ?_, ?_, ?_, ?_, ?_⟩ <;> exact foldl_fixed (by simp) _ _

@[simp] theorem State.drainHold_frame (s : State) (a : Nat) :
    (s.drainHold a).supply = s.supply ∧ (s.drainHold a).resetLow = s.resetLow ∧
    (s.drainHold a).straps = s.straps ∧ (s.drainHold a).restarting = s.restarting ∧
    (s.drainHold a).storeValid = s.storeValid ∧ (s.drainHold a).retainedLost = s.retainedLost ∧
    (s.drainHold a).siu = s.siu ∧ (s.drainHold a).pbu = s.pbu ∧ (s.drainHold a).pending = s.pending := by
  refine ⟨?_, ?_, ?_, ?_, ?_, ?_, ?_, ?_, ?_⟩ <;> (unfold State.drainHold; (repeat' split) <;> simp)

@[simp] theorem State.startForward_frame (s : State) (x : OnlineSlot) (t : Txn) :
    (s.startForward x t).supply = s.supply ∧ (s.startForward x t).resetLow = s.resetLow ∧
    (s.startForward x t).straps = s.straps ∧ (s.startForward x t).restarting = s.restarting ∧
    (s.startForward x t).storeValid = s.storeValid ∧ (s.startForward x t).retainedLost = s.retainedLost ∧
    (s.startForward x t).siu = s.siu ∧ (s.startForward x t).pbu = s.pbu ∧
    (s.startForward x t).pending = s.pending := by
  refine ⟨?_, ?_, ?_, ?_, ?_, ?_, ?_, ?_, ?_⟩ <;> (simp only [State.startForward]; (repeat' split) <;> simp)

@[simp] theorem State.decline_frame (s : State) (t : Txn) (seq reason : Nat) :
    (s.decline t seq reason).supply = s.supply ∧ (s.decline t seq reason).resetLow = s.resetLow ∧
    (s.decline t seq reason).straps = s.straps ∧ (s.decline t seq reason).restarting = s.restarting ∧
    (s.decline t seq reason).storeValid = s.storeValid ∧
    (s.decline t seq reason).retainedLost = s.retainedLost ∧ (s.decline t seq reason).siu = s.siu ∧
    (s.decline t seq reason).pbu = s.pbu ∧ (s.decline t seq reason).pending = s.pending := by
  simp [State.decline]

@[simp] theorem State.secondDecision_frame (s : State) (drop seq : Nat) :
    (s.secondDecision drop seq).supply = s.supply ∧ (s.secondDecision drop seq).resetLow = s.resetLow ∧
    (s.secondDecision drop seq).straps = s.straps ∧ (s.secondDecision drop seq).restarting = s.restarting ∧
    (s.secondDecision drop seq).storeValid = s.storeValid ∧
    (s.secondDecision drop seq).retainedLost = s.retainedLost ∧ (s.secondDecision drop seq).pbu = s.pbu ∧
    (s.secondDecision drop seq).pending = s.pending := by
  refine ⟨?_, ?_, ?_, ?_, ?_, ?_, ?_, ?_⟩ <;> (unfold State.secondDecision; (repeat' split) <;> simp)

@[simp] theorem State.applyParams_frame (s : State) (p : Params) :
    (s.applyParams p).supply = s.supply ∧ (s.applyParams p).resetLow = s.resetLow ∧
    (s.applyParams p).straps = s.straps ∧ (s.applyParams p).restarting = s.restarting ∧
    (s.applyParams p).storeValid = s.storeValid ∧ (s.applyParams p).retainedLost = s.retainedLost ∧
    (s.applyParams p).rqu = s.rqu ∧ (s.applyParams p).tkc = s.tkc ∧ (s.applyParams p).siu = s.siu ∧
    (s.applyParams p).jnc = s.jnc ∧ (s.applyParams p).pbu = s.pbu ∧ (s.applyParams p).pending = s.pending := by
  refine ⟨?_, ?_, ?_, ?_, ?_, ?_, ?_, ?_, ?_, ?_, ?_, ?_⟩ <;> exact foldl_fixed (by simp) _ _

@[simp] theorem State.endDay_frame (s : State) :
    s.endDay.supply = s.supply ∧ s.endDay.resetLow = s.resetLow ∧ s.endDay.straps = s.straps ∧
    s.endDay.restarting = s.restarting ∧ s.endDay.storeValid = s.storeValid ∧
    s.endDay.retainedLost = s.retainedLost ∧ s.endDay.rqu = s.rqu ∧ s.endDay.tkc = s.tkc ∧
    s.endDay.pbu = s.pbu ∧ s.endDay.pending = s.pending := by
  simp [State.endDay]

@[simp] theorem State.interruptRemoved_frame (s : State) (p : Params) :
    (s.interruptRemoved p).supply = s.supply ∧ (s.interruptRemoved p).resetLow = s.resetLow ∧
    (s.interruptRemoved p).straps = s.straps ∧ (s.interruptRemoved p).restarting = s.restarting ∧
    (s.interruptRemoved p).storeValid = s.storeValid ∧ (s.interruptRemoved p).retainedLost = s.retainedLost ∧
    (s.interruptRemoved p).csu = s.csu ∧ (s.interruptRemoved p).dyc = s.dyc ∧
    (s.interruptRemoved p).pending = s.pending := by
  refine ⟨?_, ?_, ?_, ?_, ?_, ?_, ?_, ?_, ?_⟩ <;> exact foldl_fixed (by simp) _ _

@[simp] theorem State.adoptTables_frame (s : State) :
    s.adoptTables.supply = s.supply ∧ s.adoptTables.resetLow = s.resetLow ∧
    s.adoptTables.straps = s.straps ∧ s.adoptTables.restarting = s.restarting ∧
    s.adoptTables.storeValid = s.storeValid ∧ s.adoptTables.retainedLost = s.retainedLost ∧
    s.adoptTables.csu = s.csu ∧ s.adoptTables.dyc = s.dyc ∧ s.adoptTables.pending = s.pending := by
  simp [State.adoptTables]

@[simp] theorem State.returnTransit_frame (s : State) (e : TransitEntry) :
    (s.returnTransit e).supply = s.supply ∧ (s.returnTransit e).resetLow = s.resetLow ∧
    (s.returnTransit e).straps = s.straps ∧ (s.returnTransit e).restarting = s.restarting ∧
    (s.returnTransit e).storeValid = s.storeValid ∧ (s.returnTransit e).retainedLost = s.retainedLost ∧
    (s.returnTransit e).rqu = s.rqu ∧ (s.returnTransit e).siu = s.siu ∧ (s.returnTransit e).pbu = s.pbu ∧
    (s.returnTransit e).dyc = s.dyc ∧ (s.returnTransit e).pending = s.pending := by
  simp [State.returnTransit]

end Sys2Proof.Machine
end

