-- ==== Sys2Proof/Laws/Keyed.lean ====
section
/-! SUPPORT. Laws of keyed lists: what a lookup finds after a change in place, an insertion and a removal. -/

namespace Sys2Proof.Machine

variable {α : Type} {key : α → Nat} {k j : Nat} {f : α → α} {x y : α} {l : List α}

theorem findKey_key (h : findKey key k l = some x) : key x = k := by
  have := List.find?_some h
  simpa using this

theorem findKey_mem (h : findKey key k l = some x) : x ∈ l := List.mem_of_find?_eq_some h

theorem findKey_none : findKey key k l = none ↔ ∀ x ∈ l, key x ≠ k := by
  simp [findKey]

@[simp] theorem findKey_nil : findKey key k ([] : List α) = none := rfl

theorem findKey_cons : findKey key k (y :: l) = if key y = k then some y else findKey key k l := by
  by_cases h : key y = k <;> simp [findKey, h]

/-- A change in place that keeps the key changes what the lookup of that key finds, and no other. -/
theorem findKey_modifyKey (hf : ∀ x, key x = k → key (f x) = k) :
    findKey key j (modifyKey key k f l) = (findKey key j l).map fun x => if j = k then f x else x := by
  induction l with
  | nil => rfl
  | cons y ys ih =>
    rw [modifyKey, List.map_cons, ← modifyKey, findKey_cons, findKey_cons]
    by_cases hy : key y = k
    · have hk := hf y hy
      by_cases hj : j = k
      · subst hj; simp [hy, hk]
      · have : k ≠ j := fun h => hj h.symm
        simp [hy, hk, this, ih, hj]
    · by_cases hj : key y = j
      · have : j ≠ k := fun h => hy (hj.trans h)
        simp [hj, this]
      · simp [hy, hj, ih]

theorem findKey_modifyKey_same (hf : ∀ x, key x = k → key (f x) = k) :
    findKey key k (modifyKey key k f l) = (findKey key k l).map f := by
  simp [findKey_modifyKey hf]

theorem findKey_modifyKey_other (hf : ∀ x, key x = k → key (f x) = k) (h : j ≠ k) :
    findKey key j (modifyKey key k f l) = findKey key j l := by
  simp [findKey_modifyKey hf, h]

/-- The record put in stands at its key, and every other key finds what it found. -/
theorem findKey_putKey : findKey key k (putKey key x l) = if key x = k then some x else findKey key k l := by
  induction l with
  | nil => simp [putKey, findKey_cons]
  | cons y ys ih =>
    rw [putKey]
    by_cases h1 : key x < key y
    · rw [if_pos h1, findKey_cons]
    · rw [if_neg h1]
      by_cases h2 : key x = key y
      · rw [if_pos h2, findKey_cons]
        by_cases h : key x = k
        · rw [if_pos h, if_pos h]
        · rw [if_neg h, if_neg h, findKey_cons, if_neg fun e => h (h2.trans e)]
      · rw [if_neg h2, findKey_cons, ih]
        by_cases h : key x = k
        · rw [if_pos h, if_neg fun e => h2 (h.trans e.symm)]; simp [h]
        · rw [if_neg h, if_neg h, findKey_cons]

theorem findKey_eraseKey : findKey key j (eraseKey key k l) = if j = k then none else findKey key j l := by
  induction l with
  | nil => simp [eraseKey]
  | cons y ys ih =>
    rw [eraseKey, List.filter_cons]
    by_cases hy : key y = k
    · by_cases hj : j = k
      · simpa [hy, hj, eraseKey] using ih
      · have : ¬ k = j := fun e => hj e.symm
        simpa [hy, hj, eraseKey, findKey_cons, this] using ih
    · by_cases hj : key y = j
      · have : ¬ j = k := fun e => hy (hj.trans e)
        simp [findKey_cons, hj, this]
      · simpa [hy, findKey_cons, hj, eraseKey] using ih

theorem modifyKey_map_key (hf : ∀ x, key x = k → key (f x) = k) : (modifyKey key k f l).map key = l.map key := by
  simp only [modifyKey, List.map_map]
  refine List.map_congr_left fun x _ => ?_
  by_cases h : key x = k <;> simp [h, hf x]

/-- A change in place at a key that is not there changes nothing. -/
theorem modifyKey_absent (h : findKey key k l = none) : modifyKey key k f l = l := by
  rw [findKey_none] at h
  refine (List.map_congr_left fun x hx => ?_).trans (List.map_id _)
  simp [h x hx]

theorem eraseKey_absent (h : findKey key k l = none) : eraseKey key k l = l := by
  rw [findKey_none] at h
  simpa [eraseKey] using h

@[simp] theorem sumOf_nil (g : α → Int) : sumOf g [] = 0 := rfl
@[simp] theorem sumOf_cons (g : α → Int) : sumOf g (x :: l) = g x + sumOf g l := rfl

@[simp] theorem sumOf_append (g : α → Int) (l m : List α) : sumOf g (l ++ m) = sumOf g l + sumOf g m := by
  induction l with
  | nil => simp
  | cons y ys ih => simp [ih, Int.add_assoc]

end Sys2Proof.Machine
end

