-- ==== Sys2Proof/Laws/Lookup.lean ====
section
/-! SUPPORT. What the lookups of the state find after the shared updates, and when the entry operations go on. -/

namespace Sys2Proof.Machine

variable {s : State} {a b : Nat}

/-! ### A lookup reads one block -/

theorem dropAt_congr {t : State} (h : t.lpc = s.lpc) : t.dropAt a = s.dropAt a := by simp [State.dropAt, h]
theorem tellerAt_congr {t : State} (h : t.rqu = s.rqu) : t.tellerAt a = s.tellerAt a := by
  simp [State.tellerAt, h]
theorem tellerOf_congr {t : State} (h : t.rqu = s.rqu) : t.tellerOf a = s.tellerOf a := by
  simp [State.tellerOf, h]
theorem holderOf_congr {t : State} (h : t.rqu = s.rqu) : t.holderOf a = s.holderOf a := by
  simp [State.holderOf, h]
theorem txnAt_congr {t : State} (h : t.rqu = s.rqu) : t.txnAt a = s.txnAt a := by simp [State.txnAt, h]
theorem fetchAt_congr {t : State} (h : t.rqu = s.rqu) : t.fetchAt a = s.fetchAt a := by simp [State.fetchAt, h]
theorem drawerAt_congr {t : State} (h : t.csu = s.csu) : t.drawerAt a = s.drawerAt a := by
  simp [State.drawerAt, h]
theorem slotAt_congr {t : State} (h : t.tkc = s.tkc) : t.slotAt a = s.slotAt a := by simp [State.slotAt, h]
theorem satAt_congr {t : State} (h : t.siu = s.siu) : t.satAt a = s.satAt a := by simp [State.satAt, h]
theorem recordAt_congr {t : State} (h : t.jnc = s.jnc) : t.recordAt a = s.recordAt a := by
  simp [State.recordAt, h]
theorem sessionOf_congr {t : State} (h : t.pbu = s.pbu) : t.sessionOf a = s.sessionOf a := by
  simp [State.sessionOf, h]

theorem dropAt_addr {d : Drop} (h : s.dropAt a = some d) : d.addr = a := findKey_key h
theorem txnAt_drop {t : Txn} (h : s.txnAt a = some t) : t.drop = a := findKey_key h
theorem fetchAt_drop {f : Fetch} (h : s.fetchAt a = some f) : f.drop = a := findKey_key h
theorem tellerOf_number {t : Teller} (h : s.tellerOf a = some t) : t.number = a := findKey_key h
theorem drawerAt_number {d : Drawer} (h : s.drawerAt a = some d) : d.number = a := findKey_key h
theorem slotAt_number {x : OnlineSlot} (h : s.slotAt a = some x) : x.number = a := findKey_key h
theorem satAt_account {e : SatEntry} (h : s.satAt a = some e) : e.account = a := findKey_key h
theorem recordAt_seq {r : Record} (h : s.recordAt a = some r) : r.seq = a := findKey_key h
theorem transitAt_number {e : TransitEntry} (h : s.transitAt a = some e) : e.number = a := findKey_key h

/-! ### Drops -/

theorem dropAt_modifyDrop {f : Drop → Drop} (hf : ∀ d, d.addr = a → (f d).addr = a) :
    (s.modifyDrop a f).dropAt b = (s.dropAt b).map fun d => if b = a then f d else d :=
  findKey_modifyKey hf

theorem dropAt_modifyDrops {f : Drop → Drop} (hf : ∀ d, (f d).addr = d.addr) :
    (s.modifyDrops f).dropAt b = (s.dropAt b).map f := by
  simp only [State.dropAt, State.modifyDrops, State.onLpc]
  induction s.lpc.drops with
  | nil => rfl
  | cons d ds ih => by_cases h : d.addr = b <;> simp [findKey_cons, hf, h, ih]

theorem Drop.take_addr (d : Drop) (l : LoopState) (m : DownMessage) : (d.take l m).addr = d.addr := by
  simp only [Drop.take]; repeat' split
  all_goals rfl

theorem dropAt_handOver {m : DownMessage} :
    (s.handOver a m).dropAt b = (s.dropAt b).map fun d => if b = a then d.take s.lpc.loop m else d :=
  dropAt_modifyDrop fun d h => (Drop.take_addr d _ _).trans h

/-- A usable drop with a place left takes a message at the end of its queue (R4). -/
theorem Drop.take_room {d : Drop} {m : DownMessage} (h : d.canReceive = true) (hn : d.outbound.length < 4) :
    d.take .running m = { d with outbound := d.outbound ++ [m] } := by
  simp [Drop.take, h, Config.outboundPlaces, hn]

theorem Drop.queueStatus_eq (d : Drop) :
    d.queueStatus = { d with statusMark := d.statusMark || d.kind == .teller } := by
  cases d with
  | mk _ kind => cases kind <;> simp [Drop.queueStatus]

theorem dropAt_queueStatus :
    (s.queueStatus a).dropAt b = (s.dropAt b).map fun d => if b = a then d.queueStatus else d :=
  dropAt_modifyDrop fun d h => by rw [Drop.queueStatus_eq]; exact h

theorem dropAt_queueStatusAll : s.queueStatusAll.dropAt b = (s.dropAt b).map Drop.queueStatus :=
  dropAt_modifyDrops fun d => by rw [Drop.queueStatus_eq]

theorem dropAt_setRelease :
    (s.setRelease a).dropAt b = (s.dropAt b).map fun d => if b = a then { d with release := true } else d :=
  dropAt_modifyDrop fun _ h => h

theorem dropAt_clearRelease :
    (s.clearRelease a).dropAt b = (s.dropAt b).map fun d => if b = a then { d with release := false } else d :=
  dropAt_modifyDrop fun _ h => h

/-- The loop but for its status marks. -/
def Lpc.unmarked (l : Lpc) : Lpc := { l with drops := l.drops.map fun d => { d with statusMark := false } }

theorem unmarked_onDrops {l : Lpc} {f : Drop → Drop}
    (hf : ∀ d, { f d with statusMark := false } = { d with statusMark := false }) :
    Lpc.unmarked { l with drops := l.drops.map f } = l.unmarked := by
  simp [Lpc.unmarked, Function.comp_def, hf]

theorem unmarked_queueStatus : (s.queueStatus a).lpc.unmarked = s.lpc.unmarked := by
  refine unmarked_onDrops fun d => ?_
  by_cases h : d.addr = a <;> simp [h, Drop.queueStatus_eq]

theorem unmarked_queueStatusAll : s.queueStatusAll.lpc.unmarked = s.lpc.unmarked :=
  unmarked_onDrops fun d => by simp [Drop.queueStatus_eq]

theorem unmarked_queueStatusFor (l : List Nat) : (s.queueStatusFor l).lpc.unmarked = s.lpc.unmarked :=
  foldl_fixed (g := fun s : State => s.lpc.unmarked) (fun _ _ => unmarked_queueStatus) l s

/-! ### Tellers, drawers, slots and work items -/

theorem tellerOf_modifyTeller {f : Teller → Teller} (hf : ∀ x, x.number = a → (f x).number = a) :
    (s.modifyTeller a f).tellerOf b = (s.tellerOf b).map fun x => if b = a then f x else x :=
  findKey_modifyKey hf

theorem drawerAt_modifyDrawer {f : Drawer → Drawer} (hf : ∀ x, x.number = a → (f x).number = a) :
    (s.modifyDrawer a f).drawerAt b = (s.drawerAt b).map fun x => if b = a then f x else x :=
  findKey_modifyKey hf

theorem slotAt_modifySlot {f : OnlineSlot → OnlineSlot} (hf : ∀ x, x.number = a → (f x).number = a) :
    (s.modifySlot a f).slotAt b = (s.slotAt b).map fun x => if b = a then f x else x :=
  findKey_modifyKey hf

theorem slotAt_freeSlotAt :
    (s.freeSlotAt a).slotAt b = (s.slotAt b).map fun x => if b = a then freeSlot x.number else x :=
  slotAt_modifySlot fun _ h => h

theorem txnAt_modifyTxn {f : Txn → Txn} (hf : ∀ x, x.drop = a → (f x).drop = a) :
    (s.modifyTxn a f).txnAt b = (s.txnAt b).map fun x => if b = a then f x else x :=
  findKey_modifyKey hf

theorem txnAt_putTxn {t : Txn} : (s.putTxn t).txnAt b = if t.drop = b then some t else s.txnAt b := findKey_putKey

theorem txnAt_endTxn : (s.endTxn a).txnAt b = if b = a then none else s.txnAt b := findKey_eraseKey

theorem fetchAt_modifyFetch {f : Fetch → Fetch} (hf : ∀ x, x.drop = a → (f x).drop = a) :
    (s.modifyFetch a f).fetchAt b = (s.fetchAt b).map fun x => if b = a then f x else x :=
  findKey_modifyKey hf

theorem fetchAt_putFetch {f : Fetch} : (s.putFetch f).fetchAt b = if f.drop = b then some f else s.fetchAt b :=
  findKey_putKey

theorem fetchAt_endFetch : (s.endFetch a).fetchAt b = if b = a then none else s.fetchAt b := findKey_eraseKey

theorem satAt_modifySat {f : SatEntry → SatEntry} (hf : ∀ x, x.account = a → (f x).account = a) :
    (s.modifySat a f).satAt b = (s.satAt b).map fun x => if b = a then f x else x :=
  findKey_modifyKey hf

theorem satAt_modifyBook {f : Passbook → Passbook} :
    (s.modifyBook a f).satAt b =
      (s.satAt b).map fun e => if b = a then { e with book := e.book.map f } else e :=
  satAt_modifySat fun _ h => h

theorem bookOf_modifyBook {f : Passbook → Passbook} :
    (s.modifyBook a f).bookOf b = if b = a then (s.bookOf b).map f else s.bookOf b := by
  rw [State.bookOf, satAt_modifyBook, State.bookOf]
  cases s.satAt b <;> by_cases h : b = a <;> simp [h]

theorem recordAt_changeDisposition {e n : Disposition} {r : Option Nat} :
    (s.changeDisposition a e n r).recordAt b = (s.recordAt b).map fun x =>
      if b = a ∧ s.holdsDisposition a e = true then
        { x with disposition := some n, reference := r <|> x.reference } else x := by
  simp only [State.changeDisposition]
  split
  · rename_i h
    have := findKey_modifyKey (key := Record.seq) (k := a) (j := b)
      (f := fun x => { x with disposition := some n, reference := r <|> x.reference }) (l := s.jnc.records)
      (fun _ h => h)
    simpa [State.recordAt, State.onJnc, h] using this
  · rename_i h
    simp [h]

/-! ### The entry operations -/

theorem whileRunning_of {f : State → State} (h : s.isRunning = true) : s.whileRunning f = f s := by
  simp [State.whileRunning, h]

theorem whileRunning_stopped {f : State → State} (h : s.isRunning = false) : s.whileRunning f = s := by
  simp [State.whileRunning, h]

theorem fromTeller_of {d : Drop} {f : State → State} (hl : s.lpc.loop = .running) (hd : s.dropAt a = some d)
    (hk : d.kind = .teller) (hc : d.canReceive = true) (hn : d.outbound.length < 3) : s.fromTeller a f = f s := by
  simp [State.fromTeller, State.sends, State.admitted, State.dropIs, hl, hd, hk, hc, hn]

theorem fromPrinter_of {d : Drop} {f : State → State} (hl : s.lpc.loop = .running) (hd : s.dropAt a = some d)
    (hk : d.kind = .printer) (hc : d.canReceive = true) (hn : d.outbound.length < 3) : s.fromPrinter a f = f s := by
  simp [State.fromPrinter, State.sends, State.admitted, State.dropIs, hl, hd, hk, hc, hn]

theorem asTeller_of {d : Drop} {t : Teller} {f : Teller → State} (hd : s.dropAt a = some d)
    (hk : d.sigs.keyOperate.confirmed = true) (ht : s.tellerAt a = some t) : s.asTeller a f = f t := by
  simp [State.asTeller, State.keyOn, State.dropIs, hd, hk, ht]

theorem asSupervisor_of {d : Drop} {t : Teller} {f : Teller → State} (hd : s.dropAt a = some d)
    (hk : d.sigs.keyOperate.confirmed = true) (ht : s.tellerAt a = some t) (hs : t.supervises = true)
    (hn : t.training = false) : s.asSupervisor a f = f t := by
  simp [State.asSupervisor, asTeller_of hd hk ht, hs, hn]

theorem asCashier_of {d : Drop} {t : Teller} {f : Teller → State} (hd : s.dropAt a = some d)
    (hk : d.sigs.keyOperate.confirmed = true) (ht : s.tellerAt a = some t) (ha : t.session = .active)
    (hn : t.training = false) (hw : s.hasWork a = false) : s.asCashier a f = f t := by
  simp [State.asCashier, asTeller_of hd hk ht, ha, hn, hw]

theorem onFrame_of {h : FrameHeader} {f : State → State} (hv : s.frameValid h = true) :
    s.onFrame h f = f s.seeFrame := by
  simp [State.onFrame, hv]

theorem onAnswered_of {h : FrameHeader} {f : State → State} (hv : s.frameValid h = true)
    (hr : s.nodeRoom = true) : s.onAnswered h f = f s.seeFrame := by
  simp [State.onAnswered, hv, hr]

/-! ### The journal -/

/-- A record the JNC takes enters at the tail with the next sequence (R128). -/
theorem jnc_writeRecord {r : Record} (h : s.journalTakes r.body = true) :
    (s.writeRecord r).jnc = { s.jnc with
      records := s.jnc.records ++ [{ r with seq := s.jnc.counter + 1, stamp := s.jnc.clock }]
      counter := s.jnc.counter + 1 } := by
  simp only [State.writeRecord, h, if_true, State.appendRecord, State.judgeThresholds]
  repeat' split
  all_goals simp [State.queueStatusAll, State.modifyDrops]

/-- A record the JNC refuses is not written (R129). -/
theorem writeRecord_refused {r : Record} (h : s.journalTakes r.body = false) : s.writeRecord r = s := by
  simp [State.writeRecord, h]

theorem unmarked_writeRecord {r : Record} : (s.writeRecord r).lpc.unmarked = s.lpc.unmarked := by
  simp only [State.writeRecord, State.appendRecord, State.judgeThresholds]
  repeat' split
  all_goals simp [unmarked_queueStatusAll]

/-- On the trunk a write can only raise a report, and only at a threshold (R130). -/
theorem tkc_writeRecord {r : Record} :
    (s.writeRecord r).tkc = { s.tkc with
      nodeQueue := (s.writeRecord r).tkc.nodeQueue, waiting := (s.writeRecord r).tkc.waiting } := by
  simp only [State.writeRecord, State.appendRecord, State.judgeThresholds, State.raise, State.raiseTagged,
    State.pushNode]
  repeat' split
  all_goals simp [State.queueStatusAll, State.modifyDrops]

end Sys2Proof.Machine
end

