-- ==== Sys2Proof/Laws/Cash.lean ====
section
/-! SUPPORT. What judging cash-high and applying the cash legs of a transaction do to the drawers. -/

namespace Sys2Proof.Machine

variable {s : State} {n m : Nat}

/-- Judging cash-high changes no more of the CSU than the drawers. -/
theorem csu_judgeCashHigh :
    (s.judgeCashHigh n).csu = { s.csu with drawers := (s.judgeCashHigh n).csu.drawers } := by
  unfold State.judgeCashHigh
  cases s.drawerAt n with
  | none => rfl
  | some w => dsimp only; split <;> simp [State.modifyDrawer]

/-- Judging cash-high leaves the drawer judged, and every other drawer as it was (R75). -/
theorem drawerAt_judgeCashHigh :
    (s.judgeCashHigh n).drawerAt m = (s.drawerAt m).map fun w => if m = n then w.judged else w := by
  unfold State.judgeCashHigh
  cases h : s.drawerAt n with
  | none =>
    by_cases hm : m = n
    · subst hm; simp [h]
    · simp [hm]
  | some w =>
    dsimp only
    split
    · rename_i hh
      by_cases hm : m = n
      · subst hm
        have : w.judged = w := by cases w; simp_all [Drawer.judged, Drawer.isHigh]
        simp [h, this]
      · simp [hm]
    · rw [drawerAt_congr (s := s.modifyDrawer n fun y => { y with cashHigh := w.isHigh }) (by simp),
        drawerAt_modifyDrawer (f := fun y => { y with cashHigh := w.isHigh }) fun _ h => h]
      by_cases hm : m = n
      · subst hm; simp [h, Drawer.judged, Drawer.isHigh]
      · simp [hm]

/-- The legs applied one after another are the sums of the legs of each currency and kind (R74). -/
theorem foldl_applyLeg (l : List Leg) (w : Drawer) : (l.foldl Drawer.applyLeg w) =
    { w with
      home := { w.home with
        cashIn := w.home.cashIn + legSum .home .cashIn l, cashOut := w.home.cashOut + legSum .home .cashOut l }
      foreign := { w.foreign with
        cashIn := w.foreign.cashIn + legSum .foreign .cashIn l
        cashOut := w.foreign.cashOut + legSum .foreign .cashOut l } } := by
  induction l generalizing w with
  | nil => simp [legSum]
  | cons g gs ih =>
    rw [List.foldl_cons, ih]
    cases g with
    | mk c k n => cases k <;> cases c <;> simp [Drawer.applyLeg, Drawer.onSums, legSum, Int.add_assoc]

theorem judged_foldl_applyLeg (l : List Leg) (w : Drawer) : (l.foldl Drawer.applyLeg w).judged = w.afterLegs l := by
  rw [foldl_applyLeg]; rfl

/-- The cash legs of a transaction go into its drawer together (R74). -/
theorem cashApplied_applyCash (y : Txn) : s.CashApplied (s.applyCash y) y := by
  unfold State.applyCash
  cases h : y.drawer with
  | none => exact ⟨rfl, fun _ => rfl, fun n hn => by cases h.symm.trans hn⟩
  | some n =>
    dsimp only
    split
    · rename_i hc
      have e : ∀ m, (((s.modifyDrawer n fun x => y.legs.foldl Drawer.applyLeg x).setRelease y.drop).judgeCashHigh
          n).drawerAt m = (s.drawerAt m).map fun w => if m = n then w.afterLegs y.legs else w := by
        intro m
        rw [drawerAt_judgeCashHigh,
          drawerAt_congr (s := s.modifyDrawer n fun x => y.legs.foldl Drawer.applyLeg x) (by simp),
          drawerAt_modifyDrawer fun w hw => by rw [foldl_applyLeg]; exact hw]
        by_cases hm : m = n <;> simp [hm, Function.comp_def, judged_foldl_applyLeg]
      refine ⟨?_, ?_, ?_⟩
      · rw [csu_judgeCashHigh]; simp [State.modifyDrawer]
      · intro hh; simp [hc, h] at hh
      · intro m hm _
        cases h.symm.trans hm
        exact ⟨fun k hk => by simp [e, hk], by simp [e]⟩
    · rename_i hc
      exact ⟨rfl, fun _ => rfl, fun m _ hh => absurd hh hc⟩

end Sys2Proof.Machine
end

