-- ==== Sys2Proof/WellFormed.lean ====
section
/-! DEFINITION. The ranges that the wire, the pins and the loop give a command's operands. Fields that the
part itself checks and answers for (a code, an amount, a table entry) have no range here. -/

namespace Sys2Proof

/-- A drop address (R2). -/
def dropOk (a : Nat) : Bool := decide (1 ≤ a ∧ a ≤ 28)

/-- The strap levels (R185). -/
def strapsOk (p : Straps) : Bool := decide (p.branch ≤ 4095 ∧ p.trunkRate ≤ 7 ∧ p.loopRate ≤ 3)

/-- The header of a frame whose check has matched (R186). -/
def headerOk (h : FrameHeader) : Bool := decide (h.branch ≤ 65535 ∧ h.slot ≤ 7 ∧ h.tag ≤ 65535)

/-- A returned cycle has 31 upstream halves of 20 bytes (R1, R186). -/
def cycleOk (c : ReturnedCycle) : Bool := c.halves.length == 31 && c.halves.all fun h => h.length == 20

/-- A reason of head office (R55, R121). -/
def reasonOk (n : Nat) : Bool := decide (1 ≤ n ∧ n ≤ 99)

/-- What a TXN-REPLY carries (R54, R55). -/
def answerOk : ReplyAnswer → Bool
  | .declined n => reasonOk n
  | .approved _ _ => true
  | .neither => true

/-- A stripe's position (R142). -/
def positionOk : BookPos → Bool
  | .line p l => decide (1 ≤ p ∧ p ≤ 32 ∧ 1 ≤ l ∧ l ≤ 24)
  | .full => true

/-- A stripe that was read (R142). -/
def stripeOk : Stripe → Bool
  | .read a p => decide (a < 1000000000000) && positionOk p
  | .unreadable => true

/-- A command's operands are in their ranges. -/
def Instr.wf : Instr → Bool
  | .powerOn pins _ => strapsOk pins
  | .powerLoss => true
  | .resetPinAssert => true
  | .resetPinRelease pins => strapsOk pins
  | .restart h pins => headerOk h && strapsOk pins
  | .dayClockTick => true
  | .cycleStart => true
  | .cycleReturn c => cycleOk c
  | .announce a _ _ => dropOk a
  | .noticeNext a => dropOk a
  | .txnRequest a _ => dropOk a
  | .cancel a => dropOk a
  | .signOn a _ _ => dropOk a
  | .signOff a => dropOk a
  | .unlock a _ => dropOk a
  | .forceSignOff a _ => dropOk a
  | .overrideGrant a _ => dropOk a
  | .overrideDeny a _ => dropOk a
  | .holdTimerExpiry a => dropOk a
  | .transferOut a _ _ _ => dropOk a
  | .transferAccept a _ => dropOk a
  | .transferRecall a _ => dropOk a
  | .countDeclare a _ => dropOk a
  | .acceptDifference a _ => dropOk a
  | .forceBalance a _ => dropOk a
  | .closePropose a => dropOk a
  | .closeConfirm a => dropOk a
  | .closeWithdraw a => dropOk a
  | .closeWindowExpiry => true
  | .drainEnd => true
  | .balancingExit => true
  | .badFrame _ => true
  | .lineCheck h n => headerOk h && decide (n ≤ 255)
  | .supervisionTimerExpiry => true
  | .waitListServing => true
  | .txnForwardStart => true
  | .passbookFetchStart => true
  | .adviceStart => true
  | .nodeAnswerStart => true
  | .waitingReportJoin => true
  | .batchBlockStart => true
  | .trunkFrameEnd => true
  | .txnReply h x => headerOk h && answerOk x
  | .fetchReply h lines => headerOk h && decide (lines.length ≤ 16)
  | .replyTimerExpiry i => decide (i ≤ 5)
  | .adviceAck h => headerOk h
  | .adviceException h r => headerOk h && reasonOk r
  | .adviceReplyTimerExpiry => true
  | .inquiryDrawers h => headerOk h
  | .inquiryLink h => headerOk h
  | .inquiryQueues h => headerOk h
  | .inquiryJournal h => headerOk h
  | .inquiryDay h => headerOk h
  | .inquiryDrops h => headerOk h
  | .inquiryPassbook h => headerOk h
  | .maskSet h _ => headerOk h
  | .notice h _ _ => headerOk h
  | .dayStart h _ _ _ => headerOk h
  | .loadTellers h _ => headerOk h
  | .loadCodes h _ => headerOk h
  | .loadDefinitions h _ => headerOk h
  | .loadRoutes h _ => headerOk h
  | .loadSat h _ => headerOk h
  | .loadRates h _ => headerOk h
  | .loadDenominations h _ => headerOk h
  | .loadLayout h _ => headerOk h
  | .loadParameters h _ => headerOk h
  | .dayOpen h => headerOk h
  | .blockAck h n => headerOk h && decide (n ≤ 65535)
  | .blockNak h n => headerOk h && decide (n ≤ 65535)
  | .blockTimerExpiry => true
  | .batchResume h n => headerOk h && decide (n ≤ 65535)
  | .batchVerdict h _ => headerOk h
  | .resendBatch h => headerOk h
  | .dayEnd h => headerOk h
  | .bookPresent a x => dropOk a && stripeOk x
  | .lineDone a _ _ => dropOk a
  | .pageReady a => dropOk a
  | .printerFault a => dropOk a
  | .answerTimerExpiry a => dropOk a
  | .cycleNotBackAtPeriodEnd => true
  | .inquiryUnknownKind h => headerOk h

end Sys2Proof
end

