-- ==== Sys2Proof/Tests/Slice0.lean ====
section
/-! SUPPORT. Tests: one step each, with figures of the manual's worked sequences and cases; the refusals of
ill-formed commands; and, for each obligation with hypotheses, states and operands that meet them. -/

-- One after the other: the kernel evaluations below are many, and side by side they ask for too many threads.
set_option Elab.async false

namespace Sys2Proof.Tests

open Sys2Proof.Machine

/-! ### A branch in the middle of its day -/

/-- The state after a command. -/
def after (c : Instr) (s : State) : State :=
  match exec c s with
  | .next t => t
  | _ => s

/-- Whether a command answers a next state that satisfies a test. -/
def gives (c : Instr) (s : State) (p : State → Bool) : Bool :=
  match exec c s with
  | .next t => p t
  | _ => false

/-- A teller signed on at the drop of the same number. -/
def teller (n : Nat) (role : Role) (drawer : Option Nat) : Teller :=
  ⟨n, role, false, 7, 500000, 0, drawer, .active, some n, 0, none, 0⟩

/-- A home definition of class 1. -/
def homeDef (cash : CashEffect) (account : AccountEffect) (routing : Routing) : Definition :=
  ⟨1, cash, account, routing, .home, false, false, .own, [65]⟩

/-- A currency exchange of class 2. -/
def exchangeDef (cash : CashEffect) (account : AccountEffect) (mode : CurrencyMode) : Definition :=
  ⟨2, cash, account, .localOnly, mode, false, false, .own, [66]⟩

/-- A full account of the SAT with no passbook part. -/
def account (n : Nat) (snapshot : Int) (limit : Nat) : SatEntry := ⟨n, .full, snapshot, limit, 0, false, 0, none⟩

/-- The passbook part of chapter 9's worked sequence: lines L1, L2 and L3 pending at page 7, line 23. -/
def book : Passbook :=
  ⟨500000, 620000, .line 7 23,
    [⟨none, .text [65], 1, 150000, .branch, some 118⟩, ⟨none, .text [66], 1, -40000, .standIn, some 233⟩,
      ⟨none, .text [67], 1, 10000, .branch, some 301⟩], ⟨0, 0, none⟩, none, none⟩

/-- Tellers 1 and 2 with drawers 1 and 2, supervisors 3 and 4 (3 with drawer 3, 4 the chief teller with the
reserve) and teller 5 in training, each at the drop of the same number; printers 25 and 26; the link OFFLINE.
Code `n` is definition `n`: 0 a LOCAL cash-in, 1 a stand-in cash withdrawal, 2 an online-only cash deposit, 3 a
BUY to cash, 4 a stand-in deposit. The rate record is that of section 4.4's cases. -/
def branch : State := { State.reset with
  retainedLost := false
  lpc := { State.reset.lpc with
    cycle := none
    drops := State.reset.lpc.drops.map fun d =>
      if d.addr ≤ 5 then { d with state := .active, sigs := { d.sigs with keyOperate := ⟨true, none⟩ } }
      else if d.addr = 25 then { d with state := .active, sigs := { d.sigs with bookIn := ⟨true, none⟩ } }
      else if d.addr = 26 then { d with state := .active }
      else d }
  rqu := { State.reset.rqu with
    tellers := [teller 1 .teller (some 1), teller 2 .teller (some 2), teller 3 .supervisor (some 3),
      teller 4 .chiefTeller (some 0), { teller 5 .teller none with training := true }]
    codeMap := [(0, 0), (1, 1), (2, 2), (3, 3), (4, 4)]
    definitions := [(0, homeDef .cashIn .noAccount .localOnly), (1, homeDef .cashOut .debit .standInAllowed),
      (2, homeDef .cashIn .credit .onlineOnly), (3, exchangeDef .cashOut .noAccount .buyForeign),
      (4, homeDef .cashIn .credit .standInAllowed)]
    routes := [(0, ⟨0, BitVec.allOnes 12, .localAccount⟩)] }
  csu := { State.reset.csu with
    drawers := State.reset.csu.drawers.map fun d =>
      if d.number < 4 then
        { d with
          home := { d.home with opening := 700000 }, foreign := { d.foreign with opening := 12000 }
          assigned := some (if d.number = 0 then 4 else d.number) }
      else d
    denomHome := [10000, 1000, 100, 5], denomForeign := [100] }
  siu := { State.reset.siu with
    sat := [account 11 300000 200000, account 37 50000 100000,
      { account 52 0 0 with book := some book }]
    rate := some ⟨⟨1456250, 1456250, 5, 100, 3600⟩, 30000⟩ }
  jnc := ⟨[], 0, 30000, 30000, true, false⟩
  tkc := { State.reset.tkc with nodeQueue := [] }
  pbu := { State.reset.pbu with
    sessions := State.reset.pbu.sessions.map fun z => if z.drop = some 25 then { z with state := .identify } else z }
  dyc := { State.reset.dyc with
    day := .opened, date := some ⟨2024, 2, 29⟩, time := some ⟨8, 0, 0⟩
    params := { State.reset.dyc.params with toleranceHome := 100 } } }

/-- The branch with its link ONLINE after LINE-CHECK 41. -/
def online : State := { branch with
  tkc := { branch.tkc with link := .online, supervision := .running 10, lastCheck := some 41 } }

/-- A header for the strapped branch. -/
def head (slot tag : Nat) : FrameHeader := ⟨1, slot, tag⟩

/-- The fields of a request. -/
def ask (code : Nat) (acct home : Option Nat) : TxnFields :=
  ⟨.value code, acct, (home.map Field.value).getD .absent, .absent⟩

def dropOf (s : State) (a : Nat) : Drop := (s.dropAt a).getD default
def tellerNo (s : State) (n : Nat) : Teller := (s.tellerOf n).getD default
def drawerNo (s : State) (n : Nat) : Drawer := (s.drawerAt n).getD default
def messages (s : State) (a : Nat) : List DownMessage := (dropOf s a).outbound

/-- The outcome of the work item of a drop. -/
def outcomeAt (s : State) (a : Nat) : Option Result := (s.txnAt a).bind Txn.outcome

/-! ### Ill-formed commands are refused by their checks -/

/-- Section 1.2: addresses run from 1 to 28. -/
theorem test_wf_drop : (Instr.noticeNext 0).wf = false ∧ (Instr.noticeNext 29).wf = false ∧
    (Instr.noticeNext 28).wf = true := by decide

/-- R185: the strap fields have 12, 3 and 2 bits. -/
theorem test_wf_straps : (Instr.powerOn ⟨4096, 0, 0⟩ true).wf = false ∧ (Instr.powerOn ⟨1, 8, 0⟩ true).wf = false ∧
    (Instr.powerOn ⟨1, 0, 4⟩ true).wf = false ∧ (Instr.powerOn ⟨4095, 7, 3⟩ true).wf = true := by decide

/-- R89, R186: slots run from 0 to 7, branch and tag have 16 bits. -/
theorem test_wf_header : (Instr.dayEnd ⟨65536, 7, 0⟩).wf = false ∧ (Instr.dayEnd ⟨1, 8, 0⟩).wf = false ∧
    (Instr.dayEnd ⟨1, 7, 65536⟩).wf = false ∧ (Instr.dayEnd ⟨65535, 7, 65535⟩).wf = true := by decide

/-- R1, R186: a cycle returns 31 halves of 20 bytes. -/
theorem test_wf_cycle : (Instr.cycleReturn ⟨true, true, List.replicate 30 (List.replicate 20 0)⟩).wf = false ∧
    (Instr.cycleReturn ⟨true, true, List.replicate 31 (List.replicate 19 0)⟩).wf = false ∧
    (Instr.cycleReturn ⟨true, true, List.replicate 31 (List.replicate 20 0)⟩).wf = true := by decide

/-- R55, R121: reasons run from 1 to 99. -/
theorem test_wf_reason : (Instr.adviceException (head 6 1) 0).wf = false ∧
    (Instr.txnReply (head 0 1) (.declined 100)).wf = false ∧ (Instr.txnReply (head 0 1) (.declined 99)).wf = true := by
  decide

/-- R142: pages run from 1 to 32, lines from 1 to 24, accounts have 12 digits. -/
theorem test_wf_stripe : (Instr.bookPresent 25 (.read 52 (.line 33 1))).wf = false ∧
    (Instr.bookPresent 25 (.read 52 (.line 1 25))).wf = false ∧
    (Instr.bookPresent 25 (.read 1000000000000 .full)).wf = false ∧
    (Instr.bookPresent 25 (.read 52 (.line 32 24))).wf = true := by decide

/-- R92, R99, R145, R168: check numbers have 8 bits, online slots run to 5, a FETCH-REPLY has at most 16 lines,
block numbers have 16 bits. -/
theorem test_wf_counts : (Instr.lineCheck (head 7 0) 256).wf = false ∧ (Instr.replyTimerExpiry 6).wf = false ∧
    (Instr.fetchReply (head 0 1) (List.replicate 17 ⟨⟨2024, 1, 1⟩, [65], none⟩)).wf = false ∧
    (Instr.blockAck (head 7 0) 65536).wf = false ∧ (Instr.replyTimerExpiry 5).wf = true := by decide

/-- No row of the table has bits, so no word spells a command. -/
theorem test_decode : decodeTableWord 8 0 = none ∧ State.reset.withFetchWord 8 0 = State.reset := ⟨rfl, rfl⟩

/-! ### The supply, the pins and the loop -/

/-- R180, R183: a kept day comes back, and NODE-STATUS STARTED is raised. -/
theorem test_powerOn : gives (.powerOn ⟨7, 1, 2⟩ true) { branch with supply := false } (fun t =>
    t.dyc.day == .opened && t.straps == ⟨7, 1, 2⟩ && t.nobodySignedOn && t.tkc.link == .offline &&
      t.tkc.nodeQueue == [⟨0, .nodeStatus (.started .powerOn true .opened 0)⟩]) = true := by decide +kernel

/-- R180: what is volatile does not survive. -/
theorem test_powerLoss : gives .powerLoss online (fun t =>
    !t.isRunning && t.tkc.link == .offline && t.dyc.day == .opened && t.siu == online.siu) = true := by decide +kernel

theorem test_resetPinAssert : gives .resetPinAssert online (fun t => !t.isRunning && t.nobodySignedOn) = true := by
  decide +kernel

/-- R181: on a store that is not valid, the RETAINED-LOST mark is set. -/
theorem test_resetPinRelease : gives (.resetPinRelease ⟨1, 0, 0⟩) { branch with resetLow := true, storeValid := false }
    (fun t => t.retainedLost && t.storeValid && t.dyc.day == .noDay && t.siu.sat == []) = true := by decide +kernel

/-- R180, R184: the report carries the RESTART frame's tag. -/
theorem test_restart : gives (.restart (head 7 9) ⟨1, 0, 0⟩) online (fun t =>
    t.tkc.nodeQueue == [⟨9, .nodeStatus (.started .restart true .opened 0)⟩]) = true := by decide +kernel

/-- R127: the clock stops at its largest value, and counts with the reset pin held low too. -/
theorem test_dayClockTick : gives .dayClockTick { branch with resetLow := true } (fun t => t.jnc.clock == 30001 && t.jnc.clockKept == 30001) =
    true ∧ gives .dayClockTick { branch with jnc := { branch.jnc with clock := 4294967295 } }
      (fun t => t.jnc.clock == 4294967295) = true := by decide +kernel

/-- R1, R2, R184: slots 29 to 31 are EMPTY in the default map, and an ABSENT drop's slot carries an offer, in the first
cycle that recovery sends and in one that starts. -/
theorem test_cycleStart : State.reset.lpc.cycle =
      some (.marker :: (List.replicate 28 .offer ++ List.replicate 3 .filler)) ∧
    gives .cycleStart (State.reset.onLpc fun l => { l with cycle := none })
      (fun t => t.lpc.cycle == State.reset.lpc.cycle) = true := by decide +kernel

/-- A clean empty upstream half of slot `n` with its signalling bits (R186). -/
def cleanHalf (n signals : Nat) : List Byte :=
  let l : List Byte := [BitVec.ofNat 8 (4 + signals), BitVec.ofNat 8 n, 0] ++ List.replicate 16 0
  l ++ [segmentCheck l]

/-- A good returned cycle with keys on, in which slot 1 brings `h`. -/
def goodCycle (h : List Byte) : ReturnedCycle :=
  ⟨true, true, h :: (List.range' 2 30).map fun n => cleanHalf n (if n ≤ 5 then 32 else 0)⟩

/-- The branch with a cycle on the ring and drop 1 changed. -/
def cycling (f : Drop → Drop) : State := (branch.modifyDrop 1 f).onLpc fun l => { l with cycle := some [] }

/-- Chapter 1's worked sequence, cycle c1: a CHECK-ERROR takes the score from 90 to 98. -/
theorem test_cycleReturn_error : gives (.cycleReturn (goodCycle [])) (cycling fun d => { d with score := 90 })
    (fun t => (dropOf t 1).score == 98 && (dropOf t 1).state == .degraded && (dropOf t 1).statusMark) = true := by
  decide +kernel

/-- Cycle c3: the confirmed SELF-FAULT fences the drop at score 192 and suspends the session; the mark stays clear. -/
theorem test_cycleReturn_fence : gives (.cycleReturn (goodCycle (cleanHalf 1 160)))
    (cycling fun d => { d with score := 97, state := .degraded, sigs := { d.sigs with selfFault := ⟨false, some true⟩ } })
    (fun t => (dropOf t 1).score == 192 && (dropOf t 1).state == .fenced && !(dropOf t 1).statusMark &&
      (tellerNo t 1).session == .suspended) = true := by decide +kernel

/-- R12: the eighth slipped cycle in a row brings LOOP-FAULT. -/
theorem test_cycleNotBackAtPeriodEnd : gives .cycleNotBackAtPeriodEnd
    ((cycling id).onLpc fun l => { l with slipRun := 7 })
    (fun t => t.lpc.loop == .loopFault && t.lpc.slips == 1 && t.lpc.cycle == none) = true := by decide +kernel

/-- R10, R15, R77: an announce of the other type is discarded; one of the table's type makes the drop ACTIVE, and a
printer's closed drawer ends an alert that its drop holds. -/
theorem test_announce : gives (.announce 6 .printer ⟨false, true, false, false⟩) branch
      (fun t => (dropOf t 6).state == .absent) = true ∧
    gives (.announce 6 .teller ⟨false, true, false, false⟩) branch
      (fun t => (dropOf t 6).state == .active && (dropOf t 6).sigs.keyOperate.confirmed) = true ∧
    gives (.announce 27 .printer ⟨false, false, false, false⟩) (branch.modifyDrop 27 fun d =>
      { d with alert := true, sigs := { d.sigs with drawerOpen := ⟨true, none⟩ } })
      (fun t => !(dropOf t 27).alert) = true := by decide +kernel

/-- Section 1.9's worked sequence: notices 13 to 20 retained, drop 1 in group 2 with next number 10. -/
def noticed : State := (branch.modifyDrop 1 fun d => { d with group := 2, nextNotice := 10 }).onLpc fun l =>
  { l with
    noticeCounter := 21
    notices := (List.range' 13 8).map fun n => ⟨n, if n = 14 then 2 else if n = 17 then 3 else 1, [65]⟩ }

theorem test_noticeNext : gives (.noticeNext 1) noticed (fun t =>
    messages t 1 == [.notice 14 [65] (some 3)] && (dropOf t 1).nextNotice == 15 &&
      unseenCount t.lpc.notices (dropOf t 1) == 1) = true := by decide +kernel

theorem test_notice : gives (.notice (head 7 0) 3 [66]) noticed (fun t =>
    t.lpc.notices.map Notice.number == List.range' 14 8 && t.lpc.noticeCounter == 22) = true := by decide +kernel

/-! ### The transaction path -/

/-- R42, R57: an omitted amount is taken as 0, and its AMOUNT-RANGE names that figure. -/
theorem test_omitted_amount : branch.earlyRefusal (tellerNo branch 1) (ask 0 none none) =
    some (.amountRange, some ⟨.home, .cashIn, some 0⟩) := by decide +kernel

/-- Section 3.2's worked example of a route search. -/
theorem test_routes :
    let r : List (Nat × Route) := [(0, ⟨987000000, 0b111111000000, .refuse⟩), (1, ⟨900000000, 0b111111111000, .localAccount⟩)]
    routeResult r 987654321 = .refuse ∧ routeResult r 912345678 = .localAccount ∧
      routeResult r 100912345678 = .otherBranch := by decide +kernel

/-- The rate record of section 4.4's cases, with other units or rates. -/
def rateOf (buy sell unitForeign : Nat) : Option RateRecord := some ⟨⟨buy, sell, 5, unitForeign, 3600⟩, 30000⟩

/-- An exchange request of a foreign amount. -/
def exchange (n : Nat) : TxnFields := ⟨.value 3, some 11, .absent, .value n⟩

/-- Cases A to F of section 4.4. -/
theorem test_exchange_cases :
    let r := rateOf 1456250 1456250 100
    amounts (exchangeDef .cashOut .noAccount .buyForeign) (exchange 12345) r =
      .refused .amountUnit (some ⟨.foreign, .cashIn, some 12345⟩) ∧
    amounts (exchangeDef .cashOut .noAccount .buyForeign) (exchange 12300) r =
      .legs [⟨.foreign, .cashIn, 12300⟩, ⟨.home, .cashOut, 17910⟩] (some ⟨.buy, 1456250, 12300, 12300, 0⟩) ∧
    amounts (exchangeDef .noCash .credit .buyForeign) (exchange 12300) r =
      .legs [⟨.foreign, .cashIn, 12300⟩, ⟨.home, .accountCredit, 17912⟩] (some ⟨.buy, 1456250, 12300, 12300, 0⟩) ∧
    amounts (exchangeDef .cashIn .noAccount .sellForeign) (exchange 12345) r =
      .legs [⟨.foreign, .cashOut, 12300⟩, ⟨.home, .cashIn, 17915⟩] (some ⟨.sell, 1456250, 12345, 12300, 45⟩) ∧
    amounts (exchangeDef .noCash .debit .sellForeign) (exchange 12345) r =
      .legs [⟨.foreign, .cashOut, 12300⟩, ⟨.home, .accountDebit, 17912⟩] (some ⟨.sell, 1456250, 12345, 12300, 45⟩) ∧
    amounts (exchangeDef .cashIn .noAccount .sellForeign) (exchange 45) r =
      .refused .amountRange (some ⟨.foreign, .cashOut, some 45⟩) := by decide +kernel

/-- Cases G to K of section 4.4. -/
theorem test_exchange_edges :
    amounts (exchangeDef .noCash .credit .buyForeign) (exchange 12345) (rateOf 1456250 1456250 1) =
      .legs [⟨.foreign, .cashIn, 12345⟩, ⟨.home, .accountCredit, 17977⟩] (some ⟨.buy, 1456250, 12345, 12345, 0⟩) ∧
    amounts (exchangeDef .noCash .credit .buyForeign) (exchange 3) (rateOf 1500000 1500000 1) =
      .legs [⟨.foreign, .cashIn, 3⟩, ⟨.home, .accountCredit, 5⟩] (some ⟨.buy, 1500000, 3, 3, 0⟩) ∧
    amounts (exchangeDef .cashOut .noAccount .buyForeign) (exchange 100) (rateOf 40000 40000 100) =
      .refused .amountRange (some ⟨.home, .cashOut, some 0⟩) ∧
    amounts (exchangeDef .noCash .credit .buyForeign) (exchange 100) (rateOf 4000 4000 100) =
      .refused .amountRange (some ⟨.home, .accountCredit, some 0⟩) ∧
    amounts (exchangeDef .cashIn .noAccount .sellForeign) (exchange 9999999950) (rateOf 1500000 1500000 100) =
      .refused .amountRange (some ⟨.home, .cashIn, some 14999999850⟩) := by decide +kernel

/-- Section 4.4: the record is fresh up to day clock 33,600. -/
theorem test_rate_fresh : rateFresh branch.siu.rate 33600 = true ∧ rateFresh branch.siu.rate 33601 = false := by
  decide +kernel

/-- Chapter 7's offline period: a withdrawal of 150,000 from account A is posted in stand-in. -/
theorem test_txnRequest_standIn : gives (.txnRequest 1 (ask 1 (some 11) (some 150000))) branch (fun t =>
    outcomeAt t 1 == some .approvedStandIn && (t.satAt 11).map (fun e => (e.snapshot, e.used, e.net)) ==
      some (150000, 150000, -150000) && t.siu.sfq == [⟨1, .posting⟩] && (drawerNo t 1).home.position == 550000) =
    true := by decide +kernel

/-- Case B of section 4.4 at the counter, at the last moment the record is fresh. -/
theorem test_txnRequest_exchange : gives (.txnRequest 1 ⟨.value 3, none, .absent, .value 12300⟩)
    { branch with jnc := { branch.jnc with clock := 33600 } } (fun t => outcomeAt t 1 == some .done &&
      (drawerNo t 1).home.position == 682090 && (drawerNo t 1).foreign.position == 24300 && (dropOf t 1).release) =
    true := by decide +kernel

/-- A transaction of teller `n` at drop `n` in a stage. -/
def txn (n code : Nat) (g : Definition) (legs : List Leg) (stage : Stage) : Txn :=
  { newTxn n (teller n .teller (some n)) (ask code (some 11) (legs.head?.map Leg.amount)) with
    defIndex := code, defn := some g, routing := g.routing, account := some 11, legs := legs, stage := stage
    drawer := some n }

def withdrawal (n : Nat) : List Leg := [⟨.home, .cashOut, n⟩, ⟨.home, .accountDebit, n⟩]
def deposit (n : Nat) : List Leg := [⟨.home, .cashIn, n⟩, ⟨.home, .accountCredit, n⟩]

/-- R46, R57: a withdrawal beyond the drawer names its cash leg; with the drawer open it names that leg too. -/
theorem test_drawer_refusal : (branch.drawerRefusal (txn 1 1 default (withdrawal 700001) .checking) (some 1)) =
      some (.cashShort, some ⟨.home, .cashOut, some 700001⟩) ∧
    ((branch.modifyDrop 1 fun d => { d with sigs := { d.sigs with drawerOpen := ⟨true, none⟩ } }).drawerRefusal
      (txn 1 1 default (withdrawal 5) .checking) (some 1)) = some (.drawerOpen, some ⟨.home, .cashOut, some 5⟩) := by
  decide +kernel

/-- A branch with a work item at drop 1. -/
def withTxn (s : State) (t : Txn) : State := s.onRqu fun r => { r with txns := [t] }

/-- A hold of 800,000 at drop 1 (chapter 2's worked sequence, with supervisor 3's limit). -/
def heldTxn (compared : Nat) : Txn :=
  { txn 1 1 (homeDef .cashOut .debit .onlineOnly) (withdrawal compared) .held with
    drawer := none, reason := some ⟨false, true⟩, compared := some compared, holdTimer := .running 120 }

theorem test_cancel : gives (.cancel 1) (withTxn branch (heldTxn 800000)) (fun t =>
    outcomeAt t 1 == some .cancelled && t.holdCount == 0) = true := by decide +kernel

theorem test_overrideGrant : gives (.overrideGrant 3 1) (withTxn online (heldTxn 500001))
      (fun t => messages t 3 == [.answer .notPermitted .nothing] && t.holdCount == 1) = true ∧
    gives (.overrideGrant 3 1) (withTxn online (heldTxn 500000))
      (fun t => (t.txnAt 1).map Txn.stage == some .queued && (t.txnAt 1).bind Txn.supervisor == some 3 &&
        messages t 3 == [.answer .done .nothing]) = true := by decide +kernel

theorem test_overrideDeny : gives (.overrideDeny 3 1) (withTxn branch (heldTxn 1)) (fun t =>
    outcomeAt t 1 == some .overrideDenied && messages t 3 == [.answer .done .nothing]) = true := by decide +kernel

theorem test_holdTimerExpiry : gives (.holdTimerExpiry 1) (withTxn branch (heldTxn 1)) (fun t =>
    outcomeAt t 1 == some .overrideExpired) = true := by decide +kernel

/-! ### Sessions -/

/-- The branch with teller 1 signed off. -/
def signedOff (failures : Nat) (session : SessionState) : State := branch.modifyTeller 1 fun x =>
  { x with session := session, station := none, failures := failures }

/-- R25: the third wrong check value locks the teller out. -/
theorem test_signOn : gives (.signOn 1 1 7) (signedOff 2 .signedOff) (fun t =>
      (tellerNo t 1).session == .active && (tellerNo t 1).failures == 0 && t.jnc.counter == 1) = true ∧
    gives (.signOn 1 1 8) (signedOff 2 .signedOff) (fun t =>
      (tellerNo t 1).session == .lockedOut && messages t 1 == [.answer .lockedOut .nothing]) = true := by decide +kernel

theorem test_signOff : gives (.signOff 1) branch (fun t => (tellerNo t 1).session == .signedOff &&
    t.jnc.records.map Record.body == [.signOff] && (dropOf t 1).statusMark) = true := by decide +kernel

theorem test_unlock : gives (.unlock 3 1) (signedOff 3 .lockedOut) (fun t =>
    (tellerNo t 1).session == .signedOff && (tellerNo t 1).failures == 0 && t.jnc.counter == 0) = true := by
  decide +kernel

theorem test_forceSignOff : gives (.forceSignOff 3 1) branch (fun t =>
    (tellerNo t 1).session == .signedOff && t.jnc.records.map Record.supervisor == [some 3]) = true := by decide +kernel

/-! ### Cash -/

theorem test_transferOut : gives (.transferOut 1 0 (some .home) 50000) branch (fun t =>
    t.csu.transit == [⟨1, 1, 0, .home, 50000, 1, 1⟩] && (drawerNo t 1).home.position == 650000 && (dropOf t 1).release) =
    true := by decide +kernel

/-- Entry 4 of chapter 5's worked sequence: 50,000 from drawer 2 to the reserve. -/
def inTransit : State := branch.onCsu fun c => { c with
  transit := [⟨4, 2, 0, .home, 50000, 2, 900⟩], transitCounter := 5
  drawers := modifyKey Drawer.number 2 (fun w => { w with home := { w.home with transferOut := 50000 } }) c.drawers }

theorem test_transferAccept : gives (.transferAccept 4 4) inTransit (fun t =>
    t.csu.transit == [] && (drawerNo t 0).home.position == 750000) = true := by decide +kernel

theorem test_transferRecall : gives (.transferRecall 2 4) inTransit (fun t =>
    t.csu.transit == [] && (drawerNo t 2).home.position == 700000) = true := by decide +kernel

/-- A branch in BALANCING with drawers 0 to 3 due and drawer 1 holding a home position. -/
def balancing (home : Int) : State := (branch.onCsu fun c => { c with drawers := c.drawers.map fun w =>
    if w.number = 1 then { w with balance := .due, home := { w.home with opening := home } }
    else if w.number < 4 then { w with balance := .due } else w }).onDyc fun y => { y with day := .balancing }

/-- Section 4.5's worked case in the tables of the branch: a shortage of 5 within the tolerance of 100. -/
theorem test_countDeclare_within : gives (.countDeclare 1 ⟨[(10000, 70), (5, 9)], [(100, 120)]⟩) (balancing 700050)
    (fun t => (drawerNo t 1).balance == .balanced && (drawerNo t 1).home.position == 700045 && t.csu.netHome == -5) =
    true := by decide +kernel

/-- Chapter 5's worked sequence: a shortage of 1,000 holds the drawer, and no record is written. -/
theorem test_countDeclare_held : gives (.countDeclare 1 ⟨[(10000, 41), (1000, 1), (100, 3)], [(100, 120)]⟩)
    (balancing 412300) (fun t => (drawerNo t 1).balance == .held && t.jnc.counter == 0 &&
      messages t 1 == [.answer .done (.counted .held (-1000) 0)]) = true := by decide +kernel

/-- Drawer 1 HELD with the declaration of chapter 5's worked sequence. -/
def heldDrawer : State := (balancing 412300).modifyDrawer 1 fun w => { w with
  balance := .held, declaration := some ⟨1, ⟨[(10000, 41), (1000, 1), (100, 3)], []⟩, 411300, 12000, -1000, 0⟩ }

theorem test_acceptDifference : gives (.acceptDifference 4 1) heldDrawer (fun t =>
    (drawerNo t 1).balance == .balanced && (drawerNo t 1).home.position == 411300 && t.csu.netHome == -1000) =
    true := by decide +kernel

theorem test_forceBalance : gives (.forceBalance 3 1)
    ((balancing 700000).modifyTeller 1 fun x => { x with session := .signedOff, station := none })
    (fun t => (drawerNo t 1).balance == .balanced && t.jnc.records.map Record.body == [.count 1 none 0 0 none true]) =
    true := by decide +kernel

/-! ### Closing -/

/-- The branch with a close proposed by supervisor 3. -/
def proposed : State := branch.onDyc fun y =>
  { y with day := .closeProposed, proposal := some ⟨3, none, .running 120⟩ }

theorem test_closePropose : gives (.closePropose 3) branch (fun t =>
    t.dyc.day == .closeProposed && t.dyc.proposal == some ⟨3, none, .running 120⟩) = true := by decide +kernel

/-- Chapter 10's worked sequence: the proposer's own confirmation reopens the day; another's drains it, and with no
work item undecided the CLOSE-MARK carries both. -/
theorem test_closeConfirm : gives (.closeConfirm 3) proposed (fun t =>
      t.dyc.day == .opened && messages t 3 == [.answer .samePerson .nothing]) = true ∧
    gives (.closeConfirm 4) proposed (fun t => t.dyc.day == .balancing && t.dyc.cutoff == some 0 &&
      t.jnc.records.map (fun r => (r.teller, r.supervisor)) == [(some 3, some 4)]) = true := by decide +kernel

theorem test_closeWithdraw : gives (.closeWithdraw 4) proposed (fun t =>
    t.dyc.day == .opened && t.dyc.proposal == none) = true := by decide +kernel

theorem test_closeWindowExpiry : gives .closeWindowExpiry proposed (fun t => t.dyc.day == .opened) = true := by
  decide +kernel

theorem test_drainEnd : gives .drainEnd (branch.onDyc fun y => { y with day := .closeDrain }) (fun t =>
    t.dyc.day == .balancing && (drawerNo t 3).balance == .due && (drawerNo t 5).balance == .notDue &&
      (dropOf t 1).release) = true := by decide +kernel

/-- A branch in BALANCING with nobody signed on and nothing due. -/
def settled : State := (branch.onRqu fun r => { r with
    tellers := r.tellers.map fun x => { x with session := .signedOff, station := none } }).onDyc
  fun y => { y with day := .balancing }

theorem test_balancingExit : gives .balancingExit settled (fun t => t.dyc.day == .sendStalled &&
    t.tkc.nodeQueue == [⟨0, .nodeStatus (.sending 0 1)⟩]) = true := by decide +kernel

/-! ### The trunk -/

/-- R90: a frame of two bytes is none. -/
theorem test_badFrame : gives (.badFrame [0, 1]) online (fun t => t.tkc.stats.badFrames == 1) = true := by
  decide +kernel

/-- Chapter 6's worked sequence: LINE-CHECK 42 after OFFLINE brings RESYNC with run 1; the third in a row ONLINE. -/
theorem test_lineCheck : gives (.lineCheck (head 7 0) 42) branch (fun t => t.tkc.link == .resync &&
      t.tkc.runCount == 1 && t.tkc.nodeQueue == [⟨0, .lineEcho 42⟩]) = true ∧
    gives (.lineCheck (head 7 0) 0)
      (branch.onTkc fun k => { k with link := .resync, runCount := 2, lastCheck := some 255, supervision := .running 10 })
      (fun t => t.tkc.link == .online && t.tkc.runCount == 0) = true := by decide +kernel

/-- A branch with work items waiting: drop 1's in the wait list. -/
def waiting (s : State) : State :=
  (withTxn s { txn 1 2 (homeDef .cashIn .credit .onlineOnly) (deposit 100) .waitListed with drawer := some 1 }).onRqu
    fun r => { r with waitList := [1] }

/-- Chapter 6's worked sequence: SUSPECT falls to OFFLINE, and an ONLINE-ONLY item in the wait list is refused. -/
theorem test_supervisionTimerExpiry : gives .supervisionTimerExpiry online (fun t => t.tkc.link == .suspect &&
      t.tkc.supervision == .running 10) = true ∧
    gives .supervisionTimerExpiry ((waiting online).onTkc fun k => { k with link := .suspect }) (fun t =>
      t.tkc.link == .offline && t.tkc.stats.offlineEntries == 1 && t.rqu.waitList == [] &&
        outcomeAt t 1 == some .headOfficeUnavailable) = true := by decide +kernel

theorem test_waitListServing : gives .waitListServing (waiting online) (fun t =>
    t.rqu.waitList == [] && (t.slotAt 0).map (fun x => (x.state, x.drop)) == some (.queued, 1)) = true := by
  decide +kernel

/-- A slot of an online branch. -/
def withSlot (s : State) (x : OnlineSlot) : State := s.modifySlot x.number fun _ => x

/-- Drop 1's withdrawal of 120,000 queued in slot 0, with the last sequence 529 (chapter 6's worked sequence). -/
def queued : State := (withSlot (withTxn online
    { txn 1 1 (homeDef .cashOut .debit .standInAllowed) (withdrawal 120000) .queued with slot := some 0 })
    ⟨0, .queued, 1, .txnForward, 0, .stopped⟩).onJnc fun j => { j with counter := 529 }

theorem test_txnForwardStart : gives .txnForwardStart queued (fun t =>
    (t.recordAt 530).map Record.disposition == some (some .awaiting) &&
      t.slotAt 0 == some ⟨0, .sending, 1, .txnForward, 530, .running 20⟩ &&
      t.tkc.transmitter.map (fun x => x.frame.tag) == some 530) = true := by decide +kernel

/-- Record 530, AWAITING. -/
def awaiting (legs : List Leg) : Record :=
  { entry (.posting ⟨1, 1, some 11, legs, none, .online⟩) (some 1) (some 1) none (some .awaiting) with seq := 530 }

/-- Drop 1's item in slot `i` on the trunk, with record 530 AWAITING. -/
def onTrunk (cash : CashEffect) (a : AccountEffect) (legs : List Leg) (i : Nat) : State :=
  (withSlot (withTxn online { txn 1 1 (homeDef cash a .standInAllowed) legs .onTrunk with
      slot := some i, seq := some 530 }) ⟨i, .await, 1, .txnForward, 530, .running 20⟩).onJnc
    fun j => { j with counter := 530, records := [awaiting legs] }

/-- Chapter 6's worked sequence: record 530 times out, 531 reverses it; the link ONLINE, the withdrawal is decided
in stand-in as 532, and slot 0 is FREE. -/
theorem test_replyTimerExpiry : gives (.replyTimerExpiry 0)
    ((onTrunk .cashOut .debit (withdrawal 120000) 0).onTkc fun k => { k with link := .offline }) (fun t =>
      t.jnc.records.map (fun r => (r.seq, r.disposition)) ==
        [(530, some .timedOut), (531, some .reversalPending), (532, some .advicePending)] &&
      t.siu.sfq == [⟨531, .reversal⟩, ⟨532, .posting⟩] && (drawerNo t 1).home.position == 580000 &&
      outcomeAt t 1 == some .approvedStandIn && (t.slotAt 0).map OnlineSlot.state == some .free) = true := by
  decide +kernel

/-- Chapter 3's worked sequence: a deposit of 250,000 is approved with balance 1,310,000 beside an unconfirmed net
of −40,000, and the snapshot becomes 1,270,000. -/
theorem test_txnReply_approved : gives (.txnReply (head 2 530) (.approved 77 (.value 1310000)))
    ((onTrunk .cashIn .credit (deposit 250000) 2).modifySat 11 fun e => { e with net := -40000 }) (fun t =>
      outcomeAt t 1 == some .approved && (drawerNo t 1).home.position == 950000 &&
      (t.satAt 11).map SatEntry.snapshot == some 1270000 && (dropOf t 1).release &&
      (t.recordAt 530).map (fun r => (r.disposition, r.reference)) == some (some .approved, some 77)) = true := by
  decide +kernel

/-- R103: a reply whose tag is not the slot's is counted and discarded. -/
theorem test_txnReply_late : gives (.txnReply (head 2 529) (.declined 5)) (onTrunk .cashIn .credit (deposit 1) 2)
    (fun t => t.tkc.stats.lateReplies == 1 && (t.recordAt 530).map Record.disposition == some (some .awaiting)) =
    true := by decide +kernel

/-- Printer 25's fetch of account 52 in slot 0. -/
def fetching (stage : Stage) (state : SlotState) (tag : Nat) (timer : Timer) : State :=
  ((withSlot online ⟨0, state, 25, .passbookFetch, tag, timer⟩).onRqu
    fun r => { r with fetches := [⟨25, 52, .line 7 23, stage, some 0⟩] }).modifySession 25
    fun z => { z with state := .fetching, account := some 52 }

theorem test_passbookFetchStart : gives .passbookFetchStart
    ((fetching .queued .queued 0 .stopped).onTkc fun k => { k with fetchCounter := 65535 }) (fun t =>
      t.tkc.fetchCounter == 1 && (t.slotAt 0).map OnlineSlot.tag == some 65535) = true := by decide +kernel

/-- Chapter 9's worked sequence: one line of −3,000 joins the list, and the line balance falls with it. -/
theorem test_fetchReply : gives (.fetchReply (head 0 1) [⟨⟨2024, 1, 1⟩, [70], some (-3000)⟩])
    ((fetching .onTrunk .await 1 (.running 20)).modifyBook 52 fun b => { b with session := some 25 }) (fun t =>
      (t.bookOf 52).map (fun b => (b.lineBalance, b.pending.map Line.amount)) ==
        some (617000, [150000, -40000, 10000, -3000]) && t.sessionState 25 == .printing && t.fetchAt 25 == none) =
    true := by decide +kernel

/-- Record 701 at the head of the SFQ (chapter 7's worked sequence), with slot 6 in a state. -/
def advised (x : AdviceSlot) : State := ((online.onSiu fun u => { u with
    sfq := [⟨701, .posting⟩], sat := [{ account 11 190000 200000 with used := 150000, net := -110000 }] }).onJnc
  fun j => { j with counter := 701, records := [{ entry (.posting ⟨1, 1, some 11, withdrawal 150000, none, .standIn⟩)
    (some 1) (some 1) none (some .advicePending) with seq := 701 }] }).onTkc fun k => { k with slot6 := x }

theorem test_adviceStart : gives .adviceStart (advised ⟨.free, 0, .stopped⟩) (fun t =>
    t.tkc.slot6 == ⟨.sending, 701, .running 20⟩ && t.tkc.transmitter.map (fun x => (x.frame.slot, x.frame.tag)) ==
      some (6, 701)) = true := by decide +kernel

theorem test_adviceAck : gives (.adviceAck (head 6 701)) (advised ⟨.await, 701, .running 20⟩) (fun t =>
    (t.satAt 11).map SatEntry.net == some 40000 && t.siu.sfq == [] && t.tkc.slot6.state == .free &&
      (t.recordAt 701).map Record.disposition == some (some .adviceConfirmed)) = true := by decide +kernel

theorem test_adviceException : gives (.adviceException (head 6 701) 14) (advised ⟨.await, 701, .running 20⟩) (fun t =>
    (t.recordAt 701).map (fun r => (r.disposition, r.reference)) == some (some .exception, some 14)) = true := by
  decide +kernel

theorem test_adviceReplyTimerExpiry : gives .adviceReplyTimerExpiry (advised ⟨.await, 701, .running 20⟩) (fun t =>
    t.tkc.slot6.state == .free && t.siu.sfq == [⟨701, .posting⟩] && t.tkc.stats.timeouts == 1) = true := by
  decide +kernel

/-- The branch with answers waiting. -/
def answering (n : Nat) : State := online.onTkc fun k => { k with
  nodeQueue := (List.range n).map fun i => ⟨i, .lineEcho i⟩, waiting := some ⟨0, .nodeStatus .retainedLost⟩ }

/-- R106: the oldest answer leaves the queue, and the waiting report joins it. -/
theorem test_nodeAnswerStart : gives .nodeAnswerStart (answering 4) (fun t =>
    t.tkc.slot7 == some ⟨0, .lineEcho 0⟩ && t.tkc.nodeQueue.length == 4 && t.tkc.waiting == none) = true := by
  decide +kernel

theorem test_waitingReportJoin : gives .waitingReportJoin (answering 3) (fun t =>
      t.tkc.nodeQueue.length == 4 && t.tkc.waiting == none) = true ∧
    gives .waitingReportJoin (answering 4) (fun t => t.tkc.waiting.isSome) = true := by decide +kernel

/-- The batch of chapter 11's worked sequence: N 100, B 7. -/
def batch (oldest next attempts : Nat) : State := (online.onDyc fun y => { y with
    day := .sending, batch := some ⟨100, 7, controlTotals [], oldest, next, attempts, false, none, 0⟩
    blockTimer := .running 10 }).onJnc fun j => { j with counter := 100 }

/-- The progress of the batch. -/
def progress (s : State) : Option (DayState × Nat × Nat × Nat × Timer) :=
  s.dyc.batch.map fun b => (s.dyc.day, b.oldest, b.next, b.attempts, s.dyc.blockTimer)

/-- R171: the window of four is full at block 4. -/
theorem test_batchBlockStart : gives .batchBlockStart (batch 1 4 0) (fun t =>
      t.tkc.transmitter.map (fun x => (x.frame.slot, x.frame.tag)) == some (7, 4)) = true ∧
    gives .batchBlockStart (batch 1 5 0) (fun t => t.tkc.transmitter == none) = true := by decide +kernel

theorem test_trunkFrameEnd : gives .trunkFrameEnd
    ((batch 1 2 0).onTkc fun k => { k with transmitter := some ⟨⟨1, 7, 1, .batchBlock []⟩, false⟩ }) (fun t =>
      t.tkc.transmitter == none && t.dyc.blockTimer == .running 10) = true := by decide +kernel

/-- At 65,006 of the sequence. -/
theorem test_blockAck : gives (.blockAck (head 7 0) 2) (batch 1 5 0) (fun t =>
    progress t == some (.sending, 3, 5, 0, .running 10)) = true := by decide +kernel

/-- At 65,008 of the sequence. -/
theorem test_blockNak : gives (.blockNak (head 7 0) 4) (batch 3 7 0) (fun t =>
    progress t == some (.sending, 4, 4, 1, .stopped)) = true := by decide +kernel

/-- The fifth expiry stalls the batch. -/
theorem test_blockTimerExpiry : gives .blockTimerExpiry (batch 7 9 4) (fun t =>
    progress t == some (.sendStalled, 7, 9, 5, .stopped) &&
      t.tkc.nodeQueue == [⟨0, .nodeStatus (.batchStalled 7)⟩]) = true := by decide +kernel

/-- The last sentence of the sequence: block 10 is refused when the next to send is 9, block 7 is not. -/
theorem test_batchResume : gives (.batchResume (head 7 0) 10) ((batch 7 9 5).onDyc fun y => { y with day := .sendStalled })
      (fun t => t.tkc.nodeQueue == [⟨0, .nodeStatus (.resumeRefused 10 9 1)⟩]) = true ∧
    gives (.batchResume (head 7 0) 7) ((batch 7 9 5).onDyc fun y => { y with day := .sendStalled, blockTimer := .stopped })
      (fun t => progress t == some (.sending, 7, 7, 0, .stopped)) = true := by decide +kernel

/-- The sequence's batch with the trailer acknowledged. -/
def acknowledged : State := (batch 9 9 0).onDyc fun y =>
  { y with batch := y.batch.map fun b => { b with trailer := true }, blockTimer := .stopped }

theorem test_batchVerdict : gives (.batchVerdict (head 7 3) (controlTotals [])) acknowledged (fun t =>
      t.dyc.day == .sent && t.tkc.nodeQueue == [⟨3, .nodeStatus .agreed⟩]) = true ∧
    gives (.batchVerdict (head 7 3) { controlTotals [] with hash := 5, pending := 1 }) acknowledged (fun t =>
      t.tkc.nodeQueue == [⟨3, .nodeStatus (.disputed 8 0 5)⟩]) = true := by decide +kernel

/-- The branch with its batch SENT. -/
def sent : State := acknowledged.onDyc fun y => { y with day := .sent }

theorem test_resendBatch : gives (.resendBatch (head 7 0)) sent (fun t =>
    progress t == some (.sending, 1, 1, 0, .stopped)) = true := by decide +kernel

theorem test_dayEnd : gives (.dayEnd (head 7 0)) (sent.onCsu (inTransit.csu.drawers |> fun l c => { c with drawers := l }))
    (fun t => t.dyc.day == .noDay && t.jnc.counter == 0 && (drawerNo t 2).home == ⟨650000, 0, 0, 0, 0, 0⟩ &&
      (drawerNo t 2).assigned == none) = true := by decide +kernel

/-- The records of section 11.2's worked example. -/
def shortDay (account3 : Nat) : List Record :=
  let posting := fun account legs d => entry (.posting ⟨1, 1, some account, legs, none, .online⟩) none none none (some d)
  [entry .signOn, posting 123456789 (deposit 150000) .approved, posting account3 (withdrawal 20000) .advicePending,
    posting 123400001 [⟨.home, .accountCredit, 90000⟩] .declined, entry (.closeMark 4),
    entry (.count 4 none (-5) 0 none false), entry .signOff]

theorem test_totals : controlTotals (shortDay 876543210) =
      ⟨7, 20000, 150000, 150000, 20000, 0, 0, 999999999, -5, 0, 1, 0, 0⟩ ∧
    (controlTotals (shortDay 999900000000)).hash = 23456789 := by decide +kernel

/-! ### Inquiries, the mask and the loads -/

/-- Chapter 6's worked sequence: what the LINK inquiry shows at its end. -/
theorem test_inquiryLink : gives (.inquiryLink (head 7 8))
    (online.onTkc fun k => { k with lastCheck := some 44, stats := ⟨0, 1, 0, 0, 1, 1⟩ }) (fun t =>
      t.tkc.nodeQueue == [⟨8, .inquiryAnswer (.link .online (some 44) 0 10 20 ⟨0, 1, 0, 0, 1, 1⟩)⟩]) = true := by
  decide +kernel

/-- The only answer in the node queue. -/
def answerIs (p : InquiryAnswer → Bool) (s : State) : Bool :=
  match s.tkc.nodeQueue with
  | [⟨8, .inquiryAnswer x⟩] => p x
  | _ => false

theorem test_inquiryDrawers : gives (.inquiryDrawers (head 7 8)) inTransit (answerIs fun x => match x with
    | .drawers l tr _ _ => l.length == 25 && tr.map TransitEntry.amount == [50000] &&
        (l.map fun r => r.home.position).take 4 == [700000, 700000, 650000, 700000]
    | _ => false) = true := by decide +kernel

theorem test_inquiryQueues : gives (.inquiryQueues (head 7 8)) queued (answerIs fun x => match x with
    | .queues 0 0 [] l 0 => l.map (fun r => (r.state, r.drop, r.tag)) ==
        (.queued, some 1, none) :: List.replicate 7 (.free, none, none)
    | _ => false) = true := by decide +kernel

/-- Chapter 8's worked sequence: the JOURNAL inquiry at its end. -/
theorem test_inquiryJournal : gives (.inquiryJournal (head 7 8)) (online.onJnc fun j => { j with counter := 65281 })
    (answerIs fun x => x == .journal 65281 65281 .full 0 0 0 0 0) = true := by decide +kernel

theorem test_inquiryDay : gives (.inquiryDay (head 7 8)) (batch 7 9 1) (answerIs fun x =>
    x == .day .sending none 30000 (some ⟨8, 7, 9, 1⟩)) = true := by decide +kernel

theorem test_inquiryDrops : gives (.inquiryDrops (head 7 8)) branch (answerIs fun x => match x with
    | .drops l .running 0 => l[0]? == some ⟨1, .teller, 1, .active, 0, 0⟩ && l.length == 28
    | _ => false) = true := by decide +kernel

theorem test_inquiryPassbook : gives (.inquiryPassbook (head 7 8)) branch (answerIs fun x => match x with
    | .passbook 8189 0 l => l[0]? == some ⟨some 25, .identify, none, 0⟩ && l.length == 6
    | _ => false) = true := by decide +kernel

theorem test_inquiryUnknownKind : gives (.inquiryUnknownKind (head 7 8)) branch (fun t =>
    t.tkc.nodeQueue == [⟨8, .nodeStatus (.fieldRange .inquiry)⟩]) = true := by decide +kernel

/-- R38: the mask is refused before OPEN. -/
theorem test_maskSet : gives (.maskSet (head 7 0) 4) branch (fun t => t.rqu.classMask == 4) = true ∧
    gives (.maskSet (head 7 0) 4) State.reset (fun t => t.rqu.classMask == 0 &&
      t.tkc.nodeQueue.contains ⟨0, .nodeStatus (.wrongState .maskSet)⟩) = true := by decide +kernel

/-- R155: 29 February is a date of a leap year only. -/
theorem test_dayStart : gives (.dayStart (head 7 0) ⟨2023, 2, 29⟩ ⟨8, 0, 0⟩ noCounts) State.reset (fun t =>
      t.dyc.day == .noDay && t.tkc.nodeQueue.contains ⟨0, .nodeStatus (.fieldRange .dayStart)⟩) = true ∧
    gives (.dayStart (head 7 0) ⟨2024, 2, 29⟩ ⟨23, 59, 59⟩ noCounts) State.reset (fun t =>
      t.dyc.day == .loading && t.jnc.clockRuns && t.jnc.clock == 0) = true := by decide +kernel

/-- The branch in LOADING. -/
def loading : State := branch.onDyc fun y => { y with day := .loading, loaded := noKeys }

/-- Whether the load was acknowledged with an accepted count. -/
def acked (k : TableKind) (n : Nat) (s : State) : Bool := s.tkc.nodeQueue == [⟨0, .loadAck k n⟩]

theorem test_loadTellers : gives (.loadTellers (head 7 0) [some (.load 9 .supervisor false 5 100 0 none),
    some (.remove 9)]) loading
    (fun t => acked .tellers 1 t && t.tellerOf 9 == none) = true := by decide +kernel

theorem test_loadCodes : gives (.loadCodes (head 7 0) [some ⟨9, some 4⟩, some ⟨0, none⟩]) loading (fun t =>
    acked .codes 2 t && findKey Prod.fst 9 t.rqu.codeMap == some (9, 4) && findKey Prod.fst 0 t.rqu.codeMap == none) =
    true := by decide +kernel

theorem test_loadDefinitions : gives (.loadDefinitions (head 7 0) [some ⟨0, none⟩]) loading (fun t =>
    acked .definitions 1 t && findKey Prod.fst 0 t.rqu.definitions == none) = true := by decide +kernel

theorem test_loadRoutes : gives (.loadRoutes (head 7 0) [some ⟨3, some ⟨123, 0, .refuse⟩⟩]) loading (fun t =>
    acked .routes 1 t && t.rqu.routes.length == 2) = true := by decide +kernel

theorem test_loadSat : gives (.loadSat (head 7 0) [some ⟨52, 10, 20, true, none⟩]) loading (fun t =>
    acked .sat 1 t && (t.satAt 52).map (fun e => (e.snapshot, e.limit, e.blocked, e.book)) ==
      some (10, 20, true, some book)) = true := by decide +kernel

theorem test_loadRates : gives (.loadRates (head 7 0) [some ⟨1460000, 1460000, 5, 100, 3600⟩]) loading (fun t =>
    acked .rates 1 t && t.siu.rate == some ⟨⟨1460000, 1460000, 5, 100, 3600⟩, 30000⟩) = true := by decide +kernel

/-- R69, R157: no two denominations of a table have the same value; a currency that is none is out of range. -/
theorem test_loadDenominations : gives (.loadDenominations (head 7 0) [some ⟨.home, [5, 100]⟩]) loading (fun t =>
      acked .denominations 1 t && t.csu.denomHome == [5, 100]) = true ∧
    gives (.loadDenominations (head 7 0) [some ⟨.home, [5]⟩, none, some ⟨.home, [5, 5]⟩]) loading (fun t =>
      t.tkc.nodeQueue == [⟨0, .loadNak .denominations (.fieldRange (some 2))⟩] &&
        t.csu.denomHome == [10000, 1000, 100, 5]) = true := by decide +kernel

theorem test_loadLayout : gives (.loadLayout (head 7 0) [some { freshLayout with mark := 43 }]) loading (fun t =>
    acked .layout 1 t && t.pbu.layout.mark == 43) = true := by decide +kernel

/-- R75: a lower limit puts cash-high on at once. -/
theorem test_loadParameters : gives (.loadParameters (head 7 0) [some { freshParams with cashHigh := List.replicate 25 699999 }])
    loading (fun t => acked .parameters 1 t && (drawerNo t 1).cashHigh && !(drawerNo t 5).cashHigh) = true := by
  decide +kernel

/-- R159: an account that was not loaded goes unless it has lines to print. -/
theorem test_dayOpen : gives (.dayOpen (head 7 0)) loading (fun t => t.dyc.day == .opened &&
      t.siu.sat.map (fun e => (e.account, e.kind)) == [(52, .pendingOnly)]) = true ∧
    gives (.dayOpen (head 7 0)) (loading.onDyc fun y => { y with expected := { noCounts with routes := 2 } })
      (fun t => t.tkc.nodeQueue == [⟨0, .nodeStatus (.loadMismatch .routes 2 0)⟩]) = true := by decide +kernel

/-! ### Passbooks -/

/-- Chapter 9's worked sequence at 44,002. -/
theorem test_bookPresent : gives (.bookPresent 25 (.read 52 (.line 7 23))) branch (fun t =>
      t.sessionState 25 == .printing && (t.bookOf 52).bind Passbook.marker == some ⟨7, 23, 150000, 1, .list⟩) = true ∧
    gives (.bookPresent 25 (.read 52 (.line 7 22))) branch (fun t => t.sessionState 25 == .refused &&
      messages t 25 == [.eject (some .bookSuperseded)] && t.jnc.counter == 1) = true := by decide +kernel

/-- A session printing line `l` of page 7. -/
def printing (l : Nat) (lines : List Line) : State := (branch.modifyBook 52 fun b => { b with
    next := .line 7 l, session := some 25, pending := lines
    marker := lines.head?.map fun g => ⟨7, l, g.amount, g.items, .list⟩ }).modifySession 25 fun z =>
  { z with state := .printing, account := some 52, command := some (.printLine 7 l), timer := .running 30 }

/-- At 44,005: the printed balance takes L1, and L2 is printed at 7/24; after line 24 the page is turned. -/
theorem test_lineDone : gives (.lineDone 25 7 23) (printing 23 book.pending) (fun t =>
      (t.bookOf 52).map (fun b => (b.printed, b.next)) == some (650000, .line 7 24) &&
      (t.bookOf 52).bind Passbook.marker == some ⟨7, 24, -40000, 1, .list⟩) = true ∧
    gives (.lineDone 25 7 24) (printing 24 book.pending) (fun t =>
      t.sessionState 25 == .turning && messages t 25 == [.turnPage]) = true := by decide +kernel

theorem test_pageReady : gives (.pageReady 25) ((printing 1 book.pending).modifySession 25 fun z =>
    { z with state := .turning, command := some .turnPage }) (fun t => t.sessionState 25 == .printing &&
      (t.bookOf 52).bind Passbook.marker == some ⟨7, 1, 150000, 1, .list⟩) = true := by decide +kernel

theorem test_printerFault : gives (.printerFault 25) (printing 23 book.pending) (fun t =>
    t.sessionState 25 == .finished && messages t 25 == [.eject (some .printerFault)] &&
      (t.bookOf 52).map (fun b => (b.session, b.marker.isSome)) == some (none, true)) = true := by decide +kernel

theorem test_answerTimerExpiry : gives (.answerTimerExpiry 25) (printing 23 book.pending) (fun t =>
    t.sessionState 25 == .finished) = true := by decide +kernel

/-! ### Formats -/

/-- R186: the bytes of a segment sum to 0 modulo 256, its check included. -/
theorem test_segment :
    downHalfBytes ⟨3, true, false, true, false, false, [1, 2, 3, 4, 5, 6, 7, 8, 9, 10, 11, 12, 13, 14, 15, 16]⟩ =
      [5, 3, 16, 1, 2, 3, 4, 5, 6, 7, 8, 9, 10, 11, 12, 13, 14, 15, 16, 96] := by decide +kernel

/-- R186: a difference of -5 in 6 bytes of two's complement, and the largest amount in 5. -/
theorem test_halves : twosBytes 6 (-5) = [255, 255, 255, 255, 255, 251] ∧ twosValue [255, 255, 255, 255, 255, 251] = -5 ∧
    natBytes 5 9999999999 = [2, 84, 11, 227, 255] := by decide +kernel

/-- R186: a 0 goes in after five 1 bits. -/
theorem test_stuffing : stuffBits 0 (List.replicate 6 true) =
    [true, true, true, true, true, false, true] := by decide

/-! ### States and operands that meet the hypotheses of the obligations -/

theorem witness_StepRunsTheFront : (branch.push .dayClockTick).pending = [.dayClockTick] ∧ branch.pending = [] :=
  ⟨rfl, rfl⟩

theorem witness_EveryCommandCompletes : State.isRunning { branch with supply := false } = false ∧
    (∀ pins held, Instr.dayClockTick ≠ .powerOn pins held) ∧ Instr.dayClockTick ≠ .powerLoss ∧
    Instr.dayClockTick ≠ .resetPinAssert ∧ (∀ pins, Instr.dayClockTick ≠ .resetPinRelease pins) ∧
    (Instr.dayClockTick = .dayClockTick → ({ branch with supply := false } : State).supply = false) ∧
    (State.isRunning { branch with resetLow := true } = false ∧ Instr.drainEnd ≠ .dayClockTick) := by
  refine ⟨rfl, ?_, ?_, ?_, ?_, fun _ => rfl, rfl, ?_⟩ <;> simp

/-- Both stops of a running part, and of one stopped already; recovery by the supply without the battery, and by the pin on a lost store. -/
theorem witness_StopKeepsTheStore : branch.supply = true ∧ branch.resetLow = false ∧
    ({ branch with supply := false } : State).supply = false ∧ ({ branch with resetLow := true } : State).resetLow = true ∧
    (({ branch with supply := false } : State).storeValid && false) = false ∧
    ({ branch with resetLow := true, storeValid := false } : State).supply = true := by decide

/-- An online branch with a frame being sent. -/
def sending : State := online.onTkc fun k => { k with transmitter := some ⟨⟨1, 7, 0, .node (.lineEcho 1)⟩, false⟩ }

/-- Each of the three causes; a RESTART during a frame; the frame's end, at the last count below the mark. -/
theorem witness_KeptStoreIsRecovered :
    State.BeginsRecovery { branch with supply := false } (.powerOn ⟨1, 0, 0⟩ true) .powerOn ⟨1, 0, 0⟩ 0 ∧
    State.BeginsRecovery { branch with resetLow := true } (.resetPinRelease ⟨1, 0, 0⟩) .resetPin ⟨1, 0, 0⟩ 0 ∧
    online.BeginsRecovery (.restart (head 7 9) ⟨1, 0, 0⟩) .restart ⟨1, 0, 0⟩ 9 ∧ online.JournalNumbered ∧
    online.csu.drawers.map Drawer.number = List.range 25 ∧
    (sending.Receives (head 7 9) ∧ sending.restarting = none ∧ sending.tkc.transmitter.isSome = true) ∧
    ∃ s : State, s.isRunning = true ∧ s.restarting = some (9, ⟨1, 0, 0⟩) ∧ s.tkc.transmitter.isSome = true ∧
      s.storeValid = true ∧ s.dyc.day = .opened ∧ s.awaitingSeqs = [] ∧ s.jnc.counter = Config.nearFull - 2 := by
  refine ⟨⟨by decide, .inl (by decide)⟩, ⟨by decide, .inr (.inl (by decide))⟩,
    ⟨by decide, .inr (.inr ⟨head 7 9, ?_⟩)⟩, ?_, by decide, ?_,
    { sending.onJnc (fun j => { j with counter := 61437 }) with restarting := some (9, ⟨1, 0, 0⟩) }, ?_⟩
  · unfold State.Receives; decide +kernel
  · unfold State.JournalNumbered; decide +kernel
  · unfold State.Receives; decide +kernel
  · decide +kernel

/-- Drop 1 with slots 1 and 29, a message half sent, two in its queue and a status line due. -/
def talking : State := ((branch.modifyDrop 1 fun d => { d with
    begun := [⟨.notice 14 (List.replicate 20 65) (some 3), 1, false⟩]
    outbound := [.turnPage, .notice 15 (List.replicate 20 66) (some 2)], statusMark := true }).onLpc fun l =>
  { l with slotMap := l.slotMap.set 28 (some 1) }).onDyc fun y => { y with
    params := { y.params with slotMap := y.params.slotMap.set 28 (some 1) } }

/-- The same drop DEGRADED, where its first slot alone is usable. -/
def talkingLess : State := talking.modifyDrop 1 fun d => { d with state := .degraded, score := 100 }

/-- Two usable slots, and one, of a drop with more to send than they carry; the first slot goes on with the message in
transmission. -/
theorem witness_CycleIsComposed_messages : ∀ s ∈ [talking, talkingLess], s.isRunning = true ∧ s.lpc.cycle = none ∧
    s.tablesChanged = false ∧ s.lpc.loop = .running ∧ s.lpc.drops.map Drop.addr = List.range' 1 28 ∧
    s.dropAt 1 = some (dropOf s 1) ∧ (dropOf s 1).canReceive = true ∧
    s.usableSlots (dropOf s 1) = (if (dropOf s 1).state = .active then [1, 29] else [1]) ∧
    (s.toBegin (dropOf s 1)).length = 3 := by
  intro s h
  simp only [List.mem_cons, List.not_mem_nil, or_false] at h
  rcases h with rfl | rfl <;> decide +kernel

/-- The tables as they are; and a drop table that makes drop 6 a printer. -/
theorem witness_CycleIsComposed : (branch.isRunning = true ∧ branch.lpc.cycle = none ∧ branch.tablesChanged = false) ∧
    ∃ (s t : State) (d e : Drop), s.isRunning = true ∧ s.lpc.cycle = none ∧ s.dyc.params.dropTable.length = 28 ∧
      s.lpc.drops.map Drop.addr = List.range' 1 28 ∧ s.tablesChanged = true ∧ exec .cycleStart s = .next t ∧
      s.dropAt 6 = some d ∧ t.dropAt 6 = some e ∧ e.kind ≠ d.kind := by
  let s := branch.onDyc fun y => { y with params := { y.params with dropTable := y.params.dropTable.set 5 (.printer, 1) } }
  refine ⟨by decide +kernel, s, after .cycleStart s, dropOf s 6, dropOf (after .cycleStart s) 6, ?_⟩
  exact ⟨by decide +kernel, by decide +kernel, by decide +kernel, by decide +kernel, by decide +kernel, rfl,
    by decide +kernel, by decide +kernel, by decide +kernel⟩

/-- The seventh and the eighth slip in a row; a good cycle in LOOP-FAULT, the first and the second. -/
theorem witness_SlippedCycleAndLoopFault :
    ((cycling id).isRunning = true ∧ (cycling id).lpc.cycle.isSome = true ∧ (cycling id).lpc.loop = .running ∧
      ((goodCycle []).markerInPlace && ({ goodCycle [] with inTime := false }).inTime) = false ∧
      6 + 1 < 8 ∧ 8 ≤ 7 + 1) ∧
    ((cycling id).onLpc fun l => { l with loop := .loopFault, goodRun := 1 }).lpc.loop = .loopFault ∧
    (goodCycle []).markerInPlace = true ∧ (goodCycle []).inTime = true := by decide +kernel

/-- Both outcomes of slot 1: no reply, and a clean empty segment. -/
theorem witness_GoodCycleScores : (cycling id).isRunning = true ∧ (cycling id).lpc.cycle.isSome = true ∧
    (cycling id).lpc.loop = .running ∧ (cycling id).lpc.drops.map Drop.addr = List.range' 1 28 ∧
    (cycling id).dropAt 1 = some (dropOf branch 1) ∧ (dropOf branch 1).state = .active ∧
    mappedSlots branch.lpc.slotMap 1 = [1] ∧ Machine.cleanHalf 1 [] = false ∧
    Machine.cleanHalf 1 (cleanHalf 1 32) = true ∧ upEmpty (cleanHalf 1 32) = true := by decide +kernel

/-- Slots 1 and 29 of drop 1, and a cycle on the ring. -/
def twoSlots (f : Drop → Drop) : State := (cycling f).onLpc fun l => { l with slotMap := l.slotMap.set 28 (some 1) }

/-- An ACTIVE and a DEGRADED drop of two slots; the 31st and the 32nd clean probe of a FENCED one with SELF-FAULT off,
its teller SUSPENDED; and a held reply that waits for the next cycle. -/
theorem witness_GoodCycleScores_more :
    ((twoSlots id).Scores (goodCycle (cleanHalf 1 32)) 1 (dropOf (twoSlots id) 1) ∧
      mappedSlots (twoSlots id).lpc.slotMap 1 = [1, 29] ∧ (dropOf (twoSlots id) 1).state = .active) ∧
    (∃ d, (twoSlots fun d => { d with state := .degraded, score := 96 }).Scores (goodCycle (cleanHalf 1 32)) 1 d ∧
      d.state = .degraded) ∧
    (∀ run ∈ [(30 : Nat), 31], ∃ (s : State) (d : Drop), s.Scores (goodCycle (cleanHalf 1 32)) 1 d ∧ d.state = .fenced ∧
      mappedSlots s.lpc.slotMap 1 = [1, 29] ∧ d.probeRun = run ∧ Machine.cleanHalf 1 (cleanHalf 1 32) = true ∧
      (d.sigs.selfFault.sample (upSignals (cleanHalf 1 32)).selfFault).confirmed = false ∧ d.kind = .teller ∧
      (s.tellerOf 1).map Teller.session = some .suspended) ∧
    (∀ m, m ≠ 1 → Machine.cleanHalf m (([cleanHalf 1 32] : List (List Byte)).getD (m - 1) []) = false) ∧
    ∃ (s : State) (d : Drop), s.isRunning = true ∧ s.lpc.cycle = none ∧ s.tablesChanged = false ∧
      s.lpc.loop = .running ∧ s.lpc.drops.map Drop.addr = List.range' 1 28 ∧ s.dropAt 1 = some d ∧ d.canReceive = true ∧
      mappedSlots s.lpc.slotMap 1 = [1] ∧ d.begun.any Begun.unsent = false ∧ d.held = some .turnPage := by
  refine ⟨?_, ⟨dropOf (twoSlots fun d => { d with state := .degraded, score := 96 }) 1, ?_⟩, ?_, ?_,
    ⟨branch.modifyDrop 1 fun d => { d with held := some .turnPage },
      dropOf (branch.modifyDrop 1 fun d => { d with held := some .turnPage }) 1, by decide +kernel⟩⟩
  · unfold State.Scores; decide +kernel
  · unfold State.Scores; decide +kernel
  · intro run h
    let s := (twoSlots fun d => { d with state := .fenced, score := 200, probeRun := run }).modifyTeller 1 fun x =>
      { x with session := .suspended }
    refine ⟨s, dropOf s 1, ?_⟩
    unfold State.Scores
    simp only [List.mem_cons, List.not_mem_nil, or_false] at h
    rcases h with rfl | rfl <;> decide +kernel
  · rintro (_ | _ | m) h
    · decide +kernel
    · exact absurd rfl h
    · simp [Machine.cleanHalf, upFilled, byteAt]

/-- The drawer of drop 6 announced open, with the release outstanding and without; a printer with a book; and drops
that are ACTIVE already. -/
theorem witness_AnnounceJoinsOrRestarts : branch.isRunning = true ∧ branch.lpc.loop = .running ∧
    ((dropOf branch 6).state = .absent ∧ (dropOf branch 6).kind = .teller ∧ (dropOf branch 6).release = false ∧
      (dropOf branch 6).sigs.drawerOpen.confirmed = false ∧ (firstSlot branch.lpc.slotMap 6).isSome = true ∧
      branch.journalTakes (.drawerAlert none) = true ∧ State.reset.journalTakes (.drawerAlert none) = false) ∧
    ((dropOf branch 27).state = .absent ∧ (dropOf branch 27).kind = .printer ∧
      (branch.sessionOf 27).any (fun x => x.state == .idle) = true ∧
      (dropOf branch 27).sigs.bookIn.confirmed = false) ∧
    ((dropOf branch 1).canReceive = true ∧ (dropOf branch 1).kind = .teller) ∧
    ((dropOf branch 25).canReceive = true ∧ (dropOf branch 25).kind = .printer ∧ (branch.sessionOf 25).isSome = true ∧
      (dropOf branch 25).sigs.bookIn.confirmed = true ∧ (dropOf branch 26).sigs.bookIn.confirmed = false) ∧
    (branch.dropAt 6 = some (dropOf branch 6) ∧ (dropOf branch 6).kind ≠ .printer ∧
      firstSlot (branch.lpc.slotMap.set 5 none) 6 = none) := by
  decide +kernel

theorem witness_NoticeNextAnswers : noticed.Hears 1 (dropOf noticed 1) := by unfold State.Hears; decide +kernel

/-- A branch whose drop 1 has its key off, and one whose drop 1 has nobody signed on. -/
def keyOff : State := branch.modifyDrop 1 fun d => { d with sigs := { d.sigs with keyOperate := ⟨false, none⟩ } }

/-- Key off; nobody signed on; a teller who is no supervisor, and one in training; a queue of 3 messages; a drop
with a work item; a session that is SUSPENDED; and a trainee who is ACTIVE. -/
theorem witness_RequestsNeedTheirSender :
    (requestOf (.signOff 1) = some 1 ∧ keyOff.Hears 1 (dropOf keyOff 1) ∧
      (dropOf keyOff 1).sigs.keyOperate.confirmed = false) ∧
    ((signedOff 0 .signedOff).Hears 1 (dropOf branch 1) ∧ (signedOff 0 .signedOff).tellerAt 1 = none) ∧
    (supervisorRequest (.unlock 1 2) = true ∧ branch.Attends 1 (dropOf branch 1) (tellerNo branch 1) ∧
      (tellerNo branch 1).supervises = false) ∧
    (∃ s x, State.Attends s 1 (dropOf s 1) x ∧ x.supervises = true ∧ x.training = true) ∧
    (∃ s d, State.dropAt s 1 = some d ∧ d.kind = .teller ∧ d.canReceive = true ∧ d.outbound.length = 3) ∧
    (∃ s d, State.dropAt s 25 = some d ∧ d.kind = .printer ∧ d.canReceive = true ∧ d.outbound.length = 4 ∧
      printerMessageOf (.pageReady 25) = some 25) ∧
    (∃ s x, State.Attends s 1 (dropOf s 1) x ∧ x.session = .active ∧ s.hasWork 1 = true ∧ x.training = false ∧
      requestOf (.transferAccept 1 4) = some 1 ∧ cashRequest (.transferAccept 1 4) = true) ∧
    (∃ s x, State.Attends s 1 (dropOf s 1) x ∧ x.session ≠ .active) ∧
    ∃ x, branch.Attends 5 (dropOf branch 5) x ∧ x.session = .active ∧ x.training = true := by
  let away := branch.modifyTeller 1 fun x => { x with session := .suspended }
  let full := fun (a n : Nat) => branch.modifyDrop a fun d => { d with outbound := List.replicate n .turnPage }
  let trainee := branch.modifyTeller 1 fun x => { x with role := .supervisor, training := true }
  let busy := withTxn branch (heldTxn 1)
  refine ⟨?_, ?_, ?_, ⟨trainee, tellerNo trainee 1, ?_⟩, ⟨full 1 3, dropOf (full 1 3) 1, by decide +kernel⟩,
    ⟨full 25 4, dropOf (full 25 4) 25, by decide +kernel⟩, ⟨busy, tellerNo busy 1, ?_⟩,
    ⟨away, tellerNo away 1, ?_⟩, ⟨tellerNo branch 5, ?_⟩⟩ <;>
    (try unfold State.Attends) <;> unfold State.Hears <;> decide +kernel

/-- A request for a code that is UNUSED; an amount off the unit; an account too long; one of a day that is not open. -/
theorem witness_EarlyChecksRefuse : branch.Asks 1 (dropOf branch 1) (tellerNo branch 1) ∧
    branch.earlyRefusal (tellerNo branch 1) (ask 9 none none) = some (.unknownCode, none) ∧
    branch.earlyRefusal (tellerNo branch 1) ⟨.value 3, none, .absent, .value 12301⟩ =
      some (.amountUnit, some ⟨.foreign, .cashIn, some 12301⟩) ∧
    branch.earlyRefusal (tellerNo branch 1) (ask 1 (some 1000000000000) (some 5)) = some (.routeRefused, none) ∧
    (branch.onDyc fun y => { y with day := .closeDrain }).earlyRefusal (tellerNo branch 1) (ask 0 none (some 1)) =
      some (.dayClosing, none) ∧
    (waiting branch).noneUndecided = false := by
  unfold State.Asks State.Attends State.Hears; decide +kernel

/-- Drop 1's LOCAL cash-in at the largest amount compared that the teller may handle alone. -/
def localTxn : Txn := { newTxn 1 (tellerNo branch 1) (ask 0 none (some 500000)) with
  defIndex := 0, defn := some (homeDef .cashIn .noAccount .localOnly), routing := .localOnly
  legs := [⟨.home, .cashIn, 500000⟩], drawer := some 1 }

theorem cleared_localTxn : branch.Cleared 1 (dropOf branch 1) (tellerNo branch 1) (ask 0 none (some 500000)) localTxn
    (homeDef .cashIn .noAccount .localOnly) where
  passed := by decide +kernel
  definition := by decide +kernel
  amounts := by decide +kernel
  account := by decide +kernel
  routing := by decide +kernel
  item := by decide +kernel
  working := by decide +kernel
  inClass := by decide +kernel
  inLimit := by
    intro n h
    have : amountCompared localTxn.legs = some 500000 := by decide +kernel
    rw [this] at h
    cases h
    decide +kernel
  room := by decide +kernel
  cash := by
    rw [if_pos (by decide)]
    exact ⟨1, drawerNo branch 1, by decide +kernel, by decide, rfl, by decide +kernel, by decide +kernel,
      by decide +kernel⟩

theorem asks_branch : branch.Asks 1 (dropOf branch 1) (tellerNo branch 1) := by
  unfold State.Asks State.Attends State.Hears; decide +kernel

theorem witness_LocalTransactionIsPosted : ∃ a d x f y g, branch.Asks a d x ∧ branch.Cleared a d x f y g ∧
    y.routing = .localOnly ∧ branch.isNewBook g = false ∧ branch.jnc.postingsClosed = false :=
  ⟨1, _, _, _, _, _, asks_branch, cleared_localTxn, by decide +kernel⟩

/-- The NEW-BOOK definition of the passbook class, under code and index 5. -/
def newBookDef : Definition := ⟨15, .noCash, .noAccount, .localOnly, .home, false, false, .own, [78]⟩

/-- A branch with it, and the passbook part of account 52 as told. -/
def renewing (b : Option Passbook) : State := (branch.onRqu fun r => { r with
  codeMap := r.codeMap ++ [(5, 5)], definitions := r.definitions ++ [(5, newBookDef)] }).modifySat 52 fun e =>
    { e with book := b }

/-- Drop 1's NEW-BOOK for account 52. -/
def newBookTxn : Txn := { newTxn 1 (tellerNo branch 1) (ask 5 (some 52) none) with
  defIndex := 5, defn := some newBookDef, routing := .localOnly, account := some 52 }

theorem test_newBook : gives (.txnRequest 1 (ask 5 (some 52) none)) (renewing (some book)) (fun t =>
    outcomeAt t 1 == some .done && (t.bookOf 52).map (fun b => (b.next, b.pending.length, b.lineBalance)) ==
      some (.line 1 1, 4, 620000)) = true := by decide +kernel

theorem cleared_newBook (b : Option Passbook) (h : b ∈ [none, some { book with session := some 25 }, some book]) :
    (renewing b).Cleared 1 (dropOf branch 1) (tellerNo branch 1)
    (ask 5 (some 52) none) newBookTxn newBookDef where
  passed := by
    simp only [List.mem_cons, List.not_mem_nil, or_false] at h
    rcases h with rfl | rfl | rfl <;> decide +kernel
  definition := rfl
  amounts := rfl
  account := rfl
  routing := rfl
  item := rfl
  working := rfl
  inClass := .inl rfl
  inLimit n h := by cases h
  room := by
    simp only [List.mem_cons, List.not_mem_nil, or_false] at h
    rcases h with rfl | rfl | rfl <;> decide +kernel
  cash := by rw [if_neg (by decide)]; rfl

/-- No passbook part; one with its session flag set; and one that is renewed. -/
theorem witness_LocalTransactionIsPosted_newBook : ∀ b ∈ [none, some { book with session := some 25 }, some book],
    (renewing b).Asks 1 (dropOf branch 1) (tellerNo branch 1) ∧
    (renewing b).Cleared 1 (dropOf branch 1) (tellerNo branch 1) (ask 5 (some 52) none) newBookTxn newBookDef ∧
    newBookTxn.routing = .localOnly ∧ (renewing b).isNewBook newBookDef = true ∧ newBookDef.mode = .home ∧
    newBookTxn.account = some 52 ∧ (renewing b).bookOf 52 = b ∧ (renewing b).jnc.postingsClosed = false := by
  intro b h
  refine ⟨?_, cleared_newBook b h, ?_⟩
  · unfold State.Asks State.Attends State.Hears
    simp only [List.mem_cons, List.not_mem_nil, or_false] at h
    rcases h with rfl | rfl | rfl <;> decide +kernel
  · simp only [List.mem_cons, List.not_mem_nil, or_false] at h
    rcases h with rfl | rfl | rfl <;> decide +kernel

/-- A request of drop 1 for its account 11 under definition `n`, with home legs. -/
def askTxn (n amount : Nat) (g : Definition) (legs : List Leg) : Txn :=
  { newTxn 1 (tellerNo branch 1) (ask n (some 11) (some amount)) with
    defIndex := n, defn := some g, routing := g.routing, account := some 11, legs := legs, drawer := some 1 }

/-- The withdrawal of 200,000 from account 11 takes all of its stand-in limit; link states differ as told. -/
theorem cleared_withdrawal (k : LinkState) : (online.onTkc fun t => { t with link := k }).Cleared 1 (dropOf branch 1)
    (tellerNo branch 1) (ask 1 (some 11) (some 200000))
    (askTxn 1 200000 (homeDef .cashOut .debit .standInAllowed) (withdrawal 200000))
    (homeDef .cashOut .debit .standInAllowed) where
  passed := by cases k <;> decide +kernel
  definition := by cases k <;> decide +kernel
  amounts := by cases k <;> decide +kernel
  account := by cases k <;> decide +kernel
  routing := by cases k <;> decide +kernel
  item := by decide +kernel
  working := by decide +kernel
  inClass := by decide +kernel
  inLimit := by
    intro n h
    have : amountCompared (withdrawal 200000) = some 200000 := by decide +kernel
    cases this.symm.trans h
    decide +kernel
  room := by cases k <;> decide +kernel
  cash := by
    rw [if_pos (by decide)]
    refine ⟨1, drawerNo branch 1, by decide +kernel, by decide, rfl, ?_, by decide +kernel, by decide +kernel⟩
    cases k <;> decide +kernel

theorem asks_link (k : LinkState) : (online.onTkc fun t => { t with link := k }).Asks 1 (dropOf branch 1)
    (tellerNo branch 1) := by
  unfold State.Asks State.Attends State.Hears; cases k <;> decide +kernel

/-- With a slot FREE, with none, and on a SUSPECT link. -/
theorem witness_OnlineTransactionIsForwarded : (∃ s a d x f y g, State.Asks s a d x ∧ s.Cleared a d x f y g ∧
      y.routing ≠ .localOnly ∧ s.tkc.link = .online ∧ s.lowestFree = some 0) ∧
    (∃ s a d x f y g, State.Asks s a d x ∧ s.Cleared a d x f y g ∧ y.routing ≠ .localOnly ∧ s.tkc.link = .suspect) ∧
    ((online.onTkc fun t => { t with slots := t.slots.map fun x => { x with state := .await } }).lowestFree = none) :=
  ⟨⟨_, _, _, _, _, _, _, asks_link .online, cleared_withdrawal .online, by decide +kernel⟩,
    ⟨_, _, _, _, _, _, _, asks_link .suspect, cleared_withdrawal .suspect, by decide +kernel⟩, by decide +kernel⟩

/-- The online-only deposit of drop 1 while the link is OFFLINE. -/
theorem cleared_onlineOnly : branch.Cleared 1 (dropOf branch 1) (tellerNo branch 1) (ask 2 (some 11) (some 500))
    (askTxn 2 500 (homeDef .cashIn .credit .onlineOnly) (deposit 500)) (homeDef .cashIn .credit .onlineOnly) where
  passed := by decide +kernel
  definition := by decide +kernel
  amounts := by decide +kernel
  account := by decide +kernel
  routing := by decide +kernel
  item := by decide +kernel
  working := by decide +kernel
  inClass := by decide +kernel
  inLimit := by
    intro n h
    have : amountCompared (deposit 500) = some 500 := by decide +kernel
    cases this.symm.trans h
    decide +kernel
  room := by decide +kernel
  cash := by
    rw [if_pos (by decide)]
    exact ⟨1, drawerNo branch 1, by decide +kernel, by decide, rfl, by decide +kernel, by decide +kernel,
      by decide +kernel⟩

/-- ONLINE-ONLY while OFFLINE; a withdrawal of exactly the limit left; the last place for a posting advice. -/
theorem witness_StandInIsPosted : (∃ s a d x f y g, State.Asks s a d x ∧ s.Cleared a d x f y g ∧
      s.tkc.link = .offline ∧ y.routing = .onlineOnly) ∧
    (∃ s a d x f y g e l, State.Asks s a d x ∧ s.Cleared a d x f y g ∧ s.tkc.link = .resync ∧
      y.routing = .standInAllowed ∧ y.account = some 11 ∧ accountLeg y.legs = some l ∧ s.satAt 11 = some e ∧
      e.kind = .full ∧ e.blocked = false ∧ l.kind = .accountDebit ∧ e.used + l.amount = e.limit ∧
      (l.amount : Int) ≤ e.snapshot ∧ s.siu.sfq.length < 2040 ∧ s.jnc.postingsClosed = false) :=
  ⟨⟨_, _, _, _, _, _, _, asks_branch, cleared_onlineOnly, by decide +kernel⟩,
    ⟨_, _, _, _, _, _, _, account 11 300000 200000, ⟨.home, .accountDebit, 200000⟩, asks_link .resync,
      cleared_withdrawal .resync, by decide +kernel⟩⟩

/-- The branch with the SAT entry of account 11 and the SFQ as told. -/
def standing (e : SatEntry) (queued : Nat) : State := (branch.modifySat 11 fun _ => e).onSiu fun u =>
  { u with sfq := List.replicate queued ⟨701, .posting⟩ }

/-- The withdrawal of 200,000 from account 11 while the link is OFFLINE passes the checks before those of stand-in. -/
theorem cleared_standing (e : SatEntry) (n : Nat)
    (h : (e, n) ∈ [({ account 11 0 0 with kind := .pendingOnly }, 0), ({ account 11 500000 500000 with blocked := true }, 0),
      (account 11 500000 199999, 0), (account 11 199999 200000, 0), (account 11 200000 200000, 2040)]) :
    (standing e n).Asks 1 (dropOf branch 1) (tellerNo branch 1) ∧
    (standing e n).Cleared 1 (dropOf branch 1) (tellerNo branch 1) (ask 1 (some 11) (some 200000))
      (askTxn 1 200000 (homeDef .cashOut .debit .standInAllowed) (withdrawal 200000))
      (homeDef .cashOut .debit .standInAllowed) := by
  refine ⟨asks_branch, ⟨?_, rfl, rfl, rfl, rfl, rfl⟩, by decide +kernel, by decide +kernel, ?_, ?_, ?_⟩
  · simp only [List.mem_cons, List.not_mem_nil, or_false] at h
    rcases h with h | h | h | h | h <;> cases h <;> decide +kernel
  · intro k hk
    have : amountCompared (withdrawal 200000) = some 200000 := by decide +kernel
    cases this.symm.trans hk
    decide +kernel
  · exact (by decide +kernel : branch.jnc.counter < 65279)
  · rw [if_pos (by decide)]
    exact ⟨1, drawerNo branch 1, by decide +kernel, by decide, rfl,
      (by decide +kernel : branch.drawerAt 1 = some (drawerNo branch 1)), by decide +kernel, by decide +kernel⟩

/-- An account pending alone, a blocked one, a limit and a snapshot one too small, and the SFQ's last place taken. -/
theorem witness_StandInIsPosted_refused : branch.tkc.link = .offline ∧
    accountLeg (withdrawal 200000) = some ⟨.home, .accountDebit, 200000⟩ ∧
    (homeDef .cashOut .debit .standInAllowed).routing = .standInAllowed ∧
    (standing { account 11 0 0 with kind := .pendingOnly } 0).standInFails 11 ⟨.home, .accountDebit, 200000⟩ =
      some .noAccount ∧
    (standing { account 11 500000 500000 with blocked := true } 0).standInFails 11 ⟨.home, .accountDebit, 200000⟩ =
      some .accountBlocked ∧
    (standing (account 11 500000 199999) 0).standInFails 11 ⟨.home, .accountDebit, 200000⟩ = some .standInLimit ∧
    (standing (account 11 199999 200000) 0).standInFails 11 ⟨.home, .accountDebit, 200000⟩ =
      some .insufficientBalance ∧
    (standing (account 11 200000 200000) 2040).standInFails 11 ⟨.home, .accountDebit, 200000⟩ = some .safFull ∧
    (standing (account 11 200000 200000) 2039).standInFails 11 ⟨.home, .accountDebit, 200000⟩ = none := by
  decide +kernel

/-- A home definition that asks for a passbook line. -/
def lined : Definition := { homeDef .cashOut .debit .standInAllowed with passbookLine := true }

/-- The line of a withdrawal of 200,000; a line balance with room for it, and one without. -/
theorem witness_passbookLine :
    passbookLine lined (withdrawal 200000) (some ⟨2024, 2, 29⟩) .standIn 1 =
      some ⟨some ⟨2024, 2, 29⟩, .text [65], 1, -200000, .standIn, some 1⟩ ∧
    gives (.txnRequest 1 (ask 1 (some 11) (some 200000)))
      ((standing { account 11 200000 200000 with book := some { book with pending := [] } } 0).onRqu fun r =>
        { r with definitions := r.definitions.map fun x => if x.1 = 1 then (1, lined) else x })
      (fun t => (t.bookOf 11).map (fun b => (b.lineBalance, b.pending.map Line.amount)) == some (420000, [-200000])) =
      true ∧
    gives (.txnRequest 1 (ask 1 (some 11) (some 200000)))
      ((standing { account 11 200000 200000 with book := some { book with lineBalance := -999999999800000 } } 0).onRqu
        fun r => { r with definitions := r.definitions.map fun x => if x.1 = 1 then (1, lined) else x })
      (fun t => (t.bookOf 11).map Passbook.lineBalance == some (-999999999800000) &&
        t.tkc.nodeQueue.contains ⟨0, .nodeStatus (.passbookRange 11)⟩) = true := by
  decide +kernel

/-- A withdrawal one above the teller's limit. -/
theorem witness_OverrideHolds : ∃ s a d x f y g, ∃ r : HoldReason, State.Asks s a d x ∧ s.Checked a x f y g ∧ y.drawer = none ∧
    x.training = false ∧ r = x.holdReason g y.legs ∧ r.amount = true ∧ (r.cls || r.amount) = true := by
  refine ⟨branch, 1, _, _, ask 1 (some 11) (some 500001),
    { askTxn 1 500001 (homeDef .cashOut .debit .standInAllowed) (withdrawal 500001) with drawer := none },
    homeDef .cashOut .debit .standInAllowed, ⟨false, true⟩, asks_branch, ⟨?_, ?_, ?_, ?_, ?_, ?_⟩, ?_⟩ <;>
    decide +kernel

/-- The work item of a request of the trainee at drop 5. -/
def practice (n amount : Nat) (acct : Option Nat) (g : Definition) (legs : List Leg) : Txn :=
  { newTxn 5 (tellerNo branch 5) (ask n acct (some amount)) with
    defIndex := n, defn := some g, routing := g.routing, account := acct, legs := legs }

/-- A LOCAL request at the trainee's limit, one of each other routing, and a stand-in withdrawal above the limit. -/
theorem witness_TrainingMovesNothing : branch.Attends 5 (dropOf branch 5) (tellerNo branch 5) ∧
    branch.Asks 5 (dropOf branch 5) (tellerNo branch 5) ∧ (tellerNo branch 5).training = true ∧
    branch.Checked 5 (tellerNo branch 5) (ask 0 none (some 500000))
      (practice 0 500000 none (homeDef .cashIn .noAccount .localOnly) [⟨.home, .cashIn, 500000⟩])
      (homeDef .cashIn .noAccount .localOnly) ∧
    branch.Checked 5 (tellerNo branch 5) (ask 2 (some 11) (some 1))
      (practice 2 1 (some 11) (homeDef .cashIn .credit .onlineOnly) (deposit 1)) (homeDef .cashIn .credit .onlineOnly) ∧
    branch.Checked 5 (tellerNo branch 5) (ask 1 (some 11) (some 500001))
      (practice 1 500001 (some 11) (homeDef .cashOut .debit .standInAllowed) (withdrawal 500001))
      (homeDef .cashOut .debit .standInAllowed) ∧
    (tellerNo branch 5).holdReason (homeDef .cashOut .debit .standInAllowed) (withdrawal 500001) = ⟨false, true⟩ ∧
    branch.standInFails 11 ⟨.home, .accountDebit, 500001⟩ = some .standInLimit ∧
    branch.standInFails 11 ⟨.home, .accountDebit, 200000⟩ = none ∧
    branch.tkc.link = .offline ∧ online.tkc.link = .online := by
  refine ⟨by unfold State.Attends State.Hears; decide +kernel,
    by unfold State.Asks State.Attends State.Hears; decide +kernel, by decide +kernel, ⟨?_, ?_, ?_, ?_, ?_, ?_⟩,
    ⟨?_, ?_, ?_, ?_, ?_, ?_⟩, ⟨?_, ?_, ?_, ?_, ?_, ?_⟩, ?_⟩ <;> decide +kernel

/-- R31: TRAINING-OK carries the route and the reason of the override there would have been. -/
theorem test_training : gives (.txnRequest 5 (ask 1 (some 11) (some 500001)))
    { online with siu := { online.siu with sat := [account 11 600000 600000] } } (fun t =>
      match messages t 5 with
      | [.final r] => r.result == .trainingOk && r.route == some .online && r.wouldHold == some ⟨false, true⟩
      | _ => false) = true := by decide +kernel

theorem supervises_branch : branch.Supervises 3 (dropOf branch 3) (tellerNo branch 3) := by
  unfold State.Supervises State.Attends State.Hears; decide +kernel

theorem supervises_withTxn (t : Txn) : (withTxn branch t).Supervises 3 (dropOf branch 3) (tellerNo branch 3) :=
  supervises_branch

/-- A hold of exactly the supervisor's limit. -/
theorem witness_GrantReentersThePath : ∃ s d sup y g, State.Supervises s 3 d sup ∧ s.txnAt 1 = some y ∧
    y.stage = .held ∧ y.teller ≠ sup.number ∧ y.defn = some g ∧ y.reason.any (fun r => r.amount) = true ∧
    y.compared = some sup.cashLimit :=
  ⟨_, _, _, heldTxn 500000, homeDef .cashOut .debit .onlineOnly, supervises_withTxn (heldTxn 500000), by decide +kernel⟩

theorem witness_HoldEndsWithoutAGrant : ∃ s e y, State.isRunning s = true ∧ s.lpc.loop = .running ∧
    s.dropAt 1 = some e ∧ e.canReceive = true ∧ e.outbound.length < 3 ∧ s.txnAt 1 = some y ∧ y.stage = .held ∧
    y.drop = 1 ∧ s.dyc.day = .opened ∧ (∃ d sup, s.Supervises 3 d sup ∧ y.teller ≠ sup.number) ∧
    y.holdTimer ≠ .stopped ∧ ∃ x, s.Attends 1 e x := by
  refine ⟨withTxn branch (heldTxn 1), dropOf branch 1, heldTxn 1, by decide +kernel, by decide +kernel,
    by decide +kernel, by decide +kernel, by decide +kernel, by decide +kernel, by decide +kernel, by decide +kernel,
    by decide +kernel, ⟨_, _, supervises_withTxn _, by decide +kernel⟩, by decide +kernel, tellerNo branch 1, ?_⟩
  unfold State.Attends State.Hears; decide +kernel

/-- No item; one on the trunk; one in the wait list; one queued with the link ONLINE and another drop waiting. -/
theorem witness_CancelWithdraws : branch.Attends 1 (dropOf branch 1) (tellerNo branch 1) ∧ branch.txnAt 1 = none ∧
    (∃ s x y, State.Attends s 1 (dropOf s 1) x ∧ s.txnAt 1 = some y ∧ y.stage = .onTrunk) ∧
    (∃ s x y, State.Attends s 1 (dropOf s 1) x ∧ s.txnAt 1 = some y ∧ y.drop = 1 ∧ s.dyc.day = .opened ∧
      y.stage = .waitListed) ∧
    ∃ s x y, State.Attends s 1 (dropOf s 1) x ∧ s.txnAt 1 = some y ∧ y.drop = 1 ∧ s.dyc.day = .opened ∧
      y.stage = .queued ∧ y.slot = some 0 ∧ s.tkc.link = .online ∧ s.rqu.waitList = [2] ∧ s.lowestFree = none ∧
      (s.slotAt 0).isSome = true := by
  let trunk := onTrunk .cashIn .credit (deposit 1) 2
  let crowded := (queued.onTkc fun k => { k with slots := k.slots.map fun x =>
    if x.number = 0 then x else { x with state := .await } }).onRqu fun r => { r with waitList := [2] }
  have t1 : tellerNo branch 1 = teller 1 .teller (some 1) := by decide +kernel
  refine ⟨?_, by decide +kernel, ⟨trunk, tellerNo branch 1, (trunk.txnAt 1).getD localTxn, ?_⟩,
    ⟨waiting branch, tellerNo branch 1, ((waiting branch).txnAt 1).getD localTxn, ?_⟩,
    ⟨crowded, tellerNo branch 1, (crowded.txnAt 1).getD localTxn, ?_⟩⟩ <;>
    unfold State.Attends State.Hears <;> decide +kernel

/-- A running branch in a day state. -/
def inDay (s : State) (day : DayState) : State := s.onDyc fun y => { y with day := day }

/-- A branch whose journal has a used count. -/
def counting (s : State) (n : Nat) : State := s.onJnc fun j => { j with counter := n }

/-- A sign-on with the last reserve sequence; one in each refused day; at a drop in use; of an unknown, a locked, a
signed-on teller; a second and a third wrong check value; a drawer that another holds; and an exhausted journal. -/
theorem witness_SignOnBeginsOrIsRefused :
    (∃ s : State, s.Hears 1 (dropOf branch 1) ∧ (dropOf branch 1).sigs.keyOperate.confirmed = true ∧
      s.dyc.day = .opened ∧ s.tellerAt 1 = none ∧ s.tellerOf 1 = some (tellerNo s 1) ∧
      (tellerNo s 1).session = .signedOff ∧ 7 = (tellerNo s 1).check ∧ (tellerNo s 1).drawer = some 1 ∧
      s.holderOf 1 = none ∧ s.jnc.counter = 65534 ∧ s.SessionRoom (tellerNo s 1)) ∧
    ((inDay branch .noDay).Hears 1 (dropOf branch 1) ∧ (inDay branch .closeProposed).Hears 1 (dropOf branch 1)) ∧
    (branch.Hears 1 (dropOf branch 1) ∧ (branch.tellerAt 1).isSome = true) ∧
    (∃ s : State, s.Hears 1 (dropOf branch 1) ∧ s.tellerAt 1 = none ∧ s.tellerOf 9 = none ∧
      s.tellerOf 1 = some (tellerNo s 1) ∧ (tellerNo s 1).session = .lockedOut ∧
      s.tellerOf 2 = some (tellerNo s 2) ∧ (tellerNo s 2).signedOn = true) ∧
    ((tellerNo (signedOff 1 .signedOff) 1).failures < 2 ∧ ¬ (tellerNo (signedOff 2 .signedOff) 1).failures < 2 ∧
      8 ≠ (tellerNo (signedOff 2 .signedOff) 1).check) ∧
    (∃ (s : State) (x w : Teller), s.Hears 1 (dropOf branch 1) ∧ s.dyc.day = .opened ∧ s.tellerAt 1 = none ∧
      s.tellerOf 1 = some x ∧ x.session = .signedOff ∧ 7 = x.check ∧ x.training = false ∧ x.drawer = some 2 ∧
      s.holderOf 2 = some w ∧ w.number ≠ x.number) ∧
    ∃ s : State, s.Hears 1 (dropOf branch 1) ∧ s.tellerAt 1 = none ∧ s.holderOf 1 = none ∧ s.jnc.counter = 65535 := by
  let taken := (signedOff 0 .signedOff).modifyTeller 1 fun x => { x with drawer := some 2 }
  refine ⟨⟨counting (signedOff 0 .signedOff) 65534, ?_⟩, ?_, ?_, ⟨signedOff 3 .lockedOut, ?_⟩, by decide +kernel,
    ⟨taken, tellerNo taken 1, tellerNo taken 2, ?_⟩, ⟨counting (signedOff 0 .signedOff) 65535, ?_⟩⟩ <;>
    (try unfold State.SessionRoom) <;> unfold State.Hears <;> decide +kernel

/-- A work item; a drawer that is DUE in BALANCING; the last reserve sequence; and the two sign-offs by force. -/
theorem witness_SignOffEnds :
    (∃ s x, State.Attends s 1 (dropOf s 1) x ∧ s.hasWork 1 = true) ∧
    (∃ s x w, State.Attends s 1 (dropOf s 1) x ∧ s.hasWork 1 = false ∧ s.dyc.day = .balancing ∧
      x.heldDrawer = some 1 ∧ s.drawerAt 1 = some w ∧ w.balance ≠ .balanced) ∧
    (∃ s x, State.Attends s 1 (dropOf s 1) x ∧ s.hasWork 1 = false ∧ s.dyc.day = .opened ∧ s.jnc.counter = 65534 ∧
      s.SessionRoom x) ∧
    (∃ s sup x y, State.Supervises s 3 (dropOf s 3) sup ∧ s.tellerOf 1 = some x ∧ x.signedOn = true ∧
      x.station = some 1 ∧ (dropOf s 1).kind = .teller ∧ s.txnAt 1 = some y ∧ y.stage ≠ .answered) ∧
    ∃ s sup x y, State.Supervises s 3 (dropOf s 3) sup ∧ s.tellerOf 1 = some x ∧ x.signedOn = true ∧
      x.station = some 1 ∧ (dropOf s 1).kind = .teller ∧ s.txnAt 1 = some y ∧ y.stage = .answered ∧
      s.SessionRoom x := by
  let done := withTxn branch { heldTxn 1 with stage := .answered }
  refine ⟨⟨withTxn branch (heldTxn 1), tellerNo branch 1, ?_⟩,
    ⟨balancing 700000, tellerNo branch 1, drawerNo (balancing 700000) 1, ?_⟩,
    ⟨counting branch 65534, tellerNo branch 1, ?_⟩,
    ⟨withTxn branch (heldTxn 1), tellerNo branch 3, tellerNo branch 1, heldTxn 1, supervises_withTxn _, ?_⟩,
    ⟨done, tellerNo branch 3, tellerNo branch 1, { heldTxn 1 with stage := .answered }, supervises_withTxn _, ?_⟩⟩ <;>
    (try unfold State.Attends State.Hears) <;> (try unfold State.SessionRoom) <;> decide +kernel

/-- An unknown teller, a teller signed on, and a LOCKED-OUT one. -/
theorem witness_UnlockFreesATeller : branch.Supervises 3 (dropOf branch 3) (tellerNo branch 3) ∧
    branch.tellerOf 9 = none ∧ (tellerNo branch 1).session ≠ .lockedOut ∧
    (signedOff 3 .lockedOut).Supervises 3 (dropOf branch 3) (tellerNo branch 3) ∧
    (signedOff 3 .lockedOut).tellerOf 1 = some (tellerNo (signedOff 3 .lockedOut) 1) ∧
    (tellerNo (signedOff 3 .lockedOut) 1).session = .lockedOut := by
  unfold State.Supervises State.Attends State.Hears; decide +kernel

/-- All of drawer 1's home cash given with the last ordinary sequence; the accept and both recalls of entry 4. -/
theorem witness_TransfersMoveCash :
    (∃ s x w v, State.Holds s 1 (dropOf s 1) x 1 w ∧ s.drawerAt 0 = some v ∧ v.assigned.isSome = true ∧
      s.dyc.day = .opened ∧ s.csu.transit.length < 16 ∧ (700000 : Int) = (w.sums .home).position ∧
      (w.sums .home).transferOut + 700000 ≤ 999999999999 ∧ s.jnc.counter = 65278 ∧ s.TransferRoom ∧
      s.csu.TransitSound) ∧
    (∃ s x w e, State.Holds s 4 (dropOf s 4) x 0 w ∧ s.transitAt 4 = some e ∧ e.target = 0 ∧
      (w.sums e.currency).position + e.amount ≤ 999999999999 ∧
      (w.sums e.currency).transferIn + e.amount ≤ 999999999999 ∧ s.TransferRoom) ∧
    (∃ s x w e, State.Cashier s 2 (dropOf s 2) x ∧ s.transitAt 4 = some e ∧ s.drawerAt e.source = some w ∧
      x.heldDrawer = some e.source ∧ s.TransferRoom) ∧
    ∃ s x w e, State.Cashier s 3 (dropOf s 3) x ∧ s.transitAt 4 = some e ∧ s.drawerAt e.source = some w ∧
      x.supervises = true ∧ s.holderOf e.source = none ∧ s.TransferRoom := by
  let away := inTransit.modifyTeller 2 fun x => { x with session := .signedOff, station := none }
  refine ⟨⟨counting branch 65278, tellerNo branch 1, drawerNo branch 1, drawerNo branch 0, ?_⟩,
    ⟨inTransit, tellerNo branch 4, drawerNo branch 0, ⟨4, 2, 0, .home, 50000, 2, 900⟩, ?_⟩,
    ⟨inTransit, tellerNo branch 2, drawerNo inTransit 2, ⟨4, 2, 0, .home, 50000, 2, 900⟩, ?_⟩,
    ⟨away, tellerNo branch 3, drawerNo inTransit 2, ⟨4, 2, 0, .home, 50000, 2, 900⟩, ?_⟩⟩ <;>
    (try unfold State.Holds) <;> unfold State.Cashier State.Attends State.Hears State.TransferRoom <;>
    (try unfold Csu.TransitSound) <;> decide +kernel

/-- The refusal of a GIVE by teller `x` of `s`. -/
def refusesGive (s : State) (x : Nat) : Nat → Option Currency → Nat → Option Result := s.giveFails (tellerNo s x)

/-- A figure at its bound beside one past it, for each answer of the checks on transfers. -/
theorem witness_TransfersMoveCash_refused : branch.Cashier 1 (dropOf branch 1) (tellerNo branch 1) ∧
    (refusesGive branch 5 0 (some .home) 1 = some .noDrawer ∧ refusesGive branch 1 1 (some .home) 1 = some .notPermitted ∧
      refusesGive branch 1 4 (some .home) 1 = some .notPermitted ∧ refusesGive branch 1 0 none 1 = some .amountRange ∧
      refusesGive branch 1 0 (some .home) 0 = some .amountRange ∧ refusesGive branch 1 0 (some .home) 700001 = some .cashShort ∧
      refusesGive branch 1 0 (some .home) 700000 = none ∧
      refusesGive (counting branch 65279) 1 0 (some .home) 1 = some .journalFull ∧
      refusesGive (counting branch 65278) 1 0 (some .home) 1 = none ∧
      refusesGive (branch.modifyDrawer 1 fun w => { w with home := ⟨999999999999, 0, 0, 0, 999999999998, 999999999999⟩ })
        1 0 (some .home) 2 = some .totalRange) ∧
    (inTransit.acceptFails (tellerNo branch 4) 5 = some .noSuchTransfer ∧
      inTransit.acceptFails (tellerNo branch 1) 4 = some .notPermitted ∧
      inTransit.acceptFails (tellerNo branch 5) 4 = some .noDrawer ∧ inTransit.acceptFails (tellerNo branch 4) 4 = none) ∧
    inTransit.recallFails (tellerNo branch 2) 3 = some .noSuchTransfer ∧
    inTransit.recallFails (tellerNo branch 3) 4 = some .notPermitted ∧
    inTransit.recallFails (tellerNo branch 2) 4 = none := by
  unfold State.Cashier State.Attends State.Hears; decide +kernel

/-- Each refusal of a COUNT-DECLARE: no drawer, a day that is OPEN, an entry in transit, a count of 100,000, and an
exhausted journal. -/
theorem witness_CountIsDeclared_refused : branch.Cashier 1 (dropOf branch 1) (tellerNo branch 1) ∧
    branch.countFails (tellerNo branch 5) ⟨[], []⟩ = some .noDrawer ∧
    branch.countFails (tellerNo branch 1) ⟨[], []⟩ = some .notPermitted ∧
    ((balancing 5).onCsu fun c => { c with transit := inTransit.csu.transit }).countFails (tellerNo branch 2) ⟨[], []⟩
      = some .transitOpen ∧
    (balancing 5).countFails (tellerNo branch 1) ⟨[(10000, 100000)], []⟩ = some .amountRange ∧
    (balancing 5).countFails (tellerNo branch 1) ⟨[(10000, 99999)], []⟩ = none ∧
    (counting (balancing 5) 65535).countFails (tellerNo branch 1) ⟨[(10000, 99999)], []⟩ = some .journalFull := by
  unfold State.Cashier State.Attends State.Hears; decide +kernel

/-- Each refusal of an ACCEPT-DIFFERENCE and of a FORCE-BALANCE. -/
theorem witness_DifferenceIsAcceptedOrForced_refused : branch.Supervises 4 (dropOf branch 4) (tellerNo branch 4) ∧
    (∀ n ∈ [1, 25], (balancing 5).DifferenceFails (tellerNo branch 4) n .nothingHeld) ∧
    heldDrawer.DifferenceFails (tellerNo branch 1) 1 .samePerson ∧
    (heldDrawer.onCsu fun c => { c with netHome := -999999999000 }).DifferenceFails (tellerNo branch 4) 1 .notPermitted ∧
    (counting heldDrawer 65535).DifferenceFails (tellerNo branch 4) 1 .journalFull ∧
    branch.forceFails 1 = some .notPermitted ∧ (balancing 5).forceFails 25 = some .notPermitted ∧
    heldDrawer.forceFails 1 = some .nothingHeld ∧ (balancing 5).forceFails 1 = some .notPermitted ∧
    (((balancing 5).modifyTeller 2 fun x => { x with session := .signedOff, station := none }).onCsu fun c =>
      { c with transit := inTransit.csu.transit }).forceFails 2 = some .transitOpen := by
  refine ⟨by unfold State.Supervises State.Attends State.Hears; decide +kernel, ?_, ?_, ?_, ?_, by decide +kernel⟩
  · intro n h
    simp only [List.mem_cons, List.not_mem_nil, or_false] at h
    rcases h with rfl | rfl
    · refine .inl ⟨fun w hw => ?_, rfl⟩
      cases (by decide +kernel : (balancing 5).drawerAt 1 = some (drawerNo (balancing 5) 1)).symm.trans hw
      decide +kernel
    · exact .inl ⟨fun w hw => (by cases (by decide +kernel : (balancing 5).drawerAt 25 = none).symm.trans hw), rfl⟩
  all_goals
    refine .inr ⟨drawerNo heldDrawer 1, (drawerNo heldDrawer 1).declaration.getD default, ?_⟩
    unfold State.Takes fits; decide +kernel

/-- Shortages of 100, the tolerance, and of 101. -/
theorem witness_CountIsDeclared : ∀ short ∈ [(100 : Nat), 101], ∃ s x w y counts,
    State.Holds s 1 (dropOf s 1) x 1 w ∧ s.dyc.day = .balancing ∧ w.balance = .due ∧ s.csu.transit = [] ∧
    countsInRange s.csu.denomHome counts.home = true ∧ countsInRange s.csu.denomForeign counts.foreign = true ∧
    s.jnc.counter = 65534 ∧ y.teller = x.number ∧ y.counts = counts ∧
    y.declaredHome = (s.csu.denomHome.map fun v => countOf counts.home v * v).sum ∧
    y.declaredForeign = (s.csu.denomForeign.map fun v => countOf counts.foreign v * v).sum ∧
    y.diffHome = y.declaredHome - w.home.position ∧ y.diffForeign = y.declaredForeign - w.foreign.position ∧
    y.diffHome.natAbs = short ∧ s.dyc.params.toleranceHome = 100 ∧
    y.diffForeign.natAbs ≤ s.dyc.params.toleranceForeign ∧ s.Takes w y := by
  intro short h
  simp only [List.mem_cons, List.not_mem_nil, or_false] at h
  rcases h with rfl | rfl
  · refine ⟨counting (balancing 700100) 65534, tellerNo branch 1, drawerNo (balancing 700100) 1,
      ⟨1, ⟨[(10000, 70)], [(100, 120)]⟩, 700000, 12000, -100, 0⟩, ⟨[(10000, 70)], [(100, 120)]⟩, ?_⟩
    unfold State.Holds State.Cashier State.Attends State.Hears State.Takes fits; decide +kernel
  · refine ⟨counting (balancing 700101) 65534, tellerNo branch 1, drawerNo (balancing 700101) 1,
      ⟨1, ⟨[(10000, 70)], [(100, 120)]⟩, 700000, 12000, -101, 0⟩, ⟨[(10000, 70)], [(100, 120)]⟩, ?_⟩
    unfold State.Holds State.Cashier State.Attends State.Hears State.Takes fits; decide +kernel

theorem witness_DifferenceIsAcceptedOrForced :
    (∃ s x w y, State.Supervises s 4 (dropOf s 4) x ∧ s.drawerAt 1 = some w ∧ w.balance = .held ∧
      w.declaration = some y ∧ w.assigned ≠ some x.number ∧ s.Takes w y ∧ s.dyc.day ≠ .noDay ∧
      s.jnc.counter = 65534) ∧
    ∃ s x w, State.Supervises s 3 (dropOf s 3) x ∧ s.dyc.day = .balancing ∧ s.drawerAt 1 = some w ∧
      w.balance = .due ∧ s.holderOf 1 = none ∧ s.csu.transit = [] ∧ s.jnc.counter = 65534 := by
  let held := counting heldDrawer 65534
  let away := counting ((balancing 0).modifyTeller 1 fun x => { x with session := .signedOff, station := none }) 65534
  refine ⟨⟨held, tellerNo branch 4, drawerNo held 1, ((drawerNo held 1).declaration).getD default, ?_⟩,
    ⟨away, tellerNo branch 3, drawerNo away 1, ?_⟩⟩ <;>
    unfold State.Supervises State.Attends State.Hears <;> (try unfold State.Takes fits) <;> decide +kernel

/-- OPEN and CLOSE-PROPOSED for a supervisor; each of the three ways back to OPEN; and a confirmation with an item
undecided and another held. -/
theorem witness_CloseIsProposedAndConfirmed :
    (branch.Supervises 3 (dropOf branch 3) (tellerNo branch 3) ∧ branch.dyc.day = .opened) ∧
    (proposed.Supervises 3 (dropOf branch 3) (tellerNo branch 3) ∧ proposed.dyc.day = .closeProposed ∧
      proposed.dyc.proposal = some ⟨(tellerNo branch 3).number, none, .running 120⟩) ∧
    ∃ s x p y, State.Supervises s 4 (dropOf s 4) x ∧ s.dyc.day = .closeProposed ∧ s.dyc.proposal = some p ∧
      p.proposer ≠ x.number ∧ (s.rqu.txns.any fun y => y.stage != .answered && y.stage != .held) = true ∧
      s.txnAt 2 = some y ∧ y.stage = .held := by
  let s := (waiting proposed).onRqu fun r => { r with txns := r.txns ++ [{ heldTxn 1 with drop := 2 }] }
  refine ⟨?_, ?_, ⟨s, tellerNo branch 4, ⟨3, none, .running 120⟩, { heldTxn 1 with drop := 2 }, ?_⟩⟩ <;>
    unfold State.Supervises State.Attends State.Hears <;> decide +kernel

/-- An undecided item in the drain; none, with the last reserve sequence; BALANCING with drawers due; and BALANCING
over, with room in the node queue and without. -/
theorem witness_DrainAndBalancingEnd :
    ((inDay (waiting branch) .closeDrain).isRunning = true ∧ (inDay (waiting branch) .closeDrain).noneUndecided = false) ∧
    (∃ s : State, s.isRunning = true ∧ s.dyc.day = .closeDrain ∧ s.noneUndecided = true ∧ s.jnc.counter = 65534 ∧
      ∃ w ∈ s.csu.drawers, w.number = 0 ∨ w.assigned.isSome = true) ∧
    ((balancing 0).isRunning = true ∧ (balancing 0).dyc.day = .balancing ∧ ¬ (balancing 0).BalancingOver) ∧
    (settled.isRunning = true ∧ settled.dyc.day = .balancing ∧ settled.BalancingOver ∧ settled.nodeRoom = true) ∧
    (settled.onTkc fun k => { k with nodeQueue := (answering 4).tkc.nodeQueue }).nodeRoom = false := by
  refine ⟨by decide +kernel, ⟨counting (inDay branch .closeDrain) 65534, by decide +kernel, by decide +kernel,
    by decide +kernel, by decide +kernel, drawerNo branch 0, by decide +kernel, by decide +kernel⟩, ?_, ?_, by decide +kernel⟩ <;>
    unfold State.BalancingOver <;> decide +kernel

/-! #### The trunk -/

/-- An online branch with another link state and run. -/
def linked (k : LinkState) (run last : Nat) : State :=
  online.onTkc fun t => { t with link := k, runCount := run, lastCheck := some last }

/-- LINE-CHECK 0 after 255, and after 254, in every link state; the run of 1 and of 2; and the timer's expiry. -/
theorem witness_LinkIsSupervised :
    ((linked .offline 0 255).Accepts (head 7 0) ∧ (linked .resync 1 255).Accepts (head 7 0) ∧
      (linked .resync 2 255).Accepts (head 7 0) ∧ (linked .suspect 0 254).Accepts (head 7 0) ∧
      (linked .online 0 255).Accepts (head 7 0)) ∧ (255 + 1) % 256 = 0 ∧ 0 ≠ (254 + 1) % 256 ∧
    ((inDay (linked .resync 2 255) .sendStalled).onDyc fun y => { y with batch := (batch 1 1 0).dyc.batch }).dyc.batch.isSome
      = true ∧ branch.tkc.supervision = .stopped ∧ online.tkc.supervision ≠ .stopped ∧
    (batch 1 1 0).tkc.supervision ≠ .stopped ∧ (batch 1 1 0).dyc.day = .sending := by
  unfold State.Accepts State.Receives; decide +kernel

/-- Two bytes; another branch; strap 0; and a full node queue. -/
theorem witness_FramesAreJudged : (online.isRunning = true ∧ rawFrameValid online.straps.branch [0, 1] = false) ∧
    (headerOf (.dayEnd ⟨2, 7, 0⟩) = some ⟨2, 7, 0⟩ ∧ (2 : Nat) ≠ online.straps.branch) ∧
    ({ online with straps := ⟨0, 0, 0⟩ } : State).straps.branch = 0 ∧
    (headerOf (.dayEnd (head 7 0)) = some (head 7 0) ∧ neverRefused (.dayEnd (head 7 0)) = false ∧
      (answering 4).Receives (head 7 0) ∧ 4 ≤ (answering 4).tkc.nodeQueue.length) ∧
    (branch.tkc.link = .offline ∧ online.tkc.link = .online ∧ (linked .suspect 0 0).tkc.link = .suspect) := by
  unfold State.Receives; decide +kernel

/-- A waiting drop and a FREE slot; a waiting report with room for it and without. -/
theorem witness_WaitListIsServed : ((waiting online).isRunning = true ∧ (waiting online).TrunkSound ∧
      (waiting online).tkc.link = .online ∧ (waiting online).rqu.waitList = [1] ∧ (waiting online).lowestFree = some 0) ∧
    ((waiting branch).TrunkSound ∧ (waiting branch).tkc.link ≠ .online) ∧
    ((answering 3).tkc.waiting = some ⟨0, .nodeStatus .retainedLost⟩ ∧ (answering 3).tkc.nodeQueue.length < 4 ∧
      4 ≤ (answering 4).tkc.nodeQueue.length) := by
  unfold State.TrunkSound; decide +kernel

/-- The last ordinary sequence, the first refused one, and a queued fetch. -/
theorem witness_OnlineFramesStart :
    (∃ s x y, State.GrantsSlot s x ∧ x.kind = .txnForward ∧ s.txnAt x.drop = some y ∧ s.dyc.day ≠ .noDay ∧
      s.jnc.postingsClosed = false ∧ s.jnc.counter = 65278) ∧
    (∃ s x y, State.GrantsSlot s x ∧ x.kind = .txnForward ∧ s.txnAt x.drop = some y ∧ s.dyc.day ≠ .noDay ∧
      s.jnc.counter = 65279) ∧
    ∃ s x f, State.GrantsSlot s x ∧ x.kind = .passbookFetch ∧ s.fetchAt x.drop = some f := by
  let x : OnlineSlot := ⟨0, .queued, 1, .txnForward, 0, .stopped⟩
  refine ⟨⟨counting queued 65278, x, (queued.txnAt 1).getD localTxn, ?_⟩,
    ⟨counting queued 65279, x, (queued.txnAt 1).getD localTxn, ?_⟩,
    ⟨fetching .queued .queued 0 .stopped, ⟨0, .queued, 25, .passbookFetch, 0, .stopped⟩,
      ⟨25, 52, .line 7 23, .queued, some 0⟩, ?_⟩⟩ <;> unfold State.GrantsSlot <;> decide +kernel

/-- An advice ready; answers ready, four of them; the last block the window allows; and a busy transmitter. -/
theorem witness_LowerSourcesStart :
    ((advised ⟨.free, 0, .stopped⟩).NoSlotReady ∧ (advised ⟨.free, 0, .stopped⟩).siu.sfq = [⟨701, .posting⟩]) ∧
    ((answering 4).NoSlotReady ∧ (answering 4).siu.sfq = [] ∧ (answering 4).tkc.slot7 = none ∧
      (answering 4).tkc.nodeQueue.length = 4) ∧
    ((batch 1 4 0).NoSlotReady ∧ (batch 1 4 0).siu.sfq = [] ∧ (batch 1 4 0).tkc.nodeQueue = [] ∧
      (batch 1 4 0).dyc.batch.any (fun b => decide (b.next < b.oldest + 4 ∧ b.next ≤ b.blocks)) = true ∧
      (batch 8 8 0).dyc.batch.any (fun b => decide (b.next = b.blocks + 1)) = true) ∧
    (frameStart .adviceStart ∧ sending.tkc.transmitter.isSome = true) := by
  unfold State.NoSlotReady frameStart; decide +kernel

/-- A transmitter with a frame of each kind. -/
def busyWith (s : State) (slot tag : Nat) (b : FrameBody) : State :=
  s.onTkc fun k => { k with transmitter := some ⟨⟨1, slot, tag, b⟩, false⟩ }

theorem witness_FrameEnds :
    (∃ s : State, ∃ y, s.isRunning = true ∧ s.restarting = none ∧
      s.tkc.transmitter = some ⟨⟨1, 0, 530, .txnForward 1 1 1 none []⟩, false⟩ ∧ s.slotAt 0 = some y ∧
      y.state = .sending ∧ y.tag = 530) ∧
    (∃ s : State, ∃ k r, s.isRunning = true ∧ s.restarting = none ∧
      s.tkc.transmitter = some ⟨⟨1, 6, 701, .advice k r⟩, false⟩ ∧ s.tkc.slot6.seq = 701) ∧
    (∃ s : State, ∃ b, s.isRunning = true ∧ s.restarting = none ∧
      s.tkc.transmitter = some ⟨⟨1, 7, 0, .node b⟩, false⟩) ∧
    ∃ s : State, ∃ b, s.isRunning = true ∧ s.restarting = none ∧
      s.tkc.transmitter = some ⟨⟨1, 7, 1, .batchBlock []⟩, false⟩ ∧ s.dyc.batch = some b ∧ s.dyc.day = .sending ∧
      b.oldest < b.next ∧ b.oldest = 1 :=
  ⟨⟨busyWith (withSlot online ⟨0, .sending, 1, .txnForward, 530, .running 20⟩) 0 530 (.txnForward 1 1 1 none []),
      ⟨0, .sending, 1, .txnForward, 530, .running 20⟩, by decide +kernel⟩,
    ⟨busyWith (advised ⟨.sending, 701, .running 20⟩) 6 701 (.advice .posting none), .posting, none, by decide +kernel⟩,
    ⟨busyWith online 7 0 (.node (.lineEcho 1)), .lineEcho 1, by decide +kernel⟩,
    ⟨busyWith (batch 1 2 0) 7 1 (.batchBlock []), ⟨100, 7, controlTotals [], 1, 2, 0, false, none, 0⟩,
      by decide +kernel⟩⟩

/-- Record 530 on the trunk for a deposit that asks for a passbook line on account 11, which has a book. -/
def lineAsked (f : Drop → Drop) : State :=
  (((onTrunk .cashIn .credit (deposit 250000) 2).modifySat 11 fun e => { e with book := some book }).onRqu fun r =>
    { r with txns := r.txns.map fun y =>
      { y with defn := y.defn.map fun g => { g with passbookLine := true } } }).modifyDrop 1 f

/-- Record 530's reply for a drop that can receive, and for one that is FENCED. -/
theorem witness_ApprovedReplyCompletes : ∀ s ∈ [lineAsked id, lineAsked fun d => { d with state := .fenced, score := 192 }],
    ∃ u x y r d, State.Receives s (head 2 530) ∧ u = s.seeFrame ∧
    u.Matches (head 2 530) .txnForward x ∧ u.txnAt x.drop = some y ∧ u.recordAt 530 = some r ∧
    r.disposition = some .awaiting ∧ u.dropAt y.drop = some d ∧ d.canReceive = (d.state == .active) ∧
    u.lpc.loop = .running ∧ d.outbound.length < 4 ∧ y.account = some 11 ∧ (u.satAt 11).isSome = true ∧
    (y.defn.bind fun g => passbookLine g y.legs u.dyc.date .branch 530) =
      some ⟨some ⟨2024, 2, 29⟩, .text [65], 1, 250000, .branch, some 530⟩ ∧ u.bookOf 11 = some book := by
  intro s h
  refine ⟨s.seeFrame, ⟨2, .await, 1, .txnForward, 530, .running 20⟩, (s.txnAt 1).getD localTxn,
    awaiting (deposit 250000), dropOf s 1, ?_⟩
  simp only [List.mem_cons, List.not_mem_nil, or_false] at h
  rcases h with rfl | rfl <;> unfold State.Receives State.Matches <;> decide +kernel

theorem witness_DeclinedReplyEnds : ∃ s u x y r d, State.Receives s (head 2 530) ∧ u = s.seeFrame ∧
    u.Matches (head 2 530) .txnForward x ∧ u.txnAt x.drop = some y ∧ u.recordAt 530 = some r ∧
    r.disposition = some .awaiting ∧ u.dropAt y.drop = some d ∧ d.canReceive = true ∧ u.lpc.loop = .running ∧
    d.outbound.length = 3 ∧ (ReplyAnswer.declined 1 = .declined 1 ∨ (ReplyAnswer.neither = .neither ∧ 99 = 99)) := by
  let s := (onTrunk .cashIn .credit (deposit 250000) 2).modifyDrop 1 fun d =>
    { d with outbound := List.replicate 3 .turnPage }
  refine ⟨s, s.seeFrame, ⟨2, .await, 1, .txnForward, 530, .running 20⟩, (s.txnAt 1).getD localTxn,
    awaiting (deposit 250000), dropOf s 1, ?_⟩
  unfold State.Receives State.Matches; decide +kernel

/-- A tag one below the slot's. -/
theorem witness_LateReplyIsDiscarded : ∃ s u, State.Receives s (head 2 529) ∧ u = s.seeFrame ∧
    ∀ x, ¬ u.Matches (head 2 529) .txnForward x := by
  refine ⟨onTrunk .cashIn .credit (deposit 1) 2, _, ?_, rfl, ?_⟩
  · unfold State.Receives; decide +kernel
  · rintro x ⟨h, -, -, g⟩
    have : (onTrunk .cashIn .credit (deposit 1) 2).seeFrame.slotAt 2 =
        some ⟨2, .await, 1, .txnForward, 530, .running 20⟩ := by decide +kernel
    cases this.symm.trans h
    revert g; decide

/-- The line of chapter 9's worked sequence; one that cannot be read; and a session that has ended. -/
theorem witness_FetchReplyBringsLines : ∃ s u x f b z, State.Receives s (head 0 1) ∧ u = s.seeFrame ∧
    u.Matches (head 0 1) .passbookFetch x ∧ u.fetchAt x.drop = some f ∧ u.bookOf f.account = some b ∧
    b.session = some x.drop ∧ b.next = .line 7 23 ∧ b.overflow = ⟨0, 0, none⟩ ∧ 0 < u.poolFree ∧
    -999999999999999 ≤ b.lineBalance + -3000 ∧ b.lineBalance + -3000 ≤ 999999999999999 ∧
    u.sessionOf x.drop = some z ∧ z.state = .fetching ∧ z.account = some f.account ∧
    (∀ k, k ≤ 16 → -999999999999999 ≤ b.lineBalance + (([⟨⟨2024, 1, 1⟩, [65], none⟩] : List FetchLine).take k
        |>.filterMap FetchLine.amount).sum ∧
      b.lineBalance + (([⟨⟨2024, 1, 1⟩, [65], none⟩] : List FetchLine).take k
        |>.filterMap FetchLine.amount).sum ≤ 999999999999999) ∧
    (s.modifySession 25 Session.toIdle).seeFrame.sessionState x.drop ≠ .fetching := by
  let s := (fetching .onTrunk .await 1 (.running 20)).modifyBook 52 fun b => { b with session := some 25 }
  refine ⟨s, s.seeFrame, ⟨0, .await, 25, .passbookFetch, 1, .running 20⟩, ⟨25, 52, .line 7 23, .onTrunk, some 0⟩,
    { book with session := some 25 }, (s.sessionOf 25).getD default, ?_⟩
  unfold State.Receives State.Matches; decide +kernel

/-- The journal of record 530 and what stands before it. -/
def journal530 : List Record := (List.range' 1 529).map (fun n => { entry .signOn with seq := n }) ++
  [awaiting (withdrawal 120000)]

/-- Record 530's timer, with the SFQ empty; and a fetch's timer. -/
theorem witness_ReplyTimerExpires :
    (∃ s : State, ∃ x y r p, s.isRunning = true ∧ s.slotAt 0 = some x ∧ x.timer ≠ .stopped ∧ x.kind = .txnForward ∧
      s.txnAt x.drop = some y ∧ s.recordAt x.tag = some r ∧ r.disposition = some .awaiting ∧ r.body = .posting p ∧
      s.dyc.day ≠ .noDay ∧ s.JournalNumbered ∧ s.siu.sfq.length < 2048) ∧
    (∃ s : State, ∃ x f, s.isRunning = true ∧ s.slotAt 0 = some x ∧ x.timer ≠ .stopped ∧ x.kind = .passbookFetch ∧
      s.fetchAt x.drop = some f) ∧
    (online.slotAt 0).map OnlineSlot.timer = some .stopped := by
  let s := (onTrunk .cashOut .debit (withdrawal 120000) 0).onJnc fun j => { j with records := journal530 }
  refine ⟨⟨s, ⟨0, .await, 1, .txnForward, 530, .running 20⟩, (s.txnAt 1).getD localTxn, awaiting (withdrawal 120000),
    ⟨1, 1, some 11, withdrawal 120000, none, .online⟩, ?_⟩,
    ⟨fetching .onTrunk .await 1 (.running 20), ⟨0, .await, 25, .passbookFetch, 1, .running 20⟩,
      ⟨25, 52, .line 7 23, .onTrunk, some 0⟩, by decide +kernel⟩, by decide +kernel⟩
  unfold State.JournalNumbered; decide +kernel

/-- The head advice answered; an answer that matches nothing; a reversal at the head; and the timer. -/
theorem witness_AdviceIsAnswered :
    (∃ s u e r p, State.Receives s (head 6 701) ∧ u = s.seeFrame ∧ u.adviceMatched (head 6 701) = true ∧
      u.siu.sfq = [e] ∧ u.recordAt e.seq = some r ∧ e.kind = .posting ∧ r.disposition = some .advicePending ∧
      r.body = .posting p) ∧
    (∃ s u e r, State.Receives s (head 6 701) ∧ u = s.seeFrame ∧ u.adviceMatched (head 6 701) = true ∧
      u.siu.sfq = [e] ∧ u.recordAt e.seq = some r ∧ e.kind = .reversal ∧ r.disposition = some .reversalPending) ∧
    (advised ⟨.await, 701, .running 20⟩).seeFrame.adviceMatched (head 6 702) = false ∧
    ((advised ⟨.await, 701, .running 20⟩).tkc.slot6.timer ≠ .stopped ∧ online.tkc.slot6.timer = .stopped) := by
  let s := advised ⟨.await, 701, .running 20⟩
  let t := (s.onSiu fun u => { u with sfq := [⟨701, .reversal⟩] }).onJnc fun j =>
    { j with records := j.records.map fun r => { r with disposition := some .reversalPending } }
  refine ⟨⟨s, s.seeFrame, ⟨701, .posting⟩, (s.recordAt 701).getD default,
      ⟨1, 1, some 11, withdrawal 150000, none, .standIn⟩, ?_⟩,
    ⟨t, t.seeFrame, ⟨701, .reversal⟩, (t.recordAt 701).getD default, ?_⟩, by decide +kernel, by decide +kernel⟩ <;>
    unfold State.Receives <;> decide +kernel

/-! #### Head office's frames, the day and the batch -/

theorem accepts_branch : branch.Accepts (head 7 0) := by unfold State.Accepts State.Receives; decide +kernel

theorem witness_InquiriesAreAnswered : branch.Accepts (head 7 0) ∧ branch.seeFrame.tkc.nodeQueue = [] :=
  ⟨accepts_branch, by decide +kernel⟩

/-- A mask in OPEN and in LOADING; the notice of the last number and one past it; texts of 64 characters and of 65. -/
theorem witness_MaskAndNoticesAreSet : branch.Accepts (head 7 0) ∧ branch.seeFrame.dyc.day = .opened ∧
    loading.Accepts (head 7 0) ∧ loading.seeFrame.dyc.day = .loading ∧
    (∃ s : State, s.Accepts (head 7 0) ∧ s.seeFrame.lpc.noticeCounter = 65535) ∧
    (∃ s : State, s.Accepts (head 7 0) ∧ s.seeFrame.lpc.noticeCounter = 65536) ∧
    (1 : BitVec 8) ≠ 0 ∧ (List.replicate 64 (65 : Byte)).length ≤ 64 ∧ 64 < (List.replicate 65 (65 : Byte)).length := by
  refine ⟨accepts_branch, ?_, ?_, ?_, ⟨branch.onLpc fun l => { l with noticeCounter := 65535 }, ?_⟩,
    ⟨branch.onLpc fun l => { l with noticeCounter := 65536 }, ?_⟩, ?_⟩ <;>
    (try unfold State.Accepts State.Receives) <;> decide +kernel

/-- NO-DAY with fields in range and out of it; OPEN; a clock that runs, at its end, and one that does not, with the
supply up. -/
theorem witness_DayStartsItsClock : branch.supply = true ∧ State.reset.supply = true ∧ State.reset.Accepts (head 7 0) ∧ State.reset.seeFrame.dyc.day = .noDay ∧
    dayStartOk ⟨2024, 2, 29⟩ ⟨23, 59, 59⟩ noCounts = true ∧ dayStartOk ⟨2023, 2, 29⟩ ⟨8, 0, 0⟩ noCounts = false ∧
    branch.Accepts (head 7 0) ∧ branch.seeFrame.dyc.day = .opened ∧
    (branch.onJnc fun j => { j with clock := 4294967295 }).jnc.clockRuns = true ∧ State.reset.jnc.clockRuns = false := by
  unfold State.Accepts State.Receives; decide +kernel

theorem accepts_loading : loading.Accepts (head 7 0) ∧ loading.seeFrame.dyc.day = .loading := by
  unfold State.Accepts State.Receives; decide +kernel

/-- One entry of each of the six kinds. -/
theorem witness_LoadsAreApplied : (loading.Accepts (head 7 0) ∧ loading.seeFrame.dyc.day = .loading) ∧
    [(⟨9, some 4⟩ : CodeEntry)].all codeEntryOk = true ∧ [(⟨0, none⟩ : DefinitionEntry)].all definitionEntryOk = true ∧
    [(⟨15, some ⟨123, 0, .refuse⟩⟩ : RouteEntry)].all routeEntryOk = true ∧
    ([] ++ [(⟨1460000, 1460000, 5, 100, 3600⟩ : RateLoad)]).all rateLoadOk = true ∧
    ([] ++ [(⟨.home, [5, 100000]⟩ : DenominationEntry)]).all denominationEntryOk = true ∧
    ([] ++ [freshLayout]).all layoutOk = true := ⟨accepts_loading, by decide +kernel⟩

/-- RATES in CLOSE-PROPOSED; each refusal of a load: the day, no entry, a second entry that cannot be read, a teller
signed on, and the 33rd teller. -/
theorem witness_LoadsAreApplied_refused : (∃ s : State, s.Accepts (head 7 0) ∧ s.seeFrame.dyc.day = .closeProposed) ∧
    branch.Accepts (head 7 0) ∧ branch.seeFrame.LoadFails .codes codeEntryOk [] .wrongState ∧
    (branch.seeFrame.dyc.day = .opened ∧ [TellerEntry.remove 1].all tellerEntryOk = true ∧
      (branch.seeFrame.tellerOf 1).any Teller.signedOn = true) ∧
    loading.seeFrame.LoadFails .codes codeEntryOk [] (.fieldRange none) ∧
    loading.seeFrame.LoadFails .codes codeEntryOk [some ⟨255, some 63⟩, none] (.fieldRange (some 2)) ∧
    loading.seeFrame.LoadFails .codes codeEntryOk [some ⟨255, some 64⟩] (.fieldRange (some 1)) ∧
    ∃ s : State, s.Accepts (head 7 0) ∧ s.seeFrame.TakesTellers [TellerEntry.load 99 .teller false 5 100 0 none] ∧
      [TellerEntry.load 99 .teller false 5 100 0 none].filterMap loadedNumber = [99] ∧ s.seeFrame.tellerOf 99 = none ∧
      [99].length + s.seeFrame.rqu.tellers.length = 33 := by
  refine ⟨⟨inDay branch .closeProposed, ?_⟩, accepts_branch, .inl ⟨by decide +kernel, rfl⟩, by decide +kernel,
    .inr ⟨by decide +kernel, .inl ⟨rfl, rfl⟩⟩,
    .inr ⟨by decide +kernel, .inr ⟨[some ⟨255, some 63⟩], none, [], rfl, ?_, by simp, rfl⟩⟩,
    .inr ⟨by decide +kernel, .inr ⟨[], some ⟨255, some 64⟩, [], rfl, by simp, ?_, rfl⟩⟩,
    ⟨loading.onRqu fun r => { r with tellers := (List.range' 1 32).map fun n => teller n .teller none }, ?_, .inl ?_, ?_⟩⟩
  · unfold State.Accepts State.Receives; decide +kernel
  · intro x hx
    cases List.mem_singleton.1 hx
    exact ⟨_, rfl, by decide +kernel⟩
  · rintro y h
    cases h
    decide +kernel
  · unfold State.Accepts State.Receives; decide +kernel
  · decide +kernel
  · decide +kernel

/-- The 4,097th account. -/
theorem witness_LoadsAreApplied_full : ∃ s : State, s.Accepts (head 7 0) ∧ s.seeFrame.dyc.day = .loading ∧
    s.seeFrame.satAt 7 = none ∧ [7].length + s.seeFrame.siu.sat.length = 4097 := by
  refine ⟨loading.onSiu fun u => { u with sat := List.replicate 4096 (account 11 0 0) }, ?_⟩
  unfold State.Accepts State.Receives; decide +kernel

/-- The last free place of the teller table, in LOADING and in OPEN; an account; and a parameters record. -/
theorem witness_TellersAccountsAndParametersAreLoaded :
    (∃ s : State, s.Accepts (head 7 0) ∧ s.seeFrame.dyc.day = .loading ∧
      1 + s.seeFrame.rqu.tellers.length = 32 ∧
      ([TellerEntry.load 99 .teller false 5 100 0 none].filterMap loadedNumber).length ≤ 1) ∧
    branch.seeFrame.TakesTellers [TellerEntry.load 99 .teller false 5 100 0 none] ∧
    [TellerEntry.load 99 .teller false 5 100 0 none].all tellerEntryOk = true ∧
    [(⟨52, 10, 20, true, none⟩ : SatLoad)].all satLoadOk = true ∧ 1 + loading.seeFrame.siu.sat.length ≤ 4096 ∧
    (loading.Accepts (head 7 0) ∧ loading.seeFrame.dyc.day = .loading) ∧ paramsOk freshParams = true ∧
    loading.seeFrame.csu.drawers.map Drawer.number = List.range 25 := by
  refine ⟨⟨loading.onRqu fun r => { r with tellers := (List.range' 1 31).map fun n => teller n .teller none }, ?_⟩,
    .inr ⟨by decide +kernel, by decide +kernel⟩, by decide +kernel, by decide +kernel, by decide +kernel, accepts_loading, by decide +kernel, by decide +kernel⟩
  unfold State.Accepts State.Receives; decide +kernel

/-- All counts as expected; one that differs; and a day that is not LOADING. -/
theorem witness_DayOpens : (loading.Accepts (head 7 0) ∧ loading.seeFrame.dyc.day = .loading) ∧
    (∀ j ∈ tableKinds, (kindGet loading.seeFrame.dyc.loaded j).length = kindGet loading.seeFrame.dyc.expected j) ∧
    (∃ s l r, State.Accepts s (head 7 0) ∧ s.seeFrame.dyc.day = .loading ∧ tableKinds = l ++ .codes :: r ∧
      (∀ j ∈ l, (kindGet s.seeFrame.dyc.loaded j).length = kindGet s.seeFrame.dyc.expected j) ∧
      (kindGet s.seeFrame.dyc.loaded .codes).length ≠ kindGet s.seeFrame.dyc.expected .codes) ∧
    (branch.Accepts (head 7 0) ∧ branch.seeFrame.dyc.day ≠ .loading) := by
  refine ⟨accepts_loading, by decide +kernel,
    ⟨loading.onDyc fun y => { y with expected := { noCounts with codes := 1 } }, [.tellers], tableKinds.drop 2, ?_⟩,
    accepts_branch, by decide +kernel⟩
  unfold State.Accepts State.Receives; decide +kernel

/-- Block 1 of a batch with blocks 1 to 4 in flight, its ends, and the fourth and the fifth attempt. -/
theorem witness_BlocksAreAcknowledged : (batch 1 5 3).Receives (head 7 0) ∧
    (batch 1 5 3).seeFrame.dyc.batch = some ⟨100, 7, controlTotals [], 1, 5, 3, false, none, 0⟩ ∧
    (batch 1 5 3).seeFrame.dyc.day = .sending ∧ ((1 : Nat) ≤ 1 ∧ 1 < 5) ∧ ((1 : Nat) ≤ 4 ∧ 4 < 5) ∧ (0 < 1 ∧ 5 ≤ 5) ∧
    3 + 1 < 5 ∧ 5 ≤ 4 + 1 ∧ (batch 1 5 4).dyc.batch.map Batch.attempts = some 4 ∧
    (batch 1 5 3).dyc.blockTimer ≠ .stopped := by
  unfold State.Receives; decide +kernel

/-- A stalled batch with block 9 next: blocks 0, 1, 9 and 10; and a batch that is SENT. -/
theorem witness_BatchResumesOrStartsAgain :
    ((inDay (batch 7 9 5) .sendStalled).Accepts (head 7 0) ∧
      (inDay (batch 7 9 5) .sendStalled).seeFrame.dyc.day = .sendStalled ∧
      (inDay (batch 7 9 5) .sendStalled).seeFrame.tkc.link = .online ∧
      (inDay (batch 7 9 5) .sendStalled).seeFrame.dyc.batch.map Batch.next = some 9) ∧
    (9 < 10 ∧ 1 ≤ 9 ∧ (9 : Nat) ≤ 9 ∧ (1 : Nat) ≤ 1) ∧ (branch.Accepts (head 7 0) ∧ branch.seeFrame.dyc.day ≠ .sendStalled) ∧
    (sent.Accepts (head 7 0) ∧ sent.seeFrame.dyc.day = .sent ∧ sent.seeFrame.dyc.batch.isSome = true) := by
  unfold State.Accepts State.Receives; decide +kernel

theorem witness_VerdictIsTaken : (branch.Accepts (head 7 0) ∧ branch.seeFrame.dyc.batch = none) ∧
    (acknowledged.Accepts (head 7 0) ∧ acknowledged.seeFrame.dyc.day = .sending ∧
      acknowledged.seeFrame.dyc.batch.map Batch.trailer = some true) ∧
    (∃ s : State, s.Accepts (head 7 0) ∧ s.seeFrame.dyc.day = .sent ∧
      s.seeFrame.dyc.batch.bind Batch.verdict = some .agreed) ∧
    ((batch 9 9 0).Accepts (head 7 0) ∧ (batch 9 9 0).seeFrame.dyc.batch.map Batch.trailer = some false ∧
      (batch 9 9 0).seeFrame.dyc.day ≠ .sent) := by
  refine ⟨⟨accepts_branch, by decide +kernel⟩, ?_, ⟨after (.batchVerdict (head 7 0) (controlTotals [])) acknowledged, ?_⟩,
    ?_⟩ <;> unfold State.Accepts State.Receives <;> decide +kernel

theorem witness_DayEnds : (sent.Accepts (head 7 0) ∧ sent.seeFrame.dyc.day = .sent ∧
      sent.seeFrame.csu.drawers.map Drawer.number = List.range 25) ∧
    (branch.Accepts (head 7 0) ∧ branch.seeFrame.dyc.day ≠ .sent ∧
      branch.seeFrame.csu.drawers.map Drawer.number = List.range 25) := by
  unfold State.Accepts State.Receives; decide +kernel

/-! #### Passbooks, formats and the invariants -/

/-- One book for each reason of a refusal, with the record taken; and the book of chapter 9, OFFLINE and ONLINE. -/
theorem witness_BookIsTakenOrRefused : branch.HearsPrinter 25 (dropOf branch 25) ∧
    (∃ z, branch.sessionOf 25 = some z ∧ z.state = .identify) ∧
    ((inDay branch .noDay).HearsPrinter 25 (dropOf branch 25) ∧ (inDay branch .noDay).dyc.day = .noDay ∧
      (inDay branch .noDay).journalTakes (.passbookAlert none none .noStripe) = false) ∧
    branch.bookOf 11 = none ∧
    ((branch.modifyBook 52 fun b => { b with session := some 26 }).bookOf 52).any (fun b => b.session.isSome) = true ∧
    ((branch.modifyBook 52 fun b => { b with next := .full }).bookOf 52).any (fun b => b.next == .full) = true ∧
    positionBefore (.line 7 22) (.line 7 23) = true ∧ positionBefore (.line 7 24) (.line 7 23) = false ∧
    branch.journalTakes (.passbookAlert (some 52) (some (.line 7 22)) .bookSuperseded) = true ∧
    (branch.bookOf 52 = some book ∧ book.session = none ∧ book.next = .line 7 23 ∧ book.overflow.items = 0 ∧
      book.pending ≠ [] ∧ branch.hasWork 25 = false) ∧
    (online.HearsPrinter 25 (dropOf branch 25) ∧ online.bookOf 52 = some book ∧ online.tkc.link = .online) := by
  refine ⟨?_, ⟨(branch.sessionOf 25).getD default, ?_⟩, ?_, ?_, ?_, ?_, ?_, ?_, ?_, ?_, ?_⟩ <;>
    (try unfold State.HearsPrinter) <;> decide +kernel

/-- The book of account 52 at position `p`/`l` with its first line marked. -/
def marked (s : State) (p l : Nat) (lines : List Line) : State := s.modifyBook 52 fun b => { b with
  next := .line p l, pending := lines, marker := lines.head?.map fun g => ⟨p, l, g.amount, g.items, .list⟩ }

/-- A stripe one past the marked line: L1 at 7/23 with lines left, OFFLINE and ONLINE; alone; and at 32/24. -/
theorem witness_BookIsTakenOrRefused_marked : ∀ x ∈ [(marked branch 7 23 book.pending, 7, 23, BookPos.line 7 24),
      (marked online 7 24 book.pending, 7, 24, BookPos.line 8 1),
      (marked branch 7 23 (book.pending.take 1), 7, 23, BookPos.line 7 24),
      (counting (marked branch 32 24 book.pending) 65534, 32, 24, BookPos.full)],
    ∃ s d z b g rest, ∃ q l : Nat, x = (s, q, l, positionAfter q l) ∧ State.HearsPrinter s 25 d ∧
      s.sessionOf 25 = some z ∧ z.state = .identify ∧ s.dyc.day ≠ .noDay ∧ s.dyc.day ≠ .loading ∧
      s.bookOf 52 = some b ∧ b.session = none ∧ b.next = .line q l ∧ b.overflow.items = 0 ∧ b.pending = g :: rest ∧
      b.marker = some ⟨q, l, g.amount, g.items, .list⟩ ∧ s.hasWork 25 = false ∧ s.jnc.counter < 65535 := by
  let line : Line := ⟨none, .text [65], 1, 150000, .branch, some 118⟩
  intro x h
  simp only [List.mem_cons, List.not_mem_nil, or_false] at h
  rcases h with rfl | rfl | rfl | rfl
  · refine ⟨_, dropOf branch 25, (branch.sessionOf 25).getD default,
      ((marked branch 7 23 book.pending).bookOf 52).getD default, line, book.pending.tail, 7, 23, rfl, ?_⟩
    unfold State.HearsPrinter; decide +kernel
  · refine ⟨_, dropOf branch 25, (branch.sessionOf 25).getD default,
      ((marked online 7 24 book.pending).bookOf 52).getD default, line, book.pending.tail, 7, 24, rfl, ?_⟩
    unfold State.HearsPrinter; decide +kernel
  · refine ⟨_, dropOf branch 25, (branch.sessionOf 25).getD default,
      ((marked branch 7 23 (book.pending.take 1)).bookOf 52).getD default, line, [], 7, 23, rfl, ?_⟩
    unfold State.HearsPrinter; decide +kernel
  · refine ⟨_, dropOf branch 25, (branch.sessionOf 25).getD default,
      ((marked branch 32 24 book.pending).bookOf 52).getD default, line, book.pending.tail, 32, 24, rfl, ?_⟩
    unfold State.HearsPrinter; decide +kernel

/-- R143, R149: one past the marked line 24 of page 32, the line counts as printed and the book is full. -/
theorem test_marked_full : gives (.bookPresent 25 (.read 52 .full)) (marked branch 32 24 book.pending) (fun t =>
    t.sessionState 25 == .finished && messages t 25 == [.eject (some .bookFull)] &&
      (t.bookOf 52).map (fun b => (b.printed, b.next, b.pending.length)) == some (650000, .full, 2)) = true := by
  decide +kernel

/-- A session with an empty list, OVERFLOW items and, while printing, a marker of source OVERFLOW for `n` of them. -/
def overflowing (items n l : Nat) (state : PrinterState) : State := (branch.modifyBook 52 fun b => { b with
    next := .line 7 l, session := some 25, pending := [], overflow := ⟨items, 900, none⟩
    marker := if state == .printing then some ⟨7, l, 400, n, .overflow⟩ else none }).modifySession 25 fun z =>
  { z with
    state := state, account := some 52, timer := .running 30
    command := some (if state == .printing then .printLine 7 l else .turnPage) }

/-- A pool with no line free: accounts whose lists hold all 8,192. -/
def crowdedPool (s : State) : State := s.onSiu fun u => { u with
  sat := u.sat ++ [{ account 99 0 0 with
    book := some { book with pending := List.replicate 8192 ⟨none, .summary, 1, 0, .branch, none⟩ } }] }

/-- Line 24 of page 32 with lines left. -/
theorem witness_LinesAreConfirmed_full : ∃ s z b g rest, State.HearsPrinter s 25 (dropOf s 25) ∧ s.sessionOf 25 = some z ∧
    z.account = some 52 ∧ s.bookOf 52 = some b ∧ b.overflow.items = 0 ∧ b.pending = g :: rest ∧ rest ≠ [] ∧
    rest.length ≤ 40 ∧ z.state = .printing ∧ z.command = some (.printLine 32 24) ∧
    b.marker = some ⟨32, 24, g.amount, g.items, .list⟩ ∧ s.dyc.day ≠ .noDay ∧ s.jnc.counter < 65535 := by
  let line : Line := ⟨none, .text [65], 1, 150000, .branch, some 118⟩
  let s := (marked (printing 24 book.pending) 32 24 book.pending).modifySession 25 fun z =>
    { z with command := some (.printLine 32 24) }
  refine ⟨s, (s.sessionOf 25).getD default, (s.bookOf 52).getD default, line, book.pending.tail, ?_⟩
  unfold State.HearsPrinter; decide +kernel

/-- All the overflow printed, and some of it left, at line 23; and a turned page with an overflow and without. -/
theorem witness_LinesAreConfirmed_overflow :
    (∀ items ∈ [(2 : Nat), 3], ∃ s z b m, State.HearsPrinter s 25 (dropOf s 25) ∧ s.sessionOf 25 = some z ∧
      z.account = some 52 ∧ s.bookOf 52 = some b ∧ b.pending = [] ∧ z.state = .printing ∧
      z.command = some (.printLine 7 23) ∧ b.marker = some m ∧ m.source = .overflow ∧ m.page = 7 ∧ m.line = 23 ∧
      b.overflow.items - m.items = items - 2 ∧ s.dyc.day ≠ .noDay ∧ s.jnc.counter < 65535 ∧ 0 < s.poolFree) ∧
    (∀ items ∈ [(0 : Nat), 3], ∃ s z b, State.HearsPrinter s 25 (dropOf s 25) ∧ s.sessionOf 25 = some z ∧
      z.account = some 52 ∧ s.bookOf 52 = some b ∧ b.pending = [] ∧ z.state = .turning ∧ b.marker = none ∧
      b.next = .line 7 1 ∧ b.overflow.items = items ∧ 0 < s.poolFree) := by
  constructor <;> intro items h <;> simp only [List.mem_cons, List.not_mem_nil, or_false] at h
  · rcases h with rfl | rfl
    · let s := overflowing 2 2 23 .printing
      refine ⟨s, (s.sessionOf 25).getD default, (s.bookOf 52).getD default, ⟨7, 23, 400, 2, .overflow⟩, ?_⟩
      unfold State.HearsPrinter; decide +kernel
    · let s := overflowing 3 2 23 .printing
      refine ⟨s, (s.sessionOf 25).getD default, (s.bookOf 52).getD default, ⟨7, 23, 400, 2, .overflow⟩, ?_⟩
      unfold State.HearsPrinter; decide +kernel
  · rcases h with rfl | rfl
    · let s := overflowing 0 0 1 .turning
      refine ⟨s, (s.sessionOf 25).getD default, (s.bookOf 52).getD default, ?_⟩
      unfold State.HearsPrinter; decide +kernel
    · let s := overflowing 3 0 1 .turning
      refine ⟨s, (s.sessionOf 25).getD default, (s.bookOf 52).getD default, ?_⟩
      unfold State.HearsPrinter; decide +kernel

/-- R139, R147: the rest of an overflow joins the list when the pool has a line free, and is printed itself when not. -/
theorem test_overflow : gives (.lineDone 25 7 23) (overflowing 3 2 23 .printing) (fun t =>
      (t.bookOf 52).map (fun b => (b.printed, b.overflow.items, b.pending.map Line.amount)) == some (500400, 0, [500]) &&
      (t.bookOf 52).bind Passbook.marker == some ⟨7, 24, 500, 1, .list⟩) = true ∧
    gives (.lineDone 25 7 23) (crowdedPool (overflowing 3 2 23 .printing)) (fun t =>
      (t.bookOf 52).map (fun b => (b.overflow.items, b.pending)) == some (1, []) &&
      (t.bookOf 52).bind Passbook.marker == some ⟨7, 24, 500, 1, .overflow⟩) = true := by decide +kernel

/-- L1 with lines left before line 24 and at it, L1 alone, and a page turned. -/
theorem witness_LinesAreConfirmed :
    (∀ l ∈ [(23 : Nat), 24], ∃ s z b g rest, State.HearsPrinter s 25 (dropOf s 25) ∧ s.sessionOf 25 = some z ∧
      z.account = some 52 ∧ s.bookOf 52 = some b ∧ b.overflow.items = 0 ∧ b.pending = g :: rest ∧ rest ≠ [] ∧
      z.state = .printing ∧ z.command = some (.printLine 7 l) ∧ b.marker = some ⟨7, l, g.amount, g.items, .list⟩) ∧
    (∃ s z b g, State.HearsPrinter s 25 (dropOf s 25) ∧ s.sessionOf 25 = some z ∧ z.account = some 52 ∧
      s.bookOf 52 = some b ∧ b.overflow.items = 0 ∧ b.pending = [g] ∧ z.state = .printing ∧
      z.command = some (.printLine 7 24) ∧ b.marker = some ⟨7, 24, g.amount, g.items, .list⟩ ∧
      s.dyc.day ≠ .noDay ∧ s.jnc.counter = 65534) ∧
    ∃ s z b g rest, State.HearsPrinter s 25 (dropOf s 25) ∧ s.sessionOf 25 = some z ∧ z.account = some 52 ∧
      s.bookOf 52 = some b ∧ b.overflow.items = 0 ∧ b.pending = g :: rest ∧ z.state = .turning ∧
      b.next = .line 7 1 := by
  let line : Line := ⟨none, .text [65], 1, 150000, .branch, some 118⟩
  let one := counting (printing 24 [line]) 65534
  let turning := (printing 1 book.pending).modifySession 25 fun z => { z with state := .turning }
  refine ⟨?_, ⟨one, (one.sessionOf 25).getD default, (one.bookOf 52).getD default, line, ?_⟩,
    ⟨turning, (turning.sessionOf 25).getD default, (turning.bookOf 52).getD default, line, book.pending.tail, ?_⟩⟩
  · intro l h
    simp only [List.mem_cons, List.not_mem_nil, or_false] at h
    rcases h with rfl | rfl
    · let s := printing 23 book.pending
      refine ⟨s, (s.sessionOf 25).getD default, (s.bookOf 52).getD default, line, book.pending.tail, ?_⟩
      unfold State.HearsPrinter; decide +kernel
    · let s := printing 24 book.pending
      refine ⟨s, (s.sessionOf 25).getD default, (s.bookOf 52).getD default, line, book.pending.tail, ?_⟩
      unfold State.HearsPrinter; decide +kernel
  · unfold State.HearsPrinter; decide +kernel
  · unfold State.HearsPrinter; decide +kernel

/-- A fault while printing with no line confirmed and with one; and with no session open. -/
theorem witness_PrinterFaultEndsTheSession :
    (∀ n ∈ [(0 : Nat), 1], ∃ s z b, State.HearsPrinter s 25 (dropOf s 25) ∧ s.sessionOf 25 = some z ∧
      z.state = .printing ∧ z.timer ≠ .stopped ∧ z.printed = n ∧ z.account = some 52 ∧ s.bookOf 52 = some b ∧
      s.fetchAt 25 = none ∧ b.pending.length ≤ 40 ∧ s.dyc.day ≠ .noDay ∧ s.jnc.counter = 65534) ∧
    ∃ s z, State.HearsPrinter s 26 (dropOf s 26) ∧ s.sessionOf 26 = some z ∧ z.state = .idle ∧ z.timer = .stopped := by
  refine ⟨?_, ⟨branch, (branch.sessionOf 26).getD default, ?_⟩⟩
  · intro n h
    simp only [List.mem_cons, List.not_mem_nil, or_false] at h
    rcases h with rfl | rfl
    · let s := counting (printing 23 book.pending) 65534
      refine ⟨s, (s.sessionOf 25).getD default, (s.bookOf 52).getD default, ?_⟩
      unfold State.HearsPrinter; decide +kernel
    · let s := counting ((printing 23 book.pending).modifySession 25 fun z => { z with printed := 1 }) 65534
      refine ⟨s, (s.sessionOf 25).getD default, (s.bookOf 52).getD default, ?_⟩
      unfold State.HearsPrinter; decide +kernel
  · unfold State.HearsPrinter; decide +kernel

/-- Case D of section 4.4. -/
theorem witness_RoundingIsExact : 0 < 5 ∧ ∃ f r legs x, (exchangeDef .cashIn .noAccount .sellForeign).mode = .sellForeign ∧
    TxnFields.foreign f = .value 12345 ∧ 0 < RateLoad.unitForeign (RateRecord.rates r) ∧
    amounts (exchangeDef .cashIn .noAccount .sellForeign) f (some r) = .legs legs (some x) :=
  ⟨by decide, exchange 12345, ⟨⟨1456250, 1456250, 5, 100, 3600⟩, 30000⟩,
    [⟨.foreign, .cashOut, 12300⟩, ⟨.home, .cashIn, 17915⟩], ⟨.sell, 1456250, 12345, 12300, 45⟩, by decide +kernel⟩

/-- Fifteen segments. -/
theorem witness_LoopAndTrunkFormats : List.replicate 15 [(65 : Byte)] ≠ [] ∧
    (List.replicate 15 [(65 : Byte)]).length ≤ 15 ∧ (∀ x ∈ List.replicate 15 [(65 : Byte)], x ≠ []) ∧
    (dropOf branch 1).assembly = [] := by decide +kernel

/-- A state with a command waiting on which every invariant holds. -/
def safe : State := inTransit.push (.transferAccept 4 4)

theorem safe_steps : step safe = .next (after (.transferAccept 4 4) inTransit) := rfl

/-- A state with a withdrawal QUEUED at drop 1, a stand-in posting of 300 on account 11 pending, and a command
waiting, on which the invariants of work items and accounts hold. -/
def safeQueued : State := (((queued.onJnc fun j => { j with counter := 1, records := [{ entry
  (.posting ⟨1, 1, some 11, withdrawal 300, none, .standIn⟩) (some 1) (some 1) none (some .advicePending) with
    seq := 1 }] }).modifySat 11 fun e => { e with used := 300, net := -300 })).push (.cancel 1)

theorem safeQueued_steps : step safeQueued = .next (after (.cancel 1) { safeQueued with pending := [] }) := rfl

theorem safeQueued_attended : safeQueued.WorkAttended := by unfold State.WorkAttended; decide +kernel

theorem witness_StepKeepsTheJournalNumbered : (safeQueued.JournalNumbered ∧ safeQueued.WorkAttended ∧
    safeQueued.NetsAgree) ∧ ∃ t, step safeQueued = .next t := by
  refine ⟨⟨?_, safeQueued_attended, ?_⟩, _, safeQueued_steps⟩
  · unfold State.JournalNumbered; decide +kernel
  · unfold State.NetsAgree; decide +kernel

theorem safeQueued_placed : safeQueued.WorkPlaced := by unfold State.WorkPlaced; decide +kernel

/-- Every position is at 0 or above, and no drawer is HELD. -/
theorem safeQueued_covered : safeQueued.CashCovered := by
  refine ⟨by decide +kernel, by decide +kernel, by decide +kernel, by decide +kernel, ?_, by decide +kernel⟩
  have h : ∀ y ∈ safeQueued.rqu.txns, y.drawer = some 1 ∧
      (safeQueued.tellerOf y.teller).bind Teller.heldDrawer = some 1 ∧ y.legs = withdrawal 120000 := by decide +kernel
  intro y hy _ n hn
  obtain ⟨h1, h2, h3⟩ := h y hy
  cases h1.symm.trans hn
  refine ⟨h2, fun w hw c => ?_⟩
  cases (by decide +kernel : safeQueued.drawerAt 1 = some (drawerNo safeQueued 1)).symm.trans hw
  rw [h3]
  cases c <;> decide +kernel

theorem witness_StepConservesCash : (safe.CashConserved ∧ ∃ t, step safe = .next t) ∧
    (safeQueued.WorkAttended ∧ safeQueued.WorkPlaced ∧ safeQueued.CashCovered) ∧ ∃ t, step safeQueued = .next t := by
  refine ⟨⟨?_, _, safe_steps⟩, ⟨safeQueued_attended, safeQueued_placed, safeQueued_covered⟩, _, safeQueued_steps⟩
  unfold State.CashConserved Csu.TransitSound Csu.Conserves; decide +kernel

theorem witness_StepKeepsLoopAndTables :
    (safe.ScoresAgree ∧ safe.OutboundBounded ∧ safe.TablesSound) ∧ ∃ t, step safe = .next t := by
  refine ⟨⟨⟨by decide +kernel, ?_⟩, ?_, ?_⟩, _, safe_steps⟩
  · have h : ∀ d ∈ safe.lpc.drops, d.score = 0 ∧ (d.state = .absent ∨ d.state = .active) := by decide +kernel
    intro d hd
    obtain ⟨h1, h2 | h2⟩ := h d hd <;> simp [Drop.ScoreAgrees, h1, h2, Config.degradedScore]
  · unfold State.OutboundBounded; decide +kernel
  · unfold State.TablesSound; decide +kernel

theorem witness_StepKeepsTheTrunk : safe.TrunkSound ∧ safe.AccountsSound ∧ ∃ t, step safe = .next t := by
  refine ⟨?_, ?_, _, safe_steps⟩
  · unfold State.TrunkSound; decide +kernel
  · refine ⟨by decide +kernel, fun e he => ?_, by decide +kernel⟩
    have h : ∀ e ∈ safe.siu.sat, e.used ≤ e.limit ∧ (e.book = none ∨ e.book = some book) := by decide +kernel
    refine ⟨(h e he).1, fun b hb => ?_⟩
    obtain h2 | h2 := (h e he).2
    · cases h2.symm.trans hb
    · cases h2.symm.trans hb
      exact ⟨by decide +kernel, fun m hm => by cases hm⟩

end Sys2Proof.Tests
end

section
/-! SUPPORT. NOTICE-NEXT: what showing a drop its next notice does to the loop, and the statement O10. -/

namespace Sys2Proof.Machine

variable {s : State} {a b next : Nat} {d : Drop} {m : DownMessage}

/-! ### The drop's record -/

/-- A drop whose unseen count is not what it was before gets a status line queued, and no other (R20). -/
theorem dropAt_queueUnseen {before : State} :
    (s.queueUnseen before).dropAt b = (s.dropAt b).map fun d =>
      if (before.dropAt b).any fun old => unseenCount before.lpc.notices old != unseenCount s.lpc.notices d
      then d.queueStatus else d := by
  unfold State.queueUnseen
  refine (dropAt_modifyDrops fun d => ?_).trans ?_
  · repeat' split
    all_goals simp [Drop.queueStatus_eq]
  · cases hd : s.dropAt b with
    | none => rfl
    | some d =>
      cases hb : before.dropAt b with
      | none => simp [dropAt_addr hd, hb]
      | some old => by_cases h : unseenCount before.lpc.notices old = unseenCount s.lpc.notices d <;>
          simp [dropAt_addr hd, hb, h]

/-- A TELLER drop's mark after its unseen count is judged (R20). -/
theorem dropAt_queueUnseen_teller {before : State} {old : Drop} (ho : before.dropAt a = some old)
    (hd : s.dropAt a = some d) (hk : d.kind = .teller) :
    (s.queueUnseen before).dropAt a = some { d with
      statusMark := d.statusMark || unseenCount before.lpc.notices old != unseenCount s.lpc.notices d } := by
  have hmarked : d.queueStatus = { d with statusMark := true } := if_pos hk
  rw [dropAt_queueUnseen, ho, hd]
  by_cases h : unseenCount before.lpc.notices old = unseenCount s.lpc.notices d <;>
    simp [h, hmarked]

/-- Set a drop's next notice number (R21). -/
def State.setNextNotice (s : State) (a next : Nat) : State :=
  s.modifyDrop a fun d => { d with nextNotice := next }

theorem dropAt_setNextNotice : (s.setNextNotice a next).dropAt b =
    (s.dropAt b).map fun d => if b = a then { d with nextNotice := next } else d :=
  dropAt_modifyDrop fun _ h => h

/-! ### Showing a notice (R21) -/

/-- Drop `a`'s next notice number becomes `next`, and the drop is handed `m`. -/
def State.showNotice (s : State) (a next : Nat) (m : DownMessage) : State :=
  ((s.setNextNotice a next).handOver a m).queueUnseen s

theorem noticeNext_found {n : Notice} (hd : s.dropAt a = some d)
    (hf : s.noticeFrom d (max d.nextNotice (s.oldestNotice.getD d.nextNotice)) = some n) :
    s.noticeNext a = s.showNotice a (n.number + 1)
      (.notice n.number n.text (missedCount s.oldestNotice d.nextNotice)) := by
  simp [State.noticeNext, hd, hf, State.showNotice, State.setNextNotice]

theorem noticeNext_noNotice (hd : s.dropAt a = some d)
    (hf : s.noticeFrom d (max d.nextNotice (s.oldestNotice.getD d.nextNotice)) = none) :
    s.noticeNext a = s.showNotice a s.lpc.noticeCounter
      (.noNotice (missedCount s.oldestNotice d.nextNotice)) := by
  simp [State.noticeNext, hd, hf, State.showNotice, State.setNextNotice]

theorem exec_noticeNext_of_hears (h : s.Hears a d) : exec (.noticeNext a) s = .next (s.noticeNext a) := by
  obtain ⟨hr, hl, hd, hk, hc, hn⟩ := h
  have hexec : exec (.noticeNext a) s = execNoticeNext a s := rfl
  rw [hexec, execNoticeNext, whileRunning_of hr, fromTeller_of hl hd hk hc hn]

theorem missedCount_eq (oldest : Option Nat) (next : Nat) :
    missedCount oldest next =
      if next < oldest.getD next then some (oldest.getD next - next) else none := by
  cases oldest with
  | none => simp [missedCount]
  | some n => by_cases h : next < n <;> simp [missedCount, Option.filter, h]

/-- To look from the larger of two numbers on is to look from both on. -/
theorem noticeFrom_max (s : State) (d : Drop) (j k : Nat) :
    s.noticeFrom d (max j k) = s.lpc.notices.find? fun n =>
      n.groups.getLsbD (d.group - 1) && decide (j ≤ n.number) && decide (k ≤ n.number) := by
  simp [State.noticeFrom, Bool.and_assoc]

theorem showNotice_lpcOnly : s.showNotice a next m = { s with lpc := (s.showNotice a next m).lpc } := rfl

/-- Another drop reads as before, so its unseen count stands and it gets no mark. -/
theorem showNotice_onlyDrop : s.OnlyDrop (s.showNotice a next m) a := by
  refine ⟨rfl, fun b hb => ?_⟩
  have hnotices : ((s.setNextNotice a next).handOver a m).lpc.notices = s.lpc.notices := rfl
  rw [State.showNotice, dropAt_queueUnseen, dropAt_handOver, dropAt_setNextNotice, hnotices]
  cases s.dropAt b <;> simp [hb]

/-- A drop that is heard has room, so the message stands at the end of its queue (R4, R6). -/
theorem dropAt_showNotice (h : s.Hears a d) :
    (s.showNotice a next m).dropAt a = some { d.told m with
      nextNotice := next
      statusMark := d.statusMark ||
        unseenCount s.lpc.notices d != unseenCount s.lpc.notices { d.told m with nextNotice := next } } := by
  obtain ⟨-, hl, hd, hk, hc, hn⟩ := h
  have hloop : (s.setNextNotice a next).lpc.loop = .running := hl
  have htake : ({ d with nextNotice := next } : Drop).take .running m = { d.told m with nextNotice := next } :=
    Drop.take_room hc (Nat.lt_succ_of_lt hn)
  have htold : ((s.setNextNotice a next).handOver a m).dropAt a = some { d.told m with nextNotice := next } := by
    simp [dropAt_handOver, dropAt_setNextNotice, hd, hloop, htake]
  exact dropAt_queueUnseen_teller hd htold hk

/-- Settles O10: the search finds a notice or finds none, and either way the drop is shown the answer. -/
theorem noticeNextAnswers : Obligations.NoticeNextAnswers := by
  unfold Obligations.NoticeNextAnswers
  intro s a d h
  have hexec := exec_noticeNext_of_hears h
  have ⟨_, _, hd, _⟩ := h
  have holdest : s.lpc.notices.head?.map Notice.number = s.oldestNotice := rfl
  simp only [holdest, ← missedCount_eq, ← noticeFrom_max]
  cases hf : s.noticeFrom d (max d.nextNotice (s.oldestNotice.getD d.nextNotice)) with
  | some n =>
    rw [noticeNext_found hd hf] at hexec
    exact ⟨_, _, hexec, showNotice_lpcOnly, showNotice_onlyDrop, dropAt_showNotice h, rfl⟩
  | none =>
    rw [noticeNext_noNotice hd hf] at hexec
    exact ⟨_, _, hexec, showNotice_lpcOnly, showNotice_onlyDrop, dropAt_showNotice h, rfl⟩

end Sys2Proof.Machine
end

section
/-! SUPPORT. UNLOCK: a message handed to a heard drop, a supervisor's request, and the statement O23. -/

namespace Sys2Proof.Machine

variable {s : State} {a n : Nat} {d : Drop} {x y : Teller}

/-! ### A request that is heard -/

/-- A heard request runs its own rule (R6). -/
theorem whileRunning_fromTeller_of_hears {f : State → State} (h : s.Hears a d) :
    (s.whileRunning fun s => s.fromTeller a f) = f s := by
  obtain ⟨hr, hl, hd, hk, hc, hn⟩ := h
  rw [whileRunning_of hr, fromTeller_of hl hd hk hc hn]

/-- A supervisor's request passes the checks of R27. -/
theorem asSupervisor_of_supervises {f : Teller → State} (h : s.Supervises a d x) : s.asSupervisor a f = f x := by
  obtain ⟨⟨⟨_, _, hd, _⟩, hkey, hat⟩, hsup, htrain⟩ := h
  exact asSupervisor_of hd hkey hat hsup htrain

/-- A heard drop has room for a message, and handing it over touches nothing else (R4, R6). -/
theorem onlyTold_handOver {m : DownMessage} (h : s.Hears a d) : s.OnlyTold (s.handOver a m) a d m := by
  obtain ⟨-, hl, hd, -, hc, hn⟩ := h
  refine ⟨rfl, ⟨rfl, fun b hb => ?_⟩, ?_⟩
  · rw [dropAt_handOver]
    simp [hb]
  · have htake : d.take .running m = d.told m := Drop.take_room hc (Nat.lt_succ_of_lt hn)
    simp [dropAt_handOver, hd, hl, htake]

/-! ### Unlocking a teller (R28) -/

/-- Teller `n` is SIGNED-OFF with failure count 0. -/
def State.freeTeller (s : State) (n : Nat) : State :=
  s.modifyTeller n fun z => { z with session := .signedOff, failures := 0 }

/-- Who is heard is a matter of the loop, not of the teller table. -/
theorem hears_freeTeller (h : s.Hears a d) : (s.freeTeller n).Hears a d := h

theorem exec_unlock_of_supervises (h : s.Supervises a d x) : exec (.unlock a n) s = .next (s.unlock a n) := by
  obtain ⟨⟨hhears, _⟩, _⟩ := h
  have hexec : exec (.unlock a n) s = execUnlock a n s := rfl
  rw [hexec, execUnlock, whileRunning_fromTeller_of_hears hhears]

theorem unlock_lockedOut (h : s.Supervises a d x) (hy : s.tellerOf n = some y) (hl : y.session = .lockedOut) :
    s.unlock a n = (s.freeTeller n).answer a .done := by
  rw [State.unlock, asSupervisor_of_supervises h]
  simp [hy, hl, State.freeTeller]

theorem unlock_notLockedOut (h : s.Supervises a d x)
    (hn : ∀ y, s.tellerOf n = some y → y.session ≠ .lockedOut) : s.unlock a n = s.answer a .nothingHeld := by
  rw [State.unlock, asSupervisor_of_supervises h]
  cases hy : s.tellerOf n with
  | none => simp
  | some y => simp [hn y hy]

/-- Settles O23: the number names a LOCKED-OUT teller or it does not, and either way the sender's drop is told. -/
theorem unlockFreesATeller : Obligations.UnlockFreesATeller := by
  unfold Obligations.UnlockFreesATeller
  intro s a n d x h
  have hexec := exec_unlock_of_supervises (n := n) h
  have ⟨⟨hhears, _⟩, _⟩ := h
  refine ⟨fun hn => ?_, fun y hy hl => ?_⟩
  · rw [unlock_notLockedOut h hn] at hexec
    exact ⟨_, hexec, onlyTold_handOver hhears⟩
  · rw [unlock_lockedOut h hy hl] at hexec
    obtain ⟨_, honly, htold⟩ := onlyTold_handOver (m := .answer .done .nothing) (hears_freeTeller (n := n) hhears)
    exact ⟨_, hexec, rfl, honly, htold, rfl⟩

end Sys2Proof.Machine
end

section
/-! SUPPORT. A reply that matches no slot: what link supervision's sight of a frame keeps, and the statement O37. -/

namespace Sys2Proof.Machine

variable {s : State} {h : FrameHeader} {k : OnlineKind} {l : LinkState}

/-! ### What supervision keeps (R97, R98) -/

/-- Only the fall from a trusted link decides work items again (R51), so an entry into a trusted one touches no
record, no drawer and no SAT entry. -/
theorem enterLink_keeps_of_trusted (hl : trusted l = true) :
    (s.enterLink l).jnc = s.jnc ∧ (s.enterLink l).csu = s.csu ∧ (s.enterLink l).siu = s.siu := by
  have hfall : (trusted s.tkc.link && !trusted l) = false := by simp [hl]
  simp only [State.enterLink, hfall, Bool.false_eq_true, if_false]
  split_ifs <;> simp

/-- Supervision enters no link state but ONLINE when it sees a frame that is no LINE-CHECK. -/
theorem seeFrame_keeps : s.seeFrame.jnc = s.jnc ∧ s.seeFrame.csu = s.csu ∧ s.seeFrame.siu = s.siu := by
  cases hlink : s.tkc.link with
  | online => simp [State.seeFrame, hlink]
  | suspect => simpa [State.seeFrame, hlink] using enterLink_keeps_of_trusted (s := s) (l := .online) rfl
  | offline | resync => simp [State.seeFrame, hlink]

/-! ### The match of a reply (R102, R103) -/

theorem matchedSlot_eq_some_iff {x : OnlineSlot} : s.matchedSlot h k = some x ↔ s.Matches h k x := by
  simp [State.matchedSlot, State.Matches, Option.filter_eq_some_iff, and_assoc]

theorem matchedSlot_eq_none_iff : s.matchedSlot h k = none ↔ ∀ x, ¬ s.Matches h k x := by
  simp only [Option.eq_none_iff_forall_ne_some, ne_eq, matchedSlot_eq_some_iff]

theorem txnReply_unmatched {answer : ReplyAnswer} (hn : ∀ x, ¬ s.Matches h .txnForward x) :
    s.txnReply h answer = s.countLateReply := by
  rw [State.txnReply, matchedSlot_eq_none_iff.2 hn]

theorem fetchReply_unmatched {lines : List FetchLine} (hn : ∀ x, ¬ s.Matches h .passbookFetch x) :
    s.fetchReply h lines = s.countLateReply := by
  rw [State.fetchReply, matchedSlot_eq_none_iff.2 hn]

theorem countLateReply_eq : s.countLateReply = { s with
    tkc := { s.tkc with stats := { s.tkc.stats with lateReplies := counted s.tkc.stats.lateReplies } } } := rfl

/-! ### A reply that is received -/

/-- A received frame of a kind that is never refused meets its rule after supervision has seen it (R90). -/
theorem whileRunning_onFrame_of_receives {f : State → State} (hr : s.Receives h) :
    (s.whileRunning fun s => s.onFrame h f) = f s.seeFrame := by
  obtain ⟨hrun, hvalid⟩ := hr
  rw [whileRunning_of hrun, onFrame_of hvalid]

theorem exec_txnReply_of_receives {answer : ReplyAnswer} (hr : s.Receives h) :
    exec (.txnReply h answer) s = .next (s.seeFrame.txnReply h answer) := by
  have hexec : exec (.txnReply h answer) s = execTxnReply h answer s := rfl
  rw [hexec, execTxnReply, whileRunning_onFrame_of_receives hr]

theorem exec_fetchReply_of_receives {lines : List FetchLine} (hr : s.Receives h) :
    exec (.fetchReply h lines) s = .next (s.seeFrame.fetchReply h lines) := by
  have hexec : exec (.fetchReply h lines) s = execFetchReply h lines s := rfl
  rw [hexec, execFetchReply, whileRunning_onFrame_of_receives hr]

/-- Settles O37: after supervision has seen the frame, either kind of reply only counts. -/
theorem lateReplyIsDiscarded : Obligations.LateReplyIsDiscarded := by
  unfold Obligations.LateReplyIsDiscarded
  rintro s u h c k hr rfl hn hc
  refine ⟨?_, seeFrame_keeps⟩
  rw [← countLateReply_eq]
  obtain ⟨answer, rfl, rfl⟩ | ⟨lines, rfl, rfl⟩ := hc
  · rw [exec_txnReply_of_receives hr, txnReply_unmatched hn]
  · rw [exec_fetchReply_of_receives hr, fetchReply_unmatched hn]

end Sys2Proof.Machine
end

section
/-! SUPPORT. What every operation keeps: the relation `Keeps`, which gathers the invariants that concern one
block each, and its rules for the eight block updates and the shared operations. -/

namespace Sys2Proof.Machine

/-! ### The relation -/

/-- A condition on a drop that reads its address, state and score alone, and that a drop which joins meets. -/
structure ScoreCondition (Q : Drop → Prop) : Prop where
  congr : ∀ d e : Drop, e.addr = d.addr → e.state = d.state → e.score = d.score → Q d → Q e
  join : ∀ d e : Drop, e.addr = d.addr → d.state = .absent → e.state = .active → e.score = 0 → Q d → Q e

/-- There is one drop record for each address, and each meets a condition. -/
def State.DropsMeet (s : State) (Q : Drop → Prop) : Prop :=
  s.lpc.drops.map Drop.addr = List.range' 1 28 ∧ ∀ d ∈ s.lpc.drops, Q d

/-- A relation between two states that reads no more of the second than its link and its RETAINED-LOST mark. -/
def MarkRelation (M : State → State → Prop) : Prop :=
  ∀ r s t : State, t.tkc.link = s.tkc.link → t.retainedLost = s.retainedLost → M r s → M r t

/-- The slots of the trunk stand in order, and the node queue holds at most 4 entries (R99, R106). -/
def State.TrunkFits (s : State) : Prop :=
  s.tkc.slots.map OnlineSlot.number = List.range 6 ∧ s.tkc.nodeQueue.length ≤ Config.nodePlaces

/-- A lost store is unreported only on a link that has not been ONLINE since (R181). -/
def State.LostUnreported (s : State) : Prop :=
  s.retainedLost = true → s.tkc.link = .offline ∨ s.tkc.link = .resync

theorem trunkSound_iff {s : State} : s.TrunkSound ↔ s.TrunkFits ∧ s.LostUnreported := by
  simp only [State.TrunkSound, State.TrunkFits, State.LostUnreported, and_assoc]

/-- From `s` on, every invariant that concerns one block is kept at `t`: the drops meet `Q` where they met `P`, and the
link and the RETAINED-LOST mark stand in the relation `M`. -/
structure Keeps (P Q : Drop → Prop) (M : State → State → Prop) (s t : State) : Prop where
  condition : ScoreCondition Q
  relation : MarkRelation M
  mark : M s t
  pending : t.pending = s.pending
  scores : s.DropsMeet P → t.DropsMeet Q
  outbound : s.OutboundBounded → t.OutboundBounded
  tables : s.TablesSound → t.TablesSound
  trunk : s.TrunkSound → t.TrunkFits
  accounts : s.AccountsSound → t.AccountsSound
  journal : s.JournalNumbered → t.JournalNumbered
  cash : s.CashConserved → t.CashConserved

theorem scoreAgrees_condition : ScoreCondition Drop.ScoreAgrees where
  congr d e _ hs hc h := by unfold Drop.ScoreAgrees at *; rw [hs, hc]; exact h
  join d e _ _ hs hc _ := by unfold Drop.ScoreAgrees; rw [hs, hc]; decide

variable {P Q : Drop → Prop} {M : State → State → Prop} {r s t : State}

theorem Keeps.refl (hQ : ScoreCondition Q) (hM : MarkRelation M) (hs : M s s) : Keeps Q Q M s s :=
  ⟨hQ, hM, hs, rfl, id, id, id, fun x => (trunkSound_iff.1 x).1, id, id, id⟩

/-- The relation of two states that keeps a lost store unreported where it must be. -/
def LostKept (s t : State) : Prop := s.LostUnreported → t.LostUnreported

theorem lostUnreported_congr (hl : t.tkc.link = s.tkc.link) (hm : t.retainedLost = s.retainedLost)
    (x : s.LostUnreported) : t.LostUnreported := by
  unfold State.LostUnreported; rw [hl, hm]; exact x

theorem lostKept_relation : MarkRelation LostKept := fun _ _ _ hl hm h x => lostUnreported_congr hl hm (h x)

theorem Keeps.sound (h : Keeps P Q LostKept r s) (x : r.TrunkSound) : s.TrunkSound :=
  trunkSound_iff.2 ⟨h.trunk x, h.mark (trunkSound_iff.1 x).2⟩

/-- Two runs in a row keep what each keeps, in any relation that the ends stand in. -/
theorem Keeps.trans {R : Drop → Prop} (h : Keeps P Q LostKept r s) (g : Keeps Q R M s t) (hm : M r t) :
    Keeps P R M r t where
  condition := g.condition
  relation := g.relation
  mark := hm
  pending := g.pending.trans h.pending
  scores x := g.scores (h.scores x)
  outbound x := g.outbound (h.outbound x)
  tables x := g.tables (h.tables x)
  trunk x := g.trunk (h.sound x)
  accounts x := g.accounts (h.accounts x)
  journal x := g.journal (h.journal x)
  cash x := g.cash (h.cash x)

/-! ### Which fields an invariant reads -/

theorem scores_congr (h : t.lpc.drops = s.lpc.drops) (x : s.DropsMeet Q) : t.DropsMeet Q := by
  unfold State.DropsMeet; rw [h]; exact x

theorem outbound_congr (h : t.lpc.drops = s.lpc.drops) (x : s.OutboundBounded) : t.OutboundBounded := by
  unfold State.OutboundBounded; rw [h]; exact x

/-- The teller numbers, the parameters and the pins and marks of the store give the tables' invariant. -/
theorem tables_congr (hn : t.rqu.tellers.map Teller.number = s.rqu.tellers.map Teller.number)
    (hp : t.dyc.params = s.dyc.params) (hs : t.supply = s.supply) (hr : t.resetLow = s.resetLow)
    (hv : t.storeValid = s.storeValid) (x : s.TablesSound) : t.TablesSound := by
  unfold State.TablesSound State.isRunning
  rw [hn, hp, hs, hr, hv]; exact x

theorem trunk_congr (hs : t.tkc.slots.map OnlineSlot.number = s.tkc.slots.map OnlineSlot.number)
    (hq : t.tkc.nodeQueue = s.tkc.nodeQueue) (x : s.TrunkFits) : t.TrunkFits := by
  unfold State.TrunkFits
  rw [hs, hq]; exact x

theorem accounts_congr (h : t.siu.sat = s.siu.sat) (x : s.AccountsSound) : t.AccountsSound := by
  unfold State.AccountsSound; rw [h]; exact x

theorem journal_congr (hr : t.jnc.records.map Record.seq = s.jnc.records.map Record.seq)
    (hc : t.jnc.counter = s.jnc.counter) (x : s.JournalNumbered) : t.JournalNumbered := by
  unfold State.JournalNumbered; rw [hr, hc]; exact x

/-- The cash, the day with its block timer, and whether anybody is signed on give the cash invariant. -/
theorem cash_congr (hc : t.csu = s.csu) (hd : t.dyc.day = s.dyc.day) (hb : t.dyc.blockTimer = s.dyc.blockTimer)
    (hn : closedDay s.dyc.day = true → s.nobodySignedOn = true → t.nobodySignedOn = true) (x : s.CashConserved) :
    t.CashConserved := by
  obtain ⟨hnum, htr, hclosed, hblock, hh, hf⟩ := x
  unfold State.CashConserved
  rw [hc, hd, hb]
  exact ⟨hnum, htr, fun h => ⟨(hclosed h).1, hn h (hclosed h).2⟩, hblock, hh, hf⟩

theorem nobodySignedOn_congr (h : t.rqu.tellers = s.rqu.tellers) (x : s.nobodySignedOn = true) :
    t.nobodySignedOn = true := by
  unfold State.nobodySignedOn; rw [h]; exact x

/-! ### The block updates -/

/-- A change of a drop that keeps its address, its condition and a bounded outbound queue. -/
def Calm (Q : Drop → Prop) (d e : Drop) : Prop :=
  e.addr = d.addr ∧ (Q d → Q e) ∧ (d.outbound.length ≤ 4 → e.outbound.length ≤ 4)

/-- A change of a drop that leaves address, state, score and outbound queue alone is calm. -/
theorem calm_of_same (hQ : ScoreCondition Q) {d e : Drop} (ha : e.addr = d.addr) (hs : e.state = d.state)
    (hc : e.score = d.score) (ho : e.outbound.length ≤ 4 ∨ e.outbound.length ≤ d.outbound.length) : Calm Q d e :=
  ⟨ha, hQ.congr d e ha hs hc, fun h => ho.elim id fun g => g.trans h⟩

/-- A change of the loop that maps the drops, each to one that meets `R` and has a bounded outbound queue. -/
theorem Keeps.onDropsTo {R : Drop → Prop} {f : Lpc → Lpc} {g : Drop → Drop} (h : Keeps P Q M r s)
    (hR : ScoreCondition R) (hf : (f s.lpc).drops = s.lpc.drops.map g)
    (hg : ∀ d ∈ s.lpc.drops, (g d).addr = d.addr ∧ (s.DropsMeet Q → R (g d)) ∧
      (s.OutboundBounded → (g d).outbound.length ≤ 4)) : Keeps P R M r (s.onLpc f) where
  condition := hR
  relation := h.relation
  mark := h.relation r s _ rfl rfl h.mark
  pending := h.pending
  scores x := by
    have hx := h.scores x
    refine ⟨?_, ?_⟩
    · rw [State.onLpc_lpc, hf, List.map_map, ← hx.1]
      exact List.map_congr_left fun d hm => (hg d hm).1
    · rw [State.onLpc_lpc, hf]
      intro e he
      obtain ⟨d, hm, rfl⟩ := List.mem_map.1 he
      exact (hg d hm).2.1 hx
  outbound x := by
    have hd := h.outbound x
    unfold State.OutboundBounded
    rw [State.onLpc_lpc, hf]
    intro e he
    obtain ⟨d, hm, rfl⟩ := List.mem_map.1 he
    exact (hg d hm).2.2 hd
  tables x := tables_congr rfl rfl rfl rfl rfl (h.tables x)
  trunk x := trunk_congr rfl rfl (h.trunk x)
  accounts x := accounts_congr rfl (h.accounts x)
  journal x := journal_congr rfl rfl (h.journal x)
  cash x := cash_congr rfl rfl rfl (fun _ => id) (h.cash x)

/-- A change of the loop that maps the drops calmly keeps everything. -/
theorem Keeps.onDrops {f : Lpc → Lpc} {g : Drop → Drop} (h : Keeps P Q M r s)
    (hf : (f s.lpc).drops = s.lpc.drops.map g) (hg : ∀ d ∈ s.lpc.drops, Calm Q d (g d)) : Keeps P Q M r (s.onLpc f) :=
  h.onDropsTo h.condition hf fun d hm => by
    obtain ⟨ha, hq, ho⟩ := hg d hm
    exact ⟨ha, fun x => hq (x.2 d hm), fun x => ho (x d hm)⟩

/-- A change of the loop that leaves the drops alone keeps everything. -/
theorem Keeps.onLpc {f : Lpc → Lpc} (h : Keeps P Q M r s) (hf : (f s.lpc).drops = s.lpc.drops) : Keeps P Q M r (s.onLpc f) :=
  h.onDrops (g := id) (by simp [hf]) fun _ _ => ⟨rfl, id, id⟩

theorem Keeps.modifyDrop {a : Nat} {f : Drop → Drop} (h : Keeps P Q M r s)
    (hf : ∀ d ∈ s.lpc.drops, d.addr = a → Calm Q d (f d)) : Keeps P Q M r (s.modifyDrop a f) := by
  refine h.onDrops (g := fun d => if d.addr = a then f d else d) rfl fun d hm => ?_
  by_cases hd : d.addr = a
  · simpa [hd] using hf d hm hd
  · simp only [hd, if_false]; exact ⟨rfl, id, id⟩

theorem Keeps.modifyDrops {f : Drop → Drop} (h : Keeps P Q M r s) (hf : ∀ d, Calm Q d (f d)) :
    Keeps P Q M r (s.modifyDrops f) := h.onDrops rfl fun d _ => hf d

/-- A change of the RQU that keeps the tellers in order, and in a closed day nobody signed on where nobody was. -/
theorem Keeps.onRqu {f : Rqu → Rqu} (h : Keeps P Q M r s)
    (hn : (s.rqu.tellers.map Teller.number).Pairwise (· < ·) →
      ((f s.rqu).tellers.map Teller.number).Pairwise (· < ·))
    (hs : closedDay s.dyc.day = true → s.nobodySignedOn = true → (s.onRqu f).nobodySignedOn = true) :
    Keeps P Q M r (s.onRqu f) where
  condition := h.condition
  relation := h.relation
  mark := h.relation r s _ rfl rfl h.mark
  pending := h.pending
  scores x := scores_congr rfl (h.scores x)
  outbound x := outbound_congr rfl (h.outbound x)
  tables x := by
    obtain ⟨ht, hrest⟩ := h.tables x
    exact ⟨hn ht, hrest⟩
  trunk x := trunk_congr rfl rfl (h.trunk x)
  accounts x := accounts_congr rfl (h.accounts x)
  journal x := journal_congr rfl rfl (h.journal x)
  cash x := cash_congr (s := s) rfl rfl rfl hs (h.cash x)

/-- A change of the RQU that leaves the tellers alone. -/
theorem Keeps.onWork {f : Rqu → Rqu} (h : Keeps P Q M r s) (hf : (f s.rqu).tellers = s.rqu.tellers) :
    Keeps P Q M r (s.onRqu f) := h.onRqu (fun x => hf.symm ▸ x) fun _ => nobodySignedOn_congr hf

/-- A change of the CSU that keeps the branch's cash accounted for. -/
theorem Keeps.onCsu {f : Csu → Csu} (h : Keeps P Q M r s)
    (hf : r.CashConserved → s.CashConserved → (s.onCsu f).CashConserved) :
    Keeps P Q M r (s.onCsu f) where
  condition := h.condition
  relation := h.relation
  mark := h.relation r s _ rfl rfl h.mark
  pending := h.pending
  scores x := scores_congr rfl (h.scores x)
  outbound x := outbound_congr rfl (h.outbound x)
  tables x := tables_congr rfl rfl rfl rfl rfl (h.tables x)
  trunk x := trunk_congr rfl rfl (h.trunk x)
  accounts x := accounts_congr rfl (h.accounts x)
  journal x := journal_congr rfl rfl (h.journal x)
  cash x := hf x (h.cash x)

/-- A change of the TKC that keeps the slots and the node queue as they must be, and the link in its relation. -/
theorem Keeps.onTrunk {f : Tkc → Tkc} (h : Keeps P Q M r s) (hm : M r (s.onTkc f))
    (hf : r.TrunkSound → s.TrunkFits → (s.onTkc f).TrunkFits) : Keeps P Q M r (s.onTkc f) where
  condition := h.condition
  relation := h.relation
  mark := hm
  pending := h.pending
  scores x := scores_congr rfl (h.scores x)
  outbound x := outbound_congr rfl (h.outbound x)
  tables x := tables_congr rfl rfl rfl rfl rfl (h.tables x)
  trunk x := hf x (h.trunk x)
  accounts x := accounts_congr rfl (h.accounts x)
  journal x := journal_congr rfl rfl (h.journal x)
  cash x := cash_congr rfl rfl rfl (fun _ => id) (h.cash x)

/-- A change of the TKC that leaves the slots' numbers, the node queue and the link alone. -/
theorem Keeps.onTkc {f : Tkc → Tkc} (h : Keeps P Q M r s)
    (hs : (f s.tkc).slots.map OnlineSlot.number = s.tkc.slots.map OnlineSlot.number)
    (hq : (f s.tkc).nodeQueue = s.tkc.nodeQueue) (hl : (f s.tkc).link = s.tkc.link) : Keeps P Q M r (s.onTkc f) :=
  h.onTrunk (h.relation r s _ hl rfl h.mark) fun _ x => trunk_congr hs hq x

/-- A change of the SIU that keeps the accounts sound. -/
theorem Keeps.onSiu {f : Siu → Siu} (h : Keeps P Q M r s) (hf : s.AccountsSound → (s.onSiu f).AccountsSound) :
    Keeps P Q M r (s.onSiu f) where
  condition := h.condition
  relation := h.relation
  mark := h.relation r s _ rfl rfl h.mark
  pending := h.pending
  scores x := scores_congr rfl (h.scores x)
  outbound x := outbound_congr rfl (h.outbound x)
  tables x := tables_congr rfl rfl rfl rfl rfl (h.tables x)
  trunk x := trunk_congr rfl rfl (h.trunk x)
  accounts x := hf (h.accounts x)
  journal x := journal_congr rfl rfl (h.journal x)
  cash x := cash_congr rfl rfl rfl (fun _ => id) (h.cash x)

/-- A change of the SIU that leaves the accounts alone. -/
theorem Keeps.onSfq {f : Siu → Siu} (h : Keeps P Q M r s) (hf : (f s.siu).sat = s.siu.sat) : Keeps P Q M r (s.onSiu f) :=
  h.onSiu (accounts_congr hf)

/-- A change of the JNC that keeps the journal numbered. -/
theorem Keeps.onJnc {f : Jnc → Jnc} (h : Keeps P Q M r s) (hf : s.JournalNumbered → (s.onJnc f).JournalNumbered) :
    Keeps P Q M r (s.onJnc f) where
  condition := h.condition
  relation := h.relation
  mark := h.relation r s _ rfl rfl h.mark
  pending := h.pending
  scores x := scores_congr rfl (h.scores x)
  outbound x := outbound_congr rfl (h.outbound x)
  tables x := tables_congr rfl rfl rfl rfl rfl (h.tables x)
  trunk x := trunk_congr rfl rfl (h.trunk x)
  accounts x := accounts_congr rfl (h.accounts x)
  journal x := hf (h.journal x)
  cash x := cash_congr rfl rfl rfl (fun _ => id) (h.cash x)

theorem Keeps.onPbu {f : Pbu → Pbu} (h : Keeps P Q M r s) : Keeps P Q M r (s.onPbu f) where
  condition := h.condition
  relation := h.relation
  mark := h.relation r s _ rfl rfl h.mark
  pending := h.pending
  scores x := scores_congr rfl (h.scores x)
  outbound x := outbound_congr rfl (h.outbound x)
  tables x := tables_congr rfl rfl rfl rfl rfl (h.tables x)
  trunk x := trunk_congr rfl rfl (h.trunk x)
  accounts x := accounts_congr rfl (h.accounts x)
  journal x := journal_congr rfl rfl (h.journal x)
  cash x := cash_congr rfl rfl rfl (fun _ => id) (h.cash x)

/-- A change of Day Control that leaves the parameters alone and keeps the cash accounted for. -/
theorem Keeps.onDay {f : Dyc → Dyc} (h : Keeps P Q M r s) (hp : (f s.dyc).params = s.dyc.params)
    (hf : r.CashConserved → s.CashConserved → (s.onDyc f).CashConserved) : Keeps P Q M r (s.onDyc f) where
  condition := h.condition
  relation := h.relation
  mark := h.relation r s _ rfl rfl h.mark
  pending := h.pending
  scores x := scores_congr rfl (h.scores x)
  outbound x := outbound_congr rfl (h.outbound x)
  tables x := tables_congr (s := s) rfl hp rfl rfl rfl (h.tables x)
  trunk x := trunk_congr rfl rfl (h.trunk x)
  accounts x := accounts_congr rfl (h.accounts x)
  journal x := journal_congr rfl rfl (h.journal x)
  cash x := hf x (h.cash x)

/-- A change of Day Control that leaves the parameters, the day and the block timer alone. -/
theorem Keeps.onDyc {f : Dyc → Dyc} (h : Keeps P Q M r s) (hp : (f s.dyc).params = s.dyc.params)
    (hd : (f s.dyc).day = s.dyc.day) (hb : (f s.dyc).blockTimer = s.dyc.blockTimer) : Keeps P Q M r (s.onDyc f) :=
  h.onDay hp fun _ => cash_congr rfl hd hb fun _ => id

/-! ### Messages, marks and indications -/

theorem Drop.take_calm (hQ : ScoreCondition Q) (d : Drop) (l : LoopState) (m : DownMessage) :
    Calm Q d (d.take l m) := by
  unfold Drop.take Config.outboundPlaces
  split
  · split <;> exact calm_of_same hQ rfl rfl rfl (.inr le_rfl)
  · split
    · next hlen => exact calm_of_same hQ rfl rfl rfl (.inl (by simpa using hlen))
    · split
      · exact ⟨rfl, hQ.congr _ _ rfl rfl rfl, fun h => by simp at *; omega⟩
      · exact calm_of_same hQ rfl rfl rfl (.inr le_rfl)

theorem Keeps.handOver {a : Nat} {m : DownMessage} (h : Keeps P Q M r s) : Keeps P Q M r (s.handOver a m) :=
  h.modifyDrop fun d _ _ => d.take_calm h.condition _ _

theorem Keeps.answer {a : Nat} {x : Result} (h : Keeps P Q M r s) : Keeps P Q M r (s.answer a x) := h.handOver

theorem Drop.queueStatus_calm (hQ : ScoreCondition Q) (d : Drop) : Calm Q d d.queueStatus := by
  rw [Drop.queueStatus_eq]; exact calm_of_same hQ rfl rfl rfl (.inr le_rfl)

theorem Keeps.queueStatus {a : Nat} (h : Keeps P Q M r s) : Keeps P Q M r (s.queueStatus a) :=
  h.modifyDrop fun d _ _ => d.queueStatus_calm h.condition

theorem Keeps.queueStatusAll (h : Keeps P Q M r s) : Keeps P Q M r s.queueStatusAll :=
  h.modifyDrops fun d => d.queueStatus_calm h.condition

/-- What each step of a fold keeps, the fold keeps. -/
theorem Keeps.foldl {α : Type} {f : State → α → State} (hf : ∀ s x, Keeps P Q M r s → Keeps P Q M r (f s x)) (l : List α)
    (h : Keeps P Q M r s) : Keeps P Q M r (l.foldl f s) := by
  induction l generalizing s with
  | nil => exact h
  | cons x xs ih => exact ih (hf s x h)

theorem Keeps.queueStatusFor {l : List Nat} (h : Keeps P Q M r s) : Keeps P Q M r (s.queueStatusFor l) :=
  h.foldl (fun _ _ g => g.queueStatus) l

theorem Keeps.queueHolder {d : Nat} (h : Keeps P Q M r s) : Keeps P Q M r (s.queueHolder d) := h.queueStatusFor

theorem Keeps.queueSupervisors (h : Keeps P Q M r s) : Keeps P Q M r s.queueSupervisors := h.queueStatusFor

theorem Keeps.queueUnseen {before : State} (h : Keeps P Q M r s) : Keeps P Q M r (s.queueUnseen before) := by
  refine h.modifyDrops fun d => ?_
  split
  · split
    · exact ⟨rfl, id, id⟩
    · exact d.queueStatus_calm h.condition
  · exact ⟨rfl, id, id⟩

theorem Keeps.setRelease {a : Nat} (h : Keeps P Q M r s) : Keeps P Q M r (s.setRelease a) :=
  h.modifyDrop fun _ _ _ => calm_of_same h.condition rfl rfl rfl (.inr le_rfl)

theorem Keeps.clearRelease {a : Nat} (h : Keeps P Q M r s) : Keeps P Q M r (s.clearRelease a) :=
  h.modifyDrop fun _ _ _ => calm_of_same h.condition rfl rfl rfl (.inr le_rfl)

theorem Keeps.setAlert {a : Nat} {on : Bool} (h : Keeps P Q M r s) : Keeps P Q M r (s.setAlert a on) :=
  h.modifyDrop fun _ _ _ => calm_of_same h.condition rfl rfl rfl (.inr le_rfl)

theorem Keeps.admitted {a : Nat} {f : State → State} (h : Keeps P Q M r s) (hf : Keeps P Q M r (f s)) :
    Keeps P Q M r (s.admitted a f) := by
  unfold State.admitted; split
  · exact hf
  · exact h.modifyDrop fun _ _ _ => calm_of_same h.condition rfl rfl rfl (.inr le_rfl)

theorem Keeps.fromTeller {a : Nat} {f : State → State} (h : Keeps P Q M r s) (hf : Keeps P Q M r (f s)) :
    Keeps P Q M r (s.fromTeller a f) := by
  unfold State.fromTeller; split
  · exact h.admitted hf
  · exact h

theorem Keeps.fromPrinter {a : Nat} {f : State → State} (h : Keeps P Q M r s) (hf : Keeps P Q M r (f s)) :
    Keeps P Q M r (s.fromPrinter a f) := by
  unfold State.fromPrinter; split
  · exact h.admitted hf
  · exact h

/-! ### Reports and the journal -/

/-- An answer joins the node queue where the room for it was found. -/
theorem Keeps.pushNode {e : NodeEntry} (h : Keeps P Q M r s) (hr : r.TrunkSound → s.nodeRoom = true) :
    Keeps P Q M r (s.pushNode e) := by
  refine h.onTrunk (h.relation r s _ rfl rfl h.mark) fun x ⟨hs, _⟩ => ⟨hs, ?_⟩
  have hlt : s.tkc.nodeQueue.length < 4 := of_decide_eq_true (hr x)
  show (s.tkc.nodeQueue ++ [e]).length ≤ 4
  simpa using hlt

theorem Keeps.nodeStatus {k : FrameHeader} {c : Condition} (h : Keeps P Q M r s) (hr : r.TrunkSound → s.nodeRoom = true) :
    Keeps P Q M r (s.nodeStatus k c) := h.pushNode hr

theorem Keeps.raiseTagged {tag : Nat} {c : Condition} (h : Keeps P Q M r s) : Keeps P Q M r (s.raiseTagged tag c) := by
  unfold State.raiseTagged; split
  · next hr => exact h.pushNode fun _ => hr
  · exact h.onTkc rfl rfl rfl

theorem Keeps.raise {c : Condition} (h : Keeps P Q M r s) : Keeps P Q M r (s.raise c) := h.raiseTagged

theorem Keeps.joinWaiting (h : Keeps P Q M r s) : Keeps P Q M r s.joinWaiting := by
  unfold State.joinWaiting
  split
  · split
    · next hr => exact (h.pushNode fun _ => hr).onTkc rfl rfl rfl
    · exact h
  · exact h

theorem Keeps.onStats {f : LinkStats → LinkStats} (h : Keeps P Q M r s) : Keeps P Q M r (s.onStats f) := h.onTkc rfl rfl rfl

theorem Keeps.judgeThresholds (h : Keeps P Q M r s) : Keeps P Q M r s.judgeThresholds := by
  simp only [State.judgeThresholds]
  split
  · exact h.raise.queueStatusAll
  · split
    · exact h.raise
    · split
      · exact h.raise
      · exact h

/-- A record enters below the limit of the journal's places (R128, R129). -/
theorem Keeps.appendRecord {x : Record} (h : Keeps P Q M r s) (hc : s.jnc.counter < Config.reserveLimit) :
    Keeps P Q M r (s.appendRecord x) := by
  refine Keeps.judgeThresholds (h.onJnc fun ⟨hr, _⟩ => ⟨?_, hc⟩)
  simp only [State.onJnc_jnc, List.map_append, List.map_cons, List.map_nil, hr, List.range'_concat]
  simp [Nat.add_comm]

theorem journalTakes_counter {b : RecordBody} (h : s.journalTakes b = true) : s.jnc.counter < Config.reserveLimit := by
  simp only [State.journalTakes, Bool.and_eq_true, decide_eq_true_eq] at h
  have hlt := h.2
  split at hlt <;> simp only [Config.ordinaryLimit, Config.reserveLimit] at * <;> omega

theorem Keeps.writeRecord {x : Record} (h : Keeps P Q M r s) : Keeps P Q M r (s.writeRecord x) := by
  unfold State.writeRecord; split
  · next ht => exact h.appendRecord (journalTakes_counter ht)
  · exact h

theorem Keeps.changeDisposition {q : Nat} {e n : Disposition} {x : Option Nat} (h : Keeps P Q M r s) :
    Keeps P Q M r (s.changeDisposition q e n x) := by
  unfold State.changeDisposition; split
  · exact h.onJnc (journal_congr (modifyKey_map_key fun _ hq => hq) rfl)
  · exact h

theorem Keeps.emptyJournal (h : Keeps P Q M r s) : Keeps P Q M r s.emptyJournal := by
  have hempty := h.onJnc (f := fun j => { j with records := [], counter := 0, postingsClosed := false })
    fun _ => ⟨rfl, Nat.zero_le _⟩
  simp only [State.emptyJournal]
  split
  · exact hempty.queueStatusAll
  · exact hempty

/-! ### Tellers, work items and slots -/

theorem Keeps.modifyTeller {n : Nat} {f : Teller → Teller} (h : Keeps P Q M r s) (hn : ∀ x, (f x).number = x.number)
    (hs : ∀ x, x.signedOn = false → (f x).signedOn = false) : Keeps P Q M r (s.modifyTeller n f) := by
  refine h.onRqu (fun x => (modifyKey_map_key fun y hy => (hn y).trans hy).symm ▸ x) fun _ hx => ?_
  simp only [State.nobodySignedOn, State.onRqu_rqu, modifyKey, List.all_map, List.all_eq_true, Function.comp_apply,
    Bool.not_eq_true'] at hx ⊢
  intro x hm
  split
  · exact hs x (hx x hm)
  · exact hx x hm

theorem Teller.restore_number (x : Teller) : x.restore.number = x.number := by
  unfold Teller.restore; split <;> rfl

theorem Teller.restore_signedOn (x : Teller) : x.restore.signedOn = x.signedOn := by
  unfold Teller.restore; split <;> rfl

theorem Keeps.restore {n : Nat} (h : Keeps P Q M r s) : Keeps P Q M r (s.modifyTeller n Teller.restore) :=
  h.modifyTeller Teller.restore_number fun x hx => x.restore_signedOn.trans hx

theorem Keeps.putTxn {x : Txn} (h : Keeps P Q M r s) : Keeps P Q M r (s.putTxn x) := h.onWork rfl
theorem Keeps.modifyTxn {a : Nat} {f : Txn → Txn} (h : Keeps P Q M r s) : Keeps P Q M r (s.modifyTxn a f) := h.onWork rfl
theorem Keeps.endTxn {a : Nat} (h : Keeps P Q M r s) : Keeps P Q M r (s.endTxn a) := h.onWork rfl
theorem Keeps.modifyFetch {a : Nat} {f : Fetch → Fetch} (h : Keeps P Q M r s) : Keeps P Q M r (s.modifyFetch a f) := h.onWork rfl
theorem Keeps.putFetch {x : Fetch} (h : Keeps P Q M r s) : Keeps P Q M r (s.putFetch x) := h.onWork rfl
theorem Keeps.endFetch {a : Nat} (h : Keeps P Q M r s) : Keeps P Q M r (s.endFetch a) := h.onWork rfl
theorem Keeps.leaveWaitList {a : Nat} (h : Keeps P Q M r s) : Keeps P Q M r (s.leaveWaitList a) := h.onWork rfl

theorem Keeps.setStage {a : Nat} {g : Stage} {i : Option Nat} (h : Keeps P Q M r s) : Keeps P Q M r (s.setStage a g i) :=
  (h.modifyTxn (a := a)).modifyFetch

theorem Keeps.modifySlot {i : Nat} {f : OnlineSlot → OnlineSlot} (h : Keeps P Q M r s)
    (hf : ∀ x, (f x).number = x.number) : Keeps P Q M r (s.modifySlot i f) :=
  h.onTkc (modifyKey_map_key fun x hx => (hf x).trans hx) rfl rfl

theorem Keeps.takeSlot {a i : Nat} (h : Keeps P Q M r s) : Keeps P Q M r (s.takeSlot a i) :=
  Keeps.setStage (h.modifySlot fun _ => rfl)

theorem Keeps.joinWaitList {a : Nat} (h : Keeps P Q M r s) : Keeps P Q M r (s.joinWaitList a) :=
  Keeps.setStage (h.onWork rfl)

theorem Keeps.forward {a : Nat} (h : Keeps P Q M r s) : Keeps P Q M r (s.forward a) := by
  unfold State.forward; split
  · exact h.takeSlot
  · exact h.joinWaitList

theorem Keeps.serveOne (h : Keeps P Q M r s) : Keeps P Q M r s.serveOne := by
  unfold State.serveOne; split
  · split
    · exact Keeps.takeSlot (h.onWork rfl)
    · exact h
  · exact h

theorem Keeps.serveWaitList (h : Keeps P Q M r s) : Keeps P Q M r s.serveWaitList :=
  h.serveOne.serveOne.serveOne.serveOne.serveOne.serveOne

theorem Keeps.freeSlotAt {i : Nat} (h : Keeps P Q M r s) : Keeps P Q M r (s.freeSlotAt i) := h.modifySlot fun _ => rfl

theorem Keeps.freeAndOffer {i : Nat} (h : Keeps P Q M r s) : Keeps P Q M r (s.freeAndOffer i) := h.freeSlotAt.serveWaitList

theorem Keeps.restartSupervision (h : Keeps P Q M r s) : Keeps P Q M r s.restartSupervision := h.onTkc rfl rfl rfl

theorem Keeps.modifySession {a : Nat} {f : Session → Session} (h : Keeps P Q M r s) : Keeps P Q M r (s.modifySession a f) :=
  h.onPbu

end Sys2Proof.Machine
end

section
/-! SUPPORT. What the cash, the day and the passbooks keep: the rules of `Keeps` for the drawers and the transit
list (R87), the changes of the day state, and the passbook parts (R137, R138). -/

namespace Sys2Proof.Machine

variable {P Q : Drop → Prop} {M : State → State → Prop} {r s t : State}

/-! ### The second law of R87 -/

/-- The parts of a position that come from transfers and differences. -/
def Sums.moved (x : Sums) : Int := x.transferIn - x.transferOut + x.overShort

theorem sumOf_add {α : Type} (f g : α → Int) (l : List α) : sumOf (fun x => f x + g x) l = sumOf f l + sumOf g l := by
  induction l with
  | nil => rfl
  | cons x xs ih => simp only [sumOf_cons, ih]; omega

theorem sumOf_sub {α : Type} (f g : α → Int) (l : List α) : sumOf (fun x => f x - g x) l = sumOf f l - sumOf g l := by
  induction l with
  | nil => rfl
  | cons x xs ih => simp only [sumOf_cons, ih]; omega

theorem sumOf_congr {α : Type} {f g : α → Int} {l : List α} (h : ∀ x ∈ l, f x = g x) : sumOf f l = sumOf g l := by
  induction l with
  | nil => rfl
  | cons x xs ih =>
    simp only [sumOf_cons, h x List.mem_cons_self, ih fun y hy => h y (List.mem_cons_of_mem _ hy)]

theorem sumOf_map {α β : Type} (f : β → Int) (g : α → β) (l : List α) : sumOf f (l.map g) = sumOf (fun x => f (g x)) l := by
  simp [sumOf, Function.comp_def]

/-- The openings and the cash legs stand on both sides of the law; what remains is what was moved (R87). -/
theorem conserves_iff (c : Csu) (cur : Currency) :
    c.Conserves cur ↔ c.total cur Sums.moved + c.inTransit cur = c.net cur := by
  have hsplit : c.total cur Sums.position =
      c.total cur Sums.opening + c.total cur Sums.cashIn - c.total cur Sums.cashOut + c.total cur Sums.moved := by
    simp only [Csu.total, ← sumOf_add, ← sumOf_sub]
    exact sumOf_congr fun d _ => by simp only [Sums.position, Sums.moved]; omega
  unfold Csu.Conserves
  rw [hsplit]; omega

/-- A sum over a keyed list whose keys stand once changes with the one record that changes. -/
theorem sumOf_modifyKey {α : Type} {key : α → Nat} {k : Nat} {g : α → α} {f : α → Int} {l : List α}
    (hl : (l.map key).Nodup) : sumOf f (modifyKey key k g l) =
      sumOf f l + ((findKey key k l).map fun w => f (g w) - f w).getD 0 := by
  induction l with
  | nil => simp [modifyKey]
  | cons x xs ih =>
    rw [List.map_cons, List.nodup_cons] at hl
    obtain ⟨hx, hxs⟩ := hl
    rw [findKey_cons, modifyKey, List.map_cons, ← modifyKey, sumOf_cons, sumOf_cons]
    by_cases hk : key x = k
    · have habs : findKey key k xs = none :=
        findKey_none.2 fun y hy hyk => hx (List.mem_map.2 ⟨y, hy, hyk.trans hk.symm⟩)
      rw [modifyKey_absent habs, if_pos hk, if_pos hk, Option.map_some, Option.getD_some]; omega
    · rw [if_neg hk, if_neg hk, ih hxs]; omega

/-- A sum over a keyed list whose keys stand once loses the one record that is removed. -/
theorem sumOf_eraseKey {α : Type} {key : α → Nat} {k : Nat} {f : α → Int} {l : List α} (hl : (l.map key).Nodup) :
    sumOf f (eraseKey key k l) = sumOf f l - ((findKey key k l).map f).getD 0 := by
  induction l with
  | nil => simp [eraseKey]
  | cons x xs ih =>
    rw [List.map_cons, List.nodup_cons] at hl
    obtain ⟨hx, hxs⟩ := hl
    rw [findKey_cons]
    by_cases hk : key x = k
    · have habs : findKey key k xs = none :=
        findKey_none.2 fun y hy hyk => hx (List.mem_map.2 ⟨y, hy, hyk.trans hk.symm⟩)
      have herase : eraseKey key k (x :: xs) = xs := by
        rw [eraseKey, List.filter_cons_of_neg (by simp [hk])]; exact eraseKey_absent habs
      rw [herase, if_pos hk, sumOf_cons, Option.map_some, Option.getD_some]; omega
    · have herase : eraseKey key k (x :: xs) = x :: eraseKey key k xs := by
        rw [eraseKey, List.filter_cons_of_pos (by simpa using hk)]; rfl
      rw [herase, if_neg hk, sumOf_cons, sumOf_cons, ih hxs]; omega

theorem drawers_nodup {c : Csu} (h : c.drawers.map Drawer.number = List.range 25) :
    (c.drawers.map Drawer.number).Nodup := h ▸ List.nodup_range

/-- The drawers of a CSU with 25 drawers are those of the numbers 0 to 24. -/
theorem drawer_exists {c : Csu} (h : c.drawers.map Drawer.number = List.range 25) {n : Nat} (hn : n ≤ 24) :
    ∃ w, findKey Drawer.number n c.drawers = some w := by
  by_contra hno
  have habs := findKey_none.1 (Option.eq_none_iff_forall_ne_some.2 fun w hw => hno ⟨w, hw⟩)
  have hmem : n ∈ c.drawers.map Drawer.number := by rw [h]; simp; omega
  obtain ⟨w, hw, hwn⟩ := List.mem_map.1 hmem
  exact habs w hw hwn

theorem drawer_number_le {c : Csu} (h : c.drawers.map Drawer.number = List.range 25) {w : Drawer}
    (hw : w ∈ c.drawers) : w.number ≤ 24 := by
  have : w.number ∈ c.drawers.map Drawer.number := List.mem_map.2 ⟨w, hw, rfl⟩
  rw [h] at this; simp at this; omega

/-- A change of the drawers one by one that moves nothing keeps the cash accounted for. -/
theorem Keeps.onDrawers {f : Csu → Csu} {g : Drawer → Drawer} (h : Keeps P Q M r s)
    (hf : f s.csu = { s.csu with drawers := s.csu.drawers.map g }) (hn : ∀ w, (g w).number = w.number)
    (hm : ∀ w c, ((g w).sums c).moved = (w.sums c).moved) : Keeps P Q M r (s.onCsu f) := by
  refine h.onCsu fun _ ⟨hnum, htr, hclosed, hblock, hh, hfo⟩ => ?_
  have hlaw : ∀ cur, s.csu.Conserves cur → (f s.csu).Conserves cur := by
    intro cur hc
    rw [conserves_iff] at hc ⊢
    have htotal : (f s.csu).total cur Sums.moved = s.csu.total cur Sums.moved := by
      rw [hf, Csu.total, sumOf_map]; exact sumOf_congr fun w _ => hm w cur
    rw [htotal, hf]; exact hc
  refine ⟨?_, ?_, ?_, hblock, hlaw _ hh, hlaw _ hfo⟩
  · rw [State.onCsu_csu, hf, ← hnum, List.map_map]; exact List.map_congr_left fun w _ => hn w
  · rw [State.onCsu_csu, hf]; exact htr
  · rw [State.onCsu_csu, hf]; exact hclosed

theorem Keeps.modifyDrawer {n : Nat} {f : Drawer → Drawer} (h : Keeps P Q M r s) (hn : ∀ w, (f w).number = w.number)
    (hm : ∀ w c, ((f w).sums c).moved = (w.sums c).moved) : Keeps P Q M r (s.modifyDrawer n f) := by
  refine h.onDrawers rfl (fun w => ?_) fun w c => ?_
  · split
    · exact hn w
    · rfl
  · split
    · exact hm w c
    · rfl

/-- What drawer `n`'s figures of a currency move by, the transit list and the net make up for. -/
theorem conserves_modifyDrawer {c c' : Csu} {n : Nat} {f : Drawer → Drawer} {w : Drawer} (cur : Currency)
    (hnum : c.drawers.map Drawer.number = List.range 25) (hw : findKey Drawer.number n c.drawers = some w)
    (hd : c'.drawers = modifyKey Drawer.number n f c.drawers) (hc : c.Conserves cur)
    (hm : ((f w).sums cur).moved - (w.sums cur).moved + c'.inTransit cur - c.inTransit cur = c'.net cur - c.net cur) :
    c'.Conserves cur := by
  rw [conserves_iff] at hc ⊢
  rw [Csu.total, hd, sumOf_modifyKey (drawers_nodup hnum), hw]
  simp only [Csu.total, Option.map_some, Option.getD_some] at hc ⊢
  omega

theorem moved_onSums (w : Drawer) (c cur : Currency) (f : Sums → Sums) :
    ((w.onSums c f).sums cur).moved = if c = cur then (f (w.sums cur)).moved else (w.sums cur).moved := by
  cases c <;> cases cur <;> simp [Drawer.onSums, Drawer.sums]

theorem onSums_number (w : Drawer) (c : Currency) (f : Sums → Sums) : (w.onSums c f).number = w.number := by
  cases c <;> rfl

/-- One drawer and the transit list change, so that what the drawer moves the list makes up for. -/
theorem Keeps.transfer {n : Nat} {c : Currency} {g : Sums → Sums} {f : Csu → Csu} (h : Keeps P Q M r s)
    (hd : (f s.csu).drawers = modifyKey Drawer.number n (fun x => x.onSums c g) s.csu.drawers)
    (hnet : (f s.csu).netHome = s.csu.netHome ∧ (f s.csu).netForeign = s.csu.netForeign)
    (hx : r.CashConserved → s.CashConserved → n ≤ 24 ∧ (f s.csu).TransitSound ∧
      (closedDay s.dyc.day = true → (f s.csu).transit = []) ∧
      ∀ cur x, (if c = cur then (g x).moved else x.moved) + (f s.csu).inTransit cur = x.moved + s.csu.inTransit cur) :
    Keeps P Q M r (s.onCsu f) := by
  refine h.onCsu fun y x => ?_
  obtain ⟨hn, hsound, hclosed, hm⟩ := hx y x
  obtain ⟨hnum, -, hcl, hblock, hh, hfo⟩ := x
  obtain ⟨w, hw⟩ := drawer_exists hnum hn
  have hlaw : ∀ cur, (f s.csu).net cur = s.csu.net cur → s.csu.Conserves cur → (f s.csu).Conserves cur := by
    intro cur hnetc hc
    refine conserves_modifyDrawer cur hnum hw hd hc ?_
    have := hm cur (w.sums cur)
    rw [hnetc, moved_onSums]; omega
  refine ⟨?_, hsound, fun hday => ⟨hclosed hday, (hcl hday).2⟩, hblock, hlaw _ hnet.1 hh, hlaw _ hnet.2 hfo⟩
  rw [State.onCsu_csu, hd, modifyKey_map_key fun y hy => (onSums_number y c g).trans hy]
  exact hnum

/-! ### Drawers -/

theorem Keeps.judgeCashHigh {n : Nat} (h : Keeps P Q M r s) : Keeps P Q M r (s.judgeCashHigh n) := by
  unfold State.judgeCashHigh
  split
  · split
    · exact h
    · exact Keeps.queueHolder (h.modifyDrawer (fun _ => rfl) fun _ c => by cases c <;> rfl)
  · exact h

theorem applyLegs_moved (l : List Leg) (w : Drawer) (c : Currency) :
    ((l.foldl Drawer.applyLeg w).sums c).moved = (w.sums c).moved := by
  rw [foldl_applyLeg]; cases c <;> rfl

theorem Keeps.applyCash {x : Txn} (h : Keeps P Q M r s) : Keeps P Q M r (s.applyCash x) := by
  unfold State.applyCash
  split
  · split
    · exact Keeps.judgeCashHigh (Keeps.setRelease
        (h.modifyDrawer (fun w => by rw [foldl_applyLeg]) fun w c => applyLegs_moved x.legs w c))
    · exact h
  · exact h

/-- Differences go into a drawer's over/short and the branch net alike (R71). -/
theorem Keeps.takeDifferences {n : Nat} {home foreign : Int} (h : Keeps P Q M r s)
    (hn : s.CashConserved → n ≤ 24) : Keeps P Q M r (s.takeDifferences n home foreign) := by
  refine Keeps.judgeCashHigh (Keeps.onCsu h fun _ x => ?_ : Keeps P Q M r (s.onCsu fun c => { c with
    drawers := modifyKey Drawer.number n (fun x => { x with
        home := { x.home with overShort := x.home.overShort + home }
        foreign := { x.foreign with overShort := x.foreign.overShort + foreign }
        balance := .balanced }) c.drawers
    netHome := c.netHome + home, netForeign := c.netForeign + foreign }))
  obtain ⟨hnum, htr, hcl, hblock, hh, hfo⟩ := id x
  obtain ⟨w, hw⟩ := drawer_exists hnum (hn x)
  refine ⟨?_, htr, hcl, hblock, conserves_modifyDrawer .home hnum hw rfl hh ?_,
    conserves_modifyDrawer .foreign hnum hw rfl hfo ?_⟩
  · exact (modifyKey_map_key fun _ hy => by exact hy).trans hnum
  · simp only [State.onCsu_csu, Drawer.sums, Sums.moved, Csu.net, Csu.inTransit]; omega
  · simp only [State.onCsu_csu, Drawer.sums, Sums.moved, Csu.net, Csu.inTransit]; omega

/-! ### The day -/

/-- A change of the day: into a closed one only with nothing in transit and nobody signed on, and out of SENDING only
with the block timer stopped. -/
theorem Keeps.setDay {d : DayState} (h : Keeps P Q M r s)
    (hd : r.CashConserved → s.CashConserved → (closedDay d = true → s.csu.transit = [] ∧ s.nobodySignedOn = true) ∧
      (s.dyc.blockTimer ≠ .stopped → d = .sending)) : Keeps P Q M r (s.setDay d) := by
  have hday := h.onDay (f := fun y => { y with day := d }) rfl fun y x => by
    obtain ⟨hnum, htr, -, -, hh, hfo⟩ := id x
    exact ⟨hnum, htr, (hd y x).1, (hd y x).2, hh, hfo⟩
  simp only [State.setDay]
  split
  · exact hday
  · exact hday.queueStatusAll

/-- With the block timer stopped any day but a closed one may follow. -/
theorem Keeps.setOpenDay {d : DayState} (h : Keeps P Q M r s) (ho : closedDay d = false)
    (hb : s.CashConserved → s.dyc.blockTimer = .stopped) : Keeps P Q M r (s.setDay d) :=
  h.setDay fun _ x => ⟨fun hc => by simp [ho] at hc, fun hne => absurd (hb x) hne⟩

theorem blockTimer_stopped (x : s.CashConserved) (hd : s.dyc.day ≠ .sending) : s.dyc.blockTimer = .stopped := by
  obtain ⟨-, -, -, hblock, -, -⟩ := x
  by_contra hne; exact hd (hblock hne)

theorem closed_nobody (x : s.CashConserved) (hd : closedDay s.dyc.day = true) :
    s.csu.transit = [] ∧ s.nobodySignedOn = true := by
  obtain ⟨-, -, hclosed, -, -, -⟩ := x
  exact hclosed hd

/-- A change of Day Control that stops the block timer, or keeps it, and leaves the day and the parameters alone. -/
theorem Keeps.onTimer {f : Dyc → Dyc} (h : Keeps P Q M r s) (hp : (f s.dyc).params = s.dyc.params)
    (hd : (f s.dyc).day = s.dyc.day) (hb : (f s.dyc).blockTimer = .stopped ∨ s.dyc.day = .sending) :
    Keeps P Q M r (s.onDyc f) := by
  refine h.onDay hp fun _ ⟨hnum, htr, hcl, _, hh, hfo⟩ => ⟨hnum, htr, ?_, ?_, hh, hfo⟩
  · rw [State.onDyc_dyc, hd]; exact hcl
  · rw [State.onDyc_dyc, hd]
    intro hne
    exact hb.elim (fun hs => absurd hs hne) id

theorem Keeps.forgetResumption (h : Keeps P Q M r s) : Keeps P Q M r s.forgetResumption := h.onTkc rfl rfl rfl

theorem Keeps.stall (h : Keeps P Q M r s) (hd : r.CashConserved → closedDay s.dyc.day = true) : Keeps P Q M r s.stall :=
  Keeps.setDay (Keeps.forgetResumption (h.onTimer rfl rfl (.inl rfl))) fun y x =>
    ⟨fun _ => closed_nobody x (hd y), fun hne => absurd rfl hne⟩

theorem setDay_day (d : DayState) : (s.setDay d).dyc.day = d := by
  simp only [State.setDay]; split <;> simp [State.queueStatusAll, State.modifyDrops]

theorem Keeps.stallUnlessOnline (h : Keeps P Q M r s) (hd : closedDay s.dyc.day = true) : Keeps P Q M r s.stallUnlessOnline := by
  unfold State.stallUnlessOnline; split
  · exact h
  · exact h.stall fun _ => hd

theorem Keeps.freezeSfq (h : Keeps P Q M r s) : Keeps P Q M r s.freezeSfq := h.onTkc rfl rfl rfl

theorem Keeps.enterSending (h : Keeps P Q M r s) (ht : s.csu.transit = []) (hn : s.nobodySignedOn = true) :
    Keeps P Q M r s.enterSending := by
  refine Keeps.stallUnlessOnline (Keeps.raise (Keeps.freezeSfq (Keeps.setDay (h.onTimer rfl rfl (.inl rfl)) fun _ _ =>
    ⟨fun _ => ⟨ht, hn⟩, fun _ => rfl⟩))) ?_
  simp [State.freezeSfq, setDay_day, closedDay]

theorem Keeps.judgeExit (h : Keeps P Q M r s) : Keeps P Q M r s.judgeExit := by
  unfold State.judgeExit; split
  · next hx => exact h.enterSending hx.2.2.1 hx.2.2.2
  · exact h

theorem Keeps.drawersDue (h : Keeps P Q M r s) : Keeps P Q M r s.drawersDue := by
  refine Keeps.foldl (fun _ _ g => g.setRelease) _
    (h.onDrawers (g := fun d => if d.fallsDue then { d with balance := .due } else d) rfl (fun w => ?_) fun w c => ?_)
  · split <;> rfl
  · split
    · cases c <;> rfl
    · rfl

theorem Keeps.captureCutoff (h : Keeps P Q M r s) : Keeps P Q M r s.captureCutoff :=
  Keeps.onJnc (h.onDyc rfl rfl rfl) (journal_congr rfl rfl)

theorem writeRecord_dyc {x : Record} : (s.writeRecord x).dyc = s.dyc := by simp

theorem Keeps.endDrain (h : Keeps P Q M r s) (hd : s.dyc.day = .closeDrain) : Keeps P Q M r s.endDrain := by
  refine Keeps.judgeExit (Keeps.drawersDue (Keeps.setOpenDay
    (Keeps.onDyc (Keeps.writeRecord h.captureCutoff) rfl rfl rfl) rfl fun x => blockTimer_stopped x ?_))
  simp [State.captureCutoff, hd]

theorem Keeps.judgeDrain (h : Keeps P Q M r s) : Keeps P Q M r s.judgeDrain := by
  unfold State.judgeDrain; split
  · next hx => exact h.endDrain hx.1
  · exact h

/-! ### Passbook parts -/

/-- The waiting lines of an account. -/
def SatEntry.lines (e : SatEntry) : Nat := (e.book.map fun b => b.pending.length).getD 0

theorem poolFree_eq : s.poolFree = 8192 - (s.siu.sat.map SatEntry.lines).sum := rfl

/-- A sum over a keyed list whose keys stand once grows by no more than the one record that changes. -/
theorem sum_modifyKey_le {α : Type} {key : α → Nat} {k m : Nat} {g : α → α} {f : α → Nat} {l : List α}
    (hl : (l.map key).Nodup) (hm : ∀ x ∈ l, key x = k → f (g x) ≤ f x + m) :
    ((modifyKey key k g l).map f).sum ≤ (l.map f).sum + m := by
  induction l with
  | nil => simp [modifyKey]
  | cons x xs ih =>
    rw [List.map_cons, List.nodup_cons] at hl
    obtain ⟨hx, hxs⟩ := hl
    rw [modifyKey, List.map_cons, ← modifyKey, List.map_cons, List.sum_cons, List.map_cons, List.sum_cons]
    by_cases hk : key x = k
    · have habs : findKey key k xs = none :=
        findKey_none.2 fun y hy hyk => hx (List.mem_map.2 ⟨y, hy, hyk.trans hk.symm⟩)
      have := hm x List.mem_cons_self hk
      rw [modifyKey_absent habs, if_pos hk]; omega
    · have := ih hxs fun y hy => hm y (List.mem_cons_of_mem _ hy)
      rw [if_neg hk]; omega

theorem findKey_of_mem {α : Type} {key : α → Nat} {x : α} {l : List α} (hl : (l.map key).Nodup) (hx : x ∈ l) :
    findKey key (key x) l = some x := by
  induction l with
  | nil => cases hx
  | cons y ys ih =>
    rw [List.map_cons, List.nodup_cons] at hl
    obtain ⟨hy, hys⟩ := hl
    rw [findKey_cons]
    obtain rfl | hm := List.mem_cons.1 hx
    · rw [if_pos rfl]
    · have hne : key y ≠ key x := fun he => hy (he ▸ List.mem_map.2 ⟨x, hm, rfl⟩)
      rw [if_neg hne]; exact ih hys hm

theorem pairwise_lt_nodup {l : List Nat} (h : l.Pairwise (· < ·)) : l.Nodup := h.imp fun hlt => Nat.ne_of_lt hlt

/-- A change of one account's passbook part that keeps it in balance and takes no more lines than the pool has free. -/
theorem Keeps.modifyBook {n : Nat} {f : Passbook → Passbook} (h : Keeps P Q M r s)
    (hf : ∀ b, s.bookOf n = some b → b.Sound → (f b).Sound)
    (hl : ∀ b, s.bookOf n = some b → (f b).pending.length ≤ b.pending.length + s.poolFree) :
    Keeps P Q M r (s.modifyBook n f) := by
  unfold State.modifyBook State.modifySat
  refine h.onSiu fun ⟨hp, he, hsum⟩ => ?_
  have hbook : ∀ e ∈ s.siu.sat, e.account = n → ∀ b, e.book = some b → s.bookOf n = some b := by
    intro e hm hn b hb
    have hfind : s.satAt n = some e := hn ▸ findKey_of_mem (pairwise_lt_nodup hp) hm
    simp [State.bookOf, hfind, hb]
  refine ⟨?_, ?_, ?_⟩
  · rw [State.onSiu_siu, modifyKey_map_key fun _ hy => by exact hy]; exact hp
  · intro e' hm'
    obtain ⟨e, hm, rfl⟩ := List.mem_map.1 hm'
    obtain ⟨hused, hs⟩ := he e hm
    by_cases hn : e.account = n
    · rw [if_pos hn]
      refine ⟨hused, fun b hb => ?_⟩
      obtain ⟨b0, hb0, rfl⟩ := Option.map_eq_some_iff.1 hb
      exact hf b0 (hbook e hm hn b0 hb0) (hs b0 hb0)
    · rw [if_neg hn]; exact ⟨hused, hs⟩
  · have hle := sum_modifyKey_le (f := SatEntry.lines) (m := s.poolFree) (k := n)
      (g := fun e => { e with book := e.book.map f }) (pairwise_lt_nodup hp) fun e hm hn => by
        cases hb : e.book with
        | none => simp [SatEntry.lines, hb]
        | some b => simpa [SatEntry.lines, hb] using hl b (hbook e hm hn b hb)
    have hpool : s.poolFree = 8192 - (s.siu.sat.map SatEntry.lines).sum := rfl
    have hsum' : (s.siu.sat.map SatEntry.lines).sum ≤ 8192 := hsum
    exact hle.trans (by omega)

/-- A change of a passbook part that leaves its lines, figures and marker alone is sound. -/
theorem Passbook.Sound.congr {b c : Passbook} (h : b.Sound) (hp : c.printed = b.printed)
    (hl : c.lineBalance = b.lineBalance) (hn : c.pending = b.pending) (ho : c.overflow = b.overflow)
    (hm : c.marker = b.marker) : c.Sound := by
  unfold Passbook.Sound
  rw [hp, hl, hn, ho, hm]; exact h

theorem foldLines_sum (l : List Line) : sumOf Line.amount (foldLines l) = sumOf Line.amount l := by
  cases l with
  | nil => rfl
  | cons x xs =>
    cases xs with
    | nil => rfl
    | cons y ys => simp only [foldLines, mergeLines, sumOf_cons]; omega

theorem foldLines_length (l : List Line) : (foldLines l).length ≤ l.length := by
  cases l with
  | nil => simp [foldLines]
  | cons x xs => cases xs <;> simp [foldLines]

theorem Passbook.fold_sound {b : Passbook} (h : b.Sound) : b.fold.Sound := by
  obtain ⟨hsum, hmark⟩ := h
  unfold Passbook.fold
  split
  · split
    · next x xs hp =>
      refine ⟨?_, fun m hm hs => ?_⟩
      · rw [hp] at hsum
        simpa [foldLines_sum] using hsum
      · simpa [hp] using hmark m hm hs
    · exact ⟨hsum, hmark⟩
  · next hfix =>
    refine ⟨?_, fun m hm hs => absurd ?_ hfix⟩
    · simpa [foldLines_sum] using hsum
    · have : b.marker = some m := hm
      simp [Passbook.headFixed, this, hs]

theorem Passbook.fold_length (b : Passbook) : b.fold.pending.length ≤ b.pending.length := by
  unfold Passbook.fold
  split
  · split
    · next x xs hp =>
      have := foldLines_length xs
      simp only [hp, List.length_cons]; omega
    · exact le_rfl
  · exact foldLines_length _

theorem Passbook.foldDown_sound (n : Nat) {b : Passbook} (h : b.Sound) : (b.foldDown n).Sound := by
  induction n generalizing b with
  | zero => exact h
  | succ n ih =>
    unfold Passbook.foldDown; split
    · exact ih (Passbook.fold_sound h)
    · exact h

theorem Passbook.foldDown_length (n : Nat) (b : Passbook) : (b.foldDown n).pending.length ≤ b.pending.length := by
  induction n generalizing b with
  | zero => exact le_rfl
  | succ n ih =>
    unfold Passbook.foldDown; split
    · exact (ih b.fold).trans b.fold_length
    · exact le_rfl

theorem Passbook.foldIfLong_sound {b : Passbook} (h : b.Sound) : b.foldIfLong.Sound := by
  unfold Passbook.foldIfLong; split
  · exact Passbook.fold_sound h
  · exact h

theorem Passbook.foldIfLong_length (b : Passbook) : b.foldIfLong.pending.length ≤ b.pending.length := by
  unfold Passbook.foldIfLong; split
  · exact b.fold_length
  · exact le_rfl

/-- A line at the tail of the list stands behind the head that a marker may name. -/
theorem head_append {l m : List Line} {n : Int} (h : l.head?.map Line.amount = some n) :
    (l ++ m).head?.map Line.amount = some n := by
  cases l with
  | nil => cases h
  | cons x xs => exact h

/-- An appended line raises the line balance and what waits by its amount (R137, R139). -/
theorem Passbook.place_sound {b : Passbook} {free : Nat} {l : Line} (h : b.Sound) :
    ({ b with lineBalance := b.lineBalance + l.amount }.place free l).Sound := by
  obtain ⟨hsum, hmark⟩ := h
  unfold Passbook.place
  simp only [Passbook.joinOverflow, Passbook.convertOverflow, emptyOverflow]
  split
  · split
    · refine ⟨?_, fun m hm hs => head_append (hmark m hm hs)⟩
      simp only [sumOf_append, sumOf_cons, sumOf_nil]; omega
    · exact ⟨by simp only; omega, hmark⟩
  · split
    · exact ⟨by simp only; omega, hmark⟩
    · refine ⟨?_, fun m hm hs => head_append (hmark m hm hs)⟩
      simp only [sumOf_append, sumOf_cons, sumOf_nil]; omega

theorem Passbook.place_length (b : Passbook) (free : Nat) (l : Line) :
    (b.place free l).pending.length ≤ b.pending.length + free := by
  unfold Passbook.place
  simp only [Passbook.joinOverflow, Passbook.convertOverflow]
  split
  · split
    · next h => simp only [List.length_append, List.length_singleton]; omega
    · exact Nat.le_add_right _ _
  · split
    · exact Nat.le_add_right _ _
    · simp only [List.length_append, List.length_singleton]; omega

theorem Passbook.convertIfRoom_sound {b : Passbook} {free : Nat} (h : b.Sound) : (b.convertIfRoom free).Sound := by
  obtain ⟨hsum, hmark⟩ := h
  unfold Passbook.convertIfRoom; split
  · refine ⟨?_, fun m hm hs => head_append (hmark m hm hs)⟩
    simp only [Passbook.convertOverflow, emptyOverflow, sumOf_append, sumOf_cons, sumOf_nil]; omega
  · exact ⟨hsum, hmark⟩

theorem Passbook.convertIfRoom_length (b : Passbook) (free : Nat) :
    (b.convertIfRoom free).pending.length ≤ b.pending.length + free := by
  unfold Passbook.convertIfRoom; split
  · next h => simp only [Passbook.convertOverflow, List.length_append, List.length_singleton]; omega
  · exact Nat.le_add_right _ _

/-- A confirmed line moves its amount from what waits to the printed balance (R137, R148). -/
theorem Passbook.confirmMarked_sound {b : Passbook} (h : b.Sound) : b.confirmMarked.Sound := by
  obtain ⟨hsum, hmark⟩ := h
  unfold Passbook.confirmMarked
  split
  · exact ⟨hsum, hmark⟩
  · next m hm =>
    refine ⟨?_, fun _ hn => by cases hn⟩
    cases hs : m.source with
    | list =>
      have hhead := hmark m hm hs
      cases hp : b.pending with
      | nil => rw [hp] at hhead; cases hhead
      | cons x xs =>
        rw [hp] at hhead hsum
        have hx : x.amount = m.amount := by simpa using hhead
        simp only [List.tail_cons, sumOf_cons] at hsum ⊢; omega
    | overflow => simp only; omega

theorem Passbook.confirmMarked_length (b : Passbook) : b.confirmMarked.pending.length ≤ b.pending.length := by
  unfold Passbook.confirmMarked
  split
  · exact le_rfl
  · next m _ => cases m.source <;> simp

theorem Passbook.renew_sound {b : Passbook} {free : Nat} {date : Option Date} (h : b.Sound) :
    (b.renew free date).Sound := by
  obtain ⟨hsum, hmark⟩ := h
  simp only [Passbook.renew]
  split
  · exact ⟨by simpa using hsum, fun _ hn => by cases hn⟩
  · exact ⟨hsum, fun _ hn => by cases hn⟩

theorem Passbook.renew_length (b : Passbook) (free : Nat) (date : Option Date) :
    (b.renew free date).pending.length ≤ b.pending.length + free := by
  simp only [Passbook.renew]
  split
  · simp only [List.length_cons]; omega
  · exact Nat.le_add_right _ _

theorem Keeps.appendLine {n : Nat} {l : Line} (h : Keeps P Q M r s) : Keeps P Q M r (s.appendLine n l) := by
  unfold State.appendLine
  split
  · exact h
  · split
    · exact h.modifyBook (fun b _ hb => Passbook.foldIfLong_sound (Passbook.place_sound hb)) fun b _ =>
        (Passbook.foldIfLong_length _).trans (Passbook.place_length _ _ _)
    · exact h.raise

/-! ### Printer sessions -/

theorem Keeps.sendCommand {a : Nat} {c : PrinterCommand} {m : DownMessage} (h : Keeps P Q M r s) :
    Keeps P Q M r (s.sendCommand a c m) := (h.handOver (a := a)).modifySession

theorem Keeps.startIdentify {a : Nat} (h : Keeps P Q M r s) : Keeps P Q M r (s.startIdentify a) := by
  unfold State.startIdentify; split
  · exact Keeps.sendCommand h.modifySession
  · exact h

theorem Keeps.endSession {a : Nat} (h : Keeps P Q M r s) : Keeps P Q M r (s.endSession a) := by
  unfold State.endSession
  split
  · exact h
  · split
    · exact h
    · next n _ =>
      have hfold := h.modifyBook (n := n)
        (f := fun b => let b' := { b with session := none }; b'.foldDown b'.pending.length)
        (fun b _ hb => Passbook.foldDown_sound (b := { b with session := none }) _ (hb.congr rfl rfl rfl rfl rfl)) fun b _ =>
          (Passbook.foldDown_length _ _).trans (Nat.le_add_right _ _)
      dsimp only at hfold ⊢
      split
      · split
        · exact hfold.writeRecord
        · exact hfold
      · exact hfold

theorem Keeps.finishSession {a : Nat} {x : Option BookReason} (h : Keeps P Q M r s) : Keeps P Q M r (s.finishSession a x) :=
  Keeps.endSession (h.handOver (a := a)).modifySession

theorem Keeps.withdrawFetch {a : Nat} (h : Keeps P Q M r s) : Keeps P Q M r (s.withdrawFetch a) := by
  unfold State.withdrawFetch
  split
  · split
    · exact Keeps.endFetch h.leaveWaitList
    · exact Keeps.freeAndOffer h.endFetch
    · exact h
  · exact h

theorem Keeps.faultSession {a : Nat} (h : Keeps P Q M r s) : Keeps P Q M r (s.faultSession a) :=
  Keeps.withdrawFetch h.finishSession

theorem Keeps.refuseBook {a : Nat} {n : Option Nat} {p : Option BookPos} {x : BookReason} (h : Keeps P Q M r s) :
    Keeps P Q M r (s.refuseBook a n p x) := Keeps.writeRecord (Keeps.handOver h.modifySession)

theorem Keeps.printerFaultAt {a : Nat} (h : Keeps P Q M r s) : Keeps P Q M r (s.printerFaultAt a) := by
  unfold State.printerFaultAt
  split
  · exact h.refuseBook
  · exact h.faultSession
  · exact h.faultSession
  · exact h.faultSession
  · exact h
  · exact h
  · exact h

theorem Keeps.interruptSession {a : Nat} (h : Keeps P Q M r s) : Keeps P Q M r (s.interruptSession a) := by
  unfold State.interruptSession
  refine Keeps.modifySession ?_
  split
  · exact Keeps.withdrawFetch h.endSession
  · exact Keeps.withdrawFetch h.endSession
  · exact Keeps.withdrawFetch h.endSession
  · exact h
  · exact h
  · exact h
  · exact h

theorem Keeps.bookInChanged {a : Nat} {on : Bool} (h : Keeps P Q M r s) : Keeps P Q M r (s.bookInChanged a on) := by
  unfold State.bookInChanged; split
  · exact h.startIdentify
  · exact h.interruptSession

/-- The marker of a printed line names the head of the list, or the overflow (R147). -/
theorem Keeps.printLine {a n : Nat} {b : Passbook} {l : Line} {x : MarkerSource} (h : Keeps P Q M r s)
    (hb : x = .list → s.bookOf n = some b ∧ b.pending.head? = some l) : Keeps P Q M r (s.printLine a n b l x) := by
  unfold State.printLine
  split
  · refine Keeps.sendCommand (h.modifyBook (fun c hc hs => ⟨hs.1, fun m hm hl => ?_⟩) fun _ _ => Nat.le_add_right _ _)
    cases hm
    obtain ⟨hbook, hhead⟩ := hb hl
    cases hc.symm.trans hbook
    simp [hhead]
  · exact h.finishSession

theorem Keeps.chooseLine {a n : Nat} (h : Keeps P Q M r s) : Keeps P Q M r (s.chooseLine a n) := by
  unfold State.chooseLine
  have hroom := h.modifyBook (n := n) (f := fun b => b.convertIfRoom s.poolFree)
    (fun b _ hb => Passbook.convertIfRoom_sound hb) fun b _ => b.convertIfRoom_length _
  simp only
  split
  · exact hroom.finishSession
  · next b hb =>
    split
    · next l ls hl => exact hroom.printLine fun _ => ⟨hb, by rw [hl]; rfl⟩
    · split
      · exact hroom.printLine fun hx => by cases hx
      · exact hroom.finishSession

theorem Keeps.startPrinting {a n : Nat} (h : Keeps P Q M r s) : Keeps P Q M r (s.startPrinting a n) :=
  Keeps.chooseLine h.modifySession

theorem Keeps.resumeFetching {a : Nat} (h : Keeps P Q M r s) : Keeps P Q M r (s.resumeFetching a) := by
  unfold State.resumeFetching
  split
  · split
    · exact h.startPrinting
    · exact h
  · exact h

theorem Keeps.fetchOutcome {f : Fetch} {l : List FetchLine} (h : Keeps P Q M r s) : Keeps P Q M r (s.fetchOutcome f l) :=
  Keeps.resumeFetching (Keeps.foldl (fun _ _ g => g.appendLine) _ h.endFetch)

theorem Keeps.requestFetch {a n : Nat} (h : Keeps P Q M r s) : Keeps P Q M r (s.requestFetch a n) := by
  unfold State.requestFetch
  split
  · exact h.startPrinting
  · exact Keeps.modifySession (Keeps.forward h.putFetch)

theorem Keeps.proceedSession {a n k : Nat} (h : Keeps P Q M r s) : Keeps P Q M r (s.proceedSession a n k) := by
  unfold State.proceedSession
  have hopen : Keeps P Q M r ((s.modifyBook n fun b => { b.convertIfRoom s.poolFree with session := some a }).modifySession
      a fun x => { x with account := some n, printed := k, command := none, timer := .stopped }) :=
    Keeps.modifySession (h.modifyBook
      (fun b _ hb => (Passbook.convertIfRoom_sound hb).congr rfl rfl rfl rfl rfl) fun b _ => b.convertIfRoom_length _)
  simp only
  split
  · exact hopen.finishSession
  · exact hopen.requestFetch

theorem Keeps.reconcile {a n : Nat} {p : BookPos} {b : Passbook} (h : Keeps P Q M r s) :
    Keeps P Q M r (s.reconcile a n p b) := by
  unfold State.reconcile
  split
  · exact h.refuseBook
  · split
    · exact Keeps.proceedSession (h.modifyBook (fun c _ hc => ⟨hc.1, fun _ hm => by cases hm⟩)
        fun _ _ => Nat.le_add_right _ _)
    · split
      · exact Keeps.proceedSession (h.modifyBook (fun _ _ hc => Passbook.confirmMarked_sound hc)
          fun c _ => c.confirmMarked_length.trans (Nat.le_add_right _ _))
      · split <;> exact h.refuseBook

theorem Keeps.checkBook {a : Nat} {x : Stripe} (h : Keeps P Q M r s) : Keeps P Q M r (s.checkBook a x) := by
  unfold State.checkBook
  split
  · exact h.refuseBook
  · split
    · exact h.refuseBook
    · split
      · exact h.refuseBook
      · split
        · exact h.refuseBook
        · exact h.reconcile

theorem Keeps.bookPresent {a : Nat} {x : Stripe} (h : Keeps P Q M r s) : Keeps P Q M r (s.bookPresent a x) := by
  unfold State.bookPresent; split
  · exact Keeps.checkBook h.modifySession
  · exact h.printerFaultAt

theorem Keeps.pageEnd {a n p : Nat} (h : Keeps P Q M r s) : Keeps P Q M r (s.pageEnd a n p) := by
  unfold State.pageEnd
  split
  · exact h.finishSession
  · split
    · exact Keeps.sendCommand h.modifySession
    · exact h.finishSession

theorem Keeps.lineConfirmed {a n p l : Nat} (h : Keeps P Q M r s) : Keeps P Q M r (s.lineConfirmed a n p l) := by
  unfold State.lineConfirmed
  have hconf : Keeps P Q M r ((s.modifyBook n Passbook.confirmMarked).modifySession a fun x =>
      { x with printed := x.printed + 1, command := none, timer := .stopped }) :=
    Keeps.modifySession (h.modifyBook (fun _ _ hc => Passbook.confirmMarked_sound hc)
      fun c _ => c.confirmMarked_length.trans (Nat.le_add_right _ _))
  simp only
  split
  · exact hconf.chooseLine
  · exact hconf.pageEnd

theorem Keeps.lineDone {a p l : Nat} (h : Keeps P Q M r s) : Keeps P Q M r (s.lineDone a p l) := by
  unfold State.lineDone
  split
  · split
    · split
      · exact h.lineConfirmed
      · exact h.printerFaultAt
    · exact h.printerFaultAt
  · exact h

theorem Keeps.pageReady {a : Nat} (h : Keeps P Q M r s) : Keeps P Q M r (s.pageReady a) := by
  unfold State.pageReady
  split
  · split
    · exact h.startPrinting
    · exact h.printerFaultAt
  · exact h

theorem Keeps.answerTimerExpiry {a : Nat} (h : Keeps P Q M r s) : Keeps P Q M r (s.answerTimerExpiry a) := by
  unfold State.answerTimerExpiry; split
  · exact h.printerFaultAt
  · exact h

end Sys2Proof.Machine
end

section
/-! SUPPORT. What the transaction path, the cash requests, the sessions and the close keep: the rules of `Keeps` for
the requests of TELLER drops. -/

namespace Sys2Proof.Machine

variable {P Q : Drop → Prop} {M : State → State → Prop} {r s t : State}

/-! ### The transaction path -/

theorem Keeps.reachOutcome {x : Txn} {y : FinalReply} (h : Keeps P Q M r s) : Keeps P Q M r (s.reachOutcome x y) :=
  Keeps.judgeDrain (Keeps.putTxn (Keeps.handOver h.restore))

theorem Keeps.refuse {x : Txn} {y : Result} {n : Option LegNote} (h : Keeps P Q M r s) :
    Keeps P Q M r (s.refuse x y n) := h.reachOutcome

theorem Keeps.trainingOk {x : Txn} {y : TrainingRoute} (h : Keeps P Q M r s) : Keeps P Q M r (s.trainingOk x y) :=
  h.reachOutcome

theorem Keeps.postLocal {x : Txn} (h : Keeps P Q M r s) : Keeps P Q M r (s.postLocal x) := by
  simp only [State.postLocal]
  split
  · exact Keeps.reachOutcome (Keeps.applyCash h.writeRecord)
  · exact h.refuse

theorem Keeps.completeLocal {x : Txn} {d : Definition} (h : Keeps P Q M r s) : Keeps P Q M r (s.completeLocal x d) := by
  unfold State.completeLocal
  split
  · exact h.trainingOk
  · split
    · dsimp only
      split
      · exact h.refuse
      · exact Keeps.postLocal (h.modifyBook (fun _ _ hb => Passbook.renew_sound hb) fun b _ => b.renew_length _ _)
    · exact h.postLocal

/-- A change of one account that leaves its passbook part alone and keeps the stand-in used within its limit. -/
theorem Keeps.modifySat {n : Nat} {f : SatEntry → SatEntry} (h : Keeps P Q M r s)
    (hn : ∀ e, (f e).account = e.account) (hb : ∀ e, (f e).book = e.book)
    (hu : ∀ e, s.satAt n = some e → e.used ≤ e.limit → (f e).used ≤ (f e).limit) : Keeps P Q M r (s.modifySat n f) := by
  refine h.onSiu fun ⟨hp, he, hsum⟩ => ⟨?_, ?_, ?_⟩
  · rw [State.onSiu_siu, modifyKey_map_key fun e hk => (hn e).trans hk]; exact hp
  · intro e' hm'
    obtain ⟨e, hm, rfl⟩ := List.mem_map.1 hm'
    obtain ⟨hused, hs⟩ := he e hm
    by_cases hk : e.account = n
    · rw [if_pos hk, hb]
      exact ⟨hu e (hk ▸ findKey_of_mem (pairwise_lt_nodup hp) hm) hused, hs⟩
    · rw [if_neg hk]; exact ⟨hused, hs⟩
  · have hsame : (modifyKey SatEntry.account n f s.siu.sat).map SatEntry.lines = s.siu.sat.map SatEntry.lines := by
      rw [modifyKey, List.map_map]
      refine List.map_congr_left fun e _ => ?_
      by_cases hk : e.account = n
      · simp [hk, SatEntry.lines, hb]
      · simp [hk]
    show ((modifyKey SatEntry.account n f s.siu.sat).map SatEntry.lines).sum ≤ 8192
    rw [hsame]; exact hsum

theorem Keeps.appendSfq {n : Nat} {k : AdviceKind} (h : Keeps P Q M r s) : Keeps P Q M r (s.appendSfq n k) := h.onSfq rfl

theorem Keeps.appendTxnLine {x : Txn} {d : Definition} {o : Origin} {n : Nat} (h : Keeps P Q M r s) :
    Keeps P Q M r (s.appendTxnLine x d o n) := by
  unfold State.appendTxnLine
  split
  · split
    · exact h.appendLine
    · exact h
  · exact h

theorem SatEntry.post_account (e : SatEntry) (g : Leg) : (e.post g).account = e.account := by
  unfold SatEntry.post; split <;> rfl

theorem SatEntry.post_book (e : SatEntry) (g : Leg) : (e.post g).book = e.book := by
  unfold SatEntry.post; split <;> rfl

/-- An account that passes the stand-in checks has the debit's amount left of its limit (R113). -/
theorem standInRefusal_limit {n : Nat} {g : Leg} {e : SatEntry} (h : s.standInRefusal n g = none)
    (he : s.satAt n = some e) (hk : g.kind = .accountDebit) : e.used + g.amount ≤ e.limit := by
  unfold State.standInRefusal at h
  simp only [he, hk, true_and] at h
  by_contra hlt
  split at h
  · cases h
  · split at h
    · cases h
    · rw [if_pos (by omega)] at h; cases h

theorem satAt_writeRecord {n : Nat} {x : Record} : (s.writeRecord x).satAt n = s.satAt n := satAt_congr (by simp)

theorem Keeps.postStandIn {x : Txn} {d : Definition} {n : Nat} {g : Leg} (h : Keeps P Q M r s)
    (hr : s.standInRefusal n g = none) : Keeps P Q M r (s.postStandIn x d n g) := by
  refine Keeps.reachOutcome (Keeps.appendTxnLine (Keeps.applyCash (Keeps.modifySat (Keeps.appendSfq h.writeRecord)
    (fun e => e.post_account g) (fun e => e.post_book g) fun e he hu => ?_)))
  have hsat : s.satAt n = some e := by
    rw [← satAt_writeRecord (x := x.record .standIn .advicePending)]; exact he
  unfold SatEntry.post
  split
  · next hk => exact standInRefusal_limit hr hsat hk
  · exact hu

theorem Keeps.standIn {x : Txn} {d : Definition} (h : Keeps P Q M r s) : Keeps P Q M r (s.standIn x d) := by
  unfold State.standIn
  split
  · split
    · exact h.refuse
    · next hr =>
      split
      · exact h.trainingOk
      · split
        · exact h.postStandIn hr
        · exact h.refuse
  · exact h.completeLocal

theorem Keeps.route {x : Txn} {d : Definition} (h : Keeps P Q M r s) : Keeps P Q M r (s.route x d) := by
  unfold State.route
  split
  · exact h.completeLocal
  · split
    · exact h.trainingOk
    · exact Keeps.forward h.putTxn
  · split
    · exact h.trainingOk
    · exact Keeps.joinWaitList h.putTxn
  · exact h.refuse
  · exact h.standIn

theorem Keeps.fromDrawer {x : Txn} {d : Definition} (h : Keeps P Q M r s) : Keeps P Q M r (s.fromDrawer x d) := by
  unfold State.fromDrawer
  split
  · exact h.route
  · split
    · dsimp only
      split
      · exact h.refuse
      · split
        · exact h.route
        · exact h.refuse
    · split
      · exact h.route
      · exact h.refuse

theorem Keeps.holdTxn {x : Txn} {y : HoldReason} (h : Keeps P Q M r s) : Keeps P Q M r (s.holdTxn x y) :=
  Keeps.queueSupervisors (Keeps.handOver h.putTxn)

theorem Keeps.fromOverride {x : Txn} {d : Definition} (h : Keeps P Q M r s) : Keeps P Q M r (s.fromOverride x d) := by
  unfold State.fromOverride
  dsimp only
  split
  · split
    · exact h.fromDrawer
    · exact h.holdTxn
  · exact h.fromDrawer

theorem Keeps.fromRoute {x : Txn} {d : Definition} (h : Keeps P Q M r s) : Keeps P Q M r (s.fromRoute x d) := by
  unfold State.fromRoute
  split
  · split
    · exact h.refuse
    · split
      · exact h.refuse
      · exact h.fromOverride
  · exact h.fromOverride

theorem Keeps.fromMask {x : Txn} {d : Definition} (h : Keeps P Q M r s) : Keeps P Q M r (s.fromMask x d) := by
  unfold State.fromMask
  split
  · exact h.refuse
  · split
    · exact h.refuse
    · split
      · exact h.refuse
      · exact h.fromRoute

theorem Keeps.endHold {x : Txn} (h : Keeps P Q M r s) : Keeps P Q M r (s.endHold x) := Keeps.queueSupervisors h.putTxn

theorem Keeps.endHoldWith {x : Txn} {y : Result} (h : Keeps P Q M r s) : Keeps P Q M r (s.endHoldWith x y) :=
  Keeps.refuse h.endHold

theorem Keeps.decideAgain {x : Txn} (h : Keeps P Q M r s) : Keeps P Q M r (s.decideAgain x) := by
  unfold State.decideAgain
  split
  · split
    · exact h.standIn
    · exact h.refuse
  · exact h.refuse

theorem Keeps.redecide {a : Nat} (h : Keeps P Q M r s) : Keeps P Q M r (s.redecide a) := by
  unfold State.redecide
  split
  · exact h.decideAgain
  · split
    · exact h.fetchOutcome
    · exact h

theorem Keeps.redecideAll (h : Keeps P Q M r s) : Keeps P Q M r s.redecideAll :=
  Keeps.foldl (fun _ _ g => Keeps.redecide g.freeSlotAt) _
    (h.foldl (fun _ _ g => Keeps.redecide g.leaveWaitList) _)

/-! ### Requests of a teller -/

theorem Keeps.asTeller {a : Nat} {f : Teller → State} (h : Keeps P Q M r s)
    (hf : ∀ x, s.tellerAt a = some x → Keeps P Q M r (f x)) : Keeps P Q M r (s.asTeller a f) := by
  unfold State.asTeller
  split
  · split
    · next x hx => exact hf x hx
    · exact h.answer
  · exact h.answer

theorem Keeps.asSupervisor {a : Nat} {f : Teller → State} (h : Keeps P Q M r s)
    (hf : ∀ x, s.tellerAt a = some x → Keeps P Q M r (f x)) : Keeps P Q M r (s.asSupervisor a f) := by
  refine h.asTeller fun x hx => ?_
  split
  · exact h.answer
  · split
    · exact h.answer
    · exact hf x hx

theorem Keeps.asCashier {a : Nat} {f : Teller → State} (h : Keeps P Q M r s)
    (hf : ∀ x, s.tellerAt a = some x → Keeps P Q M r (f x)) : Keeps P Q M r (s.asCashier a f) := by
  refine h.asTeller fun x hx => ?_
  split
  · exact h.answer
  · split
    · exact h.answer
    · split
      · exact h.answer
      · exact hf x hx

theorem Keeps.asHolder {a : Nat} {f : Teller → Drawer → State} (h : Keeps P Q M r s)
    (hf : ∀ x w, s.tellerAt a = some x → w ∈ s.csu.drawers → Keeps P Q M r (f x w)) :
    Keeps P Q M r (s.asHolder a f) := by
  refine h.asCashier fun x hx => ?_
  split
  · next w hw =>
    obtain ⟨n, -, hn⟩ := Option.bind_eq_some_iff.1 hw
    exact hf x w hx (findKey_mem hn)
  · exact h.answer

theorem Keeps.checkRequest {x : Txn} (h : Keeps P Q M r s) : Keeps P Q M r (s.checkRequest x) := by
  unfold State.checkRequest
  split
  · exact h.refuse
  · split
    · exact h.refuse
    · dsimp only
      split
      · exact h.refuse
      · exact h.fromMask

theorem Keeps.takeRequest {a : Nat} {f : TxnFields} (h : Keeps P Q M r s) : Keeps P Q M r (s.takeRequest a f) := by
  refine h.asTeller fun x _ => ?_
  split
  · exact h.answer
  · split
    · exact h.answer
    · exact h.checkRequest

theorem Keeps.cancel {a : Nat} (h : Keeps P Q M r s) : Keeps P Q M r (s.cancel a) := by
  refine h.asTeller fun _ _ => ?_
  split
  · exact h.answer
  · split
    · exact h.endHoldWith
    · exact Keeps.refuse h.leaveWaitList
    · exact Keeps.refuse h.freeAndOffer
    · exact h.answer

theorem Keeps.onHold {a b : Nat} {x : Teller} {f : Txn → State} (h : Keeps P Q M r s) (hf : ∀ y, Keeps P Q M r (f y)) :
    Keeps P Q M r (s.onHold a b x f) := by
  unfold State.onHold
  split
  · exact h.answer
  · split
    · exact h.answer
    · split
      · exact h.answer
      · exact hf _

theorem Keeps.acceptGrant {a : Nat} {x : Teller} {y : Txn} (h : Keeps P Q M r s) : Keeps P Q M r (s.acceptGrant a x y) := by
  unfold State.acceptGrant
  split
  · exact h
  · exact Keeps.fromMask (Keeps.putTxn (Keeps.answer (Keeps.modifyTeller h.endHold (fun _ => rfl) fun _ hz => hz)))

theorem Keeps.overrideGrant {a b : Nat} (h : Keeps P Q M r s) : Keeps P Q M r (s.overrideGrant a b) := by
  refine h.asSupervisor fun x _ => h.onHold fun y => ?_
  split
  · exact h.answer
  · exact h.acceptGrant

theorem Keeps.overrideDeny {a b : Nat} (h : Keeps P Q M r s) : Keeps P Q M r (s.overrideDeny a b) :=
  h.asSupervisor fun _ _ => h.onHold fun _ => Keeps.answer h.endHoldWith

theorem Keeps.holdExpiry {a : Nat} (h : Keeps P Q M r s) : Keeps P Q M r (s.holdExpiry a) := by
  unfold State.holdExpiry
  split
  · split
    · exact h
    · exact h.endHoldWith
  · exact h

/-! ### Transfers -/

theorem tellerAt_signedOn {a : Nat} {x : Teller} (h : s.tellerAt a = some x) :
    x ∈ s.rqu.tellers ∧ x.signedOn = true ∧ x.station = some a := by
  have hp := List.find?_some h
  simp only [Bool.and_eq_true, beq_iff_eq] at hp
  exact ⟨List.mem_of_find?_eq_some h, hp⟩

/-- On a closed day no teller is found at a drop (R166). -/
theorem tellerAt_not_closed {a : Nat} {x : Teller} (h : s.tellerAt a = some x) (hc : s.CashConserved) :
    closedDay s.dyc.day = false := by
  by_contra hd
  obtain ⟨hm, hs, -⟩ := tellerAt_signedOn h
  have hall := (closed_nobody hc (by simpa using hd)).2
  simp only [State.nobodySignedOn, List.all_eq_true, Bool.not_eq_true'] at hall
  rw [hall x hm] at hs; cases hs

/-- The sixteen numbers that a new transit entry may take, in their turn (R78). -/
def entryTurns (counter : Nat) : List Nat := (List.range 16).map fun i => (counter - 1 + i) % 16 + 1

theorem entryTurns_nodup (n : Nat) : (entryTurns n).Nodup := by
  refine List.Nodup.map_on (fun i hi j hj hij => ?_) List.nodup_range
  simp only [List.mem_range] at hi hj; omega

/-- With fewer than sixteen entries in transit the new number is one that none of them has (R78). -/
theorem freeEntry_fresh (hl : s.csu.transit.length < 16) :
    1 ≤ s.freeEntry ∧ s.freeEntry ≤ 16 ∧ s.freeEntry ∉ s.csu.transit.map TransitEntry.number := by
  have hfree : ∃ n ∈ entryTurns s.csu.transitCounter, n ∉ s.csu.transit.map TransitEntry.number := by
    by_contra hno
    push Not at hno
    have hle := ((entryTurns_nodup _).subperm hno).length_le
    simp only [entryTurns, List.length_map, List.length_range] at hle; omega
  have hfind : ((entryTurns s.csu.transitCounter).find? fun n => s.csu.transit.all fun e => e.number != n).isSome := by
    obtain ⟨n, hn, hno⟩ := hfree
    refine List.find?_isSome.2 ⟨n, hn, ?_⟩
    simpa using hno
  obtain ⟨n, hn⟩ := Option.isSome_iff_exists.1 hfind
  have heq : s.freeEntry = n := by
    unfold State.freeEntry; rw [entryTurns] at hn; rw [hn]; rfl
  have hp := List.find?_some hn
  have hm := List.mem_of_find?_eq_some hn
  simp only [entryTurns, List.mem_map, List.mem_range] at hm
  obtain ⟨i, hi, rfl⟩ := hm
  rw [heq]
  exact ⟨by omega, by omega, by simpa using hp⟩

theorem giveRefusal_none {w : Drawer} {d n : Nat} {c : Option Currency} (h : s.giveRefusal w d c n = none) :
    (∃ y, s.drawerAt d = some y) ∧ s.csu.transit.length < 16 := by
  unfold State.giveRefusal at h
  split at h
  · cases h
  · next y hy =>
    have hd := (Option.filter_eq_some_iff.1 hy).1
    dsimp only at h
    split at h
    · cases h
    · split at h
      · cases h
      · split at h
        · cases h
        · split at h
          · cases h
          · next hlt => exact ⟨⟨y, hd⟩, by simpa [Config.transitPlaces] using hlt⟩

theorem inTransit_append (c : Csu) (e : TransitEntry) (cur : Currency) (k : Nat) :
    ({ c with transit := c.transit ++ [e], transitCounter := k } : Csu).inTransit cur =
      c.inTransit cur + if e.currency = cur then (e.amount : Int) else 0 := by
  simp [Csu.inTransit]

theorem Keeps.give {a d n : Nat} {x : Teller} {w : Drawer} {c : Currency} (h : Keeps P Q M r s)
    (hx : s.tellerAt a = some x) (hw : w ∈ s.csu.drawers) (hr : s.giveRefusal w d (some c) n = none) :
    Keeps P Q M r (s.give a x w d c n) := by
  let e : TransitEntry := ⟨s.freeEntry, w.number, d, c, n, x.number, s.nextSeq⟩
  have hmove : Keeps P Q M r (s.onCsu fun u => { u with
      drawers := modifyKey Drawer.number w.number
        (fun x => x.onSums c fun y => { y with transferOut := y.transferOut + n }) u.drawers
      transit := u.transit ++ [e], transitCounter := entryAfter e.number }) := by
    refine h.transfer rfl ⟨rfl, rfl⟩ fun _ hc => ?_
    obtain ⟨⟨y, hy⟩, hlen⟩ := giveRefusal_none hr
    have hopen := tellerAt_not_closed hx hc
    obtain ⟨hnum, hsound, -, -, -, -⟩ := hc
    obtain ⟨hlo, hhi, hfresh⟩ := freeEntry_fresh hlen
    obtain ⟨hnd, -, -, hall⟩ := hsound
    have hwn := drawer_number_le hnum hw
    have hdn : d ≤ 24 := drawerAt_number hy ▸ drawer_number_le hnum (findKey_mem hy)
    refine ⟨hwn, ⟨?_, ?_, ?_, ?_⟩, fun hday => by simp [hopen] at hday, fun cur y => ?_⟩
    · rw [List.map_append, List.map_singleton]
      exact List.nodup_append.2 ⟨hnd, List.nodup_singleton _, fun m hm k hk hmk => by
        rw [List.mem_singleton] at hk; exact hfresh ((hmk.trans hk : m = s.freeEntry) ▸ hm)⟩
    · simp [entryAfter]
    · simp only [entryAfter]; omega
    · intro z hz
      rcases List.mem_append.1 hz with hz | hz
      · exact hall z hz
      · rw [List.mem_singleton.1 hz]; exact ⟨hlo, hhi, hwn, hdn⟩
    · have happ : ∀ cc : Csu, cc.transit = s.csu.transit ++ [e] → cc.inTransit cur = s.csu.inTransit cur +
          if c = cur then (n : Int) else 0 := fun cc hcc => by simp [Csu.inTransit, hcc, e]
      rw [happ _ rfl]
      by_cases hcur : c = cur
      · simp only [hcur, if_true, Sums.moved]; omega
      · simp only [hcur, if_false]; omega
  exact Keeps.handOver (Keeps.queueHolder (Keeps.judgeCashHigh (Keeps.setRelease (Keeps.writeRecord hmove))))

theorem Keeps.transferOut {a d n : Nat} {c : Option Currency} (h : Keeps P Q M r s) :
    Keeps P Q M r (s.transferOut a d c n) := by
  refine h.asHolder fun x w hx hw => ?_
  split
  · exact h.answer
  · next hr => exact h.give hx hw hr
  · exact h.answer

/-- An entry leaves the transit list, and the drawer that takes it moves by its amount (R80, R81, R183). -/
theorem Keeps.settleTransit {k d : Nat} {e : TransitEntry} {g : Sums → Sums} (h : Keeps P Q M r s)
    (he : r.CashConserved → s.CashConserved → s.transitAt k = some e ∧ d ≤ 24)
    (hg : ∀ x : Sums, (g x).moved = x.moved + e.amount) :
    Keeps P Q M r ((s.modifyDrawer d fun x => x.onSums e.currency g).removeTransit k) := by
  refine Keeps.transfer (c := e.currency) (g := g) (n := d) h (f := fun u => { u with
    drawers := modifyKey Drawer.number d (fun x => x.onSums e.currency g) u.drawers
    transit := eraseKey TransitEntry.number k u.transit }) rfl ⟨rfl, rfl⟩ fun hr hs => ?_
  obtain ⟨hfind, hd⟩ := he hr hs
  obtain ⟨-, ⟨hnd, hlo, hhi, hall⟩, hclosed, -, -, -⟩ := hs
  refine ⟨hd, ⟨hnd.sublist ?_, hlo, hhi, ?_⟩, fun hday => ?_, fun cur x => ?_⟩
  · exact List.Sublist.map _ List.filter_sublist
  · intro z hz; exact hall z (List.mem_of_mem_filter hz)
  · simp [(hclosed hday).1, eraseKey]
  · have herase : ∀ cc : Csu, cc.transit = eraseKey TransitEntry.number k s.csu.transit → cc.inTransit cur =
        s.csu.inTransit cur - if e.currency = cur then (e.amount : Int) else 0 := by
      intro cc hcc
      rw [Csu.inTransit, hcc, sumOf_eraseKey hnd]
      have : findKey TransitEntry.number k s.csu.transit = some e := hfind
      rw [this]; rfl
    rw [herase _ rfl]
    by_cases hcur : e.currency = cur
    · simp only [hcur, if_true, hg]; omega
    · simp only [hcur, if_false]; omega

theorem transitAt_bounds {k : Nat} {e : TransitEntry} (he : s.transitAt k = some e) (hc : s.CashConserved) :
    e.source ≤ 24 ∧ e.target ≤ 24 := by
  obtain ⟨-, ⟨-, -, -, hall⟩, -, -, -, -⟩ := hc
  exact (hall e (findKey_mem he)).2.2

theorem Keeps.transferAccept {a n : Nat} (h : Keeps P Q M r s) : Keeps P Q M r (s.transferAccept a n) := by
  refine h.asHolder fun x w _ _ => ?_
  split
  · exact h.answer
  · next e he =>
    split
    · exact h.answer
    · next ht =>
      split
      · exact h.answer
      · refine Keeps.judgeExit (Keeps.answer (Keeps.queueHolder (Keeps.judgeCashHigh (Keeps.setRelease
          (Keeps.writeRecord (h.settleTransit (fun _ hc => ⟨he, ?_⟩) fun y => ?_))))))
        · exact (of_not_not ht) ▸ (transitAt_bounds he hc).2
        · simp only [Sums.moved]; omega

theorem Keeps.transferRecall {a n : Nat} (h : Keeps P Q M r s) : Keeps P Q M r (s.transferRecall a n) := by
  refine h.asCashier fun x _ => ?_
  split
  · exact h.answer
  · next e he =>
    split
    · exact h.answer
    · split
      · exact h.answer
      · have hback : Keeps P Q M r (((s.addTransferOut e.source e.currency (-(e.amount : Int))).removeTransit n).writeRecord
            (transferRecord .recall e a x.number (some e.seq))) :=
          Keeps.writeRecord (h.settleTransit (fun _ hc => ⟨he, (transitAt_bounds he hc).1⟩) fun y => by
            simp only [Sums.moved]; omega)
        refine Keeps.judgeExit (Keeps.answer (Keeps.queueHolder (Keeps.judgeCashHigh ?_)))
        split
        · exact hback.setRelease
        · exact hback

/-! ### Counting -/

theorem Keeps.acceptCount {a : Nat} {w : Drawer} {y : Declaration} (h : Keeps P Q M r s) (hw : w ∈ s.csu.drawers) :
    Keeps P Q M r (s.acceptCount a w y) := by
  have hdecl : Keeps P Q M r (s.modifyDrawer w.number fun x => { x with declaration := some y }) :=
    h.modifyDrawer (fun _ => rfl) fun _ c => by cases c <;> rfl
  have hnum : (s.modifyDrawer w.number fun x => { x with declaration := some y }).CashConserved → w.number ≤ 24 := by
    rintro ⟨hnum, -⟩
    have hsame : (modifyKey Drawer.number w.number (fun x => { x with declaration := some y }) s.csu.drawers).map
        Drawer.number = List.range 25 := hnum
    rw [modifyKey_map_key fun _ hz => by exact hz] at hsame
    exact drawer_number_le hsame hw
  unfold State.acceptCount
  dsimp only
  split
  · exact Keeps.judgeExit (Keeps.handOver (Keeps.writeRecord (hdecl.takeDifferences hnum)))
  · exact Keeps.handOver (hdecl.modifyDrawer (fun _ => rfl) fun _ c => by cases c <;> rfl)

theorem Keeps.countDeclare {a : Nat} {c : Counts} (h : Keeps P Q M r s) : Keeps P Q M r (s.countDeclare a c) := by
  refine h.asHolder fun x w _ hw => ?_
  split
  · exact h.answer
  · exact h.acceptCount hw

theorem Keeps.acceptDifference {a n : Nat} (h : Keeps P Q M r s) : Keeps P Q M r (s.acceptDifference a n) := by
  refine h.asSupervisor fun x _ => ?_
  split
  · exact h.answer
  · next w y hwy =>
    split
    · exact h.answer
    · split
      · exact h.answer
      · split
        · exact h.answer
        · refine Keeps.judgeExit (Keeps.answer (Keeps.writeRecord (h.takeDifferences fun hc => ?_)))
          obtain ⟨v, hv, -⟩ := Option.bind_eq_some_iff.1 hwy
          have hd := (Option.filter_eq_some_iff.1 hv).1
          exact drawerAt_number hd ▸ drawer_number_le hc.1 (findKey_mem hd)

theorem Keeps.forceBalance {a n : Nat} (h : Keeps P Q M r s) : Keeps P Q M r (s.forceBalance a n) := by
  refine h.asSupervisor fun x _ => ?_
  split
  · exact h.answer
  · exact Keeps.judgeExit (Keeps.answer (Keeps.writeRecord
      (h.modifyDrawer (fun _ => rfl) fun _ c => by cases c <;> rfl)))

/-! ### Sessions -/

theorem Keeps.sessionRecord {x : Teller} {b : RecordBody} {a : Nat} {n : Option Nat} (h : Keeps P Q M r s) :
    Keeps P Q M r (s.sessionRecord x b a n) := by
  unfold State.sessionRecord; split
  · exact h
  · exact h.writeRecord

theorem Keeps.assignDrawer {x : Teller} (h : Keeps P Q M r s) : Keeps P Q M r (s.assignDrawer x) := by
  unfold State.assignDrawer
  split
  · exact h
  · split
    · exact h.modifyDrawer (fun _ => rfl) fun _ c => by cases c <;> rfl
    · exact h

theorem Keeps.beginSession {a : Nat} {x : Teller} (h : Keeps P Q M r s) (hd : closedDay s.dyc.day = false) :
    Keeps P Q M r (s.beginSession a x) := by
  refine Keeps.handOver (Keeps.queueStatus (Keeps.assignDrawer (Keeps.sessionRecord (h.onRqu (fun y => ?_) fun hc => ?_))))
  · rw [modifyKey_map_key fun _ hz => by exact hz]; exact y
  · rw [hd] at hc; cases hc

theorem Teller.fail_signedOn (x : Teller) (h : x.signedOn = false) : x.fail.signedOn = false := by
  unfold Teller.fail Teller.signedOn at *
  dsimp only
  split
  · rfl
  · exact h

theorem Keeps.checkSignOn {a n : Nat} {x : Teller} (h : Keeps P Q M r s) (hd : closedDay s.dyc.day = false) :
    Keeps P Q M r (s.checkSignOn a x n) := by
  unfold State.checkSignOn
  split
  · exact h.answer
  · split
    · exact h.answer
    · split
      · exact Keeps.answer (h.modifyTeller (fun _ => rfl) Teller.fail_signedOn)
      · split
        · exact h.answer
        · split
          · exact h.beginSession hd
          · exact h.answer

theorem Keeps.signOn {a n c : Nat} (h : Keeps P Q M r s) : Keeps P Q M r (s.signOn a n c) := by
  unfold State.signOn
  split
  · exact h.answer
  · split
    · exact h.answer
    · next hday =>
      have hopen : closedDay s.dyc.day = false := by
        revert hday; cases s.dyc.day <;> simp [signOnDay, closedDay]
      split
      · exact h.answer
      · split
        · exact h.answer
        · exact h.checkSignOn hopen

theorem Keeps.endTellerSession {a : Nat} {x : Teller} {n : Option Nat} (h : Keeps P Q M r s) :
    Keeps P Q M r (s.endTellerSession a x n) :=
  Keeps.queueStatus (Keeps.clearRelease (Keeps.modifyTeller h.sessionRecord (fun _ => rfl) fun _ _ => rfl))

theorem Keeps.signOff {a : Nat} (h : Keeps P Q M r s) : Keeps P Q M r (s.signOff a) := by
  refine h.asTeller fun x _ => ?_
  split
  · exact h.answer
  · split
    · exact h.answer
    · split
      · exact Keeps.judgeExit (Keeps.answer h.endTellerSession)
      · exact h.answer

theorem Keeps.unlock {a n : Nat} (h : Keeps P Q M r s) : Keeps P Q M r (s.unlock a n) := by
  refine h.asSupervisor fun x _ => ?_
  split
  · exact Keeps.answer (h.modifyTeller (fun _ => rfl) fun _ _ => rfl)
  · exact h.answer

theorem Drop.discardFinal_calm (hQ : ScoreCondition Q) (d : Drop) : Calm Q d d.discardFinal :=
  calm_of_same hQ rfl rfl rfl (.inr (List.length_filter_le _ _))

theorem Keeps.discardReply {a : Nat} (h : Keeps P Q M r s) : Keeps P Q M r (s.discardReply a) := by
  unfold State.discardReply; split
  · exact Keeps.endTxn (h.modifyDrop fun d _ _ => d.discardFinal_calm h.condition)
  · exact h

theorem Keeps.forceSignOff {a n : Nat} (h : Keeps P Q M r s) : Keeps P Q M r (s.forceSignOff a n) := by
  refine h.asSupervisor fun x _ => ?_
  split
  · exact h.answer
  · dsimp only
    split
    · exact h.answer
    · split
      · exact h.answer
      · split
        · exact Keeps.judgeExit (Keeps.answer (Keeps.endTellerSession h.discardReply))
        · exact h.answer

theorem Keeps.onSessionsAt {a : Nat} {f : Teller → Teller} (h : Keeps P Q M r s) (hn : ∀ x, (f x).number = x.number)
    (hs : ∀ x, x.signedOn = false → (f x).signedOn = false) : Keeps P Q M r (s.onSessionsAt a f) := by
  refine h.onRqu (fun x => ?_) fun _ hx => ?_
  · have hsame : (s.rqu.tellers.map fun t => if t.station = some a then f t else t).map Teller.number =
        s.rqu.tellers.map Teller.number := by
      rw [List.map_map]
      refine List.map_congr_left fun y _ => ?_
      by_cases hy : y.station = some a <;> simp [hy, hn]
    exact hsame.symm ▸ x
  · simp only [State.nobodySignedOn, State.onRqu_rqu, List.all_map, List.all_eq_true, Function.comp_apply,
      Bool.not_eq_true'] at hx ⊢
    intro y hy
    split
    · exact hs y (hx y hy)
    · exact hx y hy

theorem Keeps.suspendAt {a : Nat} (h : Keeps P Q M r s) : Keeps P Q M r (s.suspendAt a) := by
  refine h.onSessionsAt (fun x => ?_) fun x hx => ?_
  · split <;> rfl
  · split
    · next ha => simp [Teller.signedOn, ha] at hx
    · exact hx

theorem Keeps.resumeAt {a : Nat} (h : Keeps P Q M r s) : Keeps P Q M r (s.resumeAt a) := by
  refine h.onSessionsAt (fun x => ?_) fun x hx => ?_
  · split <;> rfl
  · split
    · next ha => simp [Teller.signedOn, ha] at hx
    · exact hx

/-! ### The close -/

theorem Keeps.abandonClose (h : Keeps P Q M r s) (hd : s.dyc.day = .closeProposed) : Keeps P Q M r s.abandonClose :=
  Keeps.setOpenDay (h.onDyc rfl rfl rfl) rfl fun x => blockTimer_stopped x (by simp [hd])

theorem Keeps.drainHold {a : Nat} (h : Keeps P Q M r s) : Keeps P Q M r (s.drainHold a) := by
  unfold State.drainHold
  split
  · exact h.endHoldWith
  · exact h

theorem Keeps.enterDrain {n : Nat} (h : Keeps P Q M r s) (hd : s.dyc.day = .closeProposed) :
    Keeps P Q M r (s.enterDrain n) :=
  Keeps.judgeDrain (Keeps.foldl (fun _ _ g => g.drainHold) _
    (Keeps.setOpenDay (h.onDyc rfl rfl rfl) rfl fun x => blockTimer_stopped x (by simp [hd])))

theorem Keeps.closePropose {a : Nat} (h : Keeps P Q M r s) : Keeps P Q M r (s.closePropose a) := by
  refine h.asSupervisor fun x _ => ?_
  split
  · next hd =>
    exact Keeps.answer (Keeps.setOpenDay (h.onDyc rfl rfl rfl) rfl fun x => blockTimer_stopped x (by simp [hd]))
  · exact h.answer

theorem Keeps.closeConfirm {a : Nat} (h : Keeps P Q M r s) : Keeps P Q M r (s.closeConfirm a) := by
  refine h.asSupervisor fun x _ => ?_
  split
  · exact h.answer
  · next hd =>
    split
    · exact Keeps.answer (h.abandonClose (of_not_not hd))
    · exact Keeps.enterDrain h.answer (by simpa using hd)

theorem Keeps.closeWithdraw {a : Nat} (h : Keeps P Q M r s) : Keeps P Q M r (s.closeWithdraw a) := by
  refine h.asSupervisor fun x _ => ?_
  split
  · next hd => exact Keeps.answer (h.abandonClose hd)
  · exact h.answer

theorem Keeps.windowExpiry (h : Keeps P Q M r s) : Keeps P Q M r s.windowExpiry := by
  unfold State.windowExpiry; split
  · next hd => exact h.abandonClose hd.1
  · exact h

end Sys2Proof.Machine
end

section
/-! SUPPORT. What the trunk, the loads, the day and the batch keep: the rules of `Keeps` for the commands of head
office and of the line. -/

namespace Sys2Proof.Machine

variable {P Q : Drop → Prop} {M : State → State → Prop} {r s t : State}

/-! ### A change of the link (R97) -/

theorem Keeps.remark {M' : State → State → Prop} (h : Keeps P Q M r s) (hM : MarkRelation M') (hm : M' r s) :
    Keeps P Q M' r s := { h with relation := hM, mark := hm }

/-- The link stands at `l` and the RETAINED-LOST mark at `b`. -/
def MarksAt (l : LinkState) (b : Bool) (_ t : State) : Prop := t.tkc.link = l ∧ t.retainedLost = b

theorem marksAt_relation (l : LinkState) (b : Bool) : MarkRelation (MarksAt l b) :=
  fun _ _ _ hl hm ⟨h, g⟩ => ⟨hl.trans h, hm.trans g⟩

theorem Keeps.resumeBatch {o n : Nat} {b : Bool} (h : Keeps P Q M r s) (hd : closedDay s.dyc.day = true) :
    Keeps P Q M r (s.resumeBatch o n b) := by
  unfold State.resumeBatch
  split
  · exact Keeps.setDay (h.onDyc rfl rfl rfl) fun _ x => ⟨fun _ => closed_nobody x hd, fun _ => rfl⟩
  · exact h

theorem Keeps.resumeOnline (h : Keeps P Q M r s) : Keeps P Q M r s.resumeOnline := by
  unfold State.resumeOnline
  split
  · next hd _ => exact h.resumeBatch (by rw [hd]; rfl)
  · exact h

/-- Reporting a lost store clears its mark (R181). -/
theorem Keeps.reportLost {l : LinkState} {b : Bool} (h : Keeps P Q (MarksAt l b) r s) :
    Keeps P Q (MarksAt l false) r s.reportLost := by
  unfold State.reportLost
  split
  · have hr : Keeps P Q (MarksAt l b) r (s.raise .retainedLost) := h.raise
    exact ⟨hr.condition, marksAt_relation _ _, ⟨hr.mark.1, rfl⟩, hr.pending, hr.scores, hr.outbound, hr.tables,
      hr.trunk, hr.accounts, hr.journal, hr.cash⟩
  · next hlost => exact h.remark (marksAt_relation _ _) ⟨h.mark.1, by simpa using hlost⟩

theorem Keeps.reportOffline (h : Keeps P Q M r s) : Keeps P Q M r s.reportOffline := by
  unfold State.reportOffline; split
  · next hd => exact h.stall fun _ => by rw [hd]; rfl
  · exact h

/-- The mark after a change of link: cleared when the link becomes ONLINE (R97, R181). -/
def lostAfter (s : State) (l : LinkState) : Bool :=
  if l = .online ∧ s.tkc.link ≠ .online then false else s.retainedLost

theorem Keeps.enterLink_marks {l : LinkState} (h : Keeps P Q M r s) :
    Keeps P Q (MarksAt l (lostAfter s l)) r (s.enterLink l) := by
  have h1 : Keeps P Q (MarksAt l s.retainedLost) r (s.onTkc fun t => { t with link := l }) := by
    refine Keeps.onTrunk (h.remark (M' := fun _ _ => True) (fun _ _ _ _ _ _ => trivial) trivial)
      trivial (fun _ => trunk_congr rfl rfl) |>.remark (marksAt_relation _ _) ⟨rfl, rfl⟩
  have h2 : Keeps P Q (MarksAt l s.retainedLost) r (if shownLink s.tkc.link = shownLink l then
      s.onTkc fun t => { t with link := l } else (s.onTkc fun t => { t with link := l }).queueStatusAll) := by
    split
    · exact h1
    · exact h1.queueStatusAll
  unfold State.enterLink
  dsimp only
  have h3 := h2
  generalize (if shownLink s.tkc.link = shownLink l then s.onTkc fun t => { t with link := l }
    else (s.onTkc fun t => { t with link := l }).queueStatusAll) = u at h3 ⊢
  have h4 : Keeps P Q (MarksAt l (lostAfter s l)) r
      (if l = .online ∧ s.tkc.link ≠ .online then u.reportOnline else u) := by
    unfold lostAfter
    split
    · exact Keeps.reportLost (Keeps.resumeOnline h3.serveWaitList)
    · exact h3
  generalize (if l = .online ∧ s.tkc.link ≠ .online then u.reportOnline else u) = v at h4 ⊢
  have h5 : Keeps P Q (MarksAt l (lostAfter s l)) r
      (if s.tkc.link = .online ∧ l ≠ .online then v.reportOffline else v) := by
    split
    · exact h4.reportOffline
    · exact h4
  split
  · exact h5.redecideAll
  · exact h5

/-- A change of link keeps a lost store unreported where it must be, SUSPECT being entered from ONLINE alone. -/
theorem Keeps.enterLink {l : LinkState} (h : Keeps P Q LostKept r s) (hl : l = .suspect → s.tkc.link = .online) :
    Keeps P Q LostKept r (s.enterLink l) := by
  have hk := h.enterLink_marks (l := l)
  refine hk.remark lostKept_relation fun x hlost => ?_
  obtain ⟨hlink, hmark⟩ := hk.mark
  rw [hlink]
  have hs := h.mark x
  rw [hmark, lostAfter] at hlost
  cases l with
  | offline => exact .inl rfl
  | resync => exact .inr rfl
  | online =>
    split at hlost
    · cases hlost
    · next hon =>
      have hline : s.tkc.link = .online := by simpa using hon
      have := hs hlost
      simp [hline] at this
  | suspect =>
    have := hs (by simpa using hlost)
    simp [hl rfl] at this

/-! ### Link supervision -/

theorem Keeps.setRun {n : Option Nat} {k : Nat} (h : Keeps P Q M r s) : Keeps P Q M r (s.setRun n k) := h.onTkc rfl rfl rfl

theorem Keeps.seeFrame (h : Keeps P Q LostKept r s) : Keeps P Q LostKept r s.seeFrame := by
  unfold State.seeFrame
  split
  · exact h.restartSupervision
  · exact Keeps.restartSupervision (h.enterLink (by simp))
  · exact h
  · exact h

theorem Keeps.countRun {n : Nat} (h : Keeps P Q LostKept r s) : Keeps P Q LostKept r (s.countRun n) := by
  unfold State.countRun
  split
  · split
    · exact Keeps.restartSupervision (Keeps.enterLink h.setRun (by simp))
    · exact Keeps.restartSupervision h.setRun
  · exact Keeps.restartSupervision h.setRun

theorem Keeps.startRun {n : Nat} (h : Keeps P Q LostKept r s) : Keeps P Q LostKept r (s.startRun n) :=
  Keeps.restartSupervision (Keeps.setRun (h.enterLink (by simp)))

theorem Keeps.seeLineCheck {n : Nat} (h : Keeps P Q LostKept r s) : Keeps P Q LostKept r (s.seeLineCheck n) := by
  unfold State.seeLineCheck
  split
  · exact h.startRun
  · exact h.countRun
  · split
    · exact Keeps.restartSupervision h.setRun
    · exact h.startRun
  · split
    · exact Keeps.restartSupervision (Keeps.enterLink h.setRun (by simp))
    · exact h.startRun

theorem Keeps.fallOffline (h : Keeps P Q LostKept r s) : Keeps P Q LostKept r s.fallOffline :=
  Keeps.onStats (Keeps.onTkc (Keeps.onTkc (h.enterLink (by simp)) rfl rfl rfl) rfl rfl rfl)

theorem Keeps.supervisionExpiry (h : Keeps P Q LostKept r s) : Keeps P Q LostKept r s.supervisionExpiry := by
  unfold State.supervisionExpiry
  split
  · exact h
  · split
    · next hl => exact Keeps.restartSupervision (h.enterLink fun _ => hl)
    · exact h.fallOffline
    · exact h.fallOffline
    · exact h

theorem takeSlot_nodeQueue {a i : Nat} : (s.takeSlot a i).tkc.nodeQueue = s.tkc.nodeQueue := by
  simp [State.takeSlot, State.modifySlot, State.setStage]

theorem serveOne_nodeQueue : s.serveOne.tkc.nodeQueue = s.tkc.nodeQueue := by
  unfold State.serveOne
  split
  · split
    · rw [takeSlot_nodeQueue]; simp
    · rfl
  · rfl

/-- Link supervision's sight of a frame leaves the node queue alone: where the link returns to ONLINE, no lost store
is unreported (R97, R98). -/
theorem seeFrame_nodeQueue (x : s.LostUnreported) : s.seeFrame.tkc.nodeQueue = s.tkc.nodeQueue := by
  cases hlink : s.tkc.link with
  | online => simp [State.seeFrame, hlink, State.restartSupervision]
  | offline => simp [State.seeFrame, hlink]
  | resync => simp [State.seeFrame, hlink]
  | suspect =>
    have hlost : s.retainedLost = false := by
      by_contra hne
      have := x (by simpa using hne)
      simp [hlink] at this
    simp [State.seeFrame, hlink, State.restartSupervision, State.enterLink, shownLink, trusted, State.reportOnline,
      State.reportLost, hlost, State.serveWaitList, serveOne_nodeQueue]

theorem Keeps.countBad (h : Keeps P Q M r s) : Keeps P Q M r s.countBad := h.onStats
theorem Keeps.countOverrun (h : Keeps P Q M r s) : Keeps P Q M r s.countOverrun := h.onStats

theorem Keeps.onFrame {k : FrameHeader} {f : State → State} (h : Keeps P Q LostKept r s)
    (hf : ∀ u, Keeps P Q LostKept r u → Keeps P Q LostKept r (f u)) : Keeps P Q LostKept r (s.onFrame k f) := by
  unfold State.onFrame; split
  · exact hf _ h.seeFrame
  · exact h.countBad

theorem nodeRoom_congr (h : t.tkc.nodeQueue = s.tkc.nodeQueue) : t.nodeRoom = s.nodeRoom := by
  unfold State.nodeRoom; rw [h]

/-- A frame that may need an answer meets its rule with the room for the answer found (R106). -/
theorem Keeps.onAnswered {k : FrameHeader} {f : State → State} (h : Keeps P Q LostKept r s)
    (hf : ∀ u, Keeps P Q LostKept r u → (r.TrunkSound → u.nodeRoom = true) → Keeps P Q LostKept r (f u)) :
    Keeps P Q LostKept r (s.onAnswered k f) := by
  unfold State.onAnswered
  split
  · split
    · next hr =>
      refine hf _ h.seeFrame fun x => ?_
      rw [nodeRoom_congr (seeFrame_nodeQueue (h.mark (trunkSound_iff.1 x).2)), hr]
    · exact Keeps.countOverrun h.seeFrame
  · exact h.countBad

theorem Keeps.lineCheck {k : FrameHeader} {n : Nat} (h : Keeps P Q LostKept r s) :
    Keeps P Q LostKept r (s.lineCheck k n) := by
  unfold State.lineCheck
  split
  · split
    · next hr => exact Keeps.seeLineCheck (h.pushNode fun _ => hr)
    · exact Keeps.countOverrun h.seeFrame
  · exact h.countBad

/-! ### Frames -/

theorem Keeps.send {a b : Nat} {f : FrameBody} {x : Bool} (h : Keeps P Q M r s) : Keeps P Q M r (s.send a b f x) := by
  unfold State.send; exact h.onTkc rfl rfl rfl

theorem Keeps.startSlot {x : OnlineSlot} {n : Nat} (h : Keeps P Q M r s) : Keeps P Q M r (s.startSlot x n) :=
  Keeps.setStage (h.modifySlot fun _ => rfl)

theorem Keeps.startForward {x : OnlineSlot} {y : Txn} (h : Keeps P Q M r s) : Keeps P Q M r (s.startForward x y) := by
  unfold State.startForward
  dsimp only
  split
  · exact Keeps.send (Keeps.modifyTxn (Keeps.startSlot h.writeRecord))
  · exact Keeps.serveWaitList (Keeps.refuse h.freeSlotAt)

theorem Keeps.startFetch {x : OnlineSlot} {f : Fetch} (h : Keeps P Q M r s) : Keeps P Q M r (s.startFetch x f) :=
  Keeps.send (Keeps.onTkc h.startSlot rfl rfl rfl)

theorem Keeps.getD_map {α : Type} {o : Option α} {f : α → State} (h : Keeps P Q M r s) (hf : ∀ x, Keeps P Q M r (f x)) :
    Keeps P Q M r ((o.map f).getD s) := by
  cases o with
  | none => exact h
  | some x => exact hf x

theorem Keeps.forwardStart (h : Keeps P Q M r s) : Keeps P Q M r s.forwardStart := by
  unfold State.forwardStart
  split
  · split
    · exact h.getD_map fun _ => h.startForward
    · exact h
  · exact h

theorem Keeps.fetchStart (h : Keeps P Q M r s) : Keeps P Q M r s.fetchStart := by
  unfold State.fetchStart
  split
  · split
    · exact h.getD_map fun _ => h.startFetch
    · exact h
  · exact h

theorem Keeps.adviceStart (h : Keeps P Q M r s) : Keeps P Q M r s.adviceStart := by
  unfold State.adviceStart
  split
  · exact Keeps.send (h.onTkc rfl rfl rfl)
  · exact h

theorem Keeps.answerStart (h : Keeps P Q M r s) : Keeps P Q M r s.answerStart := by
  unfold State.answerStart
  split
  · next e rest _ hq =>
    refine Keeps.joinWaiting (Keeps.send (h.onTrunk (h.relation r s _ rfl rfl h.mark) fun _ ⟨hs, hn⟩ => ⟨hs, ?_⟩))
    rw [hq, List.length_cons] at hn
    show rest.length ≤ _
    omega
  · exact h

theorem Keeps.blockStart (h : Keeps P Q M r s) : Keeps P Q M r s.blockStart := by
  unfold State.blockStart
  split
  · exact Keeps.onDyc h.send rfl rfl rfl
  · exact h

theorem Keeps.startBlockTimer (h : Keeps P Q M r s) (hd : s.dyc.day = .sending) : Keeps P Q M r s.startBlockTimer :=
  h.onTimer rfl rfl (.inr hd)

theorem Keeps.blockEnd {n : Nat} {x : Bool} (h : Keeps P Q M r s) : Keeps P Q M r (s.blockEnd n x) := by
  unfold State.blockEnd; split
  · next hd => exact h.startBlockTimer hd.1
  · exact h

theorem Keeps.frameEnd (h : Keeps P Q M r s) : Keeps P Q M r s.frameEnd := by
  have hidle : Keeps P Q M r (s.onTkc fun t => { t with transmitter := none }) := h.onTkc rfl rfl rfl
  unfold State.frameEnd
  split
  · exact h
  · dsimp only
    split
    · exact hidle.modifySlot fun y => by split <;> rfl
    · exact hidle.modifySlot fun y => by split <;> rfl
    · refine hidle.onTkc ?_ ?_ ?_ <;> split <;> rfl
    · exact hidle.onTkc rfl rfl rfl
    · exact hidle.blockEnd
    · exact hidle.blockEnd

/-! ### Replies -/

theorem Keeps.refreshSnapshot {n : Option Nat} {b : ReplyBalance} (h : Keeps P Q M r s) :
    Keeps P Q M r (s.refreshSnapshot n b) := by
  unfold State.refreshSnapshot
  split
  · split
    · split
      · exact h.modifySat (fun _ => rfl) (fun _ => rfl) fun _ _ hu => hu
      · exact h
    · exact h
  · exact h

theorem Keeps.approvedLine {x : Txn} {n : Nat} (h : Keeps P Q M r s) : Keeps P Q M r (s.approvedLine x n) := by
  unfold State.approvedLine; split
  · exact h.appendTxnLine
  · exact h

theorem Keeps.approve {x : Txn} {n k : Nat} {b : ReplyBalance} (h : Keeps P Q M r s) :
    Keeps P Q M r (s.approve x n k b) :=
  Keeps.reachOutcome (Keeps.approvedLine (Keeps.refreshSnapshot (Keeps.applyCash h.changeDisposition)))

theorem Keeps.decline {x : Txn} {n k : Nat} (h : Keeps P Q M r s) : Keeps P Q M r (s.decline x n k) :=
  Keeps.reachOutcome h.changeDisposition

theorem Keeps.completeOnline {x : Txn} {n : Nat} {y : ReplyAnswer} (h : Keeps P Q M r s) :
    Keeps P Q M r (s.completeOnline x n y) := by
  unfold State.completeOnline
  split
  · split
    · exact h.approve
    · exact h.decline
    · exact h.decline
  · exact h

theorem Keeps.countLateReply (h : Keeps P Q M r s) : Keeps P Q M r s.countLateReply := h.onStats

theorem Keeps.txnReply {k : FrameHeader} {y : ReplyAnswer} (h : Keeps P Q M r s) : Keeps P Q M r (s.txnReply k y) := by
  unfold State.txnReply
  split
  · exact Keeps.serveWaitList (Keeps.getD_map h.freeSlotAt fun _ => Keeps.completeOnline h.freeSlotAt)
  · exact h.countLateReply

theorem Keeps.fetchReply {k : FrameHeader} {l : List FetchLine} (h : Keeps P Q M r s) :
    Keeps P Q M r (s.fetchReply k l) := by
  unfold State.fetchReply
  split
  · exact Keeps.serveWaitList (Keeps.getD_map h.freeSlotAt fun _ => Keeps.fetchOutcome h.freeSlotAt)
  · exact h.countLateReply

theorem Keeps.timeOut {n : Nat} (h : Keeps P Q M r s) : Keeps P Q M r (s.timeOut n) := by
  unfold State.timeOut
  split
  · exact h
  · split
    · exact Keeps.appendSfq (Keeps.writeRecord h.changeDisposition)
    · exact Keeps.changeDisposition h.changeDisposition

theorem Keeps.secondDecision {a n : Nat} (h : Keeps P Q M r s) : Keeps P Q M r (s.secondDecision a n) := by
  unfold State.secondDecision; split
  · exact h.decideAgain
  · exact h

theorem Keeps.replyExpiry {i : Nat} (h : Keeps P Q M r s) : Keeps P Q M r (s.replyExpiry i) := by
  unfold State.replyExpiry
  split
  · exact h
  · have hfree : Keeps P Q M r (s.countTimeout.freeSlotAt i) := Keeps.freeSlotAt (Keeps.onStats h)
    dsimp only
    split
    · exact Keeps.serveWaitList (Keeps.secondDecision hfree.timeOut)
    · exact Keeps.serveWaitList (hfree.getD_map fun _ => hfree.fetchOutcome)

theorem Keeps.releaseNet {p : Posting} (h : Keeps P Q M r s) : Keeps P Q M r (s.releaseNet p) := by
  unfold State.releaseNet; split
  · exact h.modifySat (fun _ => rfl) (fun _ => rfl) fun _ _ hu => hu
  · exact h

theorem Keeps.settlePosting {n : Nat} {d : Disposition} {x : Option Nat} (h : Keeps P Q M r s) :
    Keeps P Q M r (s.settlePosting n d x) := by
  unfold State.settlePosting
  split
  · dsimp only
    split
    · exact Keeps.releaseNet h.changeDisposition
    · exact h.changeDisposition
  · exact h

theorem Keeps.settleAdvice {d : Disposition} {x : Option Nat} (h : Keeps P Q M r s) :
    Keeps P Q M r (s.settleAdvice d x) := by
  have hfree : Keeps P Q M r (s.onTkc fun t => { t with slot6 := freeAdviceSlot }) := h.onTkc rfl rfl rfl
  unfold State.settleAdvice
  dsimp only
  split
  · exact hfree
  · split
    · exact Keeps.settlePosting (hfree.onSfq rfl)
    · exact Keeps.changeDisposition (hfree.onSfq rfl)

theorem Keeps.adviceOutcome {k : FrameHeader} {d : Disposition} {x : Option Nat} (h : Keeps P Q M r s) :
    Keeps P Q M r (s.adviceOutcome k d x) := by
  unfold State.adviceOutcome; split
  · exact h.settleAdvice
  · exact h.onStats

theorem Keeps.adviceExpiry (h : Keeps P Q M r s) : Keeps P Q M r s.adviceExpiry := by
  unfold State.adviceExpiry; split
  · exact h
  · exact Keeps.onTkc (Keeps.onStats h) rfl rfl rfl

/-! ### Loads -/

theorem mem_putKey {α : Type} {key : α → Nat} {x y : α} {l : List α} (h : y ∈ putKey key x l) : y = x ∨ y ∈ l := by
  induction l with
  | nil => exact .inl (List.mem_singleton.1 h)
  | cons z zs ih =>
    rw [putKey] at h
    split at h
    · exact (List.mem_cons.1 h).imp id fun hm => hm
    · split at h
      · exact (List.mem_cons.1 h).imp id fun hm => List.mem_cons_of_mem _ hm
      · rcases List.mem_cons.1 h with rfl | hm
        · exact .inr List.mem_cons_self
        · exact (ih hm).imp id fun hm => List.mem_cons_of_mem _ hm

theorem putKey_sorted {α : Type} {key : α → Nat} {x : α} {l : List α} (h : (l.map key).Pairwise (· < ·)) :
    ((putKey key x l).map key).Pairwise (· < ·) := by
  induction l with
  | nil => simp [putKey]
  | cons y ys ih =>
    rw [List.map_cons, List.pairwise_cons] at h
    obtain ⟨hy, hys⟩ := h
    rw [putKey]
    split
    · next hlt =>
      refine List.pairwise_cons.2 ⟨fun k hk => ?_, List.pairwise_cons.2 ⟨hy, hys⟩⟩
      rcases List.mem_cons.1 hk with rfl | hk
      · exact hlt
      · exact hlt.trans (hy k hk)
    · split
      · next heq => exact List.pairwise_cons.2 ⟨heq ▸ hy, hys⟩
      · refine List.pairwise_cons.2 ⟨fun k hk => ?_, ih hys⟩
        obtain ⟨z, hz, rfl⟩ := List.mem_map.1 hk
        rcases mem_putKey hz with rfl | hz
        · omega
        · exact hy _ (List.mem_map.2 ⟨z, hz, rfl⟩)

theorem eraseKey_sorted {α : Type} {key : α → Nat} {k : Nat} {l : List α} (h : (l.map key).Pairwise (· < ·)) :
    ((eraseKey key k l).map key).Pairwise (· < ·) := h.sublist (List.Sublist.map _ List.filter_sublist)

theorem Keeps.applyTeller {e : TellerEntry} (h : Keeps P Q M r s) : Keeps P Q M r (s.applyTeller e) := by
  unfold State.applyTeller
  cases e with
  | load n role training check limit restriction drawer =>
    refine Keeps.onRqu h (fun x => by exact putKey_sorted x) fun _ hx => ?_
    simp only [State.nobodySignedOn, List.all_eq_true, Bool.not_eq_true'] at hx ⊢
    intro y hy
    rcases mem_putKey hy with rfl | hy
    · cases hold : findKey Teller.number n s.rqu.tellers with
      | none => rfl
      | some old => exact hx old (findKey_mem hold)
    · exact hx y hy
  | remove n =>
    refine Keeps.onRqu h (fun x => by exact eraseKey_sorted x) fun _ hx => ?_
    simp only [State.nobodySignedOn, List.all_eq_true, Bool.not_eq_true'] at hx ⊢
    exact fun y hy => hx y (List.mem_of_mem_filter hy)

theorem Keeps.applyCode {e : CodeEntry} (h : Keeps P Q M r s) : Keeps P Q M r (s.applyCode e) := h.onWork rfl
theorem Keeps.applyDefinition {e : DefinitionEntry} (h : Keeps P Q M r s) : Keeps P Q M r (s.applyDefinition e) :=
  h.onWork rfl
theorem Keeps.applyRoute {e : RouteEntry} (h : Keeps P Q M r s) : Keeps P Q M r (s.applyRoute e) := h.onWork rfl
theorem Keeps.applyRates {e : RateLoad} (h : Keeps P Q M r s) : Keeps P Q M r (s.applyRates e) := h.onSfq rfl
theorem Keeps.applyLayout {e : Layout} (h : Keeps P Q M r s) : Keeps P Q M r (s.applyLayout e) := h.onPbu

theorem Keeps.applyDenominations {e : DenominationEntry} (h : Keeps P Q M r s) :
    Keeps P Q M r (s.applyDenominations e) := by
  unfold State.applyDenominations
  cases e.currency <;> exact h.onCsu fun _ x => x

/-- A record put in at its key takes no more than the record that stood there. -/
theorem sum_putKey_le {α : Type} {key : α → Nat} {f : α → Nat} {x : α} {l : List α}
    (hl : (l.map key).Pairwise (· < ·)) (hx : f x ≤ ((findKey key (key x) l).map f).getD 0) :
    ((putKey key x l).map f).sum ≤ (l.map f).sum := by
  induction l with
  | nil => simpa [putKey] using hx
  | cons y ys ih =>
    rw [List.map_cons, List.pairwise_cons] at hl
    obtain ⟨hy, hys⟩ := hl
    rw [putKey]
    rw [findKey_cons] at hx
    split
    · next hlt =>
      have habs : findKey key (key x) ys = none := findKey_none.2 fun z hz he => by
        have := hy _ (List.mem_map.2 ⟨z, hz, rfl⟩); omega
      rw [if_neg (by omega), habs] at hx
      simp only [List.map_cons, List.sum_cons, Option.map_none, Option.getD_none] at hx ⊢; omega
    · split
      · next heq =>
        rw [if_pos heq.symm] at hx
        simp only [List.map_cons, List.sum_cons, Option.map_some, Option.getD_some] at hx ⊢; omega
      · next hne =>
        rw [if_neg fun he => hne he.symm] at hx
        have := ih hys hx
        simp only [List.map_cons, List.sum_cons] at this ⊢; omega

theorem bookFrom_sound (b : BookLoad) : (bookFrom b).Sound :=
  ⟨by simp [bookFrom, emptyOverflow], fun _ hm => by cases hm⟩

theorem Keeps.applySat {e : SatLoad} (h : Keeps P Q M r s) : Keeps P Q M r (s.applySat e) := by
  unfold State.applySat
  refine Keeps.onSiu h fun ⟨hp, he, hsum⟩ => ⟨by exact putKey_sorted hp, fun y hy => ?_, ?_⟩
  · rcases mem_putKey hy with rfl | hy
    · refine ⟨Nat.zero_le _, fun b hb => ?_⟩
      have hb' : ((s.satAt e.account).bind (·.book) <|> e.book.map bookFrom) = some b := hb
      cases hold : (s.satAt e.account).bind (·.book) with
      | none =>
        have hnew : e.book.map bookFrom = some b := by simpa [hold] using hb'
        obtain ⟨c, -, rfl⟩ := Option.map_eq_some_iff.1 hnew
        exact bookFrom_sound c
      | some c =>
        have hkept : c = b := by simpa [hold] using hb'
        obtain ⟨x, hx, hc⟩ := Option.bind_eq_some_iff.1 hold
        exact hkept ▸ (he x (findKey_mem hx)).2 c hc
    · exact he y hy
  · refine (sum_putKey_le (f := SatEntry.lines) hp ?_).trans hsum
    show SatEntry.lines ⟨_, _, _, _, _, _, _, _⟩ ≤ ((s.satAt e.account).map SatEntry.lines).getD 0
    cases hx : s.satAt e.account with
    | none => cases hb : e.book <;> simp [SatEntry.lines, bookFrom]
    | some x => cases hb : x.book <;> cases hc : e.book <;> simp [SatEntry.lines, hb, bookFrom]

/-- The parameters record is replaced by one that has its 31 slots and 28 drops (R157). -/
theorem Keeps.applyParams {p : Params} (h : Keeps P Q M r s) (hs : p.slotMap.length = 31) (hd : p.dropTable.length = 28) :
    Keeps P Q M r (s.applyParams p) := by
  have hparams : Keeps P Q M r (s.onDyc fun y => { y with params := p }) := by
    refine ⟨h.condition, h.relation, h.relation r s _ rfl rfl h.mark, h.pending, fun x => scores_congr rfl (h.scores x),
      fun x => outbound_congr rfl (h.outbound x), fun x => ?_, fun x => trunk_congr rfl rfl (h.trunk x),
      fun x => accounts_congr rfl (h.accounts x), fun x => journal_congr rfl rfl (h.journal x),
      fun x => cash_congr rfl rfl rfl (fun _ => id) (h.cash x)⟩
    obtain ⟨ht, -, -, hv⟩ := h.tables x
    exact ⟨ht, hs, hd, hv⟩
  exact Keeps.foldl (fun _ _ g => g.judgeCashHigh) _
    (hparams.onDrawers (g := fun d => { d with limit := p.cashHigh.getD d.number d.limit }) rfl (fun _ => rfl)
      fun _ c => by cases c <;> rfl)

/-- Every entry of a load that is not refused was read and is in range (R156). -/
theorem loadFault_none {α : Type} {x : LoadRule α} {l : List (Option α)} (h : s.loadFault x l = none) :
    ∀ e ∈ readEntries l, x.ok e = true := by
  unfold State.loadFault at h
  split at h
  · cases h
  · split at h
    · cases h
    · cases h
    · next hnone =>
      have hall := List.findIdx?_eq_none_iff.1 hnone
      intro e he
      obtain ⟨o, ho, rfl⟩ := List.mem_filterMap.1 he
      simpa using hall _ ho

theorem loadEntries_tkc {α : Type} {x : LoadRule α} (ht : ∀ s e, (x.apply s e).tkc = s.tkc) (l : List α) (s : State) :
    (l.foldl (State.loadEntry x) s).tkc = s.tkc :=
  foldl_fixed (g := State.tkc) (fun s e => by simp [State.loadEntry, ht]) l s

theorem Keeps.load {α : Type} {k : FrameHeader} {x : LoadRule α} {l : List (Option α)} (h : Keeps P Q LostKept r s)
    (hx : ∀ u e, x.ok e = true → Keeps P Q LostKept r u → Keeps P Q LostKept r (x.apply u e))
    (ht : ∀ s e, (x.apply s e).tkc = s.tkc) : Keeps P Q LostKept r (s.load k x l) := by
  refine h.onAnswered fun u hu hroom => ?_
  split
  · exact hu.pushNode hroom
  · next hok =>
    have hok := loadFault_none hok
    have hloaded : ∀ m : List α, (∀ e ∈ m, x.ok e = true) → ∀ v, Keeps P Q LostKept r v →
        Keeps P Q LostKept r (m.foldl (State.loadEntry x) v) := by
      intro m
      induction m with
      | nil => exact fun _ _ hv => hv
      | cons e es ih =>
        exact fun hm v hv => ih (fun z hz => hm z (List.mem_cons_of_mem _ hz)) _
          (Keeps.onDyc (hx v e (hm e List.mem_cons_self) hv) rfl rfl rfl)
    refine (hloaded _ hok u hu).pushNode fun y => ?_
    rw [nodeRoom_congr (congrArg Tkc.nodeQueue (loadEntries_tkc ht _ u))]
    exact hroom y

/-! ### The day -/

theorem Keeps.startClock (h : Keeps P Q M r s) : Keeps P Q M r s.startClock := h.onJnc fun x => x

theorem Keeps.startDay {d : Date} {c : TimeOfDay} {n : PerKind Nat} (h : Keeps P Q M r s)
    (hd : startable s.dyc.day = true) : Keeps P Q M r (s.startDay d c n) := by
  have hday : s.dyc.day = .noDay ∨ s.dyc.day = .loading := by simpa [startable] using hd
  have hsame : s.emptyJournal.dyc.day = s.dyc.day := by simp
  have hclosed : closedDay s.emptyJournal.dyc.day = true := by
    rw [hsame]; rcases hday with hd | hd <;> rw [hd] <;> rfl
  have hnot : s.emptyJournal.dyc.day ≠ .sending := by
    rw [hsame]; rcases hday with hd | hd <;> rw [hd] <;> simp
  refine Keeps.setDay (Keeps.onDyc (Keeps.onStats (Keeps.onWork (Keeps.onSfq (Keeps.startClock h.emptyJournal) rfl) rfl))
    rfl rfl rfl) fun _ x => ⟨fun _ => closed_nobody x hclosed, fun hne => absurd (blockTimer_stopped x hnot) hne⟩

theorem startDay_tkc {d : Date} {c : TimeOfDay} {n : PerKind Nat} :
    (s.startDay d c n).tkc.nodeQueue = s.tkc.nodeQueue := by
  simp [State.startDay, State.onStats]

theorem Keeps.dayStart {k : FrameHeader} {d : Date} {c : TimeOfDay} {n : PerKind Nat} (h : Keeps P Q LostKept r s) :
    Keeps P Q LostKept r (s.dayStart k d c n) := by
  refine h.onAnswered fun u hu hroom => ?_
  split
  · exact hu.nodeStatus hroom
  · next hd =>
    split
    · exact Keeps.nodeStatus (hu.startDay (by simpa using hd)) fun y => (nodeRoom_congr startDay_tkc).trans (hroom y)
    · exact hu.nodeStatus hroom

theorem sum_filterMap_le {α : Type} {f : α → Nat} {g : α → Option α} (hg : ∀ x y, g x = some y → f y ≤ f x)
    (l : List α) : ((l.filterMap g).map f).sum ≤ (l.map f).sum := by
  induction l with
  | nil => simp
  | cons x xs ih =>
    rw [List.filterMap_cons]
    cases hx : g x with
    | none => simp only [List.map_cons, List.sum_cons]; omega
    | some y =>
      have := hg x y hx
      simp only [List.map_cons, List.sum_cons]; omega

/-- What the sweep of the SAT makes of an entry: it stays, stays for its pending work alone, or goes (R159). -/
def sweptEntry (keys : List Nat) (e : SatEntry) : Option SatEntry :=
  if keys.contains e.account then some e
  else if e.book.any Passbook.hasWork then some { e with kind := .pendingOnly } else none

theorem sweptEntry_some {keys : List Nat} {e x : SatEntry} (h : sweptEntry keys e = some x) :
    x = e ∨ x = { e with kind := .pendingOnly } := by
  unfold sweptEntry at h
  split at h
  · cases h; exact .inl rfl
  · split at h
    · cases h; exact .inr rfl
    · cases h

theorem filterMap_sorted {α : Type} {key : α → Nat} {g : α → Option α} (hg : ∀ x y, g x = some y → key y = key x)
    {l : List α} (h : (l.map key).Pairwise (· < ·)) : ((l.filterMap g).map key).Pairwise (· < ·) := by
  refine h.sublist ?_
  clear h
  induction l with
  | nil => exact List.Sublist.refl _
  | cons x xs ih =>
    rw [List.filterMap_cons]
    cases hx : g x with
    | none => exact ih.cons _
    | some y => rw [List.map_cons, List.map_cons, hg x y hx]; exact ih.cons_cons _

theorem Keeps.sweepSat (h : Keeps P Q M r s) : Keeps P Q M r s.sweepSat := by
  have hkeep : ∀ {e x : SatEntry}, sweptEntry (kindGet s.dyc.loaded .sat) e = some x →
      x.account = e.account ∧ x.used = e.used ∧ x.limit = e.limit ∧ x.book = e.book := by
    intro e x hx
    rcases sweptEntry_some hx with rfl | rfl <;> exact ⟨rfl, rfl, rfl, rfl⟩
  refine h.onSiu fun ⟨hp, he, hsum⟩ => ?_
  refine ⟨filterMap_sorted (fun e x hx => (hkeep hx).1) hp, fun x hm => ?_, ?_⟩
  · obtain ⟨e, hm, hx⟩ := List.mem_filterMap.1 hm
    obtain ⟨-, hu, hl, hb⟩ := hkeep hx
    rw [hu, hl, hb]; exact he e hm
  · refine (sum_filterMap_le (f := SatEntry.lines) (fun e x hx => ?_) _).trans hsum
    obtain ⟨-, -, -, hb⟩ := hkeep hx
    simp [SatEntry.lines, hb]

theorem setDay_tkc {d : DayState} : (s.setDay d).tkc = s.tkc := by simp

theorem Keeps.dayOpen {k : FrameHeader} (h : Keeps P Q LostKept r s) : Keeps P Q LostKept r (s.dayOpen k) := by
  refine h.onAnswered fun u hu hroom => ?_
  split
  · exact hu.nodeStatus hroom
  · next hd =>
    split
    · exact hu.nodeStatus hroom
    · refine Keeps.nodeStatus (Keeps.setOpenDay hu.sweepSat rfl fun x => blockTimer_stopped x ?_) fun y => ?_
      · have hday : u.dyc.day = .loading := of_not_not hd
        simp [State.sweepSat, hday]
      · rw [nodeRoom_congr (s := u) (by rw [setDay_tkc]; rfl)]; exact hroom y

theorem Keeps.maskSet {k : FrameHeader} {m : ClassMask} (h : Keeps P Q LostKept r s) :
    Keeps P Q LostKept r (s.maskSet k m) := by
  refine h.onAnswered fun u hu hroom => ?_
  split
  · exact hu.nodeStatus hroom
  · exact Keeps.nodeStatus (hu.onWork rfl) hroom

theorem Keeps.enterNotice {g : BitVec 8} {x : Text} (h : Keeps P Q M r s) : Keeps P Q M r (s.enterNotice g x) :=
  Keeps.queueUnseen (h.onLpc rfl)

theorem Keeps.notice {k : FrameHeader} {g : BitVec 8} {x : Text} (h : Keeps P Q LostKept r s) :
    Keeps P Q LostKept r (s.notice k g x) := by
  refine h.onAnswered fun u hu hroom => ?_
  split
  · exact hu.nodeStatus hroom
  · split
    · exact hu.nodeStatus hroom
    · exact hu.enterNotice

theorem Keeps.inquire {k : FrameHeader} {f : State → InquiryAnswer} (h : Keeps P Q LostKept r s) :
    Keeps P Q LostKept r (s.inquire k f) := h.onAnswered fun _ hu hroom => hu.pushNode hroom

/-! ### The batch -/

theorem Keeps.onBatch {f : Batch → Batch} (h : Keeps P Q M r s) : Keeps P Q M r (s.onBatch f) := h.onDyc rfl rfl rfl

theorem Keeps.stopBlockTimer (h : Keeps P Q M r s) : Keeps P Q M r s.stopBlockTimer := h.onTimer rfl rfl (.inl rfl)

theorem Keeps.blockAck {n : Nat} (h : Keeps P Q M r s) : Keeps P Q M r (s.blockAck n) := by
  unfold State.blockAck
  split
  · exact h
  · split
    · dsimp only
      split
      · next hd =>
        split
        · exact Keeps.startBlockTimer h.onBatch hd
        · exact Keeps.stopBlockTimer h.onBatch
      · exact h.onBatch
      · exact h
    · exact h

theorem Keeps.stallAttempts {n : Nat} (h : Keeps P Q M r s) (hd : r.CashConserved → closedDay s.dyc.day = true) :
    Keeps P Q M r (s.stallAttempts n) := Keeps.raise (h.stall hd)

theorem Keeps.blockNak {n : Nat} (h : Keeps P Q M r s) : Keeps P Q M r (s.blockNak n) := by
  unfold State.blockNak
  split
  · next hd _ =>
    split
    · dsimp only
      split
      · refine Keeps.stallAttempts (Keeps.stopBlockTimer h.onBatch) fun _ => ?_
        show closedDay s.dyc.day = true
        rw [hd]; rfl
      · exact Keeps.stopBlockTimer h.onBatch
    · exact h
  · exact h

theorem Keeps.blockExpiry (h : Keeps P Q M r s) : Keeps P Q M r s.blockExpiry := by
  unfold State.blockExpiry
  split
  · exact h
  · next hb =>
    split
    · exact h
    · dsimp only
      split
      · refine Keeps.stallAttempts (Keeps.stopBlockTimer h.onBatch) fun y => ?_
        obtain ⟨-, -, -, hblock, -, -⟩ := h.cash y
        show closedDay s.dyc.day = true
        rw [hblock hb]; rfl
      · exact Keeps.onBatch (Keeps.stopBlockTimer h.onBatch)

theorem Keeps.batchResume {k : FrameHeader} {n : Nat} (h : Keeps P Q LostKept r s) :
    Keeps P Q LostKept r (s.batchResume k n) := by
  refine h.onAnswered fun u hu hroom => ?_
  split
  · next hd _ _ =>
    split
    · exact hu.resumeBatch (by rw [hd]; rfl)
    · exact Keeps.nodeStatus hu.onBatch hroom
  · exact hu.nodeStatus hroom

theorem Keeps.takeVerdict {v : Verdict} (h : Keeps P Q M r s) (hd : awaitsVerdict s.dyc.day = true) :
    Keeps P Q M r (s.takeVerdict v) := by
  have hday : s.dyc.day = .sending ∨ s.dyc.day = .sendStalled := by simpa [awaitsVerdict] using hd
  have hclosed : closedDay s.dyc.day = true := by rcases hday with hd | hd <;> rw [hd] <;> rfl
  exact Keeps.onSfq (Keeps.setDay (Keeps.stopBlockTimer h.onBatch) fun _ x =>
    ⟨fun _ => closed_nobody x hclosed, fun hne => absurd rfl hne⟩) rfl

theorem takeVerdict_tkc {v : Verdict} : (s.takeVerdict v).tkc = s.tkc := by simp

theorem Keeps.batchVerdict {k : FrameHeader} {x : Totals} (h : Keeps P Q LostKept r s) :
    Keeps P Q LostKept r (s.batchVerdict k x) := by
  refine h.onAnswered fun u hu hroom => ?_
  split
  · exact hu.nodeStatus hroom
  · split
    · next hd =>
      refine Keeps.nodeStatus (hu.takeVerdict (Bool.and_eq_true_iff.1 hd).1) fun y => ?_
      rw [nodeRoom_congr (congrArg Tkc.nodeQueue takeVerdict_tkc)]; exact hroom y
    · split
      · exact hu.nodeStatus hroom
      · exact hu.nodeStatus hroom

theorem Keeps.resendBatch {k : FrameHeader} (h : Keeps P Q LostKept r s) : Keeps P Q LostKept r (s.resendBatch k) := by
  refine h.onAnswered fun u hu hroom => ?_
  split
  · next hd =>
    have hclosed : closedDay u.dyc.day = true := by rw [hd]; rfl
    refine Keeps.stallUnlessOnline (Keeps.setDay (Keeps.onDyc (Keeps.onSfq hu.onBatch rfl) rfl rfl rfl) fun _ x =>
      ⟨fun _ => closed_nobody x hclosed, fun _ => rfl⟩) ?_
    rw [setDay_day]; rfl
  · exact hu.nodeStatus hroom

/-- With nothing in transit the roll leaves nothing that was moved, and the nets at 0 (R88). -/
theorem Keeps.rollDrawers (h : Keeps P Q M r s) (hd : closedDay s.dyc.day = true) : Keeps P Q M r s.rollDrawers := by
  refine Keeps.foldl (fun _ _ g => g.judgeCashHigh) _ (h.onCsu fun _ x => ?_)
  obtain ⟨htransit, -⟩ := closed_nobody x hd
  obtain ⟨hnum, hsound, hclosed, hblock, -, -⟩ := x
  have hlaw : ∀ cur, Csu.Conserves
      { s.csu with drawers := s.csu.drawers.map Drawer.roll, netHome := 0, netForeign := 0 } cur := by
    intro cur
    rw [conserves_iff]
    have hzero : sumOf (fun w : Drawer => ((w.roll).sums cur).moved) s.csu.drawers = sumOf (fun _ => 0) s.csu.drawers :=
      sumOf_congr fun w _ => by cases cur <;> rfl
    have hsum : ∀ l : List Drawer, sumOf (fun _ => (0 : Int)) l = 0 := by
      intro l; induction l with
      | nil => rfl
      | cons _ _ ih => rw [sumOf_cons, ih]; rfl
    rw [Csu.total, sumOf_map, hzero, hsum]
    cases cur <;> simp [Csu.inTransit, htransit, Csu.net]
  refine ⟨?_, hsound, hclosed, hblock, hlaw _, hlaw _⟩
  rw [State.onCsu_csu, ← hnum, List.map_map]; rfl

theorem Keeps.emptyNotices (h : Keeps P Q M r s) : Keeps P Q M r s.emptyNotices :=
  Keeps.queueUnseen (h.onDrops (g := fun d => { d with nextNotice := 1 }) rfl fun _ _ =>
    calm_of_same h.condition rfl rfl rfl (.inr le_rfl))

theorem Keeps.clearNets (h : Keeps P Q M r s) :
    Keeps P Q M r (s.onSiu fun u => { u with sat := u.sat.map fun e => { e with net := 0 } }) := by
  refine h.onSiu fun ⟨hp, he, hsum⟩ => ⟨?_, fun x hx => ?_, ?_⟩
  · rw [State.onSiu_siu, List.map_map]; exact hp
  · obtain ⟨e, hm, rfl⟩ := List.mem_map.1 hx
    exact he e hm
  · rw [State.onSiu_siu, List.map_map]; exact hsum

theorem rollDrawers_dyc : s.rollDrawers.dyc = s.dyc := by simp
theorem emptyNotices_dyc : s.emptyNotices.dyc = s.dyc := by simp

theorem Keeps.endDay (h : Keeps P Q M r s) (hd : s.dyc.day = .sent) : Keeps P Q M r s.endDay := by
  have hsame : s.emptyJournal.dyc = s.dyc := by simp
  have hclosed : closedDay s.emptyJournal.dyc.day = true := by rw [hsame, hd]; rfl
  have hkept := Keeps.emptyNotices (Keeps.clearNets (h.emptyJournal.rollDrawers hclosed))
  have hday : (((s.emptyJournal.rollDrawers).onSiu fun u =>
      { u with sat := u.sat.map fun e => { e with net := 0 } }).emptyNotices).dyc.day = .sent := by
    rw [emptyNotices_dyc, State.onSiu_dyc, rollDrawers_dyc, hsame, hd]
  unfold State.endDay
  dsimp only
  generalize ((s.emptyJournal.rollDrawers).onSiu fun u =>
      { u with sat := u.sat.map fun e => { e with net := 0 } }).emptyNotices = u at hkept hday ⊢
  refine Keeps.setDay (hkept.onDyc rfl rfl rfl) fun _ x =>
    ⟨fun _ => closed_nobody x ?_, fun hne => absurd (blockTimer_stopped x ?_) hne⟩
  · rw [State.onDyc_dyc]; dsimp only; rw [hday]; rfl
  · rw [State.onDyc_dyc]; dsimp only; rw [hday]; simp

theorem endDay_tkc : s.endDay.tkc = s.tkc := by simp

theorem Keeps.dayEnd {k : FrameHeader} (h : Keeps P Q LostKept r s) : Keeps P Q LostKept r (s.dayEnd k) := by
  refine h.onAnswered fun u hu hroom => ?_
  split
  · next hd =>
    refine Keeps.nodeStatus (hu.endDay hd) fun y => ?_
    rw [nodeRoom_congr (congrArg Tkc.nodeQueue endDay_tkc)]; exact hroom y
  · exact hu.nodeStatus hroom

end Sys2Proof.Machine
end

section
/-! SUPPORT. What the station loop keeps: the rules of `Keeps` for ANNOUNCE, the composition of a cycle, and a returned
cycle with its scores, fencings and slips (R3 to R15). -/

namespace Sys2Proof.Machine

variable {P Q : Drop → Prop} {M : State → State → Prop} {r s t : State}

/-! ### One drop of the loop -/

theorem mem_of_dropAt {a : Nat} {d : Drop} (h : s.dropAt a = some d) : d ∈ s.lpc.drops :=
  List.mem_of_find?_eq_some h

theorem addresses_nodup (h : s.DropsMeet Q) : (s.lpc.drops.map Drop.addr).Nodup := by
  rw [h.1]; exact List.nodup_range'

theorem dropAt_of_mem (h : s.DropsMeet Q) {d : Drop} (hd : d ∈ s.lpc.drops) : s.dropAt d.addr = some d :=
  findKey_of_mem (addresses_nodup h) hd

/-- The condition on the drops changes to one that the drops meet already. -/
theorem Keeps.weaken {R : Drop → Prop} (h : Keeps P Q M r s) (hR : ScoreCondition R)
    (hr : s.DropsMeet Q → ∀ d ∈ s.lpc.drops, R d) : Keeps P R M r s :=
  { h with condition := hR, scores := fun x => ⟨(h.scores x).1, hr (h.scores x)⟩ }

/-- The drop found at an address changes, and its new record meets the condition that all others meet. -/
theorem Keeps.changeDrop {R : Drop → Prop} {a : Nat} {d : Drop} {f : Drop → Drop} (h : Keeps P Q M r s)
    (hR : ScoreCondition R) (hd : s.dropAt a = some d) (ha : ∀ e : Drop, e.addr = a → (f e).addr = a)
    (ho : ∀ e : Drop, e.outbound.length ≤ 4 → d.outbound.length ≤ 4 → (f e).outbound.length ≤ 4)
    (hq : Q d → R (f d)) (hr : ∀ e : Drop, e.addr ≠ a → Q e → R e) : Keeps P R M r (s.modifyDrop a f) := by
  refine h.onDropsTo (g := fun e => if e.addr = a then f e else e) hR rfl fun e he => ?_
  have hd' := mem_of_dropAt hd
  by_cases hea : e.addr = a
  · simp only [hea, if_true]
    refine ⟨ha e hea, fun x => ?_, fun x => ho e (x e he) (x d hd')⟩
    have hed : s.dropAt a = some e := hea ▸ dropAt_of_mem x he
    obtain rfl : e = d := Option.some.inj (hed.symm.trans hd)
    exact hq (x.2 e he)
  · simp only [hea, if_false]
    exact ⟨trivial, fun x => hr e hea (x.2 e he), fun x => x e he⟩

/-! ### Signals and confirmed changes (R14, R15) -/

theorem Keeps.drawerChanged {a : Nat} {on : Bool} (h : Keeps P Q M r s) : Keeps P Q M r (s.drawerChanged a on) := by
  unfold State.drawerChanged
  split
  · split
    · exact h.clearRelease
    · exact Keeps.writeRecord (Keeps.setAlert h.clearRelease)
  · exact h.setAlert

theorem Keeps.passBook {a : Nat} {on : Bool} (h : Keeps P Q M r s) : Keeps P Q M r (s.passBook a on) := by
  unfold State.passBook
  split
  · exact h.bookInChanged
  · exact h

theorem Keeps.passChanges {a : Nat} {x y : DropSigs} (h : Keeps P Q M r s) : Keeps P Q M r (s.passChanges a x y) := by
  unfold State.passChanges
  have h1 : Keeps P Q M r (if x.drawerOpen.confirmed = y.drawerOpen.confirmed then s
      else s.drawerChanged a y.drawerOpen.confirmed) := by
    split
    · exact h
    · exact h.drawerChanged
  dsimp only
  split
  · exact h1
  · exact h1.passBook

theorem Keeps.setSignals {a : Nat} {x : DropSigs} (h : Keeps P Q M r s) : Keeps P Q M r (s.setSignals a x) := by
  unfold State.setSignals
  split
  · exact Keeps.passChanges (h.modifyDrop fun _ _ _ => calm_of_same h.condition rfl rfl rfl (.inr le_rfl))
  · exact h

theorem Keeps.noticeNext {a : Nat} (h : Keeps P Q M r s) : Keeps P Q M r (s.noticeNext a) := by
  unfold State.noticeNext
  split
  · exact h
  · exact Keeps.queueUnseen (Keeps.handOver
      (h.modifyDrop fun _ _ _ => calm_of_same h.condition rfl rfl rfl (.inr le_rfl)))

/-! ### ANNOUNCE (R10, R11) -/

theorem Drop.abandon_calm (hQ : ScoreCondition Q) (d : Drop) : Calm Q d d.abandon :=
  calm_of_same hQ rfl rfl rfl (.inl (Nat.zero_le _))

theorem Keeps.identifyIfBook {a : Nat} (h : Keeps P Q M r s) : Keeps P Q M r (s.identifyIfBook a) := by
  unfold State.identifyIfBook
  split
  · exact h.startIdentify
  · exact h

theorem Keeps.announceAgain {a : Nat} {k : DropType} (h : Keeps P Q M r s) : Keeps P Q M r (s.announceAgain a k) := by
  have h1 := Keeps.queueStatus (a := a) (h.modifyDrop (a := a) fun d _ _ => Drop.abandon_calm h.condition d)
  unfold State.announceAgain
  cases k with
  | teller => exact h1
  | printer => exact h1.interruptSession.identifyIfBook

theorem Keeps.announceAbsent {a : Nat} {g : Signals} {d : Drop} (h : Keeps P Q M r s) (hd : s.dropAt a = some d)
    (hs : d.state = .absent) : Keeps P Q M r (s.announceAbsent a g) :=
  Keeps.queueStatus (Keeps.setSignals (h.changeDrop h.condition hd (fun _ he => he) (fun _ he _ => he)
    (fun hq => h.condition.join d _ rfl hs rfl rfl hq) fun _ _ hq => hq))

theorem Keeps.announce {a : Nat} {k : DropType} {g : Signals} (h : Keeps P Q M r s) :
    Keeps P Q M r (s.announce a k g) := by
  unfold State.announce
  split
  · split
    · exact h
    · next d hd =>
      have hd' : s.dropAt a = some d := Option.eq_some_of_filter_eq_some hd
      split
      · next hs =>
        split
        · exact h.announceAbsent hd' hs
        · exact h
      · exact h.announceAgain
      · exact h.announceAgain
      · exact h
  · exact h

/-! ### New tables and a new cycle (R2 to R4) -/

theorem Drop.leave_agrees (d : Drop) : d.leave.ScoreAgrees := rfl

theorem Drop.adopt_addr (d : Drop) (l m : List Nat) (k : DropType) (g : Nat) : (d.adopt l m k g).addr = d.addr := by
  unfold Drop.adopt Drop.leave Drop.queueStatus
  dsimp only
  split_ifs <;> rfl

theorem Drop.adopt_outbound (d : Drop) (l m : List Nat) (k : DropType) (g : Nat) :
    (d.adopt l m k g).outbound.length ≤ d.outbound.length := by
  unfold Drop.adopt Drop.leave Drop.queueStatus
  dsimp only
  split_ifs <;> simp

/-- A drop under new tables is ABSENT with score 0, or keeps its state and its score. -/
theorem Drop.adopt_agrees {d : Drop} (h : d.ScoreAgrees) (l m : List Nat) (k : DropType) (g : Nat) :
    (d.adopt l m k g).ScoreAgrees := by
  unfold Drop.adopt
  dsimp only
  split
  · exact Drop.leave_agrees _
  · unfold Drop.queueStatus
    split_ifs <;> exact h

theorem Keeps.interruptRemoved {p : Params} (h : Keeps P Q M r s) : Keeps P Q M r (s.interruptRemoved p) :=
  h.foldl (fun _ _ x => x.interruptSession) _

theorem Keeps.adoptTables (h : Keeps P Drop.ScoreAgrees M r s) : Keeps P Drop.ScoreAgrees M r s.adoptTables := by
  have h1 : Keeps P Drop.ScoreAgrees M r ((s.interruptRemoved s.dyc.params).onPbu fun b =>
      { b with sessions := rebind b.sessions (printerDrops s.dyc.params.dropTable) }) := h.interruptRemoved.onPbu
  unfold State.adoptTables
  refine Keeps.onDropsTo h1 scoreAgrees_condition rfl fun d hd => ⟨d.adopt_addr _ _ _ _, fun x => ?_, fun x => ?_⟩
  · exact Drop.adopt_agrees (x.2 d hd) _ _ _ _
  · exact (d.adopt_outbound _ _ _ _).trans (x d hd)

/-- Taking its next message changes a drop's buffers alone. -/
theorem nextMessage_some {d e : Drop} {m : DownMessage} (h : s.nextMessage d = some (m, e)) :
    e.addr = d.addr ∧ e.state = d.state ∧ e.score = d.score ∧ e.outbound.length ≤ d.outbound.length := by
  unfold State.nextMessage at h
  split at h
  · cases h; exact ⟨rfl, rfl, rfl, le_rfl⟩
  · cases h; exact ⟨rfl, rfl, rfl, List.length_erase_le⟩
  · next heq => cases h; exact ⟨rfl, rfl, rfl, by simp [heq]⟩
  · split at h
    · cases h; exact ⟨rfl, rfl, rfl, le_rfl⟩
    · cases h

theorem withMessage_same (s : State) (d : Drop) : (s.withMessage d).addr = d.addr ∧ (s.withMessage d).state = d.state ∧
    (s.withMessage d).score = d.score ∧ (s.withMessage d).outbound.length ≤ d.outbound.length := by
  unfold State.withMessage
  split
  · exact ⟨rfl, rfl, rfl, le_rfl⟩
  · split
    · next m e he =>
      obtain ⟨ha, hs, hc, ho⟩ := nextMessage_some he
      exact ⟨ha, hs, hc, ho⟩
    · exact ⟨rfl, rfl, rfl, le_rfl⟩

theorem Keeps.sendSegment {a n : Nat} {d : Drop} (h : Keeps P Q M r s) (hd : s.dropAt a = some d) :
    Keeps P Q M r (s.sendSegment d n).2 := by
  obtain ⟨ha, hs, hc, ho⟩ := withMessage_same s d
  have had := dropAt_addr hd
  refine h.changeDrop h.condition (a := d.addr) (had ▸ hd) (fun _ _ => ha) (fun _ _ x => ho.trans x)
    (h.condition.congr d _ ha hs hc) fun _ _ hq => hq

theorem Keeps.composeSlot {n : Nat} (h : Keeps P Q M r s) : Keeps P Q M r (s.composeSlot n).2 := by
  unfold State.composeSlot
  split
  · next d hd =>
    obtain ⟨a, -, ha⟩ := Option.bind_eq_some_iff.1 hd
    unfold State.ownedSlot
    dsimp only
    split
    · exact h
    · exact h
    · split
      · exact h.sendSegment ha
      · exact h
    · split
      · exact h.sendSegment ha
      · exact h
  · exact h

theorem Keeps.composeSlots (l : List Nat) (h : Keeps P Q M r s) : Keeps P Q M r (State.composeSlots l s).2 := by
  induction l generalizing s with
  | nil => exact h
  | cons n l ih => exact ih h.composeSlot

theorem Keeps.sendCycle (h : Keeps P Q M r s) : Keeps P Q M r s.sendCycle := by
  have h1 := h.composeSlots (List.range' 1 31)
  unfold State.sendCycle
  generalize State.composeSlots (List.range' 1 31) s = x at h1 ⊢
  exact h1.onLpc rfl

theorem Keeps.cycleStart (h : Keeps P Drop.ScoreAgrees M r s) : Keeps P Drop.ScoreAgrees M r s.cycleStart := by
  unfold State.cycleStart
  split
  · exact h
  · split
    · exact h.adoptTables.sendCycle
    · exact h.sendCycle

/-! ### Upstream messages (R6) -/

theorem Keeps.misdirected {a : Nat} (h : Keeps P Q M r s) : Keeps P Q M r (s.misdirected a) := by
  unfold State.misdirected
  split
  · exact h.admitted h
  · exact h

theorem Keeps.takeFromTeller {a : Nat} (m : UpMessage) (h : Keeps P Q M r s) :
    Keeps P Q M r (s.takeFromTeller a m) := by
  cases m with
  | announce => exact h.announce
  | noticeNext => exact h.fromTeller h.noticeNext
  | txnRequest => exact h.fromTeller h.takeRequest
  | cancel => exact h.fromTeller h.cancel
  | signOn => exact h.fromTeller h.signOn
  | signOff => exact h.fromTeller h.signOff
  | unlock => exact h.fromTeller h.unlock
  | forceSignOff => exact h.fromTeller h.forceSignOff
  | overrideGrant => exact h.fromTeller h.overrideGrant
  | overrideDeny => exact h.fromTeller h.overrideDeny
  | transferOut => exact h.fromTeller h.transferOut
  | transferAccept => exact h.fromTeller h.transferAccept
  | transferRecall => exact h.fromTeller h.transferRecall
  | countDeclare => exact h.fromTeller h.countDeclare
  | acceptDifference => exact h.fromTeller h.acceptDifference
  | forceBalance => exact h.fromTeller h.forceBalance
  | closePropose => exact h.fromTeller h.closePropose
  | closeConfirm => exact h.fromTeller h.closeConfirm
  | closeWithdraw => exact h.fromTeller h.closeWithdraw
  | bookPresent => exact h.misdirected
  | lineDone => exact h.misdirected
  | pageReady => exact h.misdirected
  | printerFault => exact h.misdirected
  | other => exact h.misdirected

theorem Keeps.takeFromPrinter {a : Nat} (m : UpMessage) (h : Keeps P Q M r s) :
    Keeps P Q M r (s.takeFromPrinter a m) := by
  unfold State.takeFromPrinter
  split
  · exact h.announce
  · exact h
  · exact h.fromPrinter h.bookPresent
  · exact h.fromPrinter h.lineDone
  · exact h.fromPrinter h.pageReady
  · exact h.fromPrinter h.printerFaultAt
  · exact h.misdirected

theorem Keeps.takeMessage {a : Nat} {l : List Byte} (h : Keeps P Q M r s) : Keeps P Q M r (s.takeMessage a l) := by
  unfold State.takeMessage
  split
  · exact h.takeFromTeller _
  · exact h.takeFromPrinter _
  · exact h

/-! ### The halves of a good cycle (R5, R6, R9, R14) -/

/-- A score as it may stand between the halves of a cycle and its evaluation. -/
def Drop.ScoreLoose (d : Drop) : Prop :=
  match d.state with
  | .absent => d.score = 0
  | .active | .degraded => d.score ≤ Config.maxScore
  | .fenced => Config.fencedScore ≤ d.score ∧ d.score ≤ Config.maxScore

theorem Drop.ScoreAgrees.loose {d : Drop} (h : d.ScoreAgrees) : d.ScoreLoose := by
  simp only [Drop.ScoreAgrees, Drop.ScoreLoose, Config.degradedScore, Config.fencedScore, Config.maxScore] at *
  cases hs : d.state <;> simp only [hs] at h ⊢ <;> omega

/-- While the halves of a cycle are handled a present drop keeps the state it had as the cycle returned. -/
def State.Handling (before : State) (d : Drop) : Prop :=
  d.ScoreLoose ∧ ∀ old, before.dropAt d.addr = some old → old.state ≠ .absent → d.state = old.state

theorem handling_condition (before : State) : ScoreCondition before.Handling where
  congr d e ha hs hc h := by
    unfold State.Handling Drop.ScoreLoose at *
    rw [ha, hs, hc]; exact h
  join d e ha hd he hc h := by
    refine ⟨by unfold Drop.ScoreLoose; rw [he, hc]; exact Nat.zero_le _, fun old ho hn => ?_⟩
    have hold := h.2 old (ha ▸ ho) hn
    exact absurd (hold ▸ hd) hn

theorem Drop.assemble_same (d : Drop) (first last : Bool) (l : List Byte) :
    (d.assemble first last l).drop.addr = d.addr ∧ (d.assemble first last l).drop.state = d.state ∧
      (d.assemble first last l).drop.outbound = d.outbound := by
  unfold Drop.assemble
  dsimp only
  split_ifs <;> exact ⟨rfl, rfl, rfl⟩

theorem scored_le (x : Bool) {n : Nat} (h : n ≤ Config.maxScore) : scored x n ≤ Config.maxScore := by
  unfold scored
  split
  · exact Nat.min_le_left _ _
  · omega

theorem Keeps.sampleFirst {a n : Nat} {l : List Byte} (h : Keeps P Q M r s) : Keeps P Q M r (s.sampleFirst a n l) := by
  unfold State.sampleFirst
  split
  · exact h.setSignals
  · exact h

/-- A drop that is ACTIVE or DEGRADED takes a new score. -/
theorem Keeps.rescore {before : State} {a : Nat} {d e : Drop} (h : Keeps P before.Handling M r s)
    (hd : s.dropAt a = some d) (ha : e.addr = a) (hs : e.state = d.state) (ho : e.outbound = d.outbound)
    (hq : before.Handling d → e.ScoreLoose) : Keeps P before.Handling M r (s.modifyDrop a fun _ => e) :=
  h.changeDrop h.condition hd (fun _ _ => ha) (fun _ _ x => by rw [ho]; exact x)
    (fun x => ⟨hq x, fun old hold hn => hs.trans (x.2 old (dropAt_addr hd ▸ ha ▸ hold) hn)⟩) fun _ _ hq => hq

theorem Keeps.scoreSlot {before : State} {a n : Nat} {d : Drop} {first : Bool} {l : List Byte}
    (h : Keeps P before.Handling M r s) (hd : s.dropAt a = some d)
    (hs : before.Handling d → d.state = .active ∨ d.state = .degraded) :
    Keeps P before.Handling M r (s.scoreSlot d n first l) := by
  unfold State.scoreSlot
  dsimp only
  obtain ⟨x, hx⟩ : ∃ x : Assembled,
      x = if cleanHalf n l then d.assemble (upFirst l) (upLast l) (upBytes l) else ⟨true, d, none⟩ := ⟨_, rfl⟩
  have hsame : x.drop.addr = d.addr ∧ x.drop.state = d.state ∧ x.drop.outbound = d.outbound := by
    rw [hx]
    split
    · exact d.assemble_same _ _ _
    · exact ⟨rfl, rfl, rfl⟩
  rw [← hx]
  obtain ⟨hxa, hxs, hxo⟩ := hsame
  have had := dropAt_addr hd
  have h1 : Keeps P before.Handling M r
      (s.modifyDrop d.addr fun _ => { x.drop with score := scored x.error d.score }) := by
    refine h.rescore (had.symm ▸ hd) hxa hxs hxo fun hq => ?_
    have hloose := hq.1
    unfold Drop.ScoreLoose at hloose ⊢
    dsimp only
    rw [hxs]
    rcases hs hq with he | he <;> rw [he] at hloose ⊢ <;> exact scored_le _ hloose
  have h2 : Keeps P before.Handling M r
      (if first = true then (s.modifyDrop d.addr fun _ => { x.drop with score := scored x.error d.score }).sampleFirst
        d.addr n l else s.modifyDrop d.addr fun _ => { x.drop with score := scored x.error d.score }) := by
    split
    · exact h1.sampleFirst
    · exact h1
  split
  · exact h2.takeMessage
  · exact h2

theorem Keeps.probeSlot {n : Nat} {d : Drop} {l : List Byte} (h : Keeps P Q M r s) :
    Keeps P Q M r (s.probeSlot d n l) := by
  unfold State.probeSlot
  split
  · exact Keeps.setSignals (h.modifyDrop fun _ _ _ => calm_of_same h.condition rfl rfl rfl (.inr le_rfl))
  · exact Keeps.setSignals (h.modifyDrop fun _ _ _ => calm_of_same h.condition rfl rfl rfl (.inr le_rfl))

theorem Keeps.offerSlot {a n : Nat} {l : List Byte} (h : Keeps P Q M r s) : Keeps P Q M r (s.offerSlot a n l) := by
  unfold State.offerSlot
  split
  · split
    · exact h.announce
    · exact h
  · exact h

theorem Keeps.handleSlot {before : State} {n : Nat} {l : List Byte} (h : Keeps P before.Handling M r s) :
    Keeps P before.Handling M r (before.handleSlot s n l) := by
  unfold State.handleSlot
  split
  · exact h
  · next old d hod =>
    obtain ⟨a, -, h1⟩ := Option.bind_eq_some_iff.1 hod
    obtain ⟨old', hold, h2⟩ := Option.bind_eq_some_iff.1 h1
    obtain ⟨d', hd, heq⟩ := Option.map_eq_some_iff.1 h2
    cases heq
    have hstate : before.Handling d → old.state ≠ .absent → d.state = old.state := fun hq =>
      hq.2 old (dropAt_addr hd ▸ hold)
    dsimp only
    split
    · next ho => exact h.scoreSlot hd fun hq => .inl (ho ▸ hstate hq (by simp [ho]))
    · next ho =>
      split
      · exact h.scoreSlot hd fun hq => .inr (ho ▸ hstate hq (by simp [ho]))
      · exact h
    · split
      · exact h.probeSlot
      · exact h
    · split
      · exact h.offerSlot
      · exact h

theorem Keeps.handleSlots {l : List (List Byte)} (h : Keeps P s.Handling M r s) :
    Keeps P s.Handling M r (s.handleSlots l) := h.foldl (fun _ _ x => x.handleSlot) _

/-! ### The evaluation of the drops (R7 to R9) -/

/-- While the drops are evaluated, those not in `l` have their turn behind them. -/
def Drop.Evaluating (l : List Nat) (d : Drop) : Prop := d.ScoreLoose ∧ (d.addr ∉ l → d.ScoreAgrees)

theorem evaluating_condition (l : List Nat) : ScoreCondition (Drop.Evaluating l) where
  congr d e ha hs hc h := by
    unfold Drop.Evaluating Drop.ScoreLoose Drop.ScoreAgrees at *
    rw [ha, hs, hc]; exact h
  join d e _ _ he hc _ := by
    have hagree : e.ScoreAgrees := by unfold Drop.ScoreAgrees; rw [he, hc]; decide
    exact ⟨hagree.loose, fun _ => hagree⟩

theorem Drop.ScoreAgrees.evaluating {d : Drop} (h : d.ScoreAgrees) (l : List Nat) : d.Evaluating l := ⟨h.loose, fun _ => h⟩

theorem Drop.Evaluating.rest {a : Nat} {l : List Nat} {d : Drop} (h : d.Evaluating (a :: l)) (ha : d.addr ≠ a) :
    d.Evaluating l := ⟨h.1, fun hl => h.2 (by simp [ha, hl])⟩

/-- The drop at the head of the turns takes its new state, with the score that goes with it. -/
theorem Keeps.evaluated {a : Nat} {l : List Nat} {d : Drop} {f : Drop → Drop}
    (h : Keeps P (Drop.Evaluating (a :: l)) M r s) (hd : s.dropAt a = some d) (ha : ∀ e : Drop, (f e).addr = e.addr)
    (ho : ∀ e : Drop, (f e).outbound.length ≤ e.outbound.length) (hf : d.ScoreLoose → (f d).ScoreAgrees) :
    Keeps P (Drop.Evaluating l) M r (s.modifyDrop a f) :=
  h.changeDrop (evaluating_condition l) hd (fun e he => (ha e).trans he) (fun e he _ => (ho e).trans he)
    (fun hq => (hf hq.1).evaluating l) fun _ he hq => hq.rest he

/-- A drop whose score agrees already has its turn without a change. -/
theorem Keeps.passed {a : Nat} {l : List Nat} {d : Drop} (h : Keeps P (Drop.Evaluating (a :: l)) M r s)
    (hd : s.dropAt a = some d) (hf : d.ScoreLoose → d.ScoreAgrees) : Keeps P (Drop.Evaluating l) M r s :=
  h.weaken (evaluating_condition l) fun x e he => by
    have hx := x.2 e he
    by_cases hea : e.addr = a
    · obtain rfl : e = d := Option.some.inj ((hea ▸ dropAt_of_mem x he).symm.trans hd)
      exact (hf hx.1).evaluating l
    · exact hx.rest hea

theorem Drop.fence_agrees {d : Drop} (h : d.score ≤ Config.maxScore) : d.fence.ScoreAgrees :=
  ⟨Nat.le_max_right _ _, Nat.max_le.2 ⟨h, by decide⟩⟩

theorem Keeps.tellFenced {d : Drop} (h : Keeps P Q M r s) : Keeps P Q M r (s.tellFenced d) := by
  unfold State.tellFenced
  split
  · exact h.suspendAt
  · exact h.interruptSession

theorem Keeps.tellRecovered {d : Drop} (h : Keeps P Q M r s) : Keeps P Q M r (s.tellRecovered d) := by
  unfold State.tellRecovered
  split
  · exact Keeps.queueStatus h.resumeAt
  · exact h.identifyIfBook

theorem Keeps.evaluateUsed {a : Nat} {l : List Nat} {d : Drop} (h : Keeps P (Drop.Evaluating (a :: l)) M r s)
    (hd : s.dropAt a = some d) (hs : d.state = .active ∨ d.state = .degraded) :
    Keeps P (Drop.Evaluating l) M r (s.evaluateUsed d) := by
  have hmax : d.ScoreLoose → d.score ≤ Config.maxScore := fun hl => by
    unfold Drop.ScoreLoose at hl
    rcases hs with he | he <;> rw [he] at hl <;> exact hl
  obtain rfl := dropAt_addr hd
  unfold State.evaluateUsed
  split
  · exact Keeps.tellFenced (h.evaluated hd (fun _ => rfl) (fun _ => Nat.zero_le _) fun hl => Drop.fence_agrees (hmax hl))
  · next hb =>
    have hlow : d.score < Config.fencedScore := by
      simp only [Bool.or_eq_true, decide_eq_true_eq, not_or, not_le] at hb
      exact hb.2
    have h1 : Keeps P (Drop.Evaluating l) M r (s.modifyDrop d.addr fun x =>
        { x with state := if Config.degradedScore ≤ d.score then DropState.degraded else DropState.active }) := by
      refine h.evaluated hd (fun _ => rfl) (fun _ => le_rfl) fun _ => ?_
      unfold Drop.ScoreAgrees
      by_cases hdeg : Config.degradedScore ≤ d.score
      · simp only [hdeg, if_true]; exact ⟨trivial, hlow⟩
      · simp only [hdeg, if_false]; exact not_le.1 hdeg
    by_cases hn : (if Config.degradedScore ≤ d.score then DropState.degraded else DropState.active) = d.state
    · simpa only [hn, if_true] using h1
    · simpa only [hn, if_false] using h1.queueStatus (a := d.addr)

theorem Keeps.evaluateFenced {a : Nat} {l : List Nat} {d : Drop} (h : Keeps P (Drop.Evaluating (a :: l)) M r s)
    (hd : s.dropAt a = some d) (hs : d.state = .fenced) : Keeps P (Drop.Evaluating l) M r (s.evaluateFenced d) := by
  obtain rfl := dropAt_addr hd
  unfold State.evaluateFenced
  split
  · exact Keeps.tellRecovered (h.evaluated hd (fun _ => rfl) (fun _ => le_rfl) fun _ =>
      show (0 : Nat) < Config.degradedScore by decide)
  · refine h.passed hd fun hl => ?_
    unfold Drop.ScoreLoose at hl
    unfold Drop.ScoreAgrees
    rw [hs] at hl ⊢; exact hl

theorem Keeps.evaluate {a : Nat} {l : List Nat} (h : Keeps P (Drop.Evaluating (a :: l)) M r s) :
    Keeps P (Drop.Evaluating l) M r (s.evaluate a) := by
  unfold State.evaluate
  split
  · next hnone =>
    refine h.weaken (evaluating_condition l) fun x e he => (x.2 e he).rest fun hea => ?_
    exact absurd ((hea ▸ dropAt_of_mem x he).symm.trans hnone) (by simp)
  · next d hd =>
    split
    · next hs => exact h.evaluateUsed hd (.inl hs)
    · next hs => exact h.evaluateUsed hd (.inr hs)
    · next hs => exact h.evaluateFenced hd hs
    · next hs =>
      refine h.passed hd fun hl => ?_
      unfold Drop.ScoreLoose at hl
      unfold Drop.ScoreAgrees
      rw [hs] at hl ⊢; exact hl

theorem Keeps.evaluateAll (l : List Nat) (h : Keeps P (Drop.Evaluating l) M r s) :
    Keeps P Drop.ScoreAgrees M r (l.foldl State.evaluate s) := by
  induction l generalizing s with
  | nil => exact h.weaken scoreAgrees_condition fun x d hd => (x.2 d hd).2 List.not_mem_nil
  | cons a l ih => exact ih h.evaluate

theorem Keeps.deliver {a : Nat} (h : Keeps P Q M r s) : Keeps P Q M r (s.deliver a) := by
  unfold State.deliver
  split
  · exact h
  · have h1 : Keeps P Q M r (s.modifyDrop a Drop.settleBegun) :=
      h.modifyDrop fun _ _ _ => calm_of_same h.condition rfl rfl rfl (.inr le_rfl)
    dsimp only
    split
    · exact h1.endTxn
    · exact h1

theorem Drop.unsampled_same (d : Drop) : d.unsampled.addr = d.addr ∧ d.unsampled.state = d.state ∧
    d.unsampled.score = d.score ∧ d.unsampled.outbound = d.outbound := by
  unfold Drop.unsampled
  split <;> exact ⟨rfl, rfl, rfl, rfl⟩

theorem Keeps.goodCycle {l : List (List Byte)} (h : Keeps P Drop.ScoreAgrees M r s) :
    Keeps P Drop.ScoreAgrees M r (s.goodCycle l) := by
  have h1 : Keeps P Drop.ScoreAgrees M r
      (s.onLpc fun x => { x with slipRun := 0, drops := x.drops.map Drop.unsampled }) :=
    h.onDrops rfl fun d _ => by
      obtain ⟨ha, hs, hc, ho⟩ := d.unsampled_same
      exact calm_of_same h.condition ha hs hc (.inr (by rw [ho]))
  have h2 := h1.weaken (handling_condition _) fun x d hd => ⟨(x.2 d hd).loose, fun old hold _ => by
    rw [Option.some.inj ((dropAt_of_mem x hd).symm.trans hold)]⟩
  have h3 := (h2.handleSlots (l := l)).weaken (evaluating_condition (State.addresses _)) fun x d hd =>
    ⟨(x.2 d hd).1, fun hn => absurd (List.mem_map.2 ⟨d, hd, rfl⟩) hn⟩
  exact h3.evaluateAll.foldl (fun _ _ x => x.deliver) _

/-! ### Slips, LOOP-FAULT and the returned cycle (R1, R12, R13) -/

theorem Keeps.enterLoopFault (h : Keeps P Q M r s) : Keeps P Q M r s.enterLoopFault :=
  h.onDrops rfl fun _ _ => calm_of_same h.condition rfl rfl rfl (.inl (Nat.zero_le _))

theorem Keeps.slippedCycle (h : Keeps P Q M r s) : Keeps P Q M r s.slippedCycle := by
  have h1 : Keeps P Q M r (s.onLpc fun l => { l with slips := countUp Config.maxCount l.slips, goodRun := 0 }) :=
    h.onLpc rfl
  unfold State.slippedCycle
  dsimp only
  split
  · exact h1
  · have h2 := h1.onDrops (f := fun l => { l with slipRun := l.slipRun + 1, drops := l.drops.map Drop.slip }) rfl
      fun _ _ => calm_of_same h.condition rfl rfl rfl (.inr le_rfl)
    split
    · exact h2.enterLoopFault
    · exact h2

theorem Keeps.leaveLoopFault (h : Keeps P Q M r s) : Keeps P Q M r s.leaveLoopFault :=
  h.onDrops rfl fun d _ => by
    dsimp only
    unfold Drop.queueStatus
    split_ifs <;> exact calm_of_same h.condition rfl rfl rfl (.inr le_rfl)

theorem Keeps.faultCycle (h : Keeps P Q M r s) : Keeps P Q M r s.faultCycle := by
  unfold State.faultCycle
  split
  · exact h.leaveLoopFault
  · exact h.onLpc rfl

theorem Keeps.clearCycle (h : Keeps P Q M r s) : Keeps P Q M r s.clearCycle := h.onLpc rfl

theorem Keeps.cycleReturn {c : ReturnedCycle} (h : Keeps P Drop.ScoreAgrees M r s) :
    Keeps P Drop.ScoreAgrees M r (s.cycleReturn c) := by
  unfold State.cycleReturn
  split
  · dsimp only
    split
    · split
      · exact h.clearCycle.goodCycle
      · exact Keeps.faultCycle h.clearCycle
    · exact Keeps.slippedCycle h.clearCycle
  · exact h

theorem Keeps.cycleLost (h : Keeps P Q M r s) : Keeps P Q M r s.cycleLost := by
  unfold State.cycleLost
  split
  · exact Keeps.slippedCycle h.clearCycle
  · exact h

end Sys2Proof.Machine
end

section
/-! SUPPORT. What a stop and a recovery keep (R127, R180 to R184), and with it what every command keeps. -/

namespace Sys2Proof.Machine

variable {P Q : Drop → Prop} {M : State → State → Prop} {r s t : State}

/-! ### The pins and the volatile items (R180) -/

/-- The pins and the marks of the store change, and a part that runs after it has a valid store. -/
theorem Keeps.pins {p q v : Bool} {x : Straps} {y : Option (Nat × Straps)} (h : Keeps P Q M r s)
    (hv : (s.isRunning = true → s.storeValid = true) → (p && !q) = true → v = true) :
    Keeps P Q M r { s with supply := p, resetLow := q, straps := x, restarting := y, storeValid := v } where
  condition := h.condition
  relation := h.relation
  mark := h.relation r s _ rfl rfl h.mark
  pending := h.pending
  scores x := scores_congr rfl (h.scores x)
  outbound x := outbound_congr rfl (h.outbound x)
  tables x := by
    obtain ⟨ht, hs, hd, hr⟩ := h.tables x
    exact ⟨ht, hs, hd, hv hr⟩
  trunk x := trunk_congr rfl rfl (h.trunk x)
  accounts x := accounts_congr rfl (h.accounts x)
  journal x := journal_congr rfl rfl (h.journal x)
  cash x := cash_congr rfl rfl rfl (fun _ => id) (h.cash x)

/-- The straps and a waiting RESTART are no part of any invariant. -/
theorem Keeps.straps {x : Straps} {y : Option (Nat × Straps)} (h : Keeps P Q M r s) :
    Keeps P Q M r { s with straps := x, restarting := y } :=
  h.pins fun hr => hr

theorem freshDrops_addr (l : List (DropType × Nat)) : (freshDrops l).map Drop.addr = List.range' 1 28 := by
  simp [freshDrops, freshDrop, Function.comp_def]

theorem mem_freshDrops {l : List (DropType × Nat)} {d : Drop} (h : d ∈ freshDrops l) :
    d = freshDrop d.addr d.kind d.group := by
  obtain ⟨a, -, rfl⟩ := List.mem_map.1 h
  rfl

theorem freshDrop_agrees (a : Nat) (k : DropType) (g : Nat) : (freshDrop a k g).ScoreAgrees := rfl

/-- The loop of a recovered part: fresh drops, all ABSENT. -/
theorem Keeps.freshLoop {l : List (DropType × Nat)} {f : Lpc → Lpc} (h : Keeps P Q M r s)
    (hf : (f s.lpc).drops = freshDrops l) : Keeps P Drop.ScoreAgrees M r (s.onLpc f) where
  condition := scoreAgrees_condition
  relation := h.relation
  mark := h.relation r s _ rfl rfl h.mark
  pending := h.pending
  scores _ := by
    unfold State.DropsMeet
    rw [State.onLpc_lpc, hf]
    exact ⟨freshDrops_addr l, fun d hd => by rw [mem_freshDrops hd]; exact freshDrop_agrees _ _ _⟩
  outbound _ := by
    unfold State.OutboundBounded
    rw [State.onLpc_lpc, hf]
    intro d hd
    rw [mem_freshDrops hd]; exact Nat.zero_le _
  tables x := tables_congr rfl rfl rfl rfl rfl (h.tables x)
  trunk x := trunk_congr rfl rfl (h.trunk x)
  accounts x := accounts_congr rfl (h.accounts x)
  journal x := journal_congr rfl rfl (h.journal x)
  cash x := cash_congr rfl rfl rfl (fun _ => id) (h.cash x)

/-- An account without its session flag. -/
def SatEntry.idle (e : SatEntry) : SatEntry := { e with book := e.book.map fun b => { b with session := none } }

theorem SatEntry.idle_book {e : SatEntry} (h : ∀ b, e.book = some b → b.Sound) :
    ∀ b, e.idle.book = some b → b.Sound := by
  intro b hb
  obtain ⟨c, hc, rfl⟩ := Option.map_eq_some_iff.1 hb
  exact (h c hc).congr rfl rfl rfl rfl rfl

theorem SatEntry.idle_lines (e : SatEntry) : e.idle.lines = e.lines := by
  unfold SatEntry.lines SatEntry.idle
  cases e.book <;> rfl

theorem Keeps.idleAccounts (h : Keeps P Q M r s) :
    Keeps P Q M r (s.onSiu fun x => { x with sat := x.sat.map SatEntry.idle }) := by
  refine h.onSiu fun ⟨hs, hall, hpool⟩ => ⟨?_, ?_, ?_⟩
  · rw [State.onSiu_siu, List.map_map]; exact hs
  · intro e he
    obtain ⟨x, hx, rfl⟩ := List.mem_map.1 he
    exact ⟨(hall x hx).1, SatEntry.idle_book (hall x hx).2⟩
  · have hlines : ((s.siu.sat.map SatEntry.idle).map SatEntry.lines).sum = (s.siu.sat.map SatEntry.lines).sum := by
      rw [List.map_map]; exact congrArg List.sum (List.map_congr_left fun e _ => e.idle_lines)
    exact hlines.trans_le hpool

theorem Teller.recover_signedOn (x : Teller) : x.recover.signedOn = false := by
  unfold Teller.recover Teller.signedOn
  by_cases hx : x.session = .lockedOut <;> simp [hx]

theorem Keeps.signEveryoneOff {f : Rqu → Rqu} (h : Keeps P Q M r s)
    (hf : (f s.rqu).tellers = s.rqu.tellers.map Teller.recover) : Keeps P Q M r (s.onRqu f) := by
  refine h.onRqu (fun hn => ?_) fun _ _ => ?_
  · rw [hf, List.map_map]; exact hn
  · unfold State.nobodySignedOn
    rw [State.onRqu_rqu, hf, List.all_eq_true]
    intro x hx
    obtain ⟨y, -, rfl⟩ := List.mem_map.1 hx
    rw [Teller.recover_signedOn]; rfl

theorem freshTkc_fits : freshTkc.slots.map OnlineSlot.number = List.range 6 := by decide

theorem freshCsu_conserves (c : Currency) : freshCsu.Conserves c := by
  unfold Csu.Conserves; cases c <;> decide

theorem Keeps.freshTrunk (h : Keeps P Q LostKept r s) : Keeps P Q LostKept r (s.onTkc fun _ => freshTkc) :=
  h.onTrunk (fun _ _ => .inl rfl) fun _ _ => ⟨freshTkc_fits, Nat.zero_le _⟩

/-- The stop of the part as one update of each block after another. -/
theorem clearVolatile_eq (s : State) : s.clearVolatile = (((((((State.onRqu { s with restarting := none }
    fun x => { x with tellers := x.tellers.map Teller.recover, waitList := [], txns := [], fetches := [] }).onLpc
      fun x => freshLpc s.dyc.params x.notices x.noticeCounter).onTkc fun _ => freshTkc).onSiu
        fun x => { x with sat := x.sat.map SatEntry.idle }).onJnc fun x => { x with clock := x.clockKept }).onPbu
          fun x => { x with sessions := freshSessions s.dyc.params.dropTable }).onDyc
            fun x => { x with proposal := none, blockTimer := .stopped, resumed := false }) := rfl

theorem Keeps.clearVolatile (h : Keeps P Q LostKept r s) : Keeps P Drop.ScoreAgrees LostKept r s.clearVolatile := by
  rw [clearVolatile_eq]
  refine Keeps.onTimer ?_ rfl rfl (.inl rfl)
  refine Keeps.onPbu (Keeps.onJnc ?_ fun x => x)
  refine Keeps.idleAccounts (Keeps.freshTrunk (Keeps.freshLoop (Q := Q) ?_ rfl))
  exact Keeps.signEveryoneOff h.straps rfl

/-- A fresh store meets every invariant, whatever went before. -/
theorem Keeps.clearStore (hp : t.pending = r.pending) (ht : t.tkc = freshTkc) :
    Keeps P Drop.ScoreAgrees LostKept r t.clearStore where
  condition := scoreAgrees_condition
  relation := lostKept_relation
  mark _ _ := .inl (congrArg Tkc.link ht)
  pending := hp
  scores _ := ⟨freshDrops_addr _, fun d hd => by rw [mem_freshDrops hd]; exact freshDrop_agrees _ _ _⟩
  outbound _ := fun d hd => by rw [mem_freshDrops hd]; exact Nat.zero_le _
  tables _ := ⟨List.Pairwise.nil, rfl, rfl, fun _ => rfl⟩
  trunk _ := by
    unfold State.TrunkFits State.clearStore
    rw [ht]; exact ⟨freshTkc_fits, Nat.zero_le _⟩
  accounts _ := ⟨List.Pairwise.nil, fun _ he => absurd he List.not_mem_nil, Nat.zero_le _⟩
  journal _ := ⟨rfl, Nat.zero_le _⟩
  cash _ := by
    exact ⟨rfl, ⟨List.nodup_nil, le_rfl, Nat.succ_pos _, fun _ he => absurd he List.not_mem_nil⟩,
      fun _ => ⟨rfl, rfl⟩, fun hn => absurd rfl hn, freshCsu_conserves _, freshCsu_conserves _⟩

/-! ### The restored day (R182, R183) -/

theorem Keeps.resolveWork {c : Cause} (h : Keeps P Q M r s) : Keeps P Q M r (s.resolveWork c) :=
  Keeps.writeRecord (h.foldl (fun _ _ x => x.timeOut) _)

theorem Keeps.returnTransit {e : TransitEntry} (h : Keeps P Q M r s)
    (he : r.CashConserved → s.transitAt e.number = some e) : Keeps P Q M r (s.returnTransit e) :=
  Keeps.writeRecord (Keeps.judgeCashHigh (h.settleTransit
    (fun hr hs => ⟨he hr, (transitAt_bounds (he hr) hs).1⟩) fun x => by simp only [Sums.moved]; omega))

theorem judgeCashHigh_transit {n : Nat} : (s.judgeCashHigh n).csu.transit = s.csu.transit := by
  unfold State.judgeCashHigh
  split
  · split <;> simp [State.modifyDrawer]
  · rfl

theorem returnTransit_transit {e : TransitEntry} :
    (s.returnTransit e).csu.transit = eraseKey TransitEntry.number e.number s.csu.transit := by
  simp [State.returnTransit, judgeCashHigh_transit, State.removeTransit, State.addTransferOut, State.modifyDrawer]

/-- The head of the transit list is the entry found at its number, and leaves the rest. -/
theorem eraseKey_head {α : Type} {key : α → Nat} {x : α} {l : List α} (h : ((x :: l).map key).Nodup) :
    eraseKey key (key x) (x :: l) = l := by
  rw [List.map_cons, List.nodup_cons, List.mem_map] at h
  simp only [eraseKey, List.filter_cons, bne_self_eq_false, Bool.false_eq_true, if_false]
  exact List.filter_eq_self.2 fun y hy => bne_iff_ne.2 fun he => h.1 ⟨y, hy, he⟩

theorem Keeps.returnAll (l : List TransitEntry) (h : Keeps P Q M r s) (hl : r.CashConserved → s.csu.transit = l) :
    Keeps P Q M r (l.foldl State.returnTransit s) := by
  induction l generalizing s with
  | nil => exact h
  | cons e l ih =>
    refine ih (h.returnTransit fun hr => ?_) fun hr => ?_
    · simp [State.transitAt, findKey, hl hr]
    · obtain ⟨-, ⟨hnd, -⟩, -⟩ := h.cash hr
      rw [hl hr] at hnd
      rw [returnTransit_transit, hl hr, eraseKey_head hnd]

theorem Keeps.settleDrawer {n : Nat} (h : Keeps P Q M r s) : Keeps P Q M r (s.settleDrawer n) := by
  unfold State.settleDrawer
  split
  · split
    · exact Keeps.writeRecord (h.modifyDrawer (fun _ => rfl) fun _ c => by cases c <;> rfl)
    · exact h
  · exact h

theorem Keeps.settleBalancing (h : Keeps P Q M r s) : Keeps P Q M r s.settleBalancing :=
  Keeps.judgeExit (Keeps.foldl (fun _ _ x => x.settleDrawer) _ (h.returnAll _ fun _ => rfl))

theorem Keeps.restoreDrain (h : Keeps P Q M r s) (hd : s.dyc.day = .closeDrain) : Keeps P Q M r s.restoreDrain := by
  refine Keeps.settleBalancing (Keeps.drawersDue (Keeps.setOpenDay (Keeps.writeRecord h.captureCutoff) rfl
    fun x => blockTimer_stopped x ?_))
  simp [State.captureCutoff, hd]

theorem Keeps.restoreDay (h : Keeps P Q M r s) (hb : s.dyc.blockTimer = .stopped) : Keeps P Q M r s.restoreDay := by
  have hstall : closedDay s.dyc.day = true → Keeps P Q M r (s.setDay .sendStalled) := fun hc =>
    h.setDay fun _ x => ⟨fun _ => closed_nobody x hc, fun hn => absurd hb hn⟩
  unfold State.restoreDay
  split
  · exact h
  · exact h
  · exact h
  · exact h
  · exact h.setOpenDay rfl fun _ => hb
  · next hd => exact h.restoreDrain hd
  · exact h.settleBalancing
  · next hd => exact hstall (by rw [hd]; rfl)
  · next hd => exact hstall (by rw [hd]; rfl)

theorem resolveWork_dyc {c : Cause} : (s.resolveWork c).dyc = s.dyc := by
  have hfold : ∀ (l : List Nat) (u : State), (l.foldl State.timeOut u).dyc = u.dyc := fun l => by
    induction l with
    | nil => exact fun _ => rfl
    | cons n l ih => exact fun u => (ih (u.timeOut n)).trans (by simp)
  simp [State.resolveWork, hfold]

theorem Keeps.clearMarks (h : Keeps P Q M r s) : Keeps P Q M r s.clearMarks :=
  h.modifyDrops fun _ => calm_of_same h.condition rfl rfl rfl (.inr le_rfl)

theorem Keeps.recoverKept {c : Cause} {n : Nat} (h : Keeps P Q M r s) (hb : s.dyc.blockTimer = .stopped) :
    Keeps P Q M r (s.recoverKept c n) :=
  Keeps.clearMarks (Keeps.raiseTagged (Keeps.restoreDay h.resolveWork (by rw [resolveWork_dyc]; exact hb)))

/-! ### Supply, reset pin and RESTART (R180) -/

theorem Keeps.recover {c : Cause} {x : Straps} {n : Nat} (hp : s.pending = r.pending)
    (h : s.storeValid = true → Keeps P Drop.ScoreAgrees LostKept r s) :
    Keeps P Drop.ScoreAgrees LostKept r (s.recover c x n) := by
  unfold State.recover
  dsimp only
  split
  · next hv => exact Keeps.sendCycle (Keeps.recoverKept (Keeps.straps (h hv).clearVolatile) rfl)
  · exact Keeps.sendCycle (Keeps.raiseTagged (Keeps.clearStore hp rfl))

theorem Keeps.powerOn {x : Straps} {held : Bool} (h : Keeps P Drop.ScoreAgrees LostKept r s) :
    Keeps P Drop.ScoreAgrees LostKept r (s.powerOn x held) := by
  unfold State.powerOn
  dsimp only
  split
  · exact h
  · split
    · next hlow => exact h.pins fun _ hrun => by simp [hlow] at hrun
    · exact Keeps.recover h.pending fun hv => h.pins fun _ _ => hv

theorem Keeps.powerLoss (h : Keeps P Drop.ScoreAgrees LostKept r s) :
    Keeps P Drop.ScoreAgrees LostKept r s.powerLoss := by
  unfold State.powerLoss
  split
  · exact Keeps.pins h.clearVolatile fun _ hrun => by simp at hrun
  · exact h

theorem Keeps.resetAssert (h : Keeps P Drop.ScoreAgrees LostKept r s) :
    Keeps P Drop.ScoreAgrees LostKept r s.resetAssert := by
  unfold State.resetAssert
  split
  · exact h
  · exact Keeps.pins h.clearVolatile fun _ hrun => by simp at hrun

theorem Keeps.resetRelease {x : Straps} (h : Keeps P Drop.ScoreAgrees LostKept r s) :
    Keeps P Drop.ScoreAgrees LostKept r (s.resetRelease x) := by
  unfold State.resetRelease
  dsimp only
  split
  · split
    · exact Keeps.recover h.pending fun hv => h.pins fun _ _ => hv
    · next hoff => exact h.pins fun _ hrun => by simp [hoff] at hrun
  · exact h

theorem Keeps.restart {k : FrameHeader} {x : Straps} (h : Keeps P Drop.ScoreAgrees LostKept r s) :
    Keeps P Drop.ScoreAgrees LostKept r (s.restart k x) := by
  unfold State.restart
  split
  · exact h
  · split
    · exact h.straps
    · exact Keeps.recover h.pending fun _ => h

theorem Keeps.frameEndOrRestart (h : Keeps P Drop.ScoreAgrees LostKept r s) :
    Keeps P Drop.ScoreAgrees LostKept r s.frameEndOrRestart := by
  unfold State.frameEndOrRestart
  split
  · split
    · exact Keeps.recover h.frameEnd.pending fun _ => h.frameEnd
    · exact h.frameEnd
  · exact h

theorem Keeps.tick (h : Keeps P Q M r s) : Keeps P Q M r s.tick := by
  unfold State.tick
  split
  · exact h.onJnc fun x => x
  · exact h

end Sys2Proof.Machine
end

section
/-! SUPPORT. Every command keeps what `Keeps` gathers, and with it the halves of O56 to O59 that concern one block. -/

namespace Sys2Proof.Machine

variable {P Q : Drop → Prop} {M : State → State → Prop} {r s t : State}

theorem Keeps.whileRunning {f : State → State} (h : Keeps P Q M r s) (hf : Keeps P Q M r (f s)) :
    Keeps P Q M r (s.whileRunning f) := by
  unfold State.whileRunning
  split
  · exact hf
  · exact h

theorem paramsOk_lengths {p : Params} (h : paramsOk p = true) : p.slotMap.length = 31 ∧ p.dropTable.length = 28 := by
  simp only [paramsOk, Bool.and_eq_true, beq_iff_eq] at h
  tauto

theorem applyParams_tkc (s : State) (p : Params) : (s.applyParams p).tkc = s.tkc := by simp

theorem Keeps.loadParams {k : FrameHeader} {l : List (Option Params)} (h : Keeps P Q LostKept r s) :
    Keeps P Q LostKept r (s.load k paramsRule l) := by
  have happly : paramsRule.apply = State.applyParams := by rw [paramsRule, plainRule]
  refine h.load (fun u p hok x => ?_) (by rw [happly]; exact applyParams_tkc)
  obtain ⟨hs, hd⟩ := paramsOk_lengths hok
  rw [happly]
  exact x.applyParams hs hd

/-- Every command completes, and keeps every invariant that concerns one block. -/
theorem exec_keeps (c : Instr) (s : State) :
    ∃ t, exec c s = .next t ∧ Keeps Drop.ScoreAgrees Drop.ScoreAgrees LostKept s t := by
  have h : Keeps Drop.ScoreAgrees Drop.ScoreAgrees LostKept s s :=
    Keeps.refl scoreAgrees_condition lostKept_relation id
  cases c with
  | powerOn => exact ⟨_, rfl, h.powerOn⟩
  | powerLoss => exact ⟨_, rfl, h.powerLoss⟩
  | resetPinAssert => exact ⟨_, rfl, h.resetAssert⟩
  | resetPinRelease => exact ⟨_, rfl, h.resetRelease⟩
  | restart => exact ⟨_, rfl, h.whileRunning (h.onFrame fun _ x => x.restart)⟩
  | dayClockTick =>
    refine ⟨_, rfl, ?_⟩
    split
    · exact h.tick
    · exact h
  | cycleStart => exact ⟨_, rfl, h.whileRunning h.cycleStart⟩
  | cycleReturn => exact ⟨_, rfl, h.whileRunning h.cycleReturn⟩
  | cycleNotBackAtPeriodEnd => exact ⟨_, rfl, h.whileRunning h.cycleLost⟩
  | announce => exact ⟨_, rfl, h.whileRunning h.announce⟩
  | noticeNext => exact ⟨_, rfl, h.whileRunning (h.fromTeller h.noticeNext)⟩
  | txnRequest => exact ⟨_, rfl, h.whileRunning (h.fromTeller h.takeRequest)⟩
  | cancel => exact ⟨_, rfl, h.whileRunning (h.fromTeller h.cancel)⟩
  | signOn => exact ⟨_, rfl, h.whileRunning (h.fromTeller h.signOn)⟩
  | signOff => exact ⟨_, rfl, h.whileRunning (h.fromTeller h.signOff)⟩
  | unlock => exact ⟨_, rfl, h.whileRunning (h.fromTeller h.unlock)⟩
  | forceSignOff => exact ⟨_, rfl, h.whileRunning (h.fromTeller h.forceSignOff)⟩
  | overrideGrant => exact ⟨_, rfl, h.whileRunning (h.fromTeller h.overrideGrant)⟩
  | overrideDeny => exact ⟨_, rfl, h.whileRunning (h.fromTeller h.overrideDeny)⟩
  | holdTimerExpiry => exact ⟨_, rfl, h.whileRunning h.holdExpiry⟩
  | transferOut => exact ⟨_, rfl, h.whileRunning (h.fromTeller h.transferOut)⟩
  | transferAccept => exact ⟨_, rfl, h.whileRunning (h.fromTeller h.transferAccept)⟩
  | transferRecall => exact ⟨_, rfl, h.whileRunning (h.fromTeller h.transferRecall)⟩
  | countDeclare => exact ⟨_, rfl, h.whileRunning (h.fromTeller h.countDeclare)⟩
  | acceptDifference => exact ⟨_, rfl, h.whileRunning (h.fromTeller h.acceptDifference)⟩
  | forceBalance => exact ⟨_, rfl, h.whileRunning (h.fromTeller h.forceBalance)⟩
  | closePropose => exact ⟨_, rfl, h.whileRunning (h.fromTeller h.closePropose)⟩
  | closeConfirm => exact ⟨_, rfl, h.whileRunning (h.fromTeller h.closeConfirm)⟩
  | closeWithdraw => exact ⟨_, rfl, h.whileRunning (h.fromTeller h.closeWithdraw)⟩
  | closeWindowExpiry => exact ⟨_, rfl, h.whileRunning h.windowExpiry⟩
  | drainEnd => exact ⟨_, rfl, h.whileRunning h.judgeDrain⟩
  | balancingExit => exact ⟨_, rfl, h.whileRunning h.judgeExit⟩
  | badFrame =>
    refine ⟨_, rfl, h.whileRunning ?_⟩
    split
    · exact h
    · exact h.countBad
  | lineCheck => exact ⟨_, rfl, h.whileRunning h.lineCheck⟩
  | supervisionTimerExpiry => exact ⟨_, rfl, h.whileRunning h.supervisionExpiry⟩
  | waitListServing => exact ⟨_, rfl, h.whileRunning h.serveWaitList⟩
  | txnForwardStart => exact ⟨_, rfl, h.whileRunning h.forwardStart⟩
  | passbookFetchStart => exact ⟨_, rfl, h.whileRunning h.fetchStart⟩
  | adviceStart => exact ⟨_, rfl, h.whileRunning h.adviceStart⟩
  | nodeAnswerStart => exact ⟨_, rfl, h.whileRunning h.answerStart⟩
  | waitingReportJoin => exact ⟨_, rfl, h.whileRunning h.joinWaiting⟩
  | batchBlockStart => exact ⟨_, rfl, h.whileRunning h.blockStart⟩
  | trunkFrameEnd => exact ⟨_, rfl, h.whileRunning h.frameEndOrRestart⟩
  | txnReply => exact ⟨_, rfl, h.whileRunning (h.onFrame fun _ x => x.txnReply)⟩
  | fetchReply => exact ⟨_, rfl, h.whileRunning (h.onFrame fun _ x => x.fetchReply)⟩
  | replyTimerExpiry => exact ⟨_, rfl, h.whileRunning h.replyExpiry⟩
  | adviceAck => exact ⟨_, rfl, h.whileRunning (h.onFrame fun _ x => x.adviceOutcome)⟩
  | adviceException => exact ⟨_, rfl, h.whileRunning (h.onFrame fun _ x => x.adviceOutcome)⟩
  | adviceReplyTimerExpiry => exact ⟨_, rfl, h.whileRunning h.adviceExpiry⟩
  | inquiryDrawers => exact ⟨_, rfl, h.whileRunning h.inquire⟩
  | inquiryLink => exact ⟨_, rfl, h.whileRunning h.inquire⟩
  | inquiryQueues => exact ⟨_, rfl, h.whileRunning h.inquire⟩
  | inquiryJournal => exact ⟨_, rfl, h.whileRunning h.inquire⟩
  | inquiryDay => exact ⟨_, rfl, h.whileRunning h.inquire⟩
  | inquiryDrops => exact ⟨_, rfl, h.whileRunning h.inquire⟩
  | inquiryPassbook => exact ⟨_, rfl, h.whileRunning h.inquire⟩
  | inquiryUnknownKind => exact ⟨_, rfl, h.whileRunning (h.onAnswered fun _ x hroom => x.nodeStatus hroom)⟩
  | maskSet => exact ⟨_, rfl, h.whileRunning h.maskSet⟩
  | notice => exact ⟨_, rfl, h.whileRunning h.notice⟩
  | dayStart => exact ⟨_, rfl, h.whileRunning h.dayStart⟩
  | loadTellers =>
    exact ⟨_, rfl, h.whileRunning (h.load (fun _ _ _ x => x.applyTeller) fun _ e => by cases e <;> rfl)⟩
  | loadCodes => exact ⟨_, rfl, h.whileRunning (h.load (fun _ _ _ x => x.applyCode) fun _ _ => rfl)⟩
  | loadDefinitions => exact ⟨_, rfl, h.whileRunning (h.load (fun _ _ _ x => x.applyDefinition) fun _ _ => rfl)⟩
  | loadRoutes => exact ⟨_, rfl, h.whileRunning (h.load (fun _ _ _ x => x.applyRoute) fun _ _ => rfl)⟩
  | loadSat => exact ⟨_, rfl, h.whileRunning (h.load (fun _ _ _ x => x.applySat) fun _ _ => rfl)⟩
  | loadRates => exact ⟨_, rfl, h.whileRunning (h.load (fun _ _ _ x => x.applyRates) fun _ _ => rfl)⟩
  | loadDenominations =>
    exact ⟨_, rfl, h.whileRunning (h.load (fun _ _ _ x => x.applyDenominations) fun _ _ => rfl)⟩
  | loadLayout => exact ⟨_, rfl, h.whileRunning (h.load (fun _ _ _ x => x.applyLayout) fun _ _ => rfl)⟩
  | loadParameters => exact ⟨_, rfl, h.whileRunning h.loadParams⟩
  | dayOpen => exact ⟨_, rfl, h.whileRunning h.dayOpen⟩
  | blockAck => exact ⟨_, rfl, h.whileRunning (h.onFrame fun _ x => x.blockAck)⟩
  | blockNak => exact ⟨_, rfl, h.whileRunning (h.onFrame fun _ x => x.blockNak)⟩
  | blockTimerExpiry => exact ⟨_, rfl, h.whileRunning h.blockExpiry⟩
  | batchResume => exact ⟨_, rfl, h.whileRunning h.batchResume⟩
  | batchVerdict => exact ⟨_, rfl, h.whileRunning h.batchVerdict⟩
  | resendBatch => exact ⟨_, rfl, h.whileRunning h.resendBatch⟩
  | dayEnd => exact ⟨_, rfl, h.whileRunning h.dayEnd⟩
  | bookPresent => exact ⟨_, rfl, h.whileRunning (h.fromPrinter h.bookPresent)⟩
  | lineDone => exact ⟨_, rfl, h.whileRunning (h.fromPrinter h.lineDone)⟩
  | pageReady => exact ⟨_, rfl, h.whileRunning (h.fromPrinter h.pageReady)⟩
  | printerFault => exact ⟨_, rfl, h.whileRunning (h.fromPrinter h.printerFaultAt)⟩
  | answerTimerExpiry => exact ⟨_, rfl, h.whileRunning h.answerTimerExpiry⟩

/-! ### A step -/

/-- The queue of waiting commands is no part of any invariant, so a step keeps what its command keeps. -/
theorem step_keeps (h : step s = .next t) :
    ∃ u : State, (∃ l, u = { s with pending := l }) ∧ Keeps Drop.ScoreAgrees Drop.ScoreAgrees LostKept u t := by
  unfold step at h
  split at h
  · cases h
    exact ⟨_, ⟨_, rfl⟩, Keeps.refl scoreAgrees_condition lostKept_relation id⟩
  · next c rest _ =>
    obtain ⟨v, hv, hk⟩ := exec_keeps c { s with pending := rest }
    obtain rfl : v = t := by rw [hv] at h; cases h; rfl
    exact ⟨_, ⟨rest, rfl⟩, hk⟩

theorem scoresAgree_iff : s.ScoresAgree ↔ s.DropsMeet Drop.ScoreAgrees := Iff.rfl

/-- Settles O58: every command keeps the three relations, by the rules of `Keeps` for its operations. -/
theorem stepKeepsLoopAndTables : Obligations.StepKeepsLoopAndTables := by
  unfold Obligations.StepKeepsLoopAndTables
  refine ⟨fun s t hs h => ?_, fun s t hs h => ?_, fun s t hs h => ?_⟩
  · obtain ⟨_, ⟨_, rfl⟩, hk⟩ := step_keeps h
    exact hk.scores hs
  · obtain ⟨_, ⟨_, rfl⟩, hk⟩ := step_keeps h
    exact hk.outbound hs
  · obtain ⟨_, ⟨_, rfl⟩, hk⟩ := step_keeps h
    exact hk.tables hs

/-- Settles O59: every command keeps the trunk, with the link and the RETAINED-LOST mark related by `LostKept`, and the
accounts, by the rules of `Keeps`. -/
theorem stepKeepsTheTrunk : Obligations.StepKeepsTheTrunk := by
  unfold Obligations.StepKeepsTheTrunk
  refine ⟨fun s t hs h => ?_, fun s t hs h => ?_⟩
  · obtain ⟨_, ⟨_, rfl⟩, hk⟩ := step_keeps h
    exact hk.sound hs
  · obtain ⟨_, ⟨_, rfl⟩, hk⟩ := step_keeps h
    exact hk.accounts hs

theorem step_keeps_journal (hs : s.JournalNumbered) (h : step s = .next t) : t.JournalNumbered := by
  obtain ⟨_, ⟨_, rfl⟩, hk⟩ := step_keeps h
  exact hk.journal hs

theorem step_keeps_cash (hs : s.CashConserved) (h : step s = .next t) : t.CashConserved := by
  obtain ⟨_, ⟨_, rfl⟩, hk⟩ := step_keeps h
  exact hk.cash hs

end Sys2Proof.Machine
end

section
/-! PROOFS. A step, the completion of every command, and the state after reset. -/

namespace Sys2Proof.Machine

variable {s t : State}

/-- Settles O1, by the two equations of `step`. -/
theorem stepRunsTheFront : Obligations.StepRunsTheFront := by
  unfold Obligations.StepRunsTheFront
  exact ⟨fun s c rest h => by simp [step, h], fun s h => by simp [step, h]⟩

/-- A stopped part leaves every command but those of the supply, the reset pin and the day clock. -/
theorem exec_stopped {c : Instr} (h : s.isRunning = false) (hon : ∀ pins held, c ≠ .powerOn pins held)
    (hloss : c ≠ .powerLoss) (hlow : c ≠ .resetPinAssert) (hup : ∀ pins, c ≠ .resetPinRelease pins)
    (htick : c = .dayClockTick → s.supply = false) : exec c s = .next s := by
  have hstop : ∀ f : State → State, Host.Outcome.next (s.whileRunning f) = (.next s : Host.Outcome State Fault Refusal) :=
    fun f => congrArg _ (whileRunning_stopped h)
  cases c with
  | powerOn pins held => exact absurd rfl (hon pins held)
  | powerLoss => exact absurd rfl hloss
  | resetPinAssert => exact absurd rfl hlow
  | resetPinRelease pins => exact absurd rfl (hup pins)
  | dayClockTick => exact congrArg Host.Outcome.next (by rw [htick rfl]; rfl)
  | _ => exact hstop _

/-- Settles O2: `exec_keeps` gives the outcome and the kept queue, and `exec_stopped` the part that stands. -/
theorem everyCommandCompletes : Obligations.EveryCommandCompletes := by
  unfold Obligations.EveryCommandCompletes
  refine ⟨fun c s => ?_, fun c s h hon hloss hlow hup htick => exec_stopped h hon hloss hlow hup htick⟩
  obtain ⟨t, ht, hk⟩ := exec_keeps c s
  exact ⟨t, ht, hk.pending⟩

/-! ### After reset -/

theorem reset_drops : ∀ d ∈ State.reset.lpc.drops, d = freshDrop d.addr d.kind d.group := fun _ hd => mem_freshDrops hd

theorem reset_addresses : State.reset.lpc.drops.map Drop.addr = List.range' 1 28 := freshDrops_addr _

/-- A drawer of a fresh store is one of the 25 fresh drawers. -/
theorem mem_freshDrawers {w : Drawer} (h : w ∈ State.reset.csu.drawers) : w = freshDrawer w.number := by
  obtain ⟨n, -, rfl⟩ := List.mem_map.1 (show w ∈ (List.range 25).map freshDrawer from h)
  rfl

theorem mem_freshSlots {x : OnlineSlot} (h : x ∈ State.reset.tkc.slots) : x = freeSlot x.number := by
  obtain ⟨n, -, rfl⟩ := List.mem_map.1 (show x ∈ (List.range 6).map freeSlot from h)
  rfl

/-- Settles O3: the reset state, item by item. -/
theorem resetState : Obligations.ResetState := by
  unfold Obligations.ResetState
  refine ⟨rfl, rfl, rfl, rfl, rfl, rfl, rfl, reset_addresses, fun d hd => ?_, rfl, rfl, rfl, rfl, rfl, rfl, rfl, rfl, rfl,
    fun w hw => ?_, rfl, rfl, rfl, rfl, rfl⟩
  · rw [reset_drops d hd]; exact ⟨rfl, rfl⟩
  · rw [mem_freshDrawers hw]; exact ⟨rfl, rfl, rfl⟩

theorem reset_cashConserved : State.reset.CashConserved :=
  ⟨rfl, ⟨List.nodup_nil, le_rfl, Nat.succ_pos _, fun _ he => absurd he List.not_mem_nil⟩,
    fun _ => ⟨rfl, rfl⟩, fun hn => absurd rfl hn, freshCsu_conserves _, freshCsu_conserves _⟩

theorem reset_workAttended : State.reset.WorkAttended :=
  ⟨List.Pairwise.nil, List.Pairwise.nil, fun _ hy => absurd hy List.not_mem_nil, fun _ => rfl, fun hn => absurd rfl hn⟩

theorem reset_workPlaced : State.reset.WorkPlaced := by
  refine ⟨List.Pairwise.nil, reset_addresses, rfl, List.nodup_nil, fun _ hy => absurd hy List.not_mem_nil,
    fun _ ha => absurd ha List.not_mem_nil, fun x hx => ?_, fun d hd => ?_⟩
  · rw [mem_freshSlots hx]
    exact ⟨fun _ => rfl, fun hq => by simp [freeSlot] at hq, fun hs => by simp [freeSlot] at hs⟩
  · rw [reset_drops d hd]
    exact ⟨Nat.zero_le _, fun h => by simp [Drop.finals, freshDrop] at h⟩

theorem reset_cashCovered : State.reset.CashCovered := by
  refine ⟨rfl, fun w hw => ?_, fun _ hx => absurd hx List.not_mem_nil, fun _ _ hy => absurd hy List.not_mem_nil,
    fun _ hy => absurd hy List.not_mem_nil, fun w hw hheld => ?_⟩
  · rw [mem_freshDrawers hw]; exact ⟨le_rfl, le_rfl⟩
  · rw [mem_freshDrawers hw] at hheld; simp [freshDrawer] at hheld

/-- Settles O60: the reset state holds no record, no account, no teller and no work item, its drops are ABSENT, its
drawers at 0 and its slots FREE. -/
theorem resetIsSafe : Obligations.ResetIsSafe := by
  unfold Obligations.ResetIsSafe
  refine ⟨⟨rfl, Nat.zero_le _⟩, reset_cashConserved, ⟨reset_addresses, fun d hd => ?_⟩,
    ⟨rfl, by decide, fun _ => .inl rfl⟩, fun d hd => ?_, ⟨List.Pairwise.nil, rfl, rfl, fun _ => rfl⟩, reset_workAttended,
    reset_workPlaced, reset_cashCovered,
    ⟨List.Pairwise.nil, fun _ he => absurd he List.not_mem_nil, Nat.zero_le _⟩,
    ⟨List.Pairwise.nil, fun _ he => absurd he List.not_mem_nil, fun _ _ hr => absurd hr List.not_mem_nil⟩⟩
  · rw [reset_drops d hd]; exact freshDrop_agrees _ _ _
  · rw [reset_drops d hd]; exact Nat.zero_le _

end Sys2Proof.Machine
end

section
/-! PROOFS. The roundings of R66 with the SELL reduction, and the formats of R185 and R186. -/

namespace Sys2Proof.Machine

/-! ### Roundings (R64 to R66) -/

theorem roundDown_spec (p : Nat) {unit : Nat} (hu : 0 < unit) :
    unit ∣ roundDown p unit ∧ 1000000 * roundDown p unit ≤ p ∧ p < 1000000 * (roundDown p unit + unit) := by
  have hdiv := Nat.div_add_mod p (1000000 * unit)
  have hmod := Nat.mod_lt p (show 0 < 1000000 * unit by omega)
  have heq : 1000000 * unit * (p / (1000000 * unit)) = 1000000 * roundDown p unit := by unfold roundDown; ring
  refine ⟨Nat.dvd_mul_left _ _, ?_, ?_⟩ <;> omega

theorem roundUp_spec (p : Nat) {unit : Nat} (hu : 0 < unit) :
    unit ∣ roundUp p unit ∧ p ≤ 1000000 * roundUp p unit ∧ 1000000 * roundUp p unit < p + 1000000 * unit := by
  have hdiv := Nat.div_add_mod (p + (1000000 * unit - 1)) (1000000 * unit)
  have hmod := Nat.mod_lt (p + (1000000 * unit - 1)) (show 0 < 1000000 * unit by omega)
  have heq : 1000000 * unit * ((p + (1000000 * unit - 1)) / (1000000 * unit)) = 1000000 * roundUp p unit := by
    unfold roundUp; ring
  refine ⟨Nat.dvd_mul_left _ _, ?_, ?_⟩ <;> omega

theorem roundNearest_spec (p : Nat) :
    2 * p < 2000000 * roundNearest p + 1000000 ∧ 2000000 * roundNearest p ≤ 2 * p + 1000000 := by
  unfold roundNearest
  omega

theorem readAmount_value {n m : Nat} (h : readAmount (.value n) = some m) : m = n := by
  simp only [readAmount] at h
  split_ifs at h
  exact (Option.some.inj h).symm

/-- Stages 2 and 3 of a SELL that succeed give the foreign leg, and each home leg rounded by its kind (R65, R66). -/
theorem convert_sell {d : Definition} {r : RateLoad} {k : LegKind} {keyed reduced : Nat} {legs : List Leg} {x : Exchange}
    (h : convert d r .sell k keyed reduced = .legs legs (some x)) :
    x = ⟨.sell, r.sell, keyed, reduced, keyed - reduced⟩ ∧
      legs = ⟨.foreign, k, reduced⟩ :: (homeKinds d).map fun y =>
        (⟨.home, y, roundHome y (reduced * r.sell) r.unitHome⟩ : Leg) := by
  unfold convert at h
  dsimp only at h
  split at h
  · cases h
  · cases h; exact ⟨rfl, rfl⟩

/-- Settles O54: each rounding by division with remainder; the SELL reduction by the two stages of its arithmetic. -/
theorem roundingIsExact : Obligations.RoundingIsExact := by
  unfold Obligations.RoundingIsExact
  refine ⟨fun p unit hu => ⟨roundDown_spec p hu, roundUp_spec p hu, roundNearest_spec p⟩,
    fun d f r n legs x hmode hf hu h => ?_⟩
  simp only [amounts, hmode, sellAmounts, hf] at h
  split at h
  · cases h
  · next m hm =>
    obtain rfl := readAmount_value hm
    split at h
    · cases h
    · next hred =>
      obtain ⟨rfl, rfl⟩ := convert_sell h
      have hdiv := Nat.div_add_mod m r.rates.unitForeign
      have hmod := Nat.mod_lt m hu
      rw [Nat.mul_comm] at hdiv
      refine ⟨rfl, rfl, rfl, Nat.dvd_mul_left _ _, Nat.pos_of_ne_zero hred, ?_, ?_, rfl, rfl⟩ <;> dsimp only <;> omega

/-! ### The assembly of a message (R6) -/

/-- The segments after the first are put together with those already open. -/
theorem assembleAll_open (x : List Byte) (rest : List (List Byte)) (d : Drop) (hd : d.assembly ≠ [])
    (hlen : d.assembly.length + (x :: rest).length ≤ 15) (hne : ∀ y ∈ x :: rest, y ≠ []) :
    assembleAll d (x :: rest) false =
      ⟨false, { d with assembly := [] }, some (d.assembly ++ x :: rest).flatten⟩ := by
  induction rest generalizing d x with
  | nil =>
    simp only [List.length_cons, List.length_nil] at hlen
    simp [assembleAll, Drop.assemble, hd, show ¬ 15 ≤ d.assembly.length by omega]
  | cons y rest ih =>
    simp only [List.length_cons] at hlen
    have hx : x ≠ [] := hne x List.mem_cons_self
    have hstep : d.assemble false false x = ⟨false, { d with assembly := d.assembly ++ [x] }, none⟩ := by
      simp [Drop.assemble, hd, hx, show ¬ 15 ≤ d.assembly.length by omega]
    simp only [assembleAll, hstep]
    rw [ih y { d with assembly := d.assembly ++ [x] } (by simp)
      (by simp only [List.length_append, List.length_cons, List.length_nil]; omega)
      fun z hz => hne z (List.mem_cons_of_mem _ hz)]
    simp

theorem assembleAll_whole {d : Drop} {segments : List (List Byte)} (hs : segments ≠ []) (hlen : segments.length ≤ 15)
    (hne : ∀ x ∈ segments, x ≠ []) (hd : d.assembly = []) :
    assembleAll d segments true = ⟨false, { d with outOfStep := false, assembly := [] }, some segments.flatten⟩ := by
  match segments with
  | [] => exact absurd rfl hs
  | [x] => simp [assembleAll, Drop.assemble, hd]
  | x :: y :: rest =>
    have hstep : d.assemble true false x = ⟨false, { d with outOfStep := false, assembly := [x] }, none⟩ := by
      simp [Drop.assemble, hd]
    simp only [List.length_cons] at hlen
    simp only [assembleAll, hstep]
    rw [assembleAll_open y rest { d with outOfStep := false, assembly := [x] } (by simp)
      (by simp only [List.length_cons, List.length_nil]; omega) fun z hz => hne z (List.mem_cons_of_mem _ hz)]
    simp

/-! ### Halves and cycles (R185, R186) -/

theorem byteSum_append (l m : List Byte) : byteSum (l ++ m) = byteSum l + byteSum m := by
  induction l with
  | nil => simp [byteSum]
  | cons b l ih => simp only [byteSum, List.cons_append, List.foldr_cons] at ih ⊢; rw [ih, BitVec.add_assoc]

theorem byteSum_checkedHalf (l : List Byte) : byteSum (checkedHalf l) = 0 := by
  rw [checkedHalf, byteSum_append]
  simp [byteSum, segmentCheck]

theorem checkedHalf_length (l : List Byte) : (checkedHalf l).length = l.length + 1 := by simp [checkedHalf]

theorem downHalfBytes_length (h : DownHalf) : (downHalfBytes h).length = 20 := by
  simp only [downHalfBytes, checkedHalf_length, List.length_append, List.length_cons, List.length_take, List.length_map,
    List.length_range]
  omega

theorem byteSum_downHalfBytes (h : DownHalf) : byteSum (downHalfBytes h) = 0 := byteSum_checkedHalf _

theorem byteAt_downHalfBytes (h : DownHalf) : byteAt (downHalfBytes h) 0 = downFlags h := rfl

theorem downFlags_bits (h : DownHalf) :
    (List.range 5).map (downFlags h).getLsbD = [h.first, h.last, h.release, h.alert, h.probe] := by
  obtain ⟨_, first, last, release, alert, probe, _⟩ := h
  simp only [downFlags]
  revert first last release alert probe
  decide

theorem sentUpBytes_length (n : Nat) : (sentUpBytes n).length = 20 := by
  simp [sentUpBytes, checkedHalf_length]

theorem upFilled_sentUpBytes (n : Nat) : upFilled (sentUpBytes n) = false := by
  have hbyte : byteAt (sentUpBytes n) 0 = Config.upByte n 0 &&& ~~~ 4#8 := rfl
  rw [upFilled, hbyte, BitVec.getLsbD_and]
  simp

theorem slotBytes_length (n : Nat) (o : SlotOut) : (slotBytes n o).length = 20 := by
  cases o with
  | marker => simp [slotBytes]
  | filler => simp [slotBytes, fillerBytes, checkedHalf_length]
  | offer => exact downHalfBytes_length _
  | half h => exact downHalfBytes_length h

theorem byteSum_slotBytes (n : Nat) {o : SlotOut} (ho : o ≠ .marker) : byteSum (slotBytes n o) = 0 := by
  cases o with
  | marker => exact absurd rfl ho
  | filler => exact byteSum_checkedHalf _
  | offer => exact byteSum_downHalfBytes _
  | half h => exact byteSum_downHalfBytes h

/-- An offer carries its slot number, and no indication and no probe (R16). -/
theorem offer_flags {n : Nat} (hn : n ≤ 31) : byteAt (slotBytes n .offer) 1 = BitVec.ofNat 8 n ∧
    ((List.range 5).map (byteAt (slotBytes n .offer) 0).getLsbD).drop 2 = [false, false, false] := by
  refine ⟨?_, ?_⟩
  · have hbyte : byteAt (slotBytes n .offer) 1 = BitVec.ofNat 8 (n % 32) := rfl
    rw [hbyte, Nat.mod_eq_of_lt (by omega)]
  · rw [slotBytes, byteAt_downHalfBytes, downFlags_bits]
    rfl

theorem cycleBytes_length (out : List SlotOut) : (cycleBytes out).length = 20 * out.length := by
  have hall : ∀ x ∈ (out.mapIdx slotBytes).map List.length, x = 20 := by
    intro x hx
    obtain ⟨l, hl, rfl⟩ := List.mem_map.1 hx
    obtain ⟨i, hi, rfl⟩ := List.mem_mapIdx.1 hl
    exact slotBytes_length _ _
  rw [cycleBytes, List.length_flatten, List.eq_replicate_of_mem hall]
  simp [Nat.mul_comm]

/-! ### Numbers in bytes (R131, R186) -/

theorem bytesNat_cons (b : Byte) (l : List Byte) : bytesNat (b :: l) = b.toNat * 256 ^ l.length + bytesNat l := by
  have hfold : ∀ (l : List Byte) (n : Nat),
      l.foldl (fun n b => 256 * n + b.toNat) n = n * 256 ^ l.length + bytesNat l := fun l => by
    induction l with
    | nil => intro n; simp [bytesNat]
    | cons c l ih =>
      intro n
      simp only [bytesNat, List.foldl_cons, List.length_cons] at ih ⊢
      rw [ih, ih (256 * 0 + c.toNat)]
      ring
  rw [bytesNat, List.foldl_cons, hfold]
  simp

theorem natBytes_length (w n : Nat) : (natBytes w n).length = w := by
  induction w with
  | zero => rfl
  | succ w ih => simp [natBytes, ih]

theorem bytesNat_natBytes (w n : Nat) : bytesNat (natBytes w n) = n % 256 ^ w := by
  induction w with
  | zero => simp [natBytes, bytesNat, Nat.mod_one]
  | succ w ih =>
    have hbyte : 2 ^ 8 = 256 := rfl
    rw [natBytes, bytesNat_cons, ih, natBytes_length, BitVec.toNat_ofNat, hbyte, Nat.pow_succ, Nat.mod_mul,
      Nat.mul_comm, Nat.add_comm]

theorem twosBytes_read {n : Int} (hlo : -999999999999 ≤ n) (hhi : n ≤ 999999999999) :
    (twosBytes 6 n).length = 6 ∧ twosValue (twosBytes 6 n) = n := by
  refine ⟨natBytes_length _ _, ?_⟩
  have hlen : (twosBytes 6 n).length = 6 := natBytes_length _ _
  have hval : bytesNat (twosBytes 6 n) = (n % (256 ^ 6 : Nat)).toNat := by
    rw [twosBytes, bytesNat_natBytes]
    omega
  rw [twosValue, hlen, hval]
  split <;> omega

/-! ### Frames (R186) -/

theorem frameBodyBytes_length (b : FrameBody) : (frameBodyBytes b).length ≤ 4097 := by
  unfold frameBodyBytes
  split <;> exact List.length_take_le _ _

theorem frameContent_length (f : OutFrame) : (frameContent f).length = 8 + (frameBodyBytes f.body).length := by
  simp only [frameContent, List.length_cons, List.length_append, natBytes_length]
  omega

/-- Bytes 6 and 7 of a frame hold the length of its body. -/
theorem frameContent_header (f : OutFrame) :
    ((frameContent f).drop 6).take 2 = natBytes 2 (frameBodyBytes f.body).length := by
  simp [frameContent, natBytes]

/-- A run of one-bits over a zero-bit stands on one side of it. -/
theorem ones_infix_split {n : Nat} {l m : List Bool} (h : List.replicate n true <:+: l ++ false :: m) :
    List.replicate n true <:+: l ∨ List.replicate n true <:+: m := by
  obtain ⟨front, back, heq⟩ := h
  have hzero : (front ++ List.replicate n true ++ back)[l.length]? = (l ++ false :: m)[l.length]? := by rw [heq]
  rw [List.getElem?_append_right (l₁ := l) (le_refl l.length), Nat.sub_self] at hzero
  by_cases hbefore : front.length + n ≤ l.length
  · left
    have hpre : front ++ List.replicate n true <+: l :=
      List.prefix_of_prefix_length_le ⟨back, heq⟩ ⟨false :: m, rfl⟩ (by simpa using hbefore)
    exact (List.suffix_append _ _).isInfix.trans hpre.isInfix
  · right
    by_cases hafter : l.length < front.length
    · have hsuf : List.replicate n true ++ back <:+ m := by
        refine List.suffix_of_suffix_length_le (l₃ := l ++ false :: m) ⟨front, ?_⟩ ⟨l ++ [false], by simp⟩ ?_
        · rw [← List.append_assoc]; exact heq
        have hlen := congrArg List.length heq
        simp only [List.length_append, List.length_cons, List.length_replicate] at hlen ⊢
        omega
      exact (List.prefix_append _ _).isInfix.trans hsuf.isInfix
    · exfalso
      rw [List.getElem?_append_left (by simp; omega), List.getElem?_append_right (by omega)] at hzero
      rw [List.getElem?_replicate_of_lt (by omega)] at hzero
      simp at hzero

theorem replicate_not_infix {n k : Nat} {l : List Bool} (hl : l.length ≤ k) (hk : k < n) :
    ¬ List.replicate n true <:+: l := fun h => by
  have hlen := h.length_le
  rw [List.length_replicate] at hlen
  omega

/-- Behind a run of up to four one-bits zero-bit insertion never makes six in a row. -/
theorem stuffBits_no_six (bits : List Bool) (ones : Nat) (ho : ones ≤ 4) :
    ¬ List.replicate 6 true <:+: List.replicate ones true ++ stuffBits ones bits := by
  induction bits generalizing ones with
  | nil => exact replicate_not_infix (k := 4) (by simpa [stuffBits] using ho) (by omega)
  | cons b bits ih =>
    have hzero : ¬ List.replicate 6 true <:+: stuffBits 0 bits := by simpa using ih 0 (by omega)
    cases b with
    | false =>
      intro h
      rcases ones_infix_split h with hl | hr
      · exact replicate_not_infix (k := 4) (by simpa using ho) (by omega) hl
      · exact hzero hr
    | true =>
      by_cases hfour : ones = 4
      · subst hfour
        intro h
        rcases ones_infix_split (n := 6) (l := List.replicate 5 true) (by simpa [stuffBits] using h) with hl | hr
        · exact replicate_not_infix (k := 5) List.length_replicate.le (show 5 < 6 by decide) hl
        · exact hzero hr
      · have hnext := ih (ones + 1) (by omega)
        rw [List.replicate_succ' (n := ones), List.append_assoc] at hnext
        simpa only [stuffBits, hfour, if_false, List.singleton_append] using hnext

theorem unstuffBits_stuffBits (bits : List Bool) (ones : Nat) (ho : ones ≤ 4) :
    unstuffBits ones false (stuffBits ones bits) = bits := by
  induction bits generalizing ones with
  | nil => rfl
  | cons b bits ih =>
    cases b with
    | false => simp [stuffBits, unstuffBits, ih 0 (by omega)]
    | true =>
      by_cases hfour : ones = 4
      · subst hfour; simp [stuffBits, unstuffBits, ih 0 (by omega)]
      · have hrun : (ones == 4) = false := beq_false_of_ne hfour
        simp [stuffBits, unstuffBits, hfour, hrun, ih (ones + 1) (by omega)]

/-- Settles O55, format by format. -/
theorem loopAndTrunkFormats : Obligations.LoopAndTrunkFormats := by
  unfold Obligations.LoopAndTrunkFormats
  refine ⟨fun d segments hs hlen hne hd => assembleAll_whole hs hlen hne hd, fun h => ?_, fun out hlen => ?_, fun n => ?_,
    fun n o => ?_, fun n hn => ?_, fun n hlo hhi => twosBytes_read hlo hhi, fun n x y dx dy counts forced => ?_,
    fun step n source target amount c => ⟨_, rfl⟩, fun f => ?_, fun bits => ?_⟩
  · exact ⟨downHalfBytes_length h, byteSum_downHalfBytes h, downFlags_bits h⟩
  · rw [cycleBytes_length, hlen]
  · exact ⟨sentUpBytes_length n, byteSum_checkedHalf _, upFilled_sentUpBytes n, fun m => by
      rw [cleanHalf, upFilled_sentUpBytes]; rfl⟩
  · refine ⟨slotBytes_length n o, fun ho => byteSum_slotBytes n ho, fun hn ho => ?_⟩
    subst ho; exact offer_flags hn
  · exact ⟨natBytes_length _ _, by rw [bytesNat_natBytes]; omega⟩
  · refine ⟨Config.ownField (.drawer n), ownOptional .counts (counts.map .counts) ++ Config.ownField (.forced forced), ?_⟩
    simp [ownFields, countedBytes, fieldBytes]
  · have hbody := frameBodyBytes_length f.body
    rw [frameContent_header, bytesNat_natBytes, frameContent_length]
    omega
  · exact ⟨unstuffBits_stuffBits bits 0 (by omega), by simpa using stuffBits_no_six bits 0 (by omega)⟩

end Sys2Proof.Machine
end

section
/-! PROOFS. The composition of a cycle (R1 to R4): what each slot carries, and how a drop's messages go out segment by
segment. -/

namespace Sys2Proof.Machine

variable {s t u : State} {a n : Nat} {d e : Drop}

/-! ### What composing a cycle changes -/

/-- A drop some of whose messages have been begun or carried on: its buffers and its status mark alone have changed. -/
def Drop.SentFrom (d e : Drop) : Prop :=
  e = { d with begun := e.begun, held := e.held, outbound := e.outbound, statusMark := e.statusMark }

theorem Drop.SentFrom.refl (d : Drop) : d.SentFrom d := rfl

theorem Drop.SentFrom.trans {c : Drop} (h : c.SentFrom d) (g : d.SentFrom e) : c.SentFrom e := by
  unfold Drop.SentFrom at *
  rw [h] at g
  exact g

theorem Drop.SentFrom.canReceive (h : d.SentFrom e) : e.canReceive = d.canReceive := by rw [h]; rfl

/-- Only the buffers and status marks of drops change between two states. -/
structure State.Sending (s t : State) : Prop where
  loop : t = { s with lpc := { s.lpc with drops := t.lpc.drops } }
  addrs : t.lpc.drops.map Drop.addr = s.lpc.drops.map Drop.addr
  drop : ∀ a, ∃ f : Drop → Drop, t.dropAt a = (s.dropAt a).map f ∧ ∀ d : Drop, d.SentFrom (f d)

theorem State.Sending.refl (s : State) : s.Sending s := ⟨rfl, rfl, fun _ => ⟨id, by simp, Drop.SentFrom.refl⟩⟩

theorem State.Sending.trans (h : s.Sending t) (g : t.Sending u) : s.Sending u := by
  refine ⟨?_, g.addrs.trans h.addrs, fun a => ?_⟩
  · have hl := h.loop; have gl := g.loop
    rw [hl] at gl
    exact gl
  · obtain ⟨f, hf, hs⟩ := h.drop a
    obtain ⟨f', hf', hs'⟩ := g.drop a
    exact ⟨f' ∘ f, by rw [hf', hf, Option.map_map], fun d => (hs d).trans (hs' _)⟩

theorem State.Sending.dropAt (h : s.Sending t) (hd : s.dropAt a = some d) : ∃ e, t.dropAt a = some e ∧ d.SentFrom e := by
  obtain ⟨f, hf, hs⟩ := h.drop a
  exact ⟨f d, by rw [hf, hd]; rfl, hs d⟩

theorem State.Sending.dropAt_none (h : s.Sending t) (hd : s.dropAt a = none) : t.dropAt a = none := by
  obtain ⟨f, hf, -⟩ := h.drop a
  rw [hf, hd]; rfl

theorem State.Sending.slotMap (h : s.Sending t) : t.lpc.slotMap = s.lpc.slotMap := by rw [h.loop]
theorem State.Sending.loopState (h : s.Sending t) : t.lpc.loop = s.lpc.loop := by rw [h.loop]
theorem State.Sending.rqu (h : s.Sending t) : t.rqu = s.rqu := by rw [h.loop]

theorem nextMessage_sentFrom {m : DownMessage} (h : s.nextMessage d = some (m, e)) : d.SentFrom e := by
  unfold State.nextMessage at h
  split at h
  · cases h; rfl
  · cases h; rfl
  · cases h; rfl
  · split at h
    · cases h; rfl
    · cases h

theorem withMessage_sentFrom (s : State) (d : Drop) : d.SentFrom (s.withMessage d) := by
  unfold State.withMessage
  split
  · rfl
  · split
    · next m e he =>
      have hs := nextMessage_sentFrom he
      unfold Drop.SentFrom at hs ⊢
      rw [hs]
    · rfl

theorem sentFrom_begun (h : d.SentFrom e) (l : List Begun) : d.SentFrom { e with begun := l } := by
  unfold Drop.SentFrom at h ⊢
  rw [h]

/-- The drop record after its next segment has gone out (R4). -/
def State.afterSegment (s : State) (d : Drop) : Drop :=
  { s.withMessage d with begun := advanceBegun (s.withMessage d).begun }

theorem afterSegment_sentFrom (s : State) (d : Drop) : d.SentFrom (s.afterSegment d) :=
  sentFrom_begun (withMessage_sentFrom s d) _

theorem sendSegment_eq (s : State) (d : Drop) (n : Nat) : s.sendSegment d n =
    (.half (s.messageHalf (s.withMessage d) n), s.modifyDrop d.addr fun _ => s.afterSegment d) := rfl

theorem Drop.SentFrom.addr (h : d.SentFrom e) : e.addr = d.addr := by rw [h]
theorem Drop.SentFrom.state (h : d.SentFrom e) : e.state = d.state := by rw [h]

theorem dropAt_sendSegment (hd : s.dropAt a = some d) (b : Nat) :
    (s.sendSegment d n).2.dropAt b = if b = a then some (s.afterSegment d) else s.dropAt b := by
  have had := dropAt_addr hd
  rw [sendSegment_eq, dropAt_modifyDrop fun _ _ => (afterSegment_sentFrom s d).addr, had]
  by_cases hb : b = a
  · simp [hb, hd]
  · simp [hb]

theorem sendSegment_sending (hd : s.dropAt a = some d) : s.Sending (s.sendSegment d n).2 := by
  refine ⟨rfl, modifyKey_map_key fun _ hx => (afterSegment_sentFrom s d).addr, fun b => ?_⟩
  rw [dropAt_sendSegment hd]
  by_cases hb : b = a
  · have hs := afterSegment_sentFrom s d
    obtain ⟨e, he⟩ : ∃ e, e = s.afterSegment d := ⟨_, rfl⟩
    refine ⟨fun x => { x with begun := e.begun, held := e.held, outbound := e.outbound, statusMark := e.statusMark },
      ?_, fun _ => rfl⟩
    rw [← he] at hs ⊢
    simp only [hb, if_true, hd, Option.map_some]
    exact congrArg some hs
  · exact ⟨id, by simp [hb], Drop.SentFrom.refl⟩

/-! ### What a slot carries (R1, R3) -/

theorem segmentBytes_length (m : DownMessage) (i : Nat) : (segmentBytes m i).length ≤ 16 := List.length_take_le _ _

/-- The half of a usable slot but for its message flags and bytes. -/
theorem messageHalf_fields (s : State) (d : Drop) (n : Nat) :
    (s.messageHalf d n).slot = n ∧ (s.messageHalf d n).release = d.release ∧
      (s.messageHalf d n).alert = s.alertDriven d ∧ (s.messageHalf d n).probe = false ∧
      (s.messageHalf d n).bytes.length ≤ 16 := by
  unfold State.messageHalf
  split
  · exact ⟨rfl, rfl, rfl, rfl, segmentBytes_length _ _⟩
  · exact ⟨rfl, rfl, rfl, rfl, Nat.zero_le _⟩

theorem alertDriven_sending (h : s.Sending t) (hd : d.SentFrom e) : t.alertDriven e = s.alertDriven d := by
  rw [hd]
  simp only [State.alertDriven, State.holdsOn, txnAt_congr h.rqu]

/-- What the composition gives a slot after some others, and that it changes buffers alone. -/
theorem composeSlot_carries (h : s.Sending t) (n : Nat) :
    s.SlotCarries n (t.composeSlot n).1 ∧ t.Sending (t.composeSlot n).2 := by
  unfold State.composeSlot State.SlotCarries
  rw [h.slotMap]
  cases ho : slotOwner s.lpc.slotMap n with
  | none => exact ⟨rfl, State.Sending.refl t⟩
  | some a =>
    simp only [Option.bind_some]
    cases hd : s.dropAt a with
    | none => rw [h.dropAt_none hd]; exact ⟨rfl, State.Sending.refl t⟩
    | some d =>
      obtain ⟨e, he, hs⟩ := h.dropAt hd
      have halert := alertDriven_sending h hs
      have hrel : e.release = d.release := by rw [hs]
      have hempty : ∀ p, (t.emptyHalf e n p).slot = n ∧ (t.emptyHalf e n p).release = d.release ∧
          (t.emptyHalf e n p).alert = s.alertDriven d ∧ (t.emptyHalf e n p).bytes.length ≤ 16 := fun p =>
        ⟨rfl, hrel, halert, Nat.zero_le _⟩
      have hsend : d.state ≠ .absent → d.state ≠ .fenced → s.lpc.loop = .running →
          (d.state = .degraded → firstSlot s.lpc.slotMap d.addr = some n) →
          (∃ o, SlotOut.half (t.messageHalf (t.withMessage e) n) = .half o ∧ o.slot = n ∧ o.release = d.release ∧
            o.alert = s.alertDriven d ∧ o.bytes.length ≤ 16 ∧
            (o.probe = true ↔ d.state = .fenced ∧ firstSlot s.lpc.slotMap d.addr = some n ∧ s.lpc.loop = .running) ∧
            (d.state = .fenced ∨ s.lpc.loop = .loopFault ∨
              (d.state = .degraded ∧ firstSlot s.lpc.slotMap d.addr ≠ some n) →
              o.first = false ∧ o.last = false ∧ o.bytes = [])) := by
        intro _ hf hrun hdeg
        obtain ⟨hslot, hr, ha, hp, hb⟩ := messageHalf_fields t (t.withMessage e) n
        have hw := withMessage_sentFrom t e
        have hwr : (t.withMessage e).release = e.release := by rw [hw]
        refine ⟨_, rfl, hslot, hr.trans (hwr.trans hrel), ?_, hb, by simp [hp, hf], ?_⟩
        · rw [ha, alertDriven_sending (State.Sending.refl t) hw, halert]
        · rintro (hx | hx | ⟨hx, hn⟩)
          · exact absurd hx hf
          · rw [hrun] at hx; cases hx
          · exact absurd (hdeg hx) hn
      rw [he]
      simp only [State.ownedSlot, hs.state, h.slotMap, h.loopState, hs.addr]
      have hkeep := State.Sending.refl t
      cases hst : d.state with
      | absent => exact ⟨by simp, hkeep⟩
      | fenced =>
        simp only [reduceCtorEq, if_false]
        obtain ⟨h1, h2, h3, h4⟩ := hempty (firstSlot s.lpc.slotMap d.addr == some n && s.lpc.loop == .running)
        exact ⟨⟨_, rfl, h1, h2, h3, h4, by simp [State.emptyHalf], fun _ => ⟨rfl, rfl, rfl⟩⟩, hkeep⟩
      | degraded =>
        simp only [reduceCtorEq, if_false]
        split
        · next hu =>
          simp only [Bool.and_eq_true, beq_iff_eq] at hu
          have hcarried := hsend (by simp [hst]) (by simp [hst]) hu.2 fun _ => hu.1
          rw [hst] at hcarried
          exact ⟨by simpa only [reduceCtorEq, sendSegment_eq] using hcarried, sendSegment_sending he⟩
        · obtain ⟨h1, h2, h3, h4⟩ := hempty false
          exact ⟨⟨_, rfl, h1, h2, h3, h4, by simp [State.emptyHalf], fun _ => ⟨rfl, rfl, rfl⟩⟩, hkeep⟩
      | active =>
        simp only [reduceCtorEq, if_false]
        split
        · next hu =>
          have hcarried := hsend (by simp [hst]) (by simp [hst]) hu fun hx => by simp [hst] at hx
          rw [hst] at hcarried
          exact ⟨by simpa only [reduceCtorEq, sendSegment_eq] using hcarried, sendSegment_sending he⟩
        · obtain ⟨h1, h2, h3, h4⟩ := hempty false
          exact ⟨⟨_, rfl, h1, h2, h3, h4, by simp [State.emptyHalf], fun _ => ⟨rfl, rfl, rfl⟩⟩, hkeep⟩

theorem composeSlots_length (l : List Nat) (t : State) : (State.composeSlots l t).1.length = l.length := by
  induction l generalizing t with
  | nil => rfl
  | cons n l ih => simp [State.composeSlots, ih]

theorem composeSlots_carries (l : List Nat) (h : s.Sending t) :
    s.Sending (State.composeSlots l t).2 ∧ ∀ x ∈ l.zip (State.composeSlots l t).1, s.SlotCarries x.1 x.2 := by
  induction l generalizing t with
  | nil => exact ⟨h, fun _ hx => absurd hx (by simp)⟩
  | cons n l ih =>
    obtain ⟨hc, hs⟩ := composeSlot_carries h n
    obtain ⟨hrest, hall⟩ := ih (h.trans hs)
    refine ⟨hrest, fun x hx => ?_⟩
    simp only [State.composeSlots, List.zip_cons_cons, List.mem_cons] at hx
    rcases hx with rfl | hx
    · exact hc
    · exact hall x hx

/-- The slot of a number from 1 to 31 stands in the cycle's list next to it. -/
theorem slot_mem_zip {out : List SlotOut} (hlen : out.length = 31) (h1 : 1 ≤ n) (h31 : n ≤ 31) :
    (n, out.getD (n - 1) .filler) ∈ (List.range' 1 31).zip out := by
  rw [List.mem_iff_getElem?]
  refine ⟨n - 1, ?_⟩
  rw [List.getElem?_zip_eq_some]
  refine ⟨?_, ?_⟩
  · rw [List.getElem?_range' (by omega)]
    congr 1; omega
  · rw [List.getD_eq_getElem?_getD, List.getElem?_eq_getElem (by omega)]
    rfl

theorem slot_of_mem_zip {out : List SlotOut} {o : SlotOut} (h : (n, o) ∈ (List.range' 1 31).zip out) :
    out.getD (n - 1) .filler = o := by
  obtain ⟨i, hi⟩ := List.mem_iff_getElem?.1 h
  obtain ⟨h1, h2⟩ := List.getElem?_zip_eq_some.1 hi
  obtain ⟨hlt, hn⟩ := List.getElem?_eq_some_iff.1 h1
  rw [List.getElem_range'] at hn
  have hin : n - 1 = i := by omega
  rw [List.getD_eq_getElem?_getD, hin, h2]
  rfl

/-- The 31 slots of a cycle composed at `s`, and the state with the drops as composing leaves them. -/
theorem sendCycle_carries (s : State) : ∃ t out, s.Sending t ∧
    s.sendCycle = { t with lpc := { t.lpc with cycle := some (.marker :: out) } } ∧ out.length = 31 ∧
    ∀ n, 1 ≤ n → n ≤ 31 → s.SlotCarries n (out.getD (n - 1) .filler) := by
  obtain ⟨hs, hall⟩ := composeSlots_carries (List.range' 1 31) (State.Sending.refl s)
  have hlen := composeSlots_length (List.range' 1 31) s
  refine ⟨_, _, hs, ?_, hlen, fun n h1 h31 => hall _ (slot_mem_zip hlen h1 h31)⟩
  unfold State.sendCycle
  generalize State.composeSlots (List.range' 1 31) s = x
  rfl

theorem exec_cycleStart (hr : s.isRunning = true) (hc : s.lpc.cycle = none) :
    exec .cycleStart s = .next (if s.tablesChanged then s.adoptTables else s).sendCycle := by
  have h : exec .cycleStart s = .next (s.whileRunning State.cycleStart) := rfl
  rw [h, whileRunning_of hr]
  simp [State.cycleStart, hc]

/-! ### Segments still to be sent (R3, R4) -/

theorem segmentCount_pos (m : DownMessage) : 0 < segmentCount m := by
  simp only [segmentCount, messageBytes, List.length_cons]
  omega

theorem segmentsFrom_cons {m : DownMessage} {k : Nat} (h : k < segmentCount m) : segmentsFrom m k =
    (k == 0, k + 1 == segmentCount m, segmentBytes m k) :: segmentsFrom m (k + 1) := by
  have hsub : segmentCount m - k = segmentCount m - (k + 1) + 1 := by omega
  have hdef : ∀ j, segmentsFrom m j = (List.range' j (segmentCount m - j)).map fun i =>
      (decide (i = 0), decide (i + 1 = segmentCount m), segmentBytes m i) := fun _ => rfl
  rw [hdef, hdef, hsub, List.range'_succ, List.map_cons]
  simp [← Bool.beq_eq_decide_eq]

theorem segmentsFrom_done {m : DownMessage} {k : Nat} (h : segmentCount m ≤ k) : segmentsFrom m k = [] := by
  have hdef : segmentsFrom m k = (List.range' k (segmentCount m - k)).map fun i =>
      (decide (i = 0), decide (i + 1 = segmentCount m), segmentBytes m i) := rfl
  rw [hdef, Nat.sub_eq_zero_of_le h]
  rfl

/-- The segments left of the messages in transmission. -/
def begunDue (l : List Begun) : List (Bool × Bool × List Byte) := l.flatMap fun b => segmentsFrom b.msg b.sent

theorem begunDue_cons (b : Begun) (l : List Begun) : begunDue (b :: l) = segmentsFrom b.msg b.sent ++ begunDue l := rfl

theorem begunDue_append (l m : List Begun) : begunDue (l ++ m) = begunDue l ++ begunDue m := by simp [begunDue]

/-- With a message in transmission its next segment is the first one due, and the rest stays due. -/
theorem begunDue_unsent {l : List Begun} {b : Begun} (h : l.find? Begun.unsent = some b) : begunDue l =
    (b.sent == 0, b.sent + 1 == segmentCount b.msg, segmentBytes b.msg b.sent) :: begunDue (advanceBegun l) := by
  induction l with
  | nil => cases h
  | cons c l ih =>
    rw [List.find?_cons] at h
    cases hc : c.unsent with
    | true =>
      rw [hc] at h
      obtain rfl := Option.some.inj h
      have hlt : c.sent < segmentCount c.msg := by simpa [Begun.unsent] using hc
      simp [advanceBegun, hc, begunDue_cons, segmentsFrom_cons hlt, Begun.advance]
    | false =>
      rw [hc] at h
      have hge : segmentCount c.msg ≤ c.sent := by simpa [Begun.unsent] using hc
      simp [advanceBegun, hc, begunDue_cons, segmentsFrom_done hge, ih h]

theorem begunDue_sent {l : List Begun} (h : l.find? Begun.unsent = none) : begunDue l = [] ∧ advanceBegun l = l := by
  induction l with
  | nil => exact ⟨rfl, rfl⟩
  | cons c l ih =>
    rw [List.find?_cons] at h
    cases hc : c.unsent with
    | true => rw [hc] at h; cases h
    | false =>
      rw [hc] at h
      have hge : segmentCount c.msg ≤ c.sent := by simpa [Begun.unsent] using hc
      obtain ⟨h1, h2⟩ := ih h
      simp [advanceBegun, hc, begunDue_cons, segmentsFrom_done hge, h1, h2]

theorem segmentsDue_eq (s : State) (d : Drop) :
    s.segmentsDue d = begunDue d.begun ++ (s.toBegin d).flatMap fun m => segmentsFrom m 0 := rfl

/-- The first final reply leaves the outbound queue in front of the other final replies. -/
theorem filter_erase_final {l : List DownMessage} {m : DownMessage} (h : l.find? isFinal = some m) :
    l.filter isFinal = m :: (l.erase m).filter isFinal ∧
      (l.filter fun x => !isFinal x) = (l.erase m).filter fun x => !isFinal x := by
  have hm : isFinal m = true := List.find?_some h
  induction l with
  | nil => cases h
  | cons c l ih =>
    rw [List.find?_cons] at h
    cases hc : isFinal c with
    | true =>
      rw [hc] at h
      obtain rfl := Option.some.inj h
      simp [hc]
    | false =>
      rw [hc] at h
      have hne : c ≠ m := fun he => by rw [he, hm] at hc; cases hc
      obtain ⟨h1, h2⟩ := ih h
      simp [hne, hc, h1, h2]

theorem statusLine_sentFrom (s : State) (h : d.SentFrom e) : s.statusLine e = s.statusLine d := by rw [h]; rfl

/-- The message begun next is the first of those to begin, and the others stay. -/
theorem toBegin_nextMessage {m : DownMessage} (h : s.nextMessage d = some (m, e)) : s.toBegin d = m :: s.toBegin e := by
  have hto : s.toBegin e = e.held.toList ++ e.outbound.filter isFinal ++ (e.outbound.filter fun m => !isFinal m) ++
      if e.statusMark = true ∧ e.kind = .teller then [.status (s.statusLine d)] else [] := by
    rw [State.toBegin, statusLine_sentFrom s (nextMessage_sentFrom h)]
  rw [hto, State.toBegin]
  unfold State.nextMessage at h
  split at h
  · next hheld => cases h; simp [hheld]
  · next hheld hfind =>
    cases h
    obtain ⟨h1, h2⟩ := filter_erase_final hfind
    simp [hheld, h1, h2]
  · next rest hheld hnone hout =>
    cases h
    have hfinal := List.find?_eq_none.1 hnone
    rw [hout] at hfinal
    have hm : isFinal m = false := by simpa using hfinal m List.mem_cons_self
    have hrest : rest.filter isFinal = [] := List.filter_eq_nil_iff.2 fun x hx => hfinal x (List.mem_cons_of_mem _ hx)
    simp [hheld, hout, hm, hrest]
  · next hheld hnone hout =>
    split at h
    · next hmark => cases h; simp [hheld, hout, hmark]
    · cases h

theorem toBegin_none (h : s.nextMessage d = none) : s.toBegin d = [] := by
  unfold State.nextMessage at h
  split at h
  · cases h
  · cases h
  · cases h
  · next hheld hnone hout =>
    split at h
    · cases h
    · next hmark => simpa [State.toBegin, hheld, hout] using hmark

/-- A message begun is due as it was before. -/
theorem segmentsDue_withMessage (s : State) (d : Drop) : s.segmentsDue (s.withMessage d) = s.segmentsDue d := by
  unfold State.withMessage
  split
  · rfl
  · split
    · next m e he =>
      have hb : e.begun = d.begun := by
        unfold State.nextMessage at he
        split at he
        · cases he; rfl
        · cases he; rfl
        · cases he; rfl
        · split at he <;> cases he; rfl
      have hto : s.toBegin { e with begun := e.begun ++ [⟨m, 0, false⟩] } = s.toBegin e := rfl
      rw [segmentsDue_eq, segmentsDue_eq, toBegin_nextMessage he, hto, begunDue_append, hb]
      simp [begunDue]
    · rfl

/-- A usable slot takes the first segment due, or is empty, and the others stay due (R4). -/
theorem sendSegment_due (s : State) (d : Drop) (n : Nat) :
    s.segmentsDue (s.afterSegment d) = (s.segmentsDue d).drop 1 ∧
      ((s.messageHalf (s.withMessage d) n).first, (s.messageHalf (s.withMessage d) n).last,
        (s.messageHalf (s.withMessage d) n).bytes) = (s.segmentsDue d).getD 0 (false, false, []) := by
  have hto : s.toBegin (s.afterSegment d) = s.toBegin (s.withMessage d) := rfl
  have hbegun : (s.afterSegment d).begun = advanceBegun (s.withMessage d).begun := rfl
  rw [← segmentsDue_withMessage s d]
  cases hfind : (s.withMessage d).begun.find? Begun.unsent with
  | some b =>
    rw [segmentsDue_eq, segmentsDue_eq, hto, hbegun, begunDue_unsent hfind]
    simp [State.messageHalf, hfind]
  | none =>
    obtain ⟨hdue, hadv⟩ := begunDue_sent hfind
    have hnothing : s.toBegin (s.withMessage d) = [] := by
      have hnone := List.find?_eq_none.1 hfind
      unfold State.withMessage at hnone ⊢
      by_cases hany : d.begun.any Begun.unsent = true
      · rw [if_pos hany] at hnone
        obtain ⟨b, hb, hu⟩ := List.any_eq_true.1 hany
        exact absurd hu (hnone b hb)
      · rw [if_neg hany] at hnone ⊢
        cases hnext : s.nextMessage d with
        | none => exact toBegin_none hnext
        | some x =>
          rw [hnext] at hnone
          have hu := hnone ⟨x.1, 0, false⟩ (by simp)
          simp [Begun.unsent, segmentCount_pos] at hu
    rw [segmentsDue_eq, segmentsDue_eq, hto, hbegun, hadv, hdue, hnothing]
    simp [State.messageHalf, hfind, State.emptyHalf]

/-! ### The slots of one drop (R3) -/

/-- A slot in which a drop takes a message: any of its slots, its first one alone while it is DEGRADED. -/
def Drop.uses (d : Drop) (m : List (Option Nat)) (n : Nat) : Bool :=
  slotOwner m n == some d.addr && (d.state != .degraded || firstSlot m d.addr == some n)

/-- What is due to a drop does not depend on the buffers of the others. -/
theorem segmentsDue_sending (h : s.Sending t) (d : Drop) : t.segmentsDue d = s.segmentsDue d := by
  have hline : t.statusLine d = s.statusLine d := by rw [h.loop]; rfl
  simp only [State.segmentsDue, State.toBegin, hline]

theorem composeSlot_other (ho : slotOwner s.lpc.slotMap n ≠ some a) (hd : s.dropAt a = some d) :
    (s.composeSlot n).2.dropAt a = some d := by
  unfold State.composeSlot
  split
  · next c hc =>
    obtain ⟨b, hb, hbd⟩ := Option.bind_eq_some_iff.1 hc
    have hne : a ≠ b := fun he => ho (he ▸ hb)
    have hsend : (s.sendSegment c n).2.dropAt a = some d := by rw [dropAt_sendSegment hbd, if_neg hne, hd]
    unfold State.ownedSlot
    dsimp only
    split
    · exact hd
    · exact hd
    · split
      · exact hsend
      · exact hd
    · split
      · exact hsend
      · exact hd
  · exact hd

/-- In RUNNING a slot that a drop uses takes its next segment; any other slot leaves the drop alone. -/
theorem composeSlot_uses (hrun : s.lpc.loop = .running) (hd : s.dropAt a = some d) (hc : d.canReceive = true) :
    if d.uses s.lpc.slotMap n = true then s.composeSlot n = s.sendSegment d n
    else (s.composeSlot n).2.dropAt a = some d := by
  have had := dropAt_addr hd
  by_cases ho : slotOwner s.lpc.slotMap n = some a
  · have hcompose : s.composeSlot n = s.ownedSlot d n := by simp [State.composeSlot, ho, hd]
    rw [hcompose]
    simp only [Drop.canReceive, Bool.or_eq_true, beq_iff_eq] at hc
    rcases hc with hst | hst
    · simp [Drop.uses, State.ownedSlot, hst, ho, had, hrun]
    · by_cases hf : firstSlot s.lpc.slotMap a = some n
      · simp [Drop.uses, State.ownedSlot, hst, ho, had, hrun, hf]
      · simp [Drop.uses, State.ownedSlot, hst, had, hrun, hf, hd]
  · have hno : d.uses s.lpc.slotMap n = false := by simp [Drop.uses, had, ho]
    rw [hno]
    exact composeSlot_other ho hd

theorem uses_sentFrom (h : d.SentFrom e) (m : List (Option Nat)) (n : Nat) : e.uses m n = d.uses m n := by rw [h]; rfl

/-- The slots of a list that a drop uses take its segments one after another, in their order. -/
theorem composeSlots_due (l : List Nat) (hrun : s.lpc.loop = .running) (hd : s.dropAt a = some d)
    (hc : d.canReceive = true) :
    ∃ e, (State.composeSlots l s).2.dropAt a = some e ∧
      s.segmentsDue e = (s.segmentsDue d).drop (l.filter (d.uses s.lpc.slotMap)).length ∧
      ∀ i n, (l.filter (d.uses s.lpc.slotMap))[i]? = some n → ∃ h, (n, SlotOut.half h) ∈ l.zip (State.composeSlots l s).1 ∧
        (h.first, h.last, h.bytes) = (s.segmentsDue d).getD i (false, false, []) := by
  induction l generalizing s d with
  | nil => exact ⟨d, hd, rfl, fun i n hn => by simp at hn⟩
  | cons k l ih =>
    have hslot := composeSlot_uses (n := k) hrun hd hc
    have hsend := (composeSlot_carries (State.Sending.refl s) k).2
    have hrun' : (s.composeSlot k).2.lpc.loop = .running := hsend.loopState.trans hrun
    simp only [State.composeSlots, List.zip_cons_cons, List.mem_cons]
    by_cases hu : d.uses s.lpc.slotMap k = true
    · rw [if_pos hu] at hslot
      obtain ⟨hdue, hhalf⟩ := sendSegment_due s d k
      have hs := afterSegment_sentFrom s d
      have hd' : (s.composeSlot k).2.dropAt a = some (s.afterSegment d) := by
        rw [hslot, dropAt_sendSegment hd, if_pos rfl]
      obtain ⟨e, he, hrest, hall⟩ := ih hrun' hd' (hs.canReceive.trans hc)
      have huses : (s.afterSegment d).uses (s.composeSlot k).2.lpc.slotMap = d.uses s.lpc.slotMap := by
        funext n; rw [hsend.slotMap, uses_sentFrom hs]
      rw [segmentsDue_sending hsend, segmentsDue_sending hsend, huses, hdue, List.drop_drop] at hrest
      rw [huses] at hall
      rw [List.filter_cons_of_pos hu]
      refine ⟨e, he, by rw [hrest, List.length_cons, Nat.add_comm], fun i n hn => ?_⟩
      cases i with
      | zero =>
        obtain rfl : k = n := by simpa using hn
        exact ⟨_, .inl (by rw [hslot, sendSegment_eq]), hhalf⟩
      | succ i =>
        obtain ⟨h, hmem, hval⟩ := hall i n (by simpa using hn)
        refine ⟨h, .inr hmem, ?_⟩
        rw [hval, segmentsDue_sending hsend, hdue]
        simp [List.getD_eq_getElem?_getD]
    · rw [if_neg hu] at hslot
      obtain ⟨e, he, hrest, hall⟩ := ih hrun' hslot hc
      rw [hsend.slotMap] at hrest hall
      rw [segmentsDue_sending hsend, segmentsDue_sending hsend] at hrest
      rw [List.filter_cons_of_neg hu]
      refine ⟨e, he, hrest, fun i n hn => ?_⟩
      obtain ⟨h, hmem, hval⟩ := hall i n hn
      exact ⟨h, .inr hmem, by rw [hval, segmentsDue_sending hsend]⟩

/-- The head of a list without repeats is the one element that a test for it leaves. -/
theorem filter_head {l : List Nat} (hl : l.Nodup) : (l.filter fun n => l.head? == some n) = l.take 1 := by
  cases l with
  | nil => rfl
  | cons x xs =>
    have hx : ∀ n ∈ xs, ¬ (x = n) := fun n hn he => (List.nodup_cons.1 hl).1 (he ▸ hn)
    simp only [List.head?_cons, Option.some_beq_some, List.filter_cons, beq_self_eq_true, if_true, List.take_succ_cons,
      List.take_zero]
    rw [List.filter_eq_nil_iff.2 fun n hn => by simpa using hx n hn]

/-- The slots of a cycle that a drop uses are its usable slots (R4). -/
theorem filter_uses (s : State) (d : Drop) :
    (List.range' 1 31).filter (d.uses s.lpc.slotMap) = s.usableSlots d := by
  have hand : (List.range' 1 31).filter (d.uses s.lpc.slotMap) =
      (mappedSlots s.lpc.slotMap d.addr).filter fun n => d.state != .degraded || firstSlot s.lpc.slotMap d.addr == some n := by
    rw [mappedSlots, List.filter_filter]
    refine List.filter_congr fun n _ => ?_
    rw [Drop.uses, Bool.and_comm]
  rw [hand, State.usableSlots]
  by_cases hdeg : d.state = .degraded
  · have hnodup : (mappedSlots s.lpc.slotMap d.addr).Nodup := List.Nodup.filter _ List.nodup_range'
    simp only [hdeg, if_true, bne_self_eq_false, Bool.false_or]
    exact filter_head hnodup
  · simp [hdeg]

/-! ### The tables taken into use (R2) -/

theorem Drop.adopt_kind_group (d : Drop) (l m : List Nat) (k : DropType) (g : Nat) :
    (d.adopt l m k g).kind = k ∧ (d.adopt l m k g).group = g := by
  unfold Drop.adopt Drop.leave Drop.queueStatus
  dsimp only
  split_ifs <;> exact ⟨rfl, rfl⟩

/-- A drop that changes its type or has no slot any more is ABSENT with its buffers emptied (R2). -/
theorem Drop.adopt_leaves (d : Drop) {l m : List Nat} {k : DropType} {g : Nat} (h : k ≠ d.kind ∨ m = []) :
    d.adopt l m k g = Drop.leave { d with kind := k, group := g } := by
  have hc : (m.isEmpty || k != d.kind) = true := by
    rcases h with h | h
    · simp [h]
    · simp [h]
  simp [Drop.adopt, hc]

/-- The drop records of a state that meets the addresses of the loop stand at their places of a table of 28 rows. -/
theorem drops_rows {drops : List Drop} {table : List (DropType × Nat)} (ha : drops.map Drop.addr = List.range' 1 28)
    (ht : table.length = 28) (x : Drop → DropType × Nat) :
    (drops.map fun d => table.getD (d.addr - 1) (x d)) = table := by
  have hlen : drops.length = 28 := by simpa using congrArg List.length ha
  refine List.ext_getElem (by simp [hlen, ht]) fun i h1 h2 => ?_
  have haddr : (drops[i]'(by simpa using h1)).addr = i + 1 := by
    have hi : (drops.map Drop.addr)[i]'(by simpa using h1) = (List.range' 1 28)[i]'(by simp; omega) := by
      simp only [ha]
    rw [List.getElem_map, List.getElem_range'] at hi
    omega
  rw [List.getElem_map, haddr, Nat.add_sub_cancel, List.getD_eq_getElem?_getD, List.getElem?_eq_getElem (by omega)]
  rfl

theorem adoptTables_eq (s : State) : s.adoptTables = ((s.interruptRemoved s.dyc.params).onPbu fun b =>
    { b with sessions := rebind b.sessions (printerDrops s.dyc.params.dropTable) }).onLpc fun l =>
    { l with
      slotMap := s.dyc.params.slotMap
      drops := l.drops.map fun d => d.adopt (mappedSlots l.slotMap d.addr) (mappedSlots s.dyc.params.slotMap d.addr)
        (s.dyc.params.dropTable.getD (d.addr - 1) (d.kind, d.group)).1
        (s.dyc.params.dropTable.getD (d.addr - 1) (d.kind, d.group)).2 } := rfl

/-- The drop records in their order are those found at their addresses. -/
theorem drops_map_eq {β : Type} {l : List Drop} (h : (l.map Drop.addr).Nodup) (f : Drop → β) (x : β) :
    l.map f = (l.map Drop.addr).map fun a => ((findKey Drop.addr a l).map f).getD x := by
  rw [List.map_map]
  refine List.map_congr_left fun d hd => ?_
  rw [Function.comp_apply, findKey_of_mem h hd]
  rfl

/-- What composing a cycle leaves alone of every drop, it leaves alone of the list of drops. -/
theorem State.Sending.map_drops {β : Type} (h : s.Sending t) (ha : s.lpc.drops.map Drop.addr = List.range' 1 28)
    {f : Drop → β} (hf : ∀ d e : Drop, d.SentFrom e → f e = f d) (x : β) : t.lpc.drops.map f = s.lpc.drops.map f := by
  have hnd : (s.lpc.drops.map Drop.addr).Nodup := by rw [ha]; exact List.nodup_range'
  rw [drops_map_eq hnd f x, drops_map_eq (h.addrs ▸ hnd) f x, h.addrs]
  refine List.map_congr_left fun a _ => ?_
  obtain ⟨g, hg, hs⟩ := h.drop a
  have hfind : findKey Drop.addr a t.lpc.drops = (findKey Drop.addr a s.lpc.drops).map g := hg
  rw [hfind]
  cases findKey Drop.addr a s.lpc.drops with
  | none => rfl
  | some d => exact hf d _ (hs d)

end Sys2Proof.Machine
end

section
/-! SUPPORT. Changes of the loop that are of status marks alone (R17, R18). -/

namespace Sys2Proof.Machine

variable {s t : State} {a : Nat} {d : Drop}

theorem findKey_map {α : Type} {key : α → Nat} {k : Nat} {f : α → α} {l : List α} (hf : ∀ x, key (f x) = key x) :
    findKey key k (l.map f) = (findKey key k l).map f := by
  induction l with
  | nil => rfl
  | cons x l ih => by_cases h : key x = k <;> simp [findKey_cons, hf, h, ih]

theorem Drop.unmarked_eq {d e : Drop} (h : { e with statusMark := false } = { d with statusMark := false }) :
    e = { d with statusMark := e.statusMark } := by
  have hcopy := congrArg (fun x : Drop => { x with statusMark := e.statusMark }) h
  exact hcopy

/-- Where the loops agree but for their status marks, each lookup of a drop does. -/
theorem dropAt_unmarked (h : t.lpc.unmarked = s.lpc.unmarked) (a : Nat) :
    ∃ m, t.dropAt a = (s.dropAt a).map fun d => { d with statusMark := m } := by
  have hfind : ∀ u : State, findKey Drop.addr a u.lpc.unmarked.drops =
      (u.dropAt a).map fun d => { d with statusMark := false } := fun u => findKey_map fun _ => rfl
  have hboth := (hfind t).symm.trans ((congrArg (fun l => findKey Drop.addr a l.drops) h).trans (hfind s))
  cases ht : t.dropAt a with
  | none =>
    rw [ht] at hboth
    have hs : s.dropAt a = none := by simpa using hboth.symm
    exact ⟨false, by rw [hs]; rfl⟩
  | some e =>
    rw [ht] at hboth
    obtain ⟨d, hd, hde⟩ := Option.map_eq_some_iff.1 hboth.symm
    exact ⟨e.statusMark, by rw [hd]; exact congrArg some (Drop.unmarked_eq hde.symm)⟩

theorem lpc_unmarked (h : t.lpc.unmarked = s.lpc.unmarked) : t.lpc = { s.lpc with drops := t.lpc.drops } := by
  have hcopy := congrArg (fun l : Lpc => { l with drops := t.lpc.drops }) h
  exact hcopy

theorem dropAt_unmarked_some (h : t.lpc.unmarked = s.lpc.unmarked) (hd : s.dropAt a = some d) :
    ∃ m, t.dropAt a = some { d with statusMark := m } := by
  obtain ⟨m, hm⟩ := dropAt_unmarked h a
  exact ⟨m, by rw [hm, hd]; rfl⟩

theorem unmarked_congr (h : t.lpc = s.lpc) : t.lpc.unmarked = s.lpc.unmarked := by rw [h]

theorem unmarked_queueHolder (n : Nat) : (s.queueHolder n).lpc.unmarked = s.lpc.unmarked := unmarked_queueStatusFor _

theorem unmarked_queueSupervisors : s.queueSupervisors.lpc.unmarked = s.lpc.unmarked := unmarked_queueStatusFor _

theorem unmarked_queueUnseen (before : State) : (s.queueUnseen before).lpc.unmarked = s.lpc.unmarked :=
  unmarked_onDrops fun d => by
    dsimp only
    split
    · split
      · rfl
      · simp [Drop.queueStatus_eq]
    · rfl

theorem unmarked_judgeCashHigh (n : Nat) : (s.judgeCashHigh n).lpc.unmarked = s.lpc.unmarked := by
  unfold State.judgeCashHigh
  split
  · split
    · rfl
    · exact unmarked_queueHolder n
  · rfl

theorem unmarked_setDay (x : DayState) : (s.setDay x).lpc.unmarked = s.lpc.unmarked := by
  simp only [State.setDay]
  split
  · rfl
  · exact unmarked_queueStatusAll

theorem unmarked_endSession : (s.endSession a).lpc.unmarked = s.lpc.unmarked := by
  unfold State.endSession
  split
  · rfl
  · split
    · rfl
    · dsimp only
      split
      · split
        · exact unmarked_writeRecord
        · rfl
      · rfl

theorem unmarked_withdrawFetch : (s.withdrawFetch a).lpc.unmarked = s.lpc.unmarked := by
  refine unmarked_congr ?_
  unfold State.withdrawFetch
  (repeat' split) <;> simp

theorem unmarked_interruptSession : (s.interruptSession a).lpc.unmarked = s.lpc.unmarked := by
  have hend := (unmarked_withdrawFetch (a := a)).trans (unmarked_endSession (s := s) (a := a))
  unfold State.interruptSession
  cases s.sessionState a with
  | fetching => exact hend
  | printing => exact hend
  | turning => exact hend
  | idle => rfl
  | identify => rfl
  | finished => rfl
  | refused => rfl

end Sys2Proof.Machine
end

section
/-! PROOFS. Cycles as they are composed, slipped cycles, and LOOP-FAULT (R1 to R4, R12, R13). -/

namespace Sys2Proof.Machine

variable {s t : State} {a n : Nat} {d e : Drop}

theorem unmarked_interruptRemoved (p : Params) : (s.interruptRemoved p).lpc.unmarked = s.lpc.unmarked :=
  foldl_fixed (g := fun u : State => u.lpc.unmarked) (fun _ _ => unmarked_interruptSession) _ _

/-- A drop under the new tables: the drop as it stood, but for a status mark, adopted with its row. -/
theorem dropAt_adoptTables (hd : s.dropAt a = some d) : ∃ m, s.adoptTables.dropAt a =
    some (Drop.adopt { d with statusMark := m } (mappedSlots s.lpc.slotMap a) (mappedSlots s.dyc.params.slotMap a)
      (s.dyc.params.dropTable.getD (a - 1) (d.kind, d.group)).1
      (s.dyc.params.dropTable.getD (a - 1) (d.kind, d.group)).2) := by
  obtain ⟨m, hm⟩ := dropAt_unmarked_some (unmarked_interruptRemoved s.dyc.params) hd
  have hmap := lpc_unmarked (unmarked_interruptRemoved (s := s) s.dyc.params)
  have had := dropAt_addr hd
  refine ⟨m, ?_⟩
  rw [adoptTables_eq]
  refine (findKey_map fun d => d.adopt_addr _ _ _ _).trans ?_
  have hfind : findKey Drop.addr a (s.interruptRemoved s.dyc.params).lpc.drops = some { d with statusMark := m } := hm
  rw [State.onPbu_lpc, hfind, hmap]
  simp only [Option.map_some, had]

theorem adoptTables_addrs (ha : s.lpc.drops.map Drop.addr = List.range' 1 28) :
    s.adoptTables.lpc.drops.map Drop.addr = List.range' 1 28 := by
  have hsame := congrArg (fun l : Lpc => l.drops.map Drop.addr) (unmarked_interruptRemoved (s := s) s.dyc.params)
  simp only [Lpc.unmarked, List.map_map, Function.comp_def] at hsame
  rw [adoptTables_eq, State.onLpc_lpc, List.map_map, ← ha, ← hsame]
  exact List.map_congr_left fun d _ => d.adopt_addr _ _ _ _

/-- The types and groups of the drops under the new tables are the rows of the drop table (R2). -/
theorem adoptTables_rows (ha : s.lpc.drops.map Drop.addr = List.range' 1 28) (ht : s.dyc.params.dropTable.length = 28) :
    s.adoptTables.lpc.drops.map (fun d => (d.kind, d.group)) = s.dyc.params.dropTable := by
  have hsame := congrArg (fun l : Lpc => l.drops.map Drop.addr) (unmarked_interruptRemoved (s := s) s.dyc.params)
  simp only [Lpc.unmarked, List.map_map, Function.comp_def] at hsame
  rw [adoptTables_eq, State.onLpc_lpc, List.map_map]
  refine Eq.trans (List.map_congr_left fun d _ => ?_) (drops_rows (hsame.trans ha) ht fun d => (d.kind, d.group))
  obtain ⟨hk, hg⟩ := d.adopt_kind_group (mappedSlots (s.interruptRemoved s.dyc.params).lpc.slotMap d.addr)
    (mappedSlots s.dyc.params.slotMap d.addr) (s.dyc.params.dropTable.getD (d.addr - 1) (d.kind, d.group)).1
    (s.dyc.params.dropTable.getD (d.addr - 1) (d.kind, d.group)).2
  exact Prod.ext hk hg

theorem adoptTables_dyc : s.adoptTables.dyc = s.dyc := by simp [adoptTables_eq]

theorem tables_unchanged (h : s.tablesChanged = false) : s.lpc.slotMap = s.dyc.params.slotMap ∧
    s.lpc.drops.map (fun d => (d.kind, d.group)) = s.dyc.params.dropTable := by
  simpa [State.tablesChanged] using h

/-- A DEPARTED drop: ABSENT, with its buffers emptied (R2). -/
def Drop.Departed (e : Drop) : Prop :=
  e.state = .absent ∧ e.score = 0 ∧ e.outbound = [] ∧ e.held = none ∧ e.begun = [] ∧ e.assembly = []

theorem adoptTables_departed (hd : s.dropAt a = some d) (he : s.adoptTables.dropAt a = some e)
    (h : e.kind ≠ d.kind ∨ firstSlot s.dyc.params.slotMap a = none) : e.Departed := by
  obtain ⟨m, hm⟩ := dropAt_adoptTables hd
  rw [hm] at he
  obtain rfl := Option.some.inj he
  rw [Drop.adopt_leaves]
  · exact ⟨rfl, rfl, rfl, rfl, rfl, rfl⟩
  · rcases h with hk | hf
    · left
      rwa [(Drop.adopt_kind_group _ _ _ _ _).1] at hk
    · right
      simpa [firstSlot] using hf

/-- An ABSENT drop with nothing to send stays as it is while a cycle is composed. -/
theorem composeSlot_absent (hd : s.dropAt a = some d) (hs : d.state = .absent) :
    (s.composeSlot n).2.dropAt a = some d := by
  by_cases ho : slotOwner s.lpc.slotMap n = some a
  · simp [State.composeSlot, ho, hd, State.ownedSlot, hs]
  · exact composeSlot_other ho hd

theorem composeSlots_absent (l : List Nat) (hd : s.dropAt a = some d) (hs : d.state = .absent) :
    (State.composeSlots l s).2.dropAt a = some d := by
  induction l generalizing s with
  | nil => exact hd
  | cons n l ih => exact ih (composeSlot_absent hd hs)

theorem sendCycle_lpc (s : State) : s.sendCycle.lpc = { (State.composeSlots (List.range' 1 31) s).2.lpc with
    cycle := some (.marker :: (State.composeSlots (List.range' 1 31) s).1) } := by
  unfold State.sendCycle
  generalize State.composeSlots (List.range' 1 31) s = x
  rfl

theorem dropAt_sendCycle (s : State) (a : Nat) :
    s.sendCycle.dropAt a = (State.composeSlots (List.range' 1 31) s).2.dropAt a := by
  simp only [State.dropAt, sendCycle_lpc]

theorem exec_cycleStart_same (hr : s.isRunning = true) (hc : s.lpc.cycle = none) (ht : s.tablesChanged = false) :
    exec .cycleStart s = .next s.sendCycle := by
  rw [exec_cycleStart hr hc, ht]; rfl

/-- Settles O6: the composition slot by slot, the segments of one drop in its usable slots, and the adoption of the
tables before it. -/
theorem cycleIsComposed : Obligations.CycleIsComposed := by
  unfold Obligations.CycleIsComposed
  refine ⟨fun s hr hc htab => ?_, fun s a d hr hc htab hrun ha hd hcan => ?_, fun s hr hc ht ha => ?_⟩
  · obtain ⟨t, out, hs, heq, hlen, hall⟩ := sendCycle_carries s
    refine ⟨_, out, exec_cycleStart_same hr hc htab, ?_⟩
    rw [heq]
    have hloop := hs.loop
    refine ⟨?_, rfl, hlen, hall, ?_, fun a => hs.drop a⟩
    · rw [hloop]
    · rw [hloop]
  · obtain ⟨e, he, hdue, hall⟩ := composeSlots_due (List.range' 1 31) hrun hd hcan
    have hs := (composeSlots_carries (List.range' 1 31) (State.Sending.refl s)).1
    rw [filter_uses] at hdue hall
    refine ⟨_, _, e, exec_cycleStart_same hr hc htab, by rw [sendCycle_lpc], by rw [dropAt_sendCycle, he], ?_, ?_⟩
    · rw [← hdue, ← segmentsDue_sending hs]
      have hsame : ∀ x : State, x.sendCycle.segmentsDue e = (State.composeSlots (List.range' 1 31) x).2.segmentsDue e := by
        intro x
        unfold State.sendCycle
        generalize State.composeSlots (List.range' 1 31) x = y
        rfl
      exact hsame s
    · intro i n hn
      obtain ⟨h, hmem, hval⟩ := hall i n hn
      exact ⟨h, slot_of_mem_zip hmem, hval⟩
  · obtain ⟨u, hu⟩ : ∃ u, u = if s.tablesChanged then s.adoptTables else s := ⟨_, rfl⟩
    obtain ⟨t, out, hs, heq, hlen, hall⟩ := sendCycle_carries u
    have hrows : u.lpc.drops.map Drop.addr = List.range' 1 28 ∧ u.lpc.slotMap = s.dyc.params.slotMap ∧
        u.lpc.drops.map (fun d => (d.kind, d.group)) = s.dyc.params.dropTable ∧ u.dyc = s.dyc := by
      rw [hu]
      cases htab : s.tablesChanged with
      | true => exact ⟨adoptTables_addrs ha, rfl, adoptTables_rows ha ht, adoptTables_dyc⟩
      | false =>
        obtain ⟨h1, h2⟩ := tables_unchanged htab
        exact ⟨ha, h1, h2, rfl⟩
    obtain ⟨haddr, hmap, hrow, hdyc⟩ := hrows
    refine ⟨u.sendCycle, by rw [exec_cycleStart hr hc, hu], ?_, ?_, ?_, ?_⟩
    · rw [heq]; exact hs.slotMap.trans hmap
    · rw [heq]
      refine (hs.map_drops haddr (f := fun d => (d.kind, d.group)) (fun d e hde => ?_) (.teller, 0)).trans hrow
      rw [hde]
    · rw [heq]
      have hloop := hs.loop
      rw [hloop]; exact hdyc
    · intro hchanged a d e hd he hleft
      rw [hu, hchanged, if_pos rfl] at he
      obtain ⟨m, hm⟩ := dropAt_adoptTables hd
      rw [dropAt_sendCycle] at he
      have hdep : ∀ x, s.adoptTables.dropAt a = some x → x.kind ≠ d.kind ∨ firstSlot s.dyc.params.slotMap a = none →
          x.Departed := fun x hx hl => adoptTables_departed hd hx hl
      obtain ⟨x, hx⟩ : ∃ x, s.adoptTables.dropAt a = some x := ⟨_, hm⟩
      have hsent := (composeSlots_carries (List.range' 1 31) (State.Sending.refl s.adoptTables)).1
      obtain ⟨y, hy, hxy⟩ := hsent.dropAt hx
      obtain rfl : y = e := Option.some.inj (hy.symm.trans he)
      have hkind : y.kind = x.kind := by rw [hxy]
      have hx' := hdep x hx (hkind ▸ hleft)
      have habs := composeSlots_absent (List.range' 1 31) hx hx'.1
      obtain rfl : x = y := Option.some.inj (habs.symm.trans hy)
      exact hx'

/-! ### Slips and LOOP-FAULT (R12, R13) -/

/-- The commands of a slipped cycle begin one. -/
theorem exec_slipped {c : Instr}
    (hc : c = .cycleNotBackAtPeriodEnd ∨ ∃ x, c = .cycleReturn x ∧ (x.markerInPlace && x.inTime) = false)
    (hr : s.isRunning = true) (hcy : s.lpc.cycle.isSome = true) : exec c s = .next s.clearCycle.slippedCycle := by
  rcases hc with rfl | ⟨x, rfl, hx⟩
  · have h : exec .cycleNotBackAtPeriodEnd s = .next (s.whileRunning State.cycleLost) := rfl
    rw [h, whileRunning_of hr, State.cycleLost, if_pos hcy]
  · have h : exec (.cycleReturn x) s = .next (s.whileRunning fun s => s.cycleReturn x) := rfl
    rw [h, whileRunning_of hr, State.cycleReturn, if_pos hcy]
    simp [hx]

theorem exec_goodReturn {x : ReturnedCycle} (hr : s.isRunning = true) (hcy : s.lpc.cycle.isSome = true)
    (hm : x.markerInPlace = true) (hi : x.inTime = true) : exec (.cycleReturn x) s =
      .next (match s.lpc.loop with
        | .running => s.clearCycle.goodCycle x.halves
        | .loopFault => s.clearCycle.faultCycle) := by
  have h : exec (.cycleReturn x) s = .next (s.whileRunning fun s => s.cycleReturn x) := rfl
  rw [h, whileRunning_of hr, State.cycleReturn, if_pos hcy]
  simp [hm, hi] <;> rfl

theorem slippedCycle_fault (h : s.lpc.loop = .loopFault) :
    s.slippedCycle = s.onLpc fun l => { l with slips := countUp Config.maxCount l.slips, goodRun := 0 } := by
  simp [State.slippedCycle, h]

/-- A slip in RUNNING, short of the eighth in a row (R12). -/
theorem slippedCycle_running (h : s.lpc.loop = .running) (hn : s.lpc.slipRun + 1 < 8) : s.slippedCycle =
    s.onLpc fun l => { l with
      slips := countUp Config.maxCount l.slips, goodRun := 0, slipRun := l.slipRun + 1, drops := l.drops.map Drop.slip } := by
  have hlt : ¬ 8 ≤ s.lpc.slipRun + 1 := by omega
  simp [State.slippedCycle, h, hlt, State.onLpc]

/-- The eighth slip in a row brings LOOP-FAULT (R12). -/
theorem slippedCycle_eighth (h : s.lpc.loop = .running) (hn : 8 ≤ s.lpc.slipRun + 1) : s.slippedCycle =
    s.onLpc fun l => { l with
      slips := countUp Config.maxCount l.slips, goodRun := 0, slipRun := l.slipRun + 1, loop := .loopFault
      drops := l.drops.map fun d => { d.slip.abandon with assembly := [] } } := by
  simp [State.slippedCycle, h, hn, State.onLpc, State.enterLoopFault, Function.comp_def]

/-- The final reply of a drop is what it was, whichever segments start again. -/
theorem finalReply_slip (d : Drop) : d.slip.finalReply =
    (d.held <|> (d.begun.map Begun.msg).find? isFinal <|> d.outbound.find? isFinal) := by
  have hmsg : d.slip.begun.map (·.msg) = d.begun.map Begun.msg := by
    simp only [Drop.slip, List.map_map]
    refine List.map_congr_left fun b _ => ?_
    by_cases hb : b.inCycle = true <;> simp [hb]
  rw [Drop.finalReply, hmsg]
  rfl

/-- Settles O7: the equations of a slipped cycle in each state of the loop, and the two good cycles of LOOP-FAULT. -/
theorem slippedCycleAndLoopFault : Obligations.SlippedCycleAndLoopFault := by
  unfold Obligations.SlippedCycleAndLoopFault
  refine ⟨fun s c hc hr hcy => ⟨_, exec_slipped hc hr hcy, ?_⟩, fun s x hr hcy hl hm hi => ⟨fun hg => ?_, fun hg => ?_⟩⟩
  · cases hl : s.lpc.loop with
    | loopFault =>
      rw [slippedCycle_fault (s := s.clearCycle) hl]
      exact ⟨rfl, rfl, rfl, rfl, rfl, rfl, rfl, fun _ => ⟨hl, rfl, rfl⟩, fun h => by cases h⟩
    | running =>
      by_cases hn : s.lpc.slipRun + 1 < 8
      · rw [slippedCycle_running (s := s.clearCycle) hl hn]
        exact ⟨rfl, rfl, rfl, rfl, rfl, rfl, rfl, fun h => (by cases h), fun _ =>
          ⟨rfl, fun _ => ⟨hl, rfl⟩, fun h8 => absurd h8 (by omega)⟩⟩
      · have h8 : 8 ≤ s.lpc.slipRun + 1 := by omega
        rw [slippedCycle_eighth (s := s.clearCycle) hl h8]
        refine ⟨rfl, rfl, rfl, rfl, rfl, rfl, rfl, fun h => (by cases h), fun _ =>
          ⟨rfl, fun h => absurd h hn, fun _ => ⟨rfl, ?_⟩⟩⟩
        refine List.map_congr_left fun d _ => ?_
        rw [← finalReply_slip d]
        rfl
  · rw [exec_goodReturn hr hcy hm hi, hl]
    simp [State.faultCycle, State.clearCycle, State.onLpc, hg]
  · rw [exec_goodReturn hr hcy hm hi, hl]
    have h2 : 2 ≤ s.lpc.goodRun + 1 := by omega
    simp only [State.faultCycle, State.clearCycle, State.onLpc, h2, if_true, State.leaveLoopFault]
    refine congrArg Host.Outcome.next (congrArg (fun l => ({ s with lpc := { s.lpc with
      cycle := none, loop := .running, slipRun := 0, goodRun := 0, drops := l } } : State)) ?_)
    refine List.map_congr_left fun d _ => ?_
    by_cases hcan : d.canReceive = true
    · rw [if_pos hcan, Drop.queueStatus_eq, hcan, Bool.true_and]
    · rw [if_neg hcan, Bool.eq_false_iff.2 hcan, Bool.false_and, Bool.or_false]

end Sys2Proof.Machine
end

section
/-! PROOFS. A stop of the part and its recovery (R180 to R184). -/

namespace Sys2Proof.Machine

variable {s t u : State} {a n : Nat}

/-! ### What supervision's sight of a frame leaves alone (R95 to R98) -/

/-- A SUSPECT link that sees a frame is ONLINE again, with the reports of its entry. -/
theorem seeFrame_suspect (h : s.tkc.link = .suspect) :
    s.seeFrame = ((s.onTkc fun t => { t with link := .online }).reportOnline).restartSupervision := by
  simp [State.seeFrame, State.enterLink, h, shownLink, trusted]

theorem seeFrame_online (h : s.tkc.link = .online) : s.seeFrame = s.restartSupervision := by
  simp [State.seeFrame, h]

theorem seeFrame_away (h : s.tkc.link = .offline ∨ s.tkc.link = .resync) : s.seeFrame = s := by
  rcases h with h | h <;> simp [State.seeFrame, h]

theorem tkc_serveOne : s.serveOne.tkc = { s.tkc with slots := s.serveOne.tkc.slots } := by
  unfold State.serveOne
  (repeat' split) <;> simp [State.takeSlot, State.setStage, State.modifySlot, State.modifyTxn, State.modifyFetch]

theorem tkc_serveWaitList : s.serveWaitList.tkc = { s.tkc with slots := s.serveWaitList.tkc.slots } := by
  unfold State.serveWaitList
  rw [tkc_serveOne, tkc_serveOne, tkc_serveOne, tkc_serveOne, tkc_serveOne, tkc_serveOne]

theorem tkc_raiseTagged {c : Condition} : (s.raiseTagged n c).tkc =
    { s.tkc with nodeQueue := (s.raiseTagged n c).tkc.nodeQueue, waiting := (s.raiseTagged n c).tkc.waiting } := by
  unfold State.raiseTagged
  split <;> simp [State.pushNode]

theorem tkc_reportLost : s.reportLost.tkc =
    { s.tkc with nodeQueue := s.reportLost.tkc.nodeQueue, waiting := s.reportLost.tkc.waiting } := by
  unfold State.reportLost
  split
  · exact tkc_raiseTagged
  · rfl

/-- The pins, the marks of the store but for the lost one, and the transmitter stay when supervision sees a frame. -/
theorem seeFrame_pins : s.seeFrame.supply = s.supply ∧ s.seeFrame.resetLow = s.resetLow ∧
    s.seeFrame.straps = s.straps ∧ s.seeFrame.restarting = s.restarting ∧ s.seeFrame.storeValid = s.storeValid ∧
    s.seeFrame.tkc.transmitter = s.tkc.transmitter ∧ s.seeFrame.pending = s.pending := by
  cases hl : s.tkc.link with
  | online => simp [seeFrame_online hl, State.restartSupervision]
  | offline => simp [seeFrame_away (.inl hl)]
  | resync => simp [seeFrame_away (.inr hl)]
  | suspect =>
    rw [seeFrame_suspect hl]
    have htkc : ((s.onTkc fun t => { t with link := .online }).reportOnline).tkc.transmitter = s.tkc.transmitter := by
      rw [State.reportOnline, tkc_reportLost]
      simp only [State.resumeOnline_frame]
      rw [tkc_serveWaitList, State.onTkc_tkc]
    simp [State.restartSupervision, htkc]

theorem seeFrame_isRunning : s.seeFrame.isRunning = s.isRunning := by
  obtain ⟨h1, h2, -⟩ := seeFrame_pins (s := s)
  simp [State.isRunning, h1, h2]

/-- The day that supervision makes of a frame is the one found, or that of a stalled batch which resumes (R176). -/
theorem seeFrame_day : s.seeFrame.dyc.day = s.dyc.day ∨ s.dyc.day = .sendStalled ∧ s.seeFrame.dyc.day = .sending := by
  cases hl : s.tkc.link with
  | online => exact .inl (by simp [seeFrame_online hl, State.restartSupervision])
  | offline => exact .inl (by rw [seeFrame_away (.inl hl)])
  | resync => exact .inl (by rw [seeFrame_away (.inr hl)])
  | suspect =>
    rw [seeFrame_suspect hl]
    simp only [State.restartSupervision, State.onTkc_dyc, State.reportOnline, State.reportLost_frame]
    unfold State.resumeOnline
    split
    · next b hday _ =>
      right
      refine ⟨by simpa using hday, ?_⟩
      unfold State.resumeBatch
      split
      · exact setDay_day _
      · simp_all
    · exact .inl (by simp)

/-! ### The stop (R180) -/

theorem freshDrops_row {l : List (DropType × Nat)} {d : Drop} (h : d ∈ freshDrops l) :
    (d.kind, d.group) = l.getD (d.addr - 1) (.teller, 1) := by
  obtain ⟨i, -, rfl⟩ := List.mem_map.1 h
  rfl

/-- The stopped part, whatever its pins. -/
theorem stopped_clearVolatile (p q : Bool) : s.Stopped { s.clearVolatile with supply := p, resetLow := q } where
  marks := ⟨rfl, rfl, rfl, rfl, rfl⟩
  cash := rfl
  journal := rfl
  day := rfl
  tables := rfl
  teller n := findKey_map fun _ => rfl
  standIn := rfl
  account n := findKey_map fun _ => rfl
  printers := ⟨rfl, rfl, fun z hz => by
    have hz' : z ∈ freshSessions s.dyc.params.dropTable := hz
    obtain ⟨i, -, rfl⟩ := List.mem_map.1 hz'
    rfl⟩
  notices := ⟨rfl, rfl⟩
  loop := ⟨rfl, rfl, rfl, rfl, rfl, rfl⟩
  drops := by
    refine ⟨freshDrops_addr _, fun d hd => ⟨mem_freshDrops hd, fun row hrow => ?_⟩⟩
    rw [freshDrops_row hd, List.getD_eq_getElem?_getD, hrow]
    rfl
  trunk := rfl

/-! ### A cycle that offers every drop its slot -/

/-- Every drop of the loop is ABSENT. -/
def State.AllAbsent (s : State) : Prop := ∀ d ∈ s.lpc.drops, d.state = .absent

theorem composeSlot_allAbsent (h : s.AllAbsent) (k : Nat) : (s.composeSlot k).2 = s := by
  unfold State.composeSlot
  split
  · next d hd =>
    obtain ⟨b, -, hb⟩ := Option.bind_eq_some_iff.1 hd
    simp [State.ownedSlot, h d (mem_of_dropAt hb)]
  · rfl

theorem composeSlots_allAbsent (h : s.AllAbsent) (l : List Nat) :
    State.composeSlots l s = (l.map fun k => (s.composeSlot k).1, s) := by
  induction l with
  | nil => rfl
  | cons k l ih => simp [State.composeSlots, composeSlot_allAbsent h, ih]

theorem sendCycle_allAbsent (h : s.AllAbsent) : s.sendCycle = s.onLpc fun l =>
    { l with cycle := some (.marker :: (List.range' 1 31).map fun k => (s.composeSlot k).1) } := by
  unfold State.sendCycle
  rw [composeSlots_allAbsent h]

theorem allAbsent_freshDrops {l : List (DropType × Nat)} (h : s.lpc.drops = freshDrops l) : s.AllAbsent := by
  intro d hd
  rw [h] at hd
  rw [mem_freshDrops hd]; rfl

/-- What slot `k` of a fresh store carries. -/
def freshSlot (k : Nat) : SlotOut :=
  (((slotOwner freshSlotMap k).bind fun a => findKey Drop.addr a (freshDrops freshDropTable)).map fun d =>
    if firstSlot freshSlotMap d.addr == some k then .offer else .filler).getD .filler

theorem composeSlot_fresh (h : s.lpc.drops = freshDrops freshDropTable) (hm : s.lpc.slotMap = freshSlotMap) (k : Nat) :
    (s.composeSlot k).1 = freshSlot k := by
  unfold State.composeSlot freshSlot State.dropAt
  rw [h, hm]
  split
  · next d hd =>
    obtain ⟨b, -, hb⟩ := Option.bind_eq_some_iff.1 hd
    have hst : d.state = .absent := by rw [mem_freshDrops (findKey_mem hb)]; rfl
    simp [hd, State.ownedSlot, hst, hm]
  · next hnone => simp [hnone]

/-- The first cycle of a fresh store. -/
theorem freshCycle_eq (h : s.lpc.drops = freshDrops freshDropTable) (hm : s.lpc.slotMap = freshSlotMap) :
    SlotOut.marker :: (List.range' 1 31).map (fun k => (s.composeSlot k).1) = freshCycle := by
  rw [List.map_congr_left fun k _ => composeSlot_fresh h hm k]
  decide

/-- The recovery of a store that is not valid gives the state after reset, with its report's cause and tag. -/
theorem recover_lost {cause : Cause} {pins : Straps} (hv : s.storeValid = false) (hs : s.supply = true)
    (hr : s.resetLow = false) : s.recover cause pins n = { State.reset with
      straps := pins, pending := s.pending
      tkc := { freshTkc with nodeQueue := [⟨n, .nodeStatus (.started cause false .noDay 0)⟩] } } := by
  have hraise : ∀ c, (State.clearStore { s.clearVolatile with straps := pins }).raiseTagged n c =
      (State.clearStore { s.clearVolatile with straps := pins }).pushNode ⟨n, .nodeStatus c⟩ := fun c => rfl
  unfold State.recover
  dsimp only
  rw [hv, if_neg Bool.false_ne_true, hraise, sendCycle_allAbsent (allAbsent_freshDrops rfl),
    freshCycle_eq rfl rfl]
  simp only [State.clearStore, State.clearVolatile, State.pushNode, State.onTkc, State.onLpc, State.reset, hs, hr]
  rfl

/-- Settles O4: the stop keeps the store and clears the volatile items, a second stop finds the part stopped, and the
recovery of a lost store is `recover_lost`. -/
theorem stopKeepsTheStore : Obligations.StopKeepsTheStore := by
  unfold Obligations.StopKeepsTheStore
  refine ⟨fun s hs => ⟨_, rfl, ?_⟩, fun s hs => ⟨_, rfl, ?_⟩, fun s => ⟨fun hs => ?_, fun hs => ?_⟩, fun s pins =>
    ⟨fun hs hr held hv => ?_, fun hs hr hv => ?_⟩⟩
  · rw [State.powerLoss, if_pos hs]
    exact ⟨stopped_clearVolatile false s.resetLow, rfl, rfl⟩
  · rw [State.resetAssert, hs, if_neg Bool.false_ne_true]
    exact ⟨stopped_clearVolatile s.supply true, rfl, rfl⟩
  · have h : exec .powerLoss s = .next s.powerLoss := rfl
    rw [h, State.powerLoss, hs, if_neg Bool.false_ne_true]
  · have h : exec .resetPinAssert s = .next s.resetAssert := rfl
    rw [h, State.resetAssert, if_pos hs]
  · have h : exec (.powerOn pins held) s = .next (s.powerOn pins held) := rfl
    rw [h, State.powerOn, hs, if_neg Bool.false_ne_true]
    have hrec := recover_lost (s := { s with supply := true, storeValid := s.storeValid && held })
      (cause := .powerOn) (pins := pins) (n := 0) hv rfl hr
    dsimp only
    rw [if_neg (by rw [hr]; exact Bool.false_ne_true), hrec]
    rfl
  · have h : exec (.resetPinRelease pins) s = .next (s.resetRelease pins) := rfl
    rw [h, State.resetRelease, if_pos hr]
    have hrec := recover_lost (s := { s with resetLow := false }) (cause := .resetPin) (pins := pins) (n := 0) hv hs rfl
    dsimp only
    rw [if_pos hs, hrec]

end Sys2Proof.Machine
end

section
/-! SUPPORT. What a request does to the loop: its own drop is told, and other drops get status marks only; the report
of the journal's counter, and the exit from BALANCING. -/

namespace Sys2Proof.Machine

variable {s t u : State} {a n : Nat} {d : Drop} {f g : Drop → Drop}

/-! ### A change of one drop, up to status marks -/

/-- A change of a drop that does not look at the status mark and keeps the address. -/
structure Drop.Unmarking (f : Drop → Drop) : Prop where
  free : ∀ d : Drop, { f { d with statusMark := false } with statusMark := false } = { f d with statusMark := false }
  addr : ∀ d, (f d).addr = d.addr

theorem Drop.Unmarking.refl : Drop.Unmarking id := ⟨fun _ => rfl, fun _ => rfl⟩

theorem Drop.Unmarking.comp (hg : Drop.Unmarking g) (hf : Drop.Unmarking f) : Drop.Unmarking (fun d => g (f d)) where
  free d := by rw [← hg.free (f _), hf.free, hg.free]
  addr d := (hg.addr _).trans (hf.addr d)

theorem Drop.Unmarking.take (l : LoopState) (m : DownMessage) : Drop.Unmarking (fun d => d.take l m) where
  free d := by
    simp only [Drop.take, Drop.canReceive]
    (repeat' split) <;> simp_all
  addr d := Drop.take_addr d l m

theorem Drop.Unmarking.release (b : Bool) : Drop.Unmarking (fun d => { d with release := b }) :=
  ⟨fun _ => rfl, fun _ => rfl⟩

theorem unmarked_modifyDrop (hf : Drop.Unmarking f) : (s.modifyDrop a f).lpc.unmarked = { s.lpc.unmarked with
    drops := modifyKey Drop.addr a (fun d => { f d with statusMark := false }) s.lpc.unmarked.drops } := by
  simp only [State.modifyDrop, State.onLpc_lpc, Lpc.unmarked, modifyKey, List.map_map]
  congr 1
  refine List.map_congr_left fun d _ => ?_
  by_cases h : d.addr = a
  · simpa [h] using (hf.free d).symm
  · simp [h]

theorem unmarked_modifyDrop_congr (hf : Drop.Unmarking f) (h : t.lpc.unmarked = s.lpc.unmarked) :
    (t.modifyDrop a f).lpc.unmarked = (s.modifyDrop a f).lpc.unmarked := by
  rw [unmarked_modifyDrop hf, unmarked_modifyDrop hf, h]

/-- From `s` to `t` the loop changed in status marks, and by `f` in the record of drop `a`. -/
structure State.Touches (s t : State) (a : Nat) (f : Drop → Drop) : Prop where
  unmarking : Drop.Unmarking f
  loop : t.lpc.unmarked = (s.modifyDrop a f).lpc.unmarked

theorem State.Touches.refl (s : State) (a : Nat) : s.Touches s a id where
  unmarking := .refl
  loop := by
    rw [unmarked_modifyDrop .refl]
    simp [modifyKey, Lpc.unmarked]

theorem State.Touches.marks (h : s.Touches t a f) (hu : u.lpc.unmarked = t.lpc.unmarked) : s.Touches u a f :=
  ⟨h.unmarking, hu.trans h.loop⟩

theorem State.Touches.of_marks (hu : u.lpc.unmarked = s.lpc.unmarked) : s.Touches u a id := (State.Touches.refl s a).marks hu

theorem State.Touches.congr (h : s.Touches t a f) (hu : u.lpc = t.lpc) : s.Touches u a f := h.marks (unmarked_congr hu)

theorem modifyDrop_modifyDrop (hf : ∀ d, (f d).addr = d.addr) :
    (s.modifyDrop a f).modifyDrop a g = s.modifyDrop a fun d => g (f d) := by
  simp only [State.modifyDrop, State.onLpc, modifyKey, List.map_map]
  congr 2
  refine List.map_congr_left fun d _ => ?_
  by_cases h : d.addr = a <;> simp [h, hf]

theorem State.Touches.modify (h : s.Touches t a f) (hg : Drop.Unmarking g) :
    s.Touches (t.modifyDrop a g) a fun d => g (f d) where
  unmarking := hg.comp h.unmarking
  loop := by rw [unmarked_modifyDrop_congr hg h.loop, modifyDrop_modifyDrop h.unmarking.addr]

theorem State.Touches.loopState (h : s.Touches t a f) : t.lpc.loop = s.lpc.loop := by
  have hloop := congrArg Lpc.loop h.loop
  exact hloop

theorem State.Touches.handOver (h : s.Touches t a f) (hl : s.lpc.loop = .running) (m : DownMessage) :
    s.Touches (t.handOver a m) a fun d => (f d).take .running m := by
  have hm := h.modify (Drop.Unmarking.take t.lpc.loop m)
  rw [h.loopState, hl] at hm
  rw [State.handOver, h.loopState, hl]
  exact hm

theorem State.Touches.setRelease (h : s.Touches t a f) : s.Touches (t.setRelease a) a fun d => { f d with release := true } :=
  h.modify (.release true)

theorem State.Touches.clearRelease (h : s.Touches t a f) :
    s.Touches (t.clearRelease a) a fun d => { f d with release := false } :=
  h.modify (.release false)

theorem State.Touches.onlyDropAndMarks (h : s.Touches t a f) : s.OnlyDropAndMarks t a := by
  refine ⟨(lpc_unmarked h.loop).trans rfl, fun b hb => ?_⟩
  obtain ⟨m, hm⟩ := dropAt_unmarked h.loop b
  refine ⟨m, ?_⟩
  rw [hm, dropAt_modifyDrop fun d hd => (h.unmarking.addr d).trans hd]
  simp [hb]

theorem State.Touches.dropAt (h : s.Touches t a f) (hd : s.dropAt a = some d) :
    ∃ m, t.dropAt a = some { f d with statusMark := m } := by
  refine dropAt_unmarked_some h.loop ?_
  rw [dropAt_modifyDrop fun d hd => (h.unmarking.addr d).trans hd, hd]
  simp

/-- A drop that can receive and has room is told the message. -/
theorem Drop.take_told {m : DownMessage} (hc : d.canReceive = true) (hn : d.outbound.length < 3) :
    d.take .running m = d.told m := Drop.take_room hc (Nat.lt_succ_of_lt hn)

/-! ### A command that is answered, and no more -/

theorem onlyAnswers_of {c : Instr} {r : Result} (hh : s.Hears a d) (he : exec c s = .next (s.answer a r)) :
    s.OnlyAnswers c a d r := ⟨_, he, onlyTold_handOver hh⟩

/-! ### The report of the journal's counter (R130) -/

theorem judgeThresholds_silent (h : ¬ reportedCount s.jnc.counter) : s.judgeThresholds = s := by
  simp only [reportedCount, not_or] at h
  simp [State.judgeThresholds, h]

theorem onlyReports_writeRecord {r : Record} : s.OnlyReports (s.writeRecord r) := by
  refine ⟨tkc_writeRecord, fun hn => ?_⟩
  cases ht : s.journalTakes r.body with
  | false => rw [writeRecord_refused ht]
  | true =>
    rw [jnc_writeRecord ht] at hn
    rw [State.writeRecord, if_pos ht, State.appendRecord, judgeThresholds_silent hn]
    rfl

theorem State.OnlyReports.refl (s : State) : s.OnlyReports s := ⟨rfl, fun _ => rfl⟩

/-- The reports of a change are those of its trunk and its journal. -/
theorem State.OnlyReports.congr {s' t' : State} (h : s.OnlyReports t) (hs : s'.tkc = s.tkc) (ht : t'.tkc = t.tkc)
    (hj : t'.jnc = t.jnc) : s'.OnlyReports t' := by
  obtain ⟨hframe, hsilent⟩ := h
  refine ⟨?_, fun hn => ?_⟩
  · rw [ht, hs]; exact hframe
  · rw [ht, hs]; exact hsilent (by rwa [hj] at hn)

/-- One record was taken: its journal is the old one with the record at the tail. -/
theorem wrote_writeRecord {r : Record} (hj : u.jnc = s.jnc) (ht : u.journalTakes r.body = true) : s.Wrote (u.writeRecord r) r := by
  rw [State.Wrote, jnc_writeRecord ht, hj]

theorem State.Wrote.congr {r : Record} (h : s.Wrote t r) (hj : u.jnc = t.jnc) : s.Wrote u r := by
  rw [State.Wrote, hj]; exact h

/-! ### The exit from BALANCING (R166) -/

theorem judgeExit_of_not_balancing (h : s.dyc.day ≠ .balancing) : s.judgeExit = s := if_neg fun hc => h hc.1

theorem stall_day : s.stall.dyc.day = .sendStalled := setDay_day _

theorem enterSending_day : s.enterSending.dyc.day = .sending ∨ s.enterSending.dyc.day = .sendStalled := by
  unfold State.enterSending
  dsimp only
  rw [State.stallUnlessOnline]
  split
  · left
    simp [setDay_day]
  · exact .inr stall_day

theorem judgeExit_day : s.judgeExit.dyc.day = s.dyc.day ∨ s.judgeExit.dyc.day = .sending ∨
    s.judgeExit.dyc.day = .sendStalled := by
  unfold State.judgeExit
  split
  · exact .inr enterSending_day
  · exact .inl rfl

theorem onlyExit_judgeExit (hd : u.dyc = s.dyc) (hr : s.OnlyReports u) : s.OnlyExit u.judgeExit := by
  refine ⟨fun hday => ?_, fun hne => ?_⟩
  · rw [judgeExit_of_not_balancing (by rwa [hd])]
    exact ⟨hd, hr⟩
  · exact judgeExit_day.resolve_left fun h => hne (h.trans (by rw [hd]))

theorem unmarked_stall : s.stall.lpc.unmarked = s.lpc.unmarked := unmarked_setDay _

/-- A change of the day is shown at every TELLER drop, and the loop changes no further (R154). -/
theorem lpc_setDay (x : DayState) :
    (s.setDay x).lpc = if shownDay s.dyc.day = shownDay x then s.lpc else s.queueStatusAll.lpc := by
  simp only [State.setDay]
  split <;> rfl

/-- The exit shows a change of the day at every TELLER drop, and the loop changes no further. -/
theorem lpc_judgeExit : s.judgeExit.lpc = s.lpc ∨ s.judgeExit.lpc = s.queueStatusAll.lpc := by
  unfold State.judgeExit
  split
  · next hc =>
    obtain ⟨hday, -⟩ := hc
    have hshown : shownDay s.dyc.day ≠ shownDay .sending := by rw [hday]; decide
    have hstall : ∀ v : State, v.dyc.day = .sending → v.stallUnlessOnline.lpc = v.lpc := by
      intro v hd
      rw [State.stallUnlessOnline]
      split
      · rfl
      · have hsame : shownDay v.dyc.day = shownDay .sendStalled := by rw [hd]; rfl
        rw [State.stall, lpc_setDay]
        exact if_pos hsame
    right
    unfold State.enterSending
    dsimp only
    rw [hstall _ (by simp [setDay_day])]
    simp only [State.raise_frame, State.freezeSfq_frame, lpc_setDay]
    exact if_neg hshown
  · exact .inl rfl

theorem unmarked_judgeExit : s.judgeExit.lpc.unmarked = s.lpc.unmarked :=
  (lpc_judgeExit (s := s)).elim unmarked_congr fun h => (unmarked_congr h).trans unmarked_queueStatusAll

end Sys2Proof.Machine
end

section
/-! PROOFS. Transfers between drawers (R78 to R81). -/

namespace Sys2Proof.Machine

variable {s t u : State} {a n k : Nat} {d : Drop} {x : Teller} {w : Drawer} {e : TransitEntry}

/-- Two states that agree in every block are one. -/
theorem State.eq_of_blocks (h1 : t.supply = s.supply) (h2 : t.resetLow = s.resetLow) (h3 : t.straps = s.straps)
    (h4 : t.restarting = s.restarting) (h5 : t.storeValid = s.storeValid) (h6 : t.retainedLost = s.retainedLost)
    (h7 : t.lpc = s.lpc) (h8 : t.rqu = s.rqu) (h9 : t.csu = s.csu) (h10 : t.tkc = s.tkc) (h11 : t.siu = s.siu)
    (h12 : t.jnc = s.jnc) (h13 : t.pbu = s.pbu) (h14 : t.dyc = s.dyc) (h15 : t.pending = s.pending) : t = s := by
  cases s
  cases t
  simp_all

/-! ### Who is heard -/

theorem hears_of_cashier (h : s.Cashier a d x) : s.Hears a d := h.1.1

theorem asCashier_of_cashier {f : Teller → State} (h : s.Cashier a d x) : s.asCashier a f = f x := by
  obtain ⟨⟨⟨-, -, hd, -⟩, hkey, hat⟩, hact, htrain, hwork⟩ := h
  exact asCashier_of hd hkey hat hact htrain hwork

theorem asHolder_of_holds {f : Teller → Drawer → State} (h : s.Cashier a d x) (hw : x.heldDrawer.bind s.drawerAt = some w) :
    s.asHolder a f = f x w := by
  rw [State.asHolder, asCashier_of_cashier h, hw]

theorem asHolder_none {f : Teller → Drawer → State} (h : s.Cashier a d x) (hw : x.heldDrawer.bind s.drawerAt = none) :
    s.asHolder a f = s.answer a .noDrawer := by
  rw [State.asHolder, asCashier_of_cashier h, hw]

theorem held_of_holds (h : s.Holds a d x n w) : x.heldDrawer.bind s.drawerAt = some w := by
  obtain ⟨-, hn, hw⟩ := h
  rw [hn]
  exact hw

theorem exec_transferOut {target amount : Nat} {c : Option Currency} (h : s.Hears a d) :
    exec (.transferOut a target c amount) s = .next (s.transferOut a target c amount) := by
  have hexec : exec (.transferOut a target c amount) s = execTransferOut a target c amount s := rfl
  rw [hexec, execTransferOut, whileRunning_fromTeller_of_hears h]

theorem exec_transferAccept (h : s.Hears a d) : exec (.transferAccept a k) s = .next (s.transferAccept a k) := by
  have hexec : exec (.transferAccept a k) s = execTransferAccept a k s := rfl
  rw [hexec, execTransferAccept, whileRunning_fromTeller_of_hears h]

theorem exec_transferRecall (h : s.Hears a d) : exec (.transferRecall a k) s = .next (s.transferRecall a k) := by
  have hexec : exec (.transferRecall a k) s = execTransferRecall a k s := rfl
  rw [hexec, execTransferRecall, whileRunning_fromTeller_of_hears h]

/-! ### One drawer changed, with its cash-high judged -/

theorem journalTakes_congr {b : RecordBody} (hj : t.jnc = s.jnc) (hd : t.dyc = s.dyc) :
    t.journalTakes b = s.journalTakes b := by
  rw [State.journalTakes, State.journalTakes, hj, hd]

theorem drawer_judged {c : Csu} {f : Drawer → Drawer} (hu : u.csu = { c with
      drawers := modifyKey Drawer.number n f s.csu.drawers }) (ht : t.csu = (u.judgeCashHigh n).csu)
    (hf : ∀ y, (f y).number = y.number) (hw : s.drawerAt n = some w) :
    t.csu = { c with drawers := t.csu.drawers } ∧ s.OnlyDrawer t n ∧ t.drawerAt n = some (f w).judged := by
  have hat : ∀ m, u.drawerAt m = (s.drawerAt m).map fun y => if m = n then f y else y := fun m => by
    rw [State.drawerAt, hu]
    exact findKey_modifyKey fun y hy => (hf y).trans hy
  refine ⟨?_, fun m hm => ?_, ?_⟩
  · rw [ht, csu_judgeCashHigh, hu]
  · rw [drawerAt_congr (s := u.judgeCashHigh n) ht, drawerAt_judgeCashHigh, hat]
    simp [hm]
  · rw [drawerAt_congr (s := u.judgeCashHigh n) ht, drawerAt_judgeCashHigh, hat, hw]
    simp

/-- A TRANSFER record has room, so the JNC takes it (R129). -/
theorem journalTakes_transfer {p : TransferStep} {i j c m : Nat} {q : Currency} (h : s.TransferRoom) :
    s.journalTakes (.transfer p i j c q m) = true := by
  obtain ⟨hday, hroom⟩ := h
  simp [State.journalTakes, postingKind, ordinaryKind, Config.ordinaryLimit, hday, hroom]

theorem journalRoom_of (h : s.TransferRoom) : s.journalRoom = true := by
  simp [State.journalRoom, Config.ordinaryLimit, h.2]

/-- The end that an accepted transfer's steps have in common: the record, the release and cash-high of the drawer, the
waiting count of another and the message. -/
def State.afterTransfer (s : State) (a n target : Nat) (release : Bool) (r : Record) (m : DownMessage) : State :=
  (((if release then (s.writeRecord r).setRelease a else s.writeRecord r).judgeCashHigh n).queueHolder target).handOver a m

section
variable {target : Nat} {b : Bool} {r : Record} {m : DownMessage}

theorem afterTransfer_blocks : (s.afterTransfer a n target b r m) = { s with
    lpc := (s.afterTransfer a n target b r m).lpc, csu := (s.afterTransfer a n target b r m).csu
    jnc := (s.afterTransfer a n target b r m).jnc, tkc := (s.afterTransfer a n target b r m).tkc } := by
  unfold State.afterTransfer
  cases b <;> apply State.eq_of_blocks <;> simp

theorem afterTransfer_jnc : (s.afterTransfer a n target b r m).jnc = (s.writeRecord r).jnc := by
  unfold State.afterTransfer
  cases b <;> simp

theorem afterTransfer_tkc : (s.afterTransfer a n target b r m).tkc = (s.writeRecord r).tkc := by
  unfold State.afterTransfer
  cases b <;> simp

theorem csu_judgeCashHigh_congr (h : t.csu = s.csu) : (t.judgeCashHigh n).csu = (s.judgeCashHigh n).csu := by
  unfold State.judgeCashHigh
  rw [drawerAt_congr h]
  split
  · split
    · exact h
    · simp [State.modifyDrawer, h]
  · exact h

theorem afterTransfer_csu : (s.afterTransfer a n target b r m).csu = (s.judgeCashHigh n).csu := by
  unfold State.afterTransfer
  cases b <;> simpa using csu_judgeCashHigh_congr (by simp)

/-- The drop of the sender takes the release, if it is to, and the message. -/
theorem afterTransfer_touches (hl : s.lpc.loop = .running) : s.Touches (s.afterTransfer a n target b r m) a
    fun d => ({ d with release := d.release || b } : Drop).take .running m := by
  have hw : s.Touches (s.writeRecord r) a id := .of_marks unmarked_writeRecord
  cases b with
  | true => simpa [State.afterTransfer] using
      ((hw.setRelease.marks (unmarked_judgeCashHigh n)).marks (unmarked_queueHolder target)).handOver hl m
  | false => simpa [State.afterTransfer] using
      ((hw.marks (unmarked_judgeCashHigh n)).marks (unmarked_queueHolder target)).handOver hl m

end

/-- What the loop shows after a touch whose last step is a message (R4). -/
theorem touched_told {f : Drop → Drop} {m : DownMessage} (ht : s.Touches t a fun d => (f d).take .running m)
    (hh : s.Hears a d) (hc : (f d).canReceive = d.canReceive) (ho : (f d).outbound = d.outbound) :
    ∃ b, t.dropAt a = some { (f d).told m with statusMark := b } := by
  obtain ⟨-, -, hd, -, hcan, hroom⟩ := hh
  obtain ⟨b, hb⟩ := ht.dropAt hd
  exact ⟨b, by rw [hb, Drop.take_told (hc.trans hcan) (by rw [ho]; exact hroom)]⟩

/-! ### TRANSFER-OUT (R79) -/

/-- The state of a TRANSFER-OUT with its sum raised and its entry listed. -/
def State.listed (s : State) (n : Nat) (c : Currency) (amount : Nat) (e : TransitEntry) : State :=
  (s.addTransferOut n c amount).onCsu fun u =>
    { u with transit := u.transit ++ [e], transitCounter := entryAfter e.number }

theorem give_eq {target amount : Nat} {c : Currency} {e : TransitEntry}
    (he : e = ⟨s.freeEntry, w.number, target, c, amount, x.number, s.nextSeq⟩) : s.give a x w target c amount =
    (s.listed w.number c amount e).afterTransfer a w.number target true (transferRecord .give e a x.number none)
      (.answer .done (.transfer e.number)) := by
  subst he
  rfl

theorem giveRefusal_accepts {v : Drawer} {target amount : Nat} {c : Currency} (hv : s.drawerAt target = some v)
    (hne : target ≠ w.number) (has : v.assigned.isSome = true)
    (hset : s.dyc.day = .balancing → w.balance ≠ .held ∧ w.balance ≠ .balanced ∧ v.balance ≠ .held ∧ v.balance ≠ .balanced)
    (h1 : 1 ≤ amount) (hmax : amount ≤ 9999999999) (hplaces : s.csu.transit.length < 16)
    (hshort : (amount : Int) ≤ (w.sums c).position) (htotal : (w.sums c).transferOut + amount ≤ 999999999999)
    (hroom : s.TransferRoom) : s.giveRefusal w target (some c) amount = none := by
  have hfilter : (s.drawerAt target).filter (fun y => y.number != w.number && y.assigned.isSome) = some v := by
    have hnum : v.number ≠ w.number := by rw [drawerAt_number hv]; exact hne
    simp [hv, Option.filter, hnum, has]
  have hsettled : (s.dyc.day == .balancing && ((w.balance == .held || w.balance == .balanced) ||
      (v.balance == .held || v.balance == .balanced))) = false := by
    by_cases hday : s.dyc.day = .balancing
    · obtain ⟨h1, h2, h3, h4⟩ := hset hday
      simp [h1, h2, h3, h4]
    · simp [hday]
  have hzero : amount ≠ 0 := by omega
  rw [State.giveRefusal, hfilter]
  simp [hsettled, hzero, Config.maxAmount, Config.transitPlaces, Config.maxTotal, journalRoom_of hroom,
    Nat.not_lt.2 hmax, Nat.not_le.2 hplaces, Int.not_lt.2 hshort, Int.not_lt.2 htotal]

/-- The counter's own number is taken when it is free (R78). -/
theorem freeEntry_counter (h : s.csu.TransitSound) (hfree : ∀ e ∈ s.csu.transit, e.number ≠ s.csu.transitCounter) :
    s.freeEntry = s.csu.transitCounter := by
  obtain ⟨-, h1, h16, -⟩ := h
  have hfirst : (s.csu.transitCounter - 1 + 0) % 16 + 1 = s.csu.transitCounter := by omega
  have hturns : (List.range 16).map (fun i => (s.csu.transitCounter - 1 + i) % 16 + 1) = s.csu.transitCounter ::
      (List.range' 1 15).map (fun i => (s.csu.transitCounter - 1 + i) % 16 + 1) :=
    congrArg (· :: (List.range' 1 15).map fun i => (s.csu.transitCounter - 1 + i) % 16 + 1) hfirst
  rw [State.freeEntry, hturns, List.find?_cons_of_pos (by simpa using hfree)]
  rfl

theorem entryAfter_eq (h16 : k ≤ 16) : entryAfter k = if k = 16 then 1 else k + 1 := by
  rw [entryAfter]
  split <;> omega

/-- What a transfer's end shows: the blocks it changes, the record, the reports and the drop. -/
theorem afterTransfer_effects {target : Nat} {b : Bool} {r : Record} {m : DownMessage} (hh : s.Hears a d)
    (hu : u = { s with csu := u.csu }) (ht : t = u.afterTransfer a n target b r m)
    (hroom : s.journalTakes r.body = true) :
    t = { s with lpc := t.lpc, csu := t.csu, jnc := t.jnc, tkc := t.tkc } ∧ s.Wrote t r ∧ s.OnlyReports t ∧
      s.OnlyDropAndMarks t a ∧
      ∃ k, t.dropAt a = some { d.told m with release := d.release || b, statusMark := k } := by
  have hlpc : u.lpc = s.lpc := by rw [hu]
  have hjnc : u.jnc = s.jnc := by rw [hu]
  have htkc : u.tkc = s.tkc := by rw [hu]
  have hdyc : u.dyc = s.dyc := by rw [hu]
  have htakes : u.journalTakes r.body = true := (journalTakes_congr hjnc hdyc).trans hroom
  have htouch : s.Touches t a fun d => ({ d with release := d.release || b } : Drop).take .running m := by
    have hstart := afterTransfer_touches (s := u) (n := n) (a := a) (target := target) (b := b) (r := r) (m := m)
      (by rw [hlpc]; exact hh.2.1)
    rw [← ht] at hstart
    exact ⟨hstart.unmarking, hstart.loop.trans (unmarked_modifyDrop_congr hstart.unmarking (unmarked_congr hlpc))⟩
  refine ⟨?_, ?_, ?_, htouch.onlyDropAndMarks, ?_⟩
  · have hblocks := afterTransfer_blocks (s := u) (n := n) (a := a) (target := target) (b := b) (r := r) (m := m)
    rw [← ht, hu] at hblocks
    exact hblocks
  · exact (wrote_writeRecord hjnc htakes).congr (by rw [ht, afterTransfer_jnc])
  · exact (onlyReports_writeRecord (s := u) (r := r)).congr htkc.symm (by rw [ht, afterTransfer_tkc])
      (by rw [ht, afterTransfer_jnc])
  · obtain ⟨k, hk⟩ := touched_told htouch hh rfl rfl
    exact ⟨k, hk⟩

/-- An accepted TRANSFER-OUT. -/
theorem transferOut_accepted {target amount : Nat} {c : Currency} {v : Drawer} (h : s.Holds a d x n w)
    (hv : s.drawerAt target = some v) (hne : target ≠ n) (has : v.assigned.isSome = true)
    (hset : s.dyc.day = .balancing → w.balance ≠ .held ∧ w.balance ≠ .balanced ∧ v.balance ≠ .held ∧ v.balance ≠ .balanced)
    (h1 : 1 ≤ amount) (hmax : amount ≤ 9999999999) (hplaces : s.csu.transit.length < 16)
    (hshort : (amount : Int) ≤ (w.sums c).position) (htotal : (w.sums c).transferOut + amount ≤ 999999999999)
    (hroom : s.TransferRoom) (hsound : s.csu.TransitSound) :
    ∃ t k m, exec (.transferOut a target (some c) amount) s = .next t ∧
      t = { s with lpc := t.lpc, csu := t.csu, jnc := t.jnc, tkc := t.tkc } ∧
      1 ≤ k ∧ k ≤ 16 ∧ (∀ e ∈ s.csu.transit, e.number ≠ k) ∧
      ((∀ e ∈ s.csu.transit, e.number ≠ s.csu.transitCounter) → k = s.csu.transitCounter) ∧
      t.csu.transit = s.csu.transit ++ [⟨k, n, target, c, amount, x.number, s.jnc.counter + 1⟩] ∧
      t.csu.transitCounter = (if k = 16 then 1 else k + 1) ∧ s.OnlyDrawerAndTransit t n ∧
      t.drawerAt n = some (w.onSums c fun y => { y with transferOut := y.transferOut + amount }).judged ∧
      s.Wrote t (entry (.transfer .give k n target c amount) (some a) (some x.number)) ∧
      s.OnlyReports t ∧ s.OnlyDropAndMarks t a ∧
      t.dropAt a = some { d.told (.answer .done (.transfer k)) with release := true, statusMark := m } := by
  have ⟨hcash, _, hw⟩ := h
  have hh := hears_of_cashier hcash
  obtain rfl : w.number = n := drawerAt_number hw
  obtain ⟨hlo, hhi, hfresh⟩ := freeEntry_fresh hplaces
  have hrefusal := giveRefusal_accepts hv hne has hset h1 hmax hplaces hshort htotal hroom
  have hexec : exec (.transferOut a target (some c) amount) s = .next (s.give a x w target c amount) := by
    rw [exec_transferOut hh, State.transferOut, asHolder_of_holds hcash (held_of_holds h), hrefusal]
  let e : TransitEntry := ⟨s.freeEntry, w.number, target, c, amount, x.number, s.nextSeq⟩
  have hgive := give_eq (a := a) (w := w) (s := s) (x := x) (target := target) (amount := amount) (c := c) (e := e) rfl
  obtain ⟨hblocks, hwrote, hreports, honly, m, hdrop⟩ := afterTransfer_effects hh
    (u := s.listed w.number c amount e) rfl hgive (journalTakes_transfer hroom)
  obtain ⟨hcsu, hothers, hat⟩ := drawer_judged (s := s) (t := s.give a x w target c amount)
    (u := s.listed w.number c amount e)
    (c := { s.csu with transit := s.csu.transit ++ [e], transitCounter := entryAfter e.number }) rfl
    (by rw [hgive, afterTransfer_csu]) (onSums_number · c _) hw
  refine ⟨_, s.freeEntry, m, hexec, hblocks, hlo, hhi, fun e he hk => ?_, freeEntry_counter hsound, ?_, ?_, ⟨?_, hothers⟩,
    hat, hwrote, hreports, honly, ?_⟩
  · exact hfresh (List.mem_map.2 ⟨e, he, hk⟩)
  · rw [hcsu]; rfl
  · rw [hcsu]; exact entryAfter_eq hhi
  · rw [hcsu]
  · rw [hdrop, Bool.or_true]

/-! ### TRANSFER-ACCEPT and TRANSFER-RECALL (R80, R81) -/

/-- What an accepted entry's end shows, with the exit from BALANCING judged. -/
theorem settled_effects {target : Nat} {b : Bool} {r : Record} {m : DownMessage} (hh : s.Hears a d)
    (hu : u = { s with csu := u.csu }) (ht : t = (u.afterTransfer a n target b r m).judgeExit)
    (hroom : s.journalTakes r.body = true) :
    t = { s with lpc := t.lpc, csu := t.csu, jnc := t.jnc, tkc := t.tkc, dyc := t.dyc } ∧ s.Wrote t r ∧ s.OnlyExit t ∧
      s.OnlyDropAndMarks t a ∧
      ∃ k, t.dropAt a = some { d.told m with release := d.release || b, statusMark := k } := by
  obtain ⟨hblocks, hwrote, hreports, ⟨hlpc, hothers⟩, k, hdrop⟩ := afterTransfer_effects hh hu rfl hroom
    (n := n) (target := target) (b := b) (m := m)
  have hmarks := unmarked_judgeExit (s := u.afterTransfer a n target b r m)
  rw [← ht] at hmarks
  have hdyc : (u.afterTransfer a n target b r m).dyc = s.dyc := by rw [hblocks]
  refine ⟨?_, hwrote.congr (by simp [ht]), ht ▸ onlyExit_judgeExit hdyc hreports,
    ⟨(lpc_unmarked hmarks).trans (by rw [hlpc]), fun j hj => ?_⟩, ?_⟩
  · apply State.eq_of_blocks <;> simp [ht] <;> rw [hblocks]
  · obtain ⟨p, hp⟩ := dropAt_unmarked hmarks j
    obtain ⟨q, hq⟩ := hothers j hj
    exact ⟨p, by rw [hp, hq, Option.map_map]; rfl⟩
  · obtain ⟨p, hp⟩ := dropAt_unmarked_some hmarks hdrop
    exact ⟨p, hp⟩

theorem acceptRefusal_accepts (hpos : (w.sums e.currency).position + e.amount ≤ 999999999999)
    (hin : (w.sums e.currency).transferIn + e.amount ≤ 999999999999) (hroom : s.TransferRoom) :
    s.acceptRefusal w e = none := by
  simp [State.acceptRefusal, Config.maxTotal, Int.not_lt.2 hpos, Int.not_lt.2 hin, journalRoom_of hroom]

/-- An accepted TRANSFER-ACCEPT. -/
theorem transferAccept_accepted (h : s.Holds a d x n w) (he : s.transitAt k = some e) (htarget : e.target = n)
    (hpos : (w.sums e.currency).position + e.amount ≤ 999999999999)
    (hin : (w.sums e.currency).transferIn + e.amount ≤ 999999999999) (hroom : s.TransferRoom) :
    ∃ t m, exec (.transferAccept a k) s = .next t ∧
      t = { s with lpc := t.lpc, csu := t.csu, jnc := t.jnc, tkc := t.tkc, dyc := t.dyc } ∧
      t.csu.transit = s.csu.transit.filter (fun y => y.number != k) ∧
      t.csu.transitCounter = s.csu.transitCounter ∧ s.OnlyDrawerAndTransit t n ∧
      t.drawerAt n = some (w.onSums e.currency fun y => { y with transferIn := y.transferIn + e.amount }).judged ∧
      s.Wrote t (entry (.transfer .accept k e.source n e.currency e.amount) (some a) (some x.number) none none
        (some e.seq)) ∧
      s.OnlyExit t ∧ s.OnlyDropAndMarks t a ∧
      t.dropAt a = some { d.told (.answer .done .nothing) with release := true, statusMark := m } := by
  have ⟨hcash, _, hw⟩ := h
  have hh := hears_of_cashier hcash
  obtain rfl : w.number = n := drawerAt_number hw
  obtain rfl : e.number = k := transitAt_number he
  obtain ⟨t, ht⟩ : ∃ t, t = (((s.addTransferIn w.number e.currency e.amount).removeTransit e.number).afterTransfer a
      w.number e.target true (transferRecord .accept e a x.number (some e.seq)) (.answer .done .nothing)).judgeExit :=
    ⟨_, rfl⟩
  have hexec : exec (.transferAccept a e.number) s = .next t := by
    rw [exec_transferAccept hh, State.transferAccept, asHolder_of_holds hcash (held_of_holds h), he, ht]
    dsimp only
    rw [if_neg (not_not.2 htarget), acceptRefusal_accepts hpos hin hroom]
    rfl
  obtain ⟨hblocks, hwrote, hexit, honly, m, hdrop⟩ := settled_effects hh
    (u := (s.addTransferIn w.number e.currency e.amount).removeTransit e.number) rfl ht (journalTakes_transfer hroom)
  obtain ⟨hcsu, hothers, hat⟩ := drawer_judged (s := s) (t := t)
    (u := (s.addTransferIn w.number e.currency e.amount).removeTransit e.number)
    (c := { s.csu with transit := eraseKey TransitEntry.number e.number s.csu.transit }) rfl
    (by rw [ht, (State.judgeExit_frame _).2.2.2.2.2.2.2.1, afterTransfer_csu]) (onSums_number · e.currency _) hw
  refine ⟨t, m, hexec, hblocks, ?_, ?_, ⟨?_, hothers⟩, hat, ?_, hexit, honly, ?_⟩
  · rw [hcsu]; rfl
  · rw [hcsu]
  · rw [hcsu]
  · rw [← htarget]; exact hwrote
  · rw [hdrop, Bool.or_true]

/-- An accepted TRANSFER-RECALL. -/
theorem transferRecall_accepted (hcash : s.Cashier a d x) (he : s.transitAt k = some e) (hw : s.drawerAt e.source = some w)
    (hmay : x.heldDrawer = some e.source ∨ (x.supervises = true ∧ s.holderOf e.source = none)) (hroom : s.TransferRoom) :
    ∃ t m, exec (.transferRecall a k) s = .next t ∧
      t = { s with lpc := t.lpc, csu := t.csu, jnc := t.jnc, tkc := t.tkc, dyc := t.dyc } ∧
      t.csu.transit = s.csu.transit.filter (fun y => y.number != k) ∧
      t.csu.transitCounter = s.csu.transitCounter ∧ s.OnlyDrawerAndTransit t e.source ∧
      t.drawerAt e.source =
        some (w.onSums e.currency fun y => { y with transferOut := y.transferOut - e.amount }).judged ∧
      s.Wrote t (entry (.transfer .recall k e.source e.target e.currency e.amount) (some a) (some x.number) none none
        (some e.seq)) ∧
      s.OnlyExit t ∧ s.OnlyDropAndMarks t a ∧
      t.dropAt a = some { d.told (.answer .done .nothing) with
        release := d.release || decide (x.heldDrawer = some e.source), statusMark := m } := by
  have hh := hears_of_cashier hcash
  obtain rfl : e.number = k := transitAt_number he
  have hrecall : s.mayRecall x e = true := by
    rcases hmay with hheld | ⟨hsup, hnone⟩
    · simp [State.mayRecall, hheld]
    · simp [State.mayRecall, hsup, hnone]
  obtain ⟨u, hu⟩ : ∃ u, u = (s.addTransferOut e.source e.currency (-(e.amount : Int))).removeTransit e.number := ⟨_, rfl⟩
  obtain ⟨t, ht⟩ : ∃ t, t = (u.afterTransfer a e.source e.target (decide (x.heldDrawer = some e.source))
      (transferRecord .recall e a x.number (some e.seq)) (.answer .done .nothing)).judgeExit := ⟨_, rfl⟩
  have hexec : exec (.transferRecall a e.number) s = .next t := by
    rw [exec_transferRecall hh, State.transferRecall, asCashier_of_cashier hcash, he, ht, hu]
    simp [hrecall, journalRoom_of hroom, State.afterTransfer, State.answer]
  obtain ⟨hblocks, hwrote, hexit, honly, m, hdrop⟩ := settled_effects hh (by rw [hu]; rfl) ht (journalTakes_transfer hroom)
  obtain ⟨hcsu, hothers, hat⟩ := drawer_judged (s := s) (t := t) (u := u)
    (c := { s.csu with transit := eraseKey TransitEntry.number e.number s.csu.transit })
    (f := fun y => y.onSums e.currency fun z => { z with transferOut := z.transferOut + -(e.amount : Int) }) (by rw [hu]; rfl)
    (by rw [ht, (State.judgeExit_frame _).2.2.2.2.2.2.2.1, afterTransfer_csu]) (onSums_number · e.currency _) hw
  refine ⟨t, m, hexec, hblocks, ?_, ?_, ⟨?_, hothers⟩, hat, hwrote, hexit, honly, hdrop⟩
  · rw [hcsu]; rfl
  · rw [hcsu]
  · rw [hcsu]

/-! ### Refusals -/

theorem journalRoom_check : (if s.journalRoom = true then none else some Result.journalFull) =
    if 65279 ≤ s.jnc.counter then some .journalFull else none := by
  by_cases h : s.jnc.counter < 65279
  · rw [if_pos (show s.journalRoom = true from decide_eq_true h), if_neg (Nat.not_le.2 h)]
  · rw [if_neg (by rw [State.journalRoom, decide_eq_true_iff]; exact h), if_pos (Nat.not_lt.1 h)]

/-- The checks of TRANSFER-OUT in the order in which they refuse (R79). -/
theorem giveRefusal_eq {target amount : Nat} {c : Option Currency} (hw : x.heldDrawer.bind s.drawerAt = some w) :
    s.giveRefusal w target c amount = s.giveFails x target c amount := by
  rw [State.giveFails, hw]
  cases hv : s.drawerAt target with
  | none => simp [State.giveRefusal, hv]
  | some v =>
    have hnum : v.number = target := drawerAt_number hv
    by_cases hself : target = w.number
    · subst hself
      simp [State.giveRefusal, hv, hnum, Option.filter]
    · cases hassigned : v.assigned with
      | none => simp [State.giveRefusal, hv, hassigned, Option.filter]
      | some y =>
        cases c <;> simp [State.giveRefusal, hv, hnum, hself, hassigned, Option.filter, Drawer.settled, Config.maxAmount,
          Config.transitPlaces, Config.maxTotal, journalRoom_check]

theorem acceptRefusal_eq (hw : x.heldDrawer.bind s.drawerAt = some w) (he : s.transitAt k = some e) :
    s.acceptFails x k = if e.target ≠ w.number then some .notPermitted else s.acceptRefusal w e := by
  simp [State.acceptFails, hw, he, State.acceptRefusal, Config.maxTotal, journalRoom_check]

theorem transferOut_refused {target amount : Nat} {c : Option Currency} {r : Result} (h : s.Cashier a d x)
    (hf : s.giveFails x target c amount = some r) : s.OnlyAnswers (.transferOut a target c amount) a d r := by
  have hh := hears_of_cashier h
  refine onlyAnswers_of hh ?_
  rw [exec_transferOut hh, State.transferOut]
  cases hw : x.heldDrawer.bind s.drawerAt with
  | none =>
    rw [State.giveFails, hw] at hf
    rw [asHolder_none h hw, ← Option.some.inj hf]
  | some w => rw [asHolder_of_holds h hw, giveRefusal_eq hw, hf]

theorem transferAccept_refused {r : Result} (h : s.Cashier a d x) (hf : s.acceptFails x k = some r) :
    s.OnlyAnswers (.transferAccept a k) a d r := by
  have hh := hears_of_cashier h
  refine onlyAnswers_of hh ?_
  rw [exec_transferAccept hh, State.transferAccept]
  cases hw : x.heldDrawer.bind s.drawerAt with
  | none =>
    rw [State.acceptFails, hw] at hf
    rw [asHolder_none h hw, ← Option.some.inj hf]
  | some w =>
    rw [asHolder_of_holds h hw]
    cases he : s.transitAt k with
    | none =>
      rw [State.acceptFails, hw, he] at hf
      rw [← Option.some.inj hf]
    | some e =>
      rw [acceptRefusal_eq hw he] at hf
      dsimp only
      split at hf
      · rw [if_pos ‹_›, ← Option.some.inj hf]
      · rw [if_neg ‹_›, hf]

theorem transferRecall_refused {r : Result} (h : s.Cashier a d x) (hf : s.recallFails x k = some r) :
    s.OnlyAnswers (.transferRecall a k) a d r := by
  have hh := hears_of_cashier h
  refine onlyAnswers_of hh ?_
  rw [exec_transferRecall hh, State.transferRecall, asCashier_of_cashier h]
  cases he : s.transitAt k with
  | none =>
    rw [State.recallFails, he] at hf
    rw [← Option.some.inj hf]
  | some e =>
    rw [State.recallFails, he] at hf
    dsimp only at hf ⊢
    have hmay : (s.mayRecall x e = false) ↔
        x.heldDrawer ≠ some e.source ∧ (x.supervises = false ∨ (s.holderOf e.source).isSome = true) := by
      rw [State.mayRecall]
      cases x.supervises <;> cases s.holderOf e.source <;> simp
    split at hf
    · rw [if_pos (hmay.2 ‹_›), ← Option.some.inj hf]
    · rw [if_neg fun hm => ‹¬ _› (hmay.1 hm)]
      split at hf
      · next hfull =>
        have hroom : s.journalRoom = false := decide_eq_false (Nat.not_lt.2 hfull)
        rw [if_pos hroom, ← Option.some.inj hf]
      · cases hf

/-- Settles O24: each accepted step is `transferOut_accepted`, `transferAccept_accepted` or `transferRecall_accepted`, and
each refusal is that of the model's own chain of checks. -/
theorem transfersMoveCash : Obligations.TransfersMoveCash := by
  unfold Obligations.TransfersMoveCash
  exact ⟨fun _ _ _ _ _ _ _ _ _ _ h hv hne has hset h1 hmax hplaces hshort htotal hroom hsound =>
      transferOut_accepted h hv hne has hset h1 hmax hplaces hshort htotal hroom hsound,
    fun _ _ _ _ _ _ _ _ h he htarget hpos hin hroom => transferAccept_accepted h he htarget hpos hin hroom,
    fun _ _ _ _ _ _ _ hcash he hw hmay hroom => transferRecall_accepted hcash he hw hmay hroom,
    fun _ _ _ _ _ h => ⟨fun _ _ _ hf => transferOut_refused h hf, fun _ hf => transferAccept_refused h hf,
      fun _ hf => transferRecall_refused h hf⟩⟩

end Sys2Proof.Machine
end

section
/-! PROOFS. Declared counts, accepted differences and forced balances (R69 to R71, R84 to R86). -/

namespace Sys2Proof.Machine

variable {s t u v : State} {a n k : Nat} {d : Drop} {x : Teller} {w : Drawer} {y : Declaration} {r : Record}
  {m : DownMessage} {counts : Counts}

theorem modifyKey_modifyKey {α : Type} {key : α → Nat} {k : Nat} {f g : α → α} {l : List α} (hf : ∀ x, key (f x) = key x) :
    modifyKey key k g (modifyKey key k f l) = modifyKey key k (fun x => g (f x)) l := by
  simp only [modifyKey, List.map_map]
  refine List.map_congr_left fun x _ => ?_
  by_cases h : key x = k <;> simp [h, hf]

theorem modifyDrawer_modifyDrawer {f g : Drawer → Drawer} (hf : ∀ z, (f z).number = z.number) :
    (s.modifyDrawer n f).modifyDrawer n g = s.modifyDrawer n fun z => g (f z) := by
  simp only [State.modifyDrawer, State.onCsu, modifyKey_modifyKey hf]

/-! ### A record, an answer and the exit from BALANCING -/

/-- The end of a count: its record, its answer, and the exit judged. -/
def State.afterCount (s : State) (a : Nat) (r : Record) (m : DownMessage) : State :=
  ((s.writeRecord r).handOver a m).judgeExit

theorem afterCount_csu : (s.afterCount a r m).csu = s.csu := by simp [State.afterCount]

/-- What the end of a count shows, from a state that differs in drawers and status marks. -/
theorem afterCount_effects (hh : s.Hears a d) (hu : u = { s with lpc := u.lpc, csu := u.csu })
    (hm : u.lpc.unmarked = s.lpc.unmarked) (ht : t = u.afterCount a r m) (hroom : s.journalTakes r.body = true) :
    t = { s with lpc := t.lpc, csu := t.csu, jnc := t.jnc, tkc := t.tkc, dyc := t.dyc } ∧ s.Wrote t r ∧ s.OnlyExit t ∧
      s.OnlyDropAndMarks t a ∧ ∃ k, t.dropAt a = some { d.told m with statusMark := k } := by
  have hjnc : u.jnc = s.jnc := by rw [hu]
  have htkc : u.tkc = s.tkc := by rw [hu]
  have hdyc : u.dyc = s.dyc := by rw [hu]
  have htouch : s.Touches t a fun d => d.take .running m := by
    rw [ht]
    exact (((State.Touches.of_marks hm).marks unmarked_writeRecord).handOver hh.2.1 m).marks unmarked_judgeExit
  refine ⟨?_, ?_, ?_, htouch.onlyDropAndMarks, touched_told htouch hh rfl rfl⟩
  · rw [ht, State.afterCount]
    apply State.eq_of_blocks <;> simp <;> rw [hu]
  · exact (wrote_writeRecord hjnc ((journalTakes_congr hjnc hdyc).trans hroom)).congr (by simp [ht, State.afterCount])
  · rw [ht]
    exact onlyExit_judgeExit (by simpa using hdyc)
      ((onlyReports_writeRecord (s := u) (r := r)).congr htkc.symm (by simp) (by simp))

/-! ### Taking differences (R71) -/

theorem inTotalRange_iff {i : Int} : inTotalRange i = true ↔ fits i := by
  rw [inTotalRange, decide_eq_true_iff]
  rfl

theorem differencesFit_iff : s.differencesFit w y = true ↔ s.Takes w y := by
  simp [State.differencesFit, differenceFits, inTotalRange_iff, State.Takes, and_assoc]

theorem takeDifferences_blocks {i j : Int} : s.takeDifferences n i j =
    { s with lpc := (s.takeDifferences n i j).lpc, csu := (s.takeDifferences n i j).csu } := by
  apply State.eq_of_blocks <;> simp

theorem unmarked_takeDifferences {i j : Int} : (s.takeDifferences n i j).lpc.unmarked = s.lpc.unmarked :=
  unmarked_judgeCashHigh n

/-- The differences are taken, after a change of the drawer that keeps its figures. -/
theorem takeDifferences_csu {i j : Int} {f : Drawer → Drawer} (hf : ∀ z, (f z).number = z.number) (hw : s.drawerAt n = some w)
    (ht : t.csu = ((s.modifyDrawer n f).takeDifferences n i j).csu) :
    t.csu = { s.csu with drawers := t.csu.drawers, netHome := s.csu.netHome + i, netForeign := s.csu.netForeign + j } ∧
      s.OnlyDrawer t n ∧ t.drawerAt n = some ((f w).balancedWith i j) := by
  obtain ⟨hcsu, hothers, hat⟩ := drawer_judged (s := s) (n := n) (w := w)
    (c := { s.csu with netHome := s.csu.netHome + i, netForeign := s.csu.netForeign + j })
    (f := fun z => { f z with
      home := { (f z).home with overShort := (f z).home.overShort + i }
      foreign := { (f z).foreign with overShort := (f z).foreign.overShort + j }
      balance := .balanced })
    (by simp only [State.modifyDrawer, State.onCsu_csu, modifyKey_modifyKey hf]) ht hf hw
  exact ⟨hcsu, hothers, hat⟩

theorem modifyDrawer_id : s.modifyDrawer n id = s := by
  simp [State.modifyDrawer, modifyKey, State.onCsu]

/-! ### COUNT-DECLARE (R84) -/

theorem exec_countDeclare (h : s.Hears a d) : exec (.countDeclare a counts) s = .next (s.countDeclare a counts) := by
  have hexec : exec (.countDeclare a counts) s = execCountDeclare a counts s := rfl
  rw [hexec, execCountDeclare, whileRunning_fromTeller_of_hears h]

/-- The JNC takes a COUNT record (R129). -/
theorem journalTakes_count {i : Nat} {p : Option (Nat × Nat)} {q j : Int} {o : Option Counts} {b : Bool} :
    s.journalTakes (.count i p q j o b) = true ↔ s.dyc.day ≠ .noDay ∧ s.jnc.counter < 65535 := by
  simp [State.journalTakes, postingKind, ordinaryKind, Config.reserveLimit]

theorem countProbe_check (hopen : s.dyc.day ≠ .noDay) : (if s.journalTakes countProbe = true then none
    else some Result.journalFull) = if 65535 ≤ s.jnc.counter then some .journalFull else none := by
  by_cases hfull : 65535 ≤ s.jnc.counter
  · rw [if_pos hfull, if_neg]
    exact fun h => Nat.not_lt.2 hfull (journalTakes_count.1 h).2
  · rw [if_neg hfull, if_pos]
    exact journalTakes_count.2 ⟨hopen, Nat.not_le.1 hfull⟩

theorem countsInRange_eq_false {table : List Nat} {l : List (Nat × Nat)} :
    countsInRange table l = false ↔ ∃ c ∈ l, 99999 < c.2 ∨ (c.2 ≠ 0 ∧ c.1 ∉ table) := by
  simp [countsInRange, imp_iff_not_or]

theorem countsWrong_iff : s.CountsWrong counts ↔
    (!(countsInRange s.csu.denomHome counts.home && countsInRange s.csu.denomForeign counts.foreign)) = true := by
  rw [State.CountsWrong, ← countsInRange_eq_false, ← countsInRange_eq_false]
  cases countsInRange s.csu.denomHome counts.home <;> cases countsInRange s.csu.denomForeign counts.foreign <;> simp

theorem countRefusal_eq (hw : x.heldDrawer.bind s.drawerAt = some w) : s.countRefusal w counts = s.countFails x counts := by
  rw [State.countFails, hw, State.countRefusal]
  dsimp only
  split
  · rfl
  · next hday =>
    have hopen : s.dyc.day ≠ .noDay := by
      rw [not_or, not_not] at hday
      rw [hday.1]
      decide
    split
    · rfl
    · by_cases hwrong : s.CountsWrong counts
      · rw [if_pos (countsWrong_iff.1 hwrong), if_pos hwrong]
      · rw [if_neg fun h => hwrong (countsWrong_iff.2 h), if_neg hwrong]
        exact countProbe_check hopen

theorem countDeclare_refused {q : Result} (h : s.Cashier a d x) (hf : s.countFails x counts = some q) :
    s.OnlyAnswers (.countDeclare a counts) a d q := by
  have hh := hears_of_cashier h
  refine onlyAnswers_of hh ?_
  rw [exec_countDeclare hh, State.countDeclare]
  cases hw : x.heldDrawer.bind s.drawerAt with
  | none =>
    rw [State.countFails, hw] at hf
    rw [asHolder_none h hw, ← Option.some.inj hf]
  | some w => rw [asHolder_of_holds h hw, countRefusal_eq hw, hf]

theorem countFails_none (h : s.Holds a d x n w) (hday : s.dyc.day = .balancing) (hbal : w.balance = .due ∨ w.balance = .held)
    (htransit : ∀ e ∈ s.csu.transit, e.source ≠ n ∧ e.target ≠ n) (hhome : countsInRange s.csu.denomHome counts.home = true)
    (hforeign : countsInRange s.csu.denomForeign counts.foreign = true) (hroom : s.jnc.counter < 65535) :
    s.countRefusal w counts = none := by
  obtain ⟨-, -, hw⟩ := h
  have hnames : s.transitNames w.number = false := by
    rw [drawerAt_number hw]
    simpa [State.transitNames] using htransit
  have hnot : ¬(s.dyc.day ≠ .balancing ∨ (w.balance ≠ .due ∧ w.balance ≠ .held)) := by
    rw [not_or, not_not, not_and_or, not_not, not_not]
    exact ⟨hday, hbal⟩
  have htakes : s.journalTakes countProbe = true := journalTakes_count.2 ⟨by rw [hday]; decide, hroom⟩
  rw [State.countRefusal, if_neg hnot]
  simp [hnames, hhome, hforeign, htakes]

/-- The declaration within both tolerances and in range (R70, R71). -/
def State.Within (s : State) (w : Drawer) (y : Declaration) : Prop :=
  y.diffHome.natAbs ≤ s.dyc.params.toleranceHome ∧ y.diffForeign.natAbs ≤ s.dyc.params.toleranceForeign ∧ s.Takes w y

theorem within_iff : (s.declarationWithin y && s.differencesFit w y) = true ↔ s.Within w y := by
  rw [Bool.and_eq_true, differencesFit_iff]
  simp [State.declarationWithin, withinTolerance, State.Within, and_assoc]

/-- A declaration is formed from the counts and the positions. -/
theorem declare_eq (h1 : y.teller = x.number) (h2 : y.counts = counts)
    (h3 : y.declaredHome = (s.csu.denomHome.map fun v => countOf counts.home v * v).sum)
    (h4 : y.declaredForeign = (s.csu.denomForeign.map fun v => countOf counts.foreign v * v).sum)
    (h5 : y.diffHome = y.declaredHome - w.home.position) (h6 : y.diffForeign = y.declaredForeign - w.foreign.position) :
    s.declare x w counts = y := by
  cases y
  simp_all [State.declare, declaredAmount]

theorem countDeclare_accepted (h : s.Holds a d x n w) (hn : s.countRefusal w counts = none) (hy : s.declare x w counts = y) :
    exec (.countDeclare a counts) s = .next (s.acceptCount a w y) := by
  have hcash : s.Cashier a d x := h.1
  rw [exec_countDeclare (hears_of_cashier hcash), State.countDeclare, asHolder_of_holds hcash (held_of_holds h), hn, hy]

theorem acceptCount_within (hin : s.Within w y) : s.acceptCount a w y =
    ((s.modifyDrawer w.number fun z => { z with declaration := some y }).takeDifferences w.number y.diffHome
      y.diffForeign).afterCount a (countRecord a w.number y none)
      (.answer .done (.counted .balanced y.diffHome y.diffForeign)) := by
  rw [State.acceptCount]
  exact if_pos (within_iff.2 hin)

theorem acceptCount_beyond (hout : ¬ s.Within w y) : s.acceptCount a w y =
    (s.modifyDrawer w.number fun z => { z with declaration := some y, balance := .held }).handOver a
      (.answer .done (.counted .held y.diffHome y.diffForeign)) := by
  rw [State.acceptCount]
  refine (if_neg fun h => hout (within_iff.1 h)).trans (congrArg (State.handOver · a _) ?_)
  exact modifyDrawer_modifyDrawer fun _ => rfl

/-- Settles O25: the refusals are those of `countRefusal_eq`, and the accepted declaration is within or beyond. -/
theorem countIsDeclared : Obligations.CountIsDeclared := by
  unfold Obligations.CountIsDeclared
  refine ⟨fun _ _ _ _ _ _ h hf => countDeclare_refused h hf, ?_⟩
  intro s a n counts d x w y h hday hbal htransit hhome hforeign hroom h1 h2 h3 h4 h5 h6
  have hexec := countDeclare_accepted h (countFails_none h hday hbal htransit hhome hforeign hroom)
    (declare_eq h1 h2 h3 h4 h5 h6)
  have ⟨hcash, _, hw⟩ := h
  have hh := hears_of_cashier hcash
  obtain rfl : w.number = n := drawerAt_number hw
  dsimp only
  by_cases hin : s.Within w y
  · rw [acceptCount_within hin] at hexec
    obtain ⟨hblocks, hwrote, hexit, honly, m, hdrop⟩ := afterCount_effects hh
      (by apply State.eq_of_blocks <;> simp) unmarked_takeDifferences rfl
      (journalTakes_count.2 ⟨by rw [hday]; decide, hroom⟩)
      (u := (s.modifyDrawer w.number fun z => { z with declaration := some y }).takeDifferences w.number y.diffHome
        y.diffForeign) (r := countRecord a w.number y none)
      (m := .answer .done (.counted .balanced y.diffHome y.diffForeign))
    obtain ⟨hcsu, hothers, hat⟩ := takeDifferences_csu (s := s) (f := fun z => { z with declaration := some y })
      (fun _ => rfl) hw (afterCount_csu (a := a) (r := countRecord a w.number y none)
        (m := .answer .done (.counted .balanced y.diffHome y.diffForeign)))
    refine ⟨_, m, hexec, hblocks, hothers, by rw [hcsu], honly, hexit, fun _ => ⟨hat, by rw [hcsu], by rw [hcsu], ?_, hdrop⟩,
      fun hout => absurd hin hout⟩
    rw [← h1, ← h2]
    exact hwrote
  · rw [acceptCount_beyond hin] at hexec
    obtain ⟨u, hu⟩ : ∃ u, u = s.modifyDrawer w.number fun z => { z with declaration := some y, balance := .held } :=
      ⟨_, rfl⟩
    rw [← hu] at hexec
    have hlpc : u.lpc = s.lpc := by simp [hu]
    have huh : u.Hears a d := by rw [hu]; exact hh
    have hat : ∀ j, u.drawerAt j = (s.drawerAt j).map fun z => if j = w.number then
        { z with declaration := some y, balance := .held } else z := by
      intro j
      rw [hu]
      exact drawerAt_modifyDrawer fun _ h => h
    obtain ⟨-, -, htold⟩ := onlyTold_handOver (m := .answer .done (.counted .held y.diffHome y.diffForeign)) huh
    have htouch := (State.Touches.of_marks (s := s) (a := a) (unmarked_congr hlpc)).handOver hh.2.1
      (.answer .done (.counted .held y.diffHome y.diffForeign))
    refine ⟨_, true, hexec, ?_, fun j hj => ?_, ?_, htouch.onlyDropAndMarks, ⟨fun _ => ⟨?_, ?_⟩, fun hne => ?_⟩,
      fun h => absurd h hin, fun _ => ⟨?_, ?_, ?_, ?_, ?_, htold⟩⟩
    · subst hu; rfl
    · exact (hat j).trans (by simp [hj])
    · subst hu; rfl
    · subst hu; rfl
    · subst hu; exact .refl s
    · subst hu; exact absurd rfl hne
    · exact (hat w.number).trans (by simp [hw])
    · subst hu; rfl
    · subst hu; rfl
    · subst hu; rfl
    · subst hu; rfl

/-! ### ACCEPT-DIFFERENCE and FORCE-BALANCE (R85, R86) -/

theorem exec_acceptDifference (h : s.Supervises a d x) :
    exec (.acceptDifference a n) s = .next (s.acceptDifference a n) := by
  have hexec : exec (.acceptDifference a n) s = execAcceptDifference a n s := rfl
  rw [hexec, execAcceptDifference, whileRunning_fromTeller_of_hears h.1.1]

theorem exec_forceBalance (h : s.Supervises a d x) : exec (.forceBalance a n) s = .next (s.forceBalance a n) := by
  have hexec : exec (.forceBalance a n) s = execForceBalance a n s := rfl
  rw [hexec, execForceBalance, whileRunning_fromTeller_of_hears h.1.1]

theorem heldDrawerAt_some (hw : s.drawerAt n = some w) (hb : w.balance = .held) (hy : w.declaration = some y) :
    s.heldDrawerAt n = some (w, y) := by
  simp [State.heldDrawerAt, hw, hb, hy, Option.filter]

theorem heldDrawerAt_none (h : ∀ w, s.drawerAt n = some w → w.balance ≠ .held) : s.heldDrawerAt n = none := by
  cases hw : s.drawerAt n with
  | none => simp [State.heldDrawerAt, hw]
  | some w => simp [State.heldDrawerAt, hw, h w hw, Option.filter]

theorem acceptDifference_held (h : s.Supervises a d x) (hw : s.heldDrawerAt n = some (w, y)) :
    s.acceptDifference a n =
      if w.assigned = some x.number then s.answer a .samePerson
      else if s.differencesFit w y = false then s.answer a .notPermitted
      else if s.journalTakes countProbe = false then s.answer a .journalFull
      else (s.takeDifferences n y.diffHome y.diffForeign).afterCount a (countRecord a n y (some x.number))
        (.answer .done .nothing) := by
  rw [State.acceptDifference, asSupervisor_of_supervises h, hw]
  rfl

theorem acceptDifference_refused {q : Result} (h : s.Supervises a d x) (hf : s.DifferenceFails x n q) :
    s.OnlyAnswers (.acceptDifference a n) a d q := by
  refine onlyAnswers_of h.1.1 ?_
  rw [exec_acceptDifference h]
  rcases hf with ⟨hnone, rfl⟩ | ⟨w, y, hw, hb, hy, hrest⟩
  · rw [State.acceptDifference, asSupervisor_of_supervises h, heldDrawerAt_none hnone]
  · rw [acceptDifference_held h (heldDrawerAt_some hw hb hy)]
    rcases hrest with ⟨hsame, rfl⟩ | ⟨hother, hfits, rfl⟩ | ⟨hother, hfits, hjournal, rfl⟩
    · rw [if_pos hsame]
    · rw [if_neg hother, if_pos (Bool.eq_false_iff.2 fun hc => hfits (differencesFit_iff.1 hc))]
    · have htakes : s.journalTakes countProbe = false := by
        rw [Bool.eq_false_iff]
        intro hc
        obtain ⟨hday, hroom⟩ := journalTakes_count.1 hc
        exact hjournal.elim hday fun hfull => Nat.not_le.2 hroom hfull
      rw [if_neg hother, if_neg (Bool.not_eq_false _ ▸ differencesFit_iff.2 hfits), if_pos htakes]

theorem forceRefusal_eq : s.forceRefusal n = s.forceFails n := by
  rw [State.forceFails, State.forceRefusal]
  cases hw : s.drawerAt n with
  | none => simp
  | some w =>
    by_cases hday : s.dyc.day = .balancing
    · have hcheck := countProbe_check (s := s) (by rw [hday]; decide)
      simp [hday, hcheck]
    · simp [hday]

theorem forceBalance_refused {q : Result} (h : s.Supervises a d x) (hf : s.forceFails n = some q) :
    s.OnlyAnswers (.forceBalance a n) a d q := by
  refine onlyAnswers_of h.1.1 ?_
  rw [exec_forceBalance h, State.forceBalance, asSupervisor_of_supervises h, forceRefusal_eq, hf]

/-- Settles O26: an accepted difference is taken as `takeDifferences_csu` says, a forced balance moves no figure, and the
refusals follow the model's chains of checks. -/
theorem differenceIsAcceptedOrForced : Obligations.DifferenceIsAcceptedOrForced := by
  unfold Obligations.DifferenceIsAcceptedOrForced
  refine ⟨?_, ?_, fun _ _ _ _ _ _ h => ⟨acceptDifference_refused h, forceBalance_refused h⟩⟩
  · intro s a n d x w y h hw hb hy hassigned hfits hday hroom
    have htakes : s.journalTakes countProbe = true := journalTakes_count.2 ⟨hday, hroom⟩
    have hexec := exec_acceptDifference (n := n) h
    rw [acceptDifference_held h (heldDrawerAt_some hw hb hy), if_neg hassigned,
      if_neg (Bool.not_eq_false _ ▸ differencesFit_iff.2 hfits), if_neg (Bool.not_eq_false _ ▸ htakes)] at hexec
    obtain ⟨hblocks, hwrote, hexit, honly, m, hdrop⟩ := afterCount_effects h.1.1 takeDifferences_blocks
      unmarked_takeDifferences rfl (journalTakes_count.2 ⟨hday, hroom⟩)
      (u := s.takeDifferences n y.diffHome y.diffForeign) (r := countRecord a n y (some x.number)) (m := .answer .done .nothing)
    obtain ⟨hcsu, hothers, hat⟩ := takeDifferences_csu (s := s) (f := id) (fun _ => rfl) hw
      (t := (s.takeDifferences n y.diffHome y.diffForeign).afterCount a (countRecord a n y (some x.number))
        (.answer .done .nothing)) (by rw [afterCount_csu, modifyDrawer_id])
    exact ⟨_, m, hexec, hblocks, hothers, by rw [hcsu], hat, by rw [hcsu], by rw [hcsu], hwrote, hexit, honly, hdrop⟩
  · intro s a n d x w h hday hw hb hholder htransit hroom
    have hopen : s.dyc.day ≠ .noDay := by rw [hday]; decide
    have hnone : s.forceRefusal n = none := by
      have hnames : s.transitNames n = false := by simpa [State.transitNames] using htransit
      simp [forceRefusal_eq, State.forceFails, hday, hw, hb, hholder, hnames, Nat.not_le.2 hroom]
    have hexec := exec_forceBalance (n := n) h
    rw [State.forceBalance, asSupervisor_of_supervises h, hnone] at hexec
    obtain ⟨hblocks, hwrote, hexit, honly, m, hdrop⟩ := afterCount_effects h.1.1
      (u := s.modifyDrawer n fun z => { z with balance := .balanced }) rfl rfl rfl (journalTakes_count.2 ⟨hopen, hroom⟩)
      (r := forcedRecord a n (some x.number)) (m := .answer .done .nothing)
    exact ⟨_, m, hexec, hblocks, afterCount_csu, hwrote, hexit, honly, hdrop⟩

end Sys2Proof.Machine
end

section
/-! PROOFS. Sign-on, sign-off and the forced sign-off (R24 to R26, R29). -/

namespace Sys2Proof.Machine

variable {s t u v : State} {a b n k : Nat} {d e : Drop} {x sup : Teller} {m : DownMessage} {o : Option Nat}
  {body : RecordBody}

/-! ### A status mark that is set stays set -/

theorem queueStatus_marked (h : e.statusMark = true) : e.queueStatus = e := by
  rw [Drop.queueStatus_eq, h, Bool.true_or, ← h]

theorem queueStatus_teller (h : e.kind = .teller) : e.queueStatus = { e with statusMark := true } := if_pos h

theorem dropAt_judgeExit_marked (hd : s.dropAt b = some e) (hm : e.statusMark = true) : s.judgeExit.dropAt b = some e := by
  rcases lpc_judgeExit (s := s) with h | h
  · rw [dropAt_congr h, hd]
  · rw [dropAt_congr (s := s.queueStatusAll) h, dropAt_queueStatusAll, hd]
    exact congrArg some (queueStatus_marked hm)

/-- A usable TELLER drop gets a status line queued and a message. -/
theorem dropAt_queued_told (hl : u.lpc.loop = .running) (hd : u.dropAt a = some e) (hk : e.kind = .teller)
    (hc : e.canReceive = true) (hn : e.outbound.length < 3) :
    ((u.queueStatus a).handOver a m).dropAt a = some (({ e with statusMark := true } : Drop).told m) := by
  have hloop : (u.queueStatus a).lpc.loop = .running := hl
  have htake : ({ e with statusMark := true } : Drop).take .running m = ({ e with statusMark := true } : Drop).told m :=
    Drop.take_told hc hn
  rw [dropAt_handOver, dropAt_queueStatus, hd, hloop]
  simp [queueStatus_teller hk, htake]

/-! ### The record of a session -/

theorem journalTakes_session (hb : body = .signOn ∨ body = .signOff) :
    s.journalTakes body = true ↔ s.dyc.day ≠ .noDay ∧ s.jnc.counter < 65535 := by
  rcases hb with rfl | rfl <;> simp [State.journalTakes, postingKind, ordinaryKind, Config.reserveLimit]

theorem sessionRoom_of (hb : body = .signOn ∨ body = .signOff) (h : s.SessionRoom x) : s.sessionRoom x body = true := by
  rw [State.sessionRoom, Bool.or_eq_true, journalTakes_session hb]
  exact h

theorem unmarked_sessionRecord : (s.sessionRecord x body a o).lpc.unmarked = s.lpc.unmarked := by
  unfold State.sessionRecord
  split
  · rfl
  · exact unmarked_writeRecord

/-- The session record is written for a teller who is not in training, and reports no more than the counter. -/
theorem sessionRecord_recorded (hb : body = .signOn ∨ body = .signOff) (h : s.SessionRoom x) :
    s.SessionRecorded (s.sessionRecord x body a o) x body a o ∧ s.OnlyReports (s.sessionRecord x body a o) := by
  unfold State.sessionRecord State.SessionRecorded
  cases ht : x.training with
  | true => exact ⟨⟨fun _ => rfl, fun h => absurd h (by decide)⟩, .refl s⟩
  | false =>
    have hopen := h.resolve_left (by rw [ht]; decide)
    exact ⟨⟨fun h => absurd h (by decide), fun _ => wrote_writeRecord rfl ((journalTakes_session hb).2 hopen)⟩,
      onlyReports_writeRecord⟩

theorem State.SessionRecorded.congr (h : s.SessionRecorded t x body a o) (hj : u.jnc = t.jnc) :
    s.SessionRecorded u x body a o :=
  ⟨fun ht => hj.trans (h.1 ht), fun ht => (h.2 ht).congr hj⟩

/-! ### SIGN-ON (R24, R25) -/

theorem exec_signOn (h : s.Hears a d) : exec (.signOn a n k) s = .next (s.signOn a n k) := by
  have hexec : exec (.signOn a n k) s = execSignOn a n k s := rfl
  rw [hexec, execSignOn, whileRunning_fromTeller_of_hears h]

theorem keyOn_of_hears (h : s.Hears a d) (hkey : d.sigs.keyOperate.confirmed = true) : s.keyOn a = true := by
  obtain ⟨-, -, hd, -⟩ := h
  simp [State.keyOn, State.dropIs, hd, hkey]

/-- In OPEN a SIGN-ON of a teller of the table at a free drop meets checks 5 to 9. -/
theorem signOn_checks (h : s.Hears a d) (hkey : d.sigs.keyOperate.confirmed = true) (hday : s.dyc.day = .opened)
    (hat : s.tellerAt a = none) (hx : s.tellerOf n = some x) : s.signOn a n k = s.checkSignOn a x k := by
  simp [State.signOn, keyOn_of_hears h hkey, hday, signOnDay, hat, hx]

theorem drawerTaken_iff : s.drawerTaken x = true ↔
    ∃ j w, x.training = false ∧ x.drawer = some j ∧ s.holderOf j = some w ∧ w.number ≠ x.number := by
  cases ht : x.training <;> cases hj : x.drawer <;> simp [State.drawerTaken, ht, hj, Option.any_eq_true]

theorem signedOn_signedOff (h : x.session = .signedOff) : x.signedOn = false := by simp [Teller.signedOn, h]

theorem checkSignOn_begins (hs : x.session = .signedOff) (hfree : s.drawerTaken x = false) (hroom : s.SessionRoom x) :
    s.checkSignOn a x x.check = s.beginSession a x := by
  simp [State.checkSignOn, hs, signedOn_signedOff hs, hfree, sessionRoom_of (.inl rfl) hroom]

/-- The state of a sign-on with its record and its drawer assigned. -/
def State.begun (s : State) (a : Nat) (x : Teller) : State :=
  ((s.modifyTeller x.number fun y => y.begin a).sessionRecord x .signOn a none).assignDrawer x

theorem beginSession_eq : s.beginSession a x =
    ((s.begun a x).queueStatus a).handOver a (.answer .done (.signedOn x.role x.training x.drawer)) := rfl

theorem unmarked_begun : (s.begun a x).lpc.unmarked = s.lpc.unmarked :=
  (unmarked_congr (by simp [State.begun])).trans
    (unmarked_sessionRecord (s := s.modifyTeller x.number fun y => y.begin a) (x := x) (body := .signOn) (a := a) (o := none))

theorem begun_csu : (s.begun a x).csu = if x.training = true then s.csu else match x.drawer with
    | none => s.csu
    | some j => { s.csu with
        drawers := modifyKey Drawer.number j (fun w => { w with assigned := some x.number }) s.csu.drawers } := by
  unfold State.begun State.assignDrawer
  cases x.training <;> cases x.drawer <;> simp [State.modifyDrawer]

/-- An accepted SIGN-ON. -/
theorem beginSession_effects (h : s.Hears a d) (hroom : s.SessionRoom x) (ht : t = s.beginSession a x) :
    t = { s with lpc := t.lpc, rqu := t.rqu, csu := t.csu, jnc := t.jnc, tkc := t.tkc } ∧
      t.rqu = { s.rqu with tellers := modifyKey Teller.number x.number (fun y => y.begin a) s.rqu.tellers } ∧
      s.SessionRecorded t x .signOn a none ∧ t.csu = (s.begun a x).csu ∧ s.OnlyReports t ∧ s.OnlyDropAndMarks t a ∧
      t.dropAt a = some { d.told (.answer .done (.signedOn x.role x.training x.drawer)) with statusMark := true } := by
  rw [beginSession_eq] at ht
  obtain ⟨hrecorded, hreports⟩ := sessionRecord_recorded (s := s.modifyTeller x.number fun y => y.begin a) (a := a) (o := none)
    (.inl rfl) hroom
  have hjnc : (s.begun a x).jnc = ((s.modifyTeller x.number fun y => y.begin a).sessionRecord x .signOn a none).jnc := by
    simp [State.begun]
  have htkc : (s.begun a x).tkc = ((s.modifyTeller x.number fun y => y.begin a).sessionRecord x .signOn a none).tkc := by
    simp [State.begun]
  have htouch : s.Touches t a fun d => d.take .running (.answer .done (.signedOn x.role x.training x.drawer)) := by
    rw [ht]
    exact ((State.Touches.of_marks unmarked_begun).marks unmarked_queueStatus).handOver h.2.1 _
  obtain ⟨-, hl, hd, hk, hc, hn⟩ := h
  obtain ⟨i, hi⟩ := dropAt_unmarked_some (unmarked_begun (s := s) (a := a) (x := x)) hd
  have hloop : (s.begun a x).lpc.loop = .running := (State.Touches.of_marks (a := a) unmarked_begun).loopState.trans hl
  refine ⟨?_, ?_, ?_, by simp [ht], ?_, htouch.onlyDropAndMarks, ?_⟩
  · apply State.eq_of_blocks <;> simp [ht, State.begun]
  · simp [ht, State.begun, State.modifyTeller]
  · exact State.SessionRecorded.congr (t := (s.modifyTeller x.number fun y => y.begin a).sessionRecord x .signOn a none)
      hrecorded (by simp [ht, hjnc])
  · exact hreports.congr rfl (by simp [ht, htkc]) (by simp [ht, hjnc])
  · rw [ht, dropAt_queued_told hloop hi hk hc hn]
    rfl

/-- A wrong check value counts, and locks the teller out at the third (R25). -/
theorem wrongCheck_effects (h : s.Hears a d) (hx : s.tellerOf n = some x) (hs : x.session = .signedOff)
    (ht : t = (s.modifyTeller n Teller.fail).answer a (if 3 ≤ x.failures + 1 then .lockedOut else .credentialFail)) :
    t = { s with lpc := t.lpc, rqu := t.rqu } ∧ s.OnlyDrop t a ∧
      (∀ j, j ≠ n → t.tellerOf j = s.tellerOf j) ∧ t.rqu = { s.rqu with tellers := t.rqu.tellers } ∧
      t.tellerOf n = some { x with
        failures := x.failures + 1, session := if x.failures < 2 then .signedOff else .lockedOut } ∧
      t.dropAt a = some (d.told (.answer (if x.failures < 2 then .credentialFail else .lockedOut) .nothing)) := by
  have hh : (s.modifyTeller n Teller.fail).Hears a d := h
  have hat : ∀ j, t.tellerOf j = (s.tellerOf j).map fun y => if j = n then y.fail else y := fun j => by
    rw [ht]
    exact (tellerOf_congr (s := s.modifyTeller n Teller.fail) (by simp)).trans (tellerOf_modifyTeller fun _ h => h)
  have hanswer : (if 3 ≤ x.failures + 1 then Result.lockedOut else .credentialFail) =
      if x.failures < 2 then .credentialFail else .lockedOut := by
    by_cases hf : x.failures < 2
    · rw [if_pos hf, if_neg (by omega)]
    · rw [if_neg hf, if_pos (by omega)]
  have hsession : (if 3 ≤ x.failures + 1 then SessionState.lockedOut else x.session) =
      if x.failures < 2 then .signedOff else .lockedOut := by
    by_cases hf : x.failures < 2
    · rw [if_pos hf, if_neg (by omega), hs]
    · rw [if_neg hf, if_pos (by omega)]
  rw [hanswer] at ht
  obtain ⟨hblocks, honly, htold⟩ := onlyTold_handOver (m := .answer (if x.failures < 2 then .credentialFail else .lockedOut)
    .nothing) hh
  refine ⟨by rw [ht]; rfl, by rw [ht]; exact honly, fun j hj => by simp [hat, hj], by rw [ht]; rfl, ?_, by rw [ht]; exact htold⟩
  rw [hat, hx]
  simp only [Option.map_some, if_true, Teller.fail, hsession]

/-- Settles O21: a SIGN-ON passes its checks to `beginSession_effects`, fails its check value, or is refused in order. -/
theorem signOnBeginsOrIsRefused : Obligations.SignOnBeginsOrIsRefused := by
  unfold Obligations.SignOnBeginsOrIsRefused
  refine ⟨?_, ?_⟩
  · rintro s a n k d x h hkey hday hat hx hs rfl hfree hroom
    obtain rfl : x.number = n := tellerOf_number hx
    have hnot : s.drawerTaken x = false := by
      rw [Bool.eq_false_iff]
      intro hc
      obtain ⟨j, w, htrain, hj, hw, hne⟩ := drawerTaken_iff.1 hc
      exact hne (hfree htrain j w hj hw)
    obtain ⟨hblocks, hrqu, hrecorded, hcsu, hreports, honly, hdrop⟩ := beginSession_effects h hroom rfl
    refine ⟨_, ?_, hblocks, hrqu, hrecorded, hcsu.trans begun_csu, hreports, honly, hdrop⟩
    rw [exec_signOn h, signOn_checks h hkey hday hat hx, checkSignOn_begins hs hnot hroom]
  · intro s a n k d h hkey
    have hon := keyOn_of_hears h hkey
    have hrefuse : ∀ {r}, s.signOn a n k = s.answer a r → s.OnlyAnswers (.signOn a n k) a d r := fun hr =>
      onlyAnswers_of h (by rw [exec_signOn h, hr])
    refine ⟨fun hday => hrefuse ?_, fun h1 h2 h3 => hrefuse ?_, fun hday hat => hrefuse ?_, fun hday hat hx => hrefuse ?_,
      fun hday hat x hx => ?_⟩
    · rcases hday with hday | hday <;> simp [State.signOn, hon, hday, signOnDay]
    · cases hday : s.dyc.day with
      | noDay => exact absurd hday h1
      | loading => exact absurd hday h2
      | opened => exact absurd hday h3
      | closeProposed | closeDrain | balancing | sending | sendStalled | sent =>
        simp [State.signOn, hon, hday, signOnDay]
    · simp [State.signOn, hon, hday, signOnDay, hat]
    · simp [State.signOn, hon, hday, signOnDay, hat, hx]
    · have hchecks := signOn_checks (k := k) h hkey hday hat hx
      refine ⟨fun hs => hrefuse ?_, fun hs => hrefuse ?_, fun hs hk => ?_, fun hs hk => ⟨fun htaken => hrefuse ?_,
        fun hfree htrain hfull => hrefuse ?_⟩⟩
      · rw [hchecks, State.checkSignOn, if_pos hs]
      · have hnot : x.session ≠ .lockedOut := by
          intro hlocked
          rw [Teller.signedOn, hlocked] at hs
          exact absurd hs (by decide)
        rw [hchecks, State.checkSignOn, if_neg hnot, if_pos hs]
      · refine ⟨_, ?_, wrongCheck_effects h hx hs rfl⟩
        rw [exec_signOn h, hchecks, ← tellerOf_number hx]
        simp [State.checkSignOn, hs, signedOn_signedOff hs, hk]
      · rw [hchecks, hk]
        simp [State.checkSignOn, hs, signedOn_signedOff hs, drawerTaken_iff.2 htaken]
      · have hnot : s.drawerTaken x = false := by
          rw [Bool.eq_false_iff]
          intro hc
          obtain ⟨j, w, -, hj, hw, hne⟩ := drawerTaken_iff.1 hc
          exact hne (hfree j w hj hw)
        have hno : s.sessionRoom x .signOn = false := by
          rw [State.sessionRoom, htrain, Bool.false_or, Bool.eq_false_iff]
          exact fun hc => Nat.not_lt.2 hfull ((journalTakes_session (.inl rfl)).1 hc).2
        rw [hchecks, hk]
        simp [State.checkSignOn, hs, signedOn_signedOff hs, hnot, hno]

/-! ### SIGN-OFF and FORCE-SIGN-OFF (R26, R29) -/

theorem exec_signOff (h : s.Hears a d) : exec (.signOff a) s = .next (s.signOff a) := by
  have hexec : exec (.signOff a) s = execSignOff a s := rfl
  rw [hexec, execSignOff, whileRunning_fromTeller_of_hears h]

theorem asTeller_of_attends {f : Teller → State} (h : s.Attends a d x) : s.asTeller a f = f x := by
  obtain ⟨⟨_, _, hd, _⟩, hkey, hat⟩ := h
  exact asTeller_of hd hkey hat

theorem unmarked_clearRelease_finish :
    s.Touches (((s.sessionRecord x .signOff a o).modifyTeller x.number Teller.finish).clearRelease a) a
      fun d => { d with release := false } :=
  have hmarks : s.Touches ((s.sessionRecord x .signOff a o).modifyTeller x.number Teller.finish) a id :=
    .of_marks (unmarked_sessionRecord (s := s))
  hmarks.clearRelease

/-- The end of a session at a TELLER drop: the record, the session, the release and the status line (R26, R29). -/
theorem endTellerSession_effects (hd : s.dropAt b = some e) (hk : e.kind = .teller) (hroom : s.SessionRoom x)
    (hu : u = s.endTellerSession b x o) :
    u = { s with lpc := u.lpc, rqu := u.rqu, jnc := u.jnc, tkc := u.tkc } ∧
      u.rqu = { s.rqu with tellers := modifyKey Teller.number x.number Teller.ended s.rqu.tellers } ∧
      s.SessionRecorded u x .signOff b o ∧ s.OnlyReports u ∧ s.Touches u b (fun d => { d with release := false }) ∧
      u.dropAt b = some { e with release := false, statusMark := true } := by
  obtain ⟨hrecorded, hreports⟩ := sessionRecord_recorded (s := s) (x := x) (a := b) (o := o) (.inr rfl) hroom
  have htouch := (unmarked_clearRelease_finish (s := s) (a := b) (x := x) (o := o))
  obtain ⟨i, hi⟩ := htouch.dropAt hd
  subst hu
  refine ⟨?_, ?_, hrecorded.congr (by simp [State.endTellerSession]), hreports.congr rfl (by simp [State.endTellerSession])
    (by simp [State.endTellerSession]), htouch.marks unmarked_queueStatus, ?_⟩
  · apply State.eq_of_blocks <;> simp [State.endTellerSession]
  · simp [State.endTellerSession, State.modifyTeller]
    rfl
  · rw [State.endTellerSession, dropAt_queueStatus, hi]
    exact congrArg some ((if_pos rfl).trans (queueStatus_teller hk))

/-- A session that has ended at `b`, the answer to `a`, and the exit judged. -/
theorem endedAnswered_effects (hu : u = { s with lpc := u.lpc, rqu := u.rqu, jnc := u.jnc, tkc := u.tkc })
    (hreports : s.OnlyReports u) (ht : t = (u.answer a .done).judgeExit) :
    t = { s with lpc := t.lpc, rqu := t.rqu, jnc := t.jnc, tkc := t.tkc, dyc := t.dyc } ∧ t.rqu = u.rqu ∧
      t.jnc = u.jnc ∧ s.OnlyExit t := by
  have hdyc : u.dyc = s.dyc := by rw [hu]
  refine ⟨?_, by simp [ht], by simp [ht], ?_⟩
  · apply State.eq_of_blocks <;> simp [ht] <;> rw [hu]
  · rw [ht]
    exact onlyExit_judgeExit (by simpa using hdyc) (hreports.congr rfl (by simp) (by simp))

theorem drawerUnbalanced_eq : s.drawerUnbalanced x = true ↔
    s.dyc.day = .balancing ∧ ∃ w, x.heldDrawer.bind s.drawerAt = some w ∧ w.balance ≠ .balanced := by
  simp [State.drawerUnbalanced, Option.any_eq_true]

/-- An accepted SIGN-OFF. -/
theorem signOff_accepted (h : s.Attends a d x) (hroom : s.SessionRoom x)
    (ht : t = ((s.endTellerSession a x none).answer a .done).judgeExit) :
    t = { s with lpc := t.lpc, rqu := t.rqu, jnc := t.jnc, tkc := t.tkc, dyc := t.dyc } ∧
      t.rqu = { s.rqu with tellers := modifyKey Teller.number x.number Teller.ended s.rqu.tellers } ∧
      s.SessionRecorded t x .signOff a none ∧ s.OnlyExit t ∧ s.OnlyDropAndMarks t a ∧
      t.dropAt a = some { d.told (.answer .done .nothing) with release := false, statusMark := true } := by
  have ⟨hh, _, _⟩ := h
  have ⟨_, hl, hd, hk, hc, hn⟩ := hh
  obtain ⟨hblocks, hrqu, hrecorded, hreports, htouch, hdrop⟩ := endTellerSession_effects hd hk hroom (o := none) rfl
  obtain ⟨htblocks, htrqu, htjnc, hexit⟩ := endedAnswered_effects hblocks hreports ht
  have htold := (htouch.handOver hl (.answer .done .nothing)).marks unmarked_judgeExit
  refine ⟨htblocks, htrqu.trans hrqu, hrecorded.congr htjnc, hexit, ?_, ?_⟩
  · rw [ht]
    exact htold.onlyDropAndMarks
  · rw [ht]
    refine dropAt_judgeExit_marked ?_ rfl
    rw [State.answer, dropAt_handOver, hdrop, htouch.loopState, hl]
    exact congrArg some ((if_pos rfl).trans (Drop.take_told hc hn))

theorem exec_forceSignOff (h : s.Hears a d) : exec (.forceSignOff a n) s = .next (s.forceSignOff a n) := by
  have hexec : exec (.forceSignOff a n) s = execForceSignOff a n s := rfl
  rw [hexec, execForceSignOff, whileRunning_fromTeller_of_hears h]

theorem forceSignOff_other (h : s.Supervises a d sup) (hx : s.tellerOf n = some x) (hs : x.signedOn = true)
    (hb : x.station = some b) (hne : a ≠ b) : s.forceSignOff a n =
      if (s.txnAt b).any (fun y => y.stage != .answered) then s.answer a .inFlight
      else if s.sessionRoom x .signOff then
        (((s.discardReply b).endTellerSession b x (some sup.number)).answer a .done).judgeExit
      else s.answer a .journalFull := by
  rw [State.forceSignOff, asSupervisor_of_supervises h]
  have hother : b ≠ a := fun h => hne h.symm
  simp [hx, hs, hb, Option.filter, hother]

theorem Drop.Unmarking.discardFinal : Drop.Unmarking Drop.discardFinal := ⟨fun _ => rfl, fun _ => rfl⟩

/-- A decided work item ends, and its reply is discarded wherever it stands (R29). -/
theorem discardReply_effects (s : State) (b : Nat) (e : Drop) :
    s.discardReply b = { s with lpc := (s.discardReply b).lpc, rqu := (s.discardReply b).rqu } ∧
      (s.discardReply b).rqu = { s.rqu with txns := eraseKey Txn.drop b s.rqu.txns } ∧
      ∃ f, s.Touches (s.discardReply b) b f ∧ f e = if (s.txnAt b).isSome = true then e.discardFinal else e := by
  unfold State.discardReply
  cases hw : (s.txnAt b).isSome with
  | true => exact ⟨rfl, rfl, Drop.discardFinal, ((State.Touches.refl s b).modify .discardFinal).congr rfl, rfl⟩
  | false =>
    have hnone : s.txnAt b = none := by simpa using hw
    refine ⟨rfl, ?_, id, .refl s b, rfl⟩
    rw [eraseKey_absent hnone]
    rfl

/-- An accepted FORCE-SIGN-OFF. -/
theorem forceSignOff_accepted (hh : s.Hears a d) (hne : a ≠ b) (he : s.dropAt b = some e) (hk : e.kind = .teller)
    (hroom : s.SessionRoom x) (ht : t = (((s.discardReply b).endTellerSession b x o).answer a .done).judgeExit) :
    ∃ e', t = { s with lpc := t.lpc, rqu := t.rqu, jnc := t.jnc, tkc := t.tkc, dyc := t.dyc } ∧
      t.rqu = { s.rqu with
        tellers := modifyKey Teller.number x.number Teller.ended s.rqu.tellers
        txns := eraseKey Txn.drop b s.rqu.txns } ∧
      s.SessionRecorded t x .signOff b o ∧ s.OnlyExit t ∧
      (∃ m, t.dropAt a = some { d.told (.answer .done .nothing) with statusMark := m }) ∧
      (∀ k, k ≠ a → k ≠ b → ∃ m, t.dropAt k = (s.dropAt k).map fun z => { z with statusMark := m }) ∧
      t.dropAt b = some e' ∧ e'.release = false ∧ e'.statusMark = true ∧ e'.state = e.state ∧
      ((s.txnAt b).isSome = true → e'.held = none ∧ (∀ m ∈ e'.outbound, isFinal m = false) ∧
        ∀ m ∈ e'.begun, isFinal m.msg = false) := by
  obtain ⟨hblocks0, hrqu0, f, htouch0, hf⟩ := discardReply_effects s b e
  obtain ⟨i, hi⟩ := htouch0.dropAt he
  have hkind : ∀ z : Drop, z = (if (s.txnAt b).isSome = true then e.discardFinal else e) → z.kind = e.kind ∧ z.state = e.state := by
    rintro z rfl
    split <;> exact ⟨rfl, rfl⟩
  obtain ⟨hkf, hsf⟩ := hkind _ hf
  obtain ⟨hblocks, hrqu, hrecorded, hreports, htouch, hdrop⟩ := endTellerSession_effects (s := s.discardReply b) (x := x) (o := o)
    hi (hkf.trans hk) (by rw [hblocks0]; exact hroom) rfl
  obtain ⟨v, hv⟩ : ∃ v, v = (s.discardReply b).endTellerSession b x o := ⟨_, rfl⟩
  rw [← hv] at hblocks hrqu hrecorded hreports htouch hdrop ht
  have hall : s.Touches v b fun z => { f z with release := false } :=
    ⟨(Drop.Unmarking.release false).comp htouch0.unmarking, htouch.loop.trans
      ((unmarked_modifyDrop_congr (.release false) htouch0.loop).trans
        (congrArg (fun w : State => w.lpc.unmarked) (modifyDrop_modifyDrop htouch0.unmarking.addr)))⟩
  obtain ⟨htblocks, htrqu, htjnc, hexit⟩ := endedAnswered_effects
    (u := v) (by rw [hblocks, hblocks0]) (by
      have hjnc : (s.discardReply b).tkc = s.tkc := by rw [hblocks0]
      exact hreports.congr hjnc.symm rfl rfl) ht
  have ⟨_, hl, hd, _, hc, hn⟩ := hh
  have hloop : v.lpc.loop = .running := hall.loopState.trans hl
  have hat : ∀ k, (v.answer a .done).dropAt k = (v.dropAt k).map fun z =>
      if k = a then z.take .running (.answer .done .nothing) else z := fun k => by
    rw [State.answer, dropAt_handOver, hloop]
  obtain ⟨-, hothers⟩ := hall.onlyDropAndMarks
  have hlate : ∀ k, ∃ m, t.dropAt k = ((v.answer a .done).dropAt k).map fun z => { z with statusMark := m } := by
    rw [ht]
    exact dropAt_unmarked unmarked_judgeExit
  refine ⟨{ { f e with statusMark := i } with release := false, statusMark := true }, htblocks, ?_, ?_, hexit, ?_,
    fun k hka hkb => ?_, ?_, rfl, rfl, hsf, fun hwork => ?_⟩
  · rw [htrqu, hrqu, hrqu0]
  · have hjnc0 : (s.discardReply b).jnc = s.jnc := by rw [hblocks0]
    refine State.SessionRecorded.congr (t := v) ⟨fun htrain => (hrecorded.1 htrain).trans hjnc0, fun htrain => ?_⟩ htjnc
    have hwrote := hrecorded.2 htrain
    rw [State.Wrote, hjnc0] at hwrote
    exact hwrote
  · obtain ⟨p, hp⟩ := hothers a hne
    obtain ⟨q, hq⟩ := hlate a
    refine ⟨q, ?_⟩
    have htake : ({ d with statusMark := p } : Drop).take .running (.answer .done .nothing) =
        ({ d with statusMark := p } : Drop).told (.answer .done .nothing) := Drop.take_told hc hn
    rw [hq, hat, hp, hd]
    simp [htake, Drop.told]
  · obtain ⟨p, hp⟩ := hothers k hkb
    obtain ⟨q, hq⟩ := hlate k
    refine ⟨q, ?_⟩
    rw [hq, hat, hp]
    cases s.dropAt k <;> simp [hka]
  · rw [ht]
    refine dropAt_judgeExit_marked ?_ rfl
    rw [hat, hdrop]
    simp [hne.symm]
  · rw [if_pos hwork] at hf
    simp [hf, Drop.discardFinal]

/-- Settles O22: the session ends as `signOff_accepted` and `forceSignOff_accepted` say, or the request is refused. -/
theorem signOffEnds : Obligations.SignOffEnds := by
  unfold Obligations.SignOffEnds
  refine ⟨fun s a d x h => ⟨fun hw => ?_, fun n w hw hday hn hat hbal => ?_, fun hw hroom hbal => ?_⟩, ?_⟩
  · refine onlyAnswers_of h.1 ?_
    rw [exec_signOff h.1, State.signOff, asTeller_of_attends h, if_pos hw]
  · refine onlyAnswers_of h.1 ?_
    have hun : s.drawerUnbalanced x = true := drawerUnbalanced_eq.2 ⟨hday, w, by rw [hn]; exact hat, hbal⟩
    rw [exec_signOff h.1, State.signOff, asTeller_of_attends h, if_neg (by rw [hw]; decide), if_pos hun]
  · have hun : ¬ s.drawerUnbalanced x = true := by
      rw [drawerUnbalanced_eq]
      rintro ⟨hday, w, hheld, hne⟩
      obtain ⟨n, hn, hat⟩ := Option.bind_eq_some_iff.1 hheld
      exact hne (hbal hday n w hn hat)
    refine ⟨_, ?_, signOff_accepted h hroom rfl⟩
    rw [exec_signOff h.1, State.signOff, asTeller_of_attends h, if_neg (by rw [hw]; decide), if_neg hun,
      if_pos (sessionRoom_of (.inr rfl) hroom)]
  · intro s a b n d e sup x h hx hs hb hne he hk
    have hh := h.1.1
    have hforce := forceSignOff_other h hx hs hb hne
    refine ⟨fun ⟨y, hy, hstage⟩ => ?_, fun hdone hroom => ?_⟩
    · refine onlyAnswers_of hh ?_
      rw [exec_forceSignOff hh, hforce, if_pos (by simp [hy, hstage])]
    · have hnone : ¬ (s.txnAt b).any (fun y => y.stage != .answered) = true := by
        rw [Option.any_eq_true]
        rintro ⟨y, hy, hstage⟩
        exact absurd (hdone y hy) (by simpa using hstage)
      rw [if_neg hnone, if_pos (sessionRoom_of (.inr rfl) hroom)] at hforce
      obtain ⟨e', hrest⟩ := forceSignOff_accepted hh hne he hk hroom (o := some sup.number) rfl
      rw [tellerOf_number hx] at hrest
      obtain ⟨hblocks, hrqu, hrest⟩ := hrest
      exact ⟨_, e', by rw [exec_forceSignOff hh, hforce], hblocks, hrqu, hrest⟩

end Sys2Proof.Machine
end

section
/-! PROOFS. The close proposal, its ends, and the entry into the drain (R161 to R164). -/

namespace Sys2Proof.Machine

variable {s t u : State} {a b n : Nat} {d e : Drop} {x : Teller} {y z : Txn} {m : DownMessage} {r : Result}

/-! ### A change of the day that is shown -/

theorem setDay_shown {day : DayState} (h : shownDay s.dyc.day ≠ shownDay day) :
    s.setDay day = (s.onDyc fun q => { q with day := day }).queueStatusAll := by
  simp only [State.setDay]
  exact if_neg h

/-- A message to a heard drop after a status line has been queued everywhere. -/
theorem dropAt_all_told (hh : s.Hears a d) (hu : u.lpc = s.queueStatusAll.lpc) :
    (u.handOver a m).dropAt a = some { d.told m with statusMark := true } ∧
      ∀ b, b ≠ a → (u.handOver a m).dropAt b = (s.dropAt b).map Drop.queueStatus := by
  obtain ⟨-, hl, hd, hk, hc, hn⟩ := hh
  have hloop : u.lpc.loop = .running := by rw [hu]; exact hl
  have htake : ({ d with statusMark := true } : Drop).take .running m = ({ d with statusMark := true } : Drop).told m :=
    Drop.take_told hc hn
  have hat : ∀ b, (u.handOver a m).dropAt b = (s.dropAt b).map fun z =>
      if b = a then z.queueStatus.take .running m else z.queueStatus := fun b => by
    rw [dropAt_handOver, dropAt_congr (s := s.queueStatusAll) hu, dropAt_queueStatusAll, hloop, Option.map_map]
    rfl
  refine ⟨?_, fun b hb => ?_⟩
  · rw [hat, hd]
    simp [queueStatus_teller hk, htake, Drop.told]
  · rw [hat]
    simp [hb]

/-! ### The proposal and its ends (R161 to R163) -/

theorem exec_closePropose (h : s.Supervises a d x) : exec (.closePropose a) s = .next (s.closePropose a) := by
  have hexec : exec (.closePropose a) s = execClosePropose a s := rfl
  rw [hexec, execClosePropose, whileRunning_fromTeller_of_hears h.1.1]

theorem exec_closeConfirm (h : s.Supervises a d x) : exec (.closeConfirm a) s = .next (s.closeConfirm a) := by
  have hexec : exec (.closeConfirm a) s = execCloseConfirm a s := rfl
  rw [hexec, execCloseConfirm, whileRunning_fromTeller_of_hears h.1.1]

theorem exec_closeWithdraw (h : s.Supervises a d x) : exec (.closeWithdraw a) s = .next (s.closeWithdraw a) := by
  have hexec : exec (.closeWithdraw a) s = execCloseWithdraw a s := rfl
  rw [hexec, execCloseWithdraw, whileRunning_fromTeller_of_hears h.1.1]

/-- Giving up the proposal shows OPEN at every TELLER drop. -/
theorem abandonClose_eq (hday : s.dyc.day = .closeProposed) : s.abandonClose =
    (s.onDyc fun q => { q with day := .opened, proposal := none }).queueStatusAll := by
  rw [State.abandonClose, setDay_shown (by rw [State.onDyc_dyc, hday]; decide)]
  rfl

theorem closePropose_opened (h : s.Supervises a d x) (hday : s.dyc.day = .opened) : s.closePropose a =
    (s.onDyc fun q => { q with
      day := .closeProposed, proposal := some ⟨x.number, none, .running 120⟩ }).queueStatusAll.answer a .done := by
  rw [State.closePropose, asSupervisor_of_supervises h, if_pos hday, setDay_shown (by rw [State.onDyc_dyc, hday]; decide)]
  rfl

theorem closeWithdraw_proposed (h : s.Supervises a d x) (hday : s.dyc.day = .closeProposed) :
    s.closeWithdraw a = s.abandonClose.answer a .done := by
  rw [State.closeWithdraw, asSupervisor_of_supervises h, if_pos hday]

theorem closeConfirm_proposed {p : Proposal} (h : s.Supervises a d x) (hday : s.dyc.day = .closeProposed)
    (hp : s.dyc.proposal = some p) : s.closeConfirm a =
      if p.proposer = x.number then s.abandonClose.answer a .samePerson else (s.answer a .done).enterDrain x.number := by
  rw [State.closeConfirm, asSupervisor_of_supervises h, if_neg (not_not.2 hday), hp]
  simp

/-! ### The holds that end with the entry into the drain (R36, R164) -/

/-- A work item after the entry into the drain: a hold is refused DAY-CLOSING. -/
def Txn.drained (y : Txn) : Txn :=
  if y.stage = .held then { y with
    stage := .answered, slot := none, outcome := some .dayClosing, limit := none, holdTimer := .stopped }
  else y

theorem Txn.drained_drained (y : Txn) : y.drained.drained = y.drained := by
  unfold Txn.drained
  split <;> simp_all

/-- A customer work item is undecided and not held. -/
def State.Undecided (s : State) : Prop := ∃ y ∈ s.rqu.txns, y.stage ≠ .answered ∧ y.stage ≠ .held

theorem judgeDrain_undecided (h : s.Undecided) : s.judgeDrain = s := by
  obtain ⟨y, hy, hne, -⟩ := h
  refine if_neg fun hc => ?_
  have hall := hc.2
  rw [State.noneUndecided, List.all_eq_true] at hall
  exact hne (by simpa using hall y hy)

theorem mem_putKey_of_other {α : Type} {key : α → Nat} {x y : α} {l : List α} (hy : y ∈ l)
    (hne : findKey key (key x) l ≠ some y) : y ∈ putKey key x l := by
  induction l with
  | nil => exact absurd hy List.not_mem_nil
  | cons z l ih =>
    rw [putKey]
    rw [findKey_cons] at hne
    split
    · exact List.mem_cons_of_mem _ hy
    · split
      · next heq =>
        rw [if_pos heq.symm] at hne
        exact List.mem_cons_of_mem _ ((List.mem_cons.1 hy).resolve_left fun h => hne (by rw [h]))
      · next hk =>
        rw [if_neg fun h => hk h.symm] at hne
        rcases List.mem_cons.1 hy with rfl | hy
        · exact List.mem_cons_self
        · exact List.mem_cons_of_mem _ (ih hy hne)

/-- Of two records put in at one key the later stands. -/
theorem putKey_putKey {α : Type} {key : α → Nat} {x x' : α} {l : List α} (h : key x' = key x) :
    putKey key x' (putKey key x l) = putKey key x' l := by
  induction l with
  | nil => simp [putKey, h]
  | cons z l ih =>
    rw [putKey, putKey, h]
    by_cases h1 : key x < key z
    · simp [h1, putKey, h]
    · by_cases h2 : key x = key z
      · simp [h2, putKey, h]
      · simp [h1, h2, putKey, h, ih]

theorem undecided_congr (h : s.Undecided) (ht : t.rqu.txns = s.rqu.txns) : t.Undecided := by
  rw [State.Undecided, ht]
  exact h

/-- The work item a refused hold becomes. -/
def Txn.closed (y : Txn) : Txn :=
  { y with stage := .answered, slot := none, outcome := some .dayClosing, limit := none, holdTimer := .stopped }

/-- A hold refused DAY-CLOSING, before the drain is judged. -/
def State.holdClosed (s : State) (y : Txn) : State :=
  ((((s.putTxn { y with stage := .checking, holdTimer := .stopped }).queueSupervisors).modifyTeller y.teller
    Teller.restore).handOver y.drop (.final { y.reply .dayClosing with note := none })).putTxn y.closed

theorem drainHold_eq : s.drainHold b = match s.heldAt b with
    | some y => (s.holdClosed y).judgeDrain
    | none => s := rfl

theorem holdClosed_txns : (s.holdClosed y).rqu.txns = putKey Txn.drop y.closed s.rqu.txns := by
  simp only [State.holdClosed, State.putTxn, State.onRqu_rqu, State.handOver_frame, State.modifyTeller,
    State.queueSupervisors_frame]
  exact putKey_putKey rfl

theorem heldAt_some (h : s.heldAt b = some y) : s.txnAt b = some y ∧ y.stage = .held := by
  simpa [State.heldAt, Option.filter_eq_some_iff] using h

theorem undecided_holdClosed (h : s.Undecided) (hy : s.heldAt b = some y) : (s.holdClosed y).Undecided := by
  obtain ⟨hat, hheld⟩ := heldAt_some hy
  obtain rfl : y.drop = b := txnAt_drop hat
  obtain ⟨w, hw, hne, hwh⟩ := h
  refine ⟨w, ?_, hne, hwh⟩
  rw [holdClosed_txns]
  refine mem_putKey_of_other hw ?_
  rw [show findKey Txn.drop y.closed.drop s.rqu.txns = some y from hat]
  exact fun h => hwh (Option.some.inj h ▸ hheld)

theorem holdClosed_blocks : s.holdClosed y = { s with lpc := (s.holdClosed y).lpc, rqu := (s.holdClosed y).rqu } := by
  apply State.eq_of_blocks <;> simp [State.holdClosed]

theorem txnAt_holdClosed (hy : s.heldAt b = some y) (c : Nat) :
    (s.holdClosed y).txnAt c = if c = b then some y.closed else s.txnAt c := by
  obtain rfl : y.drop = b := txnAt_drop (heldAt_some hy).1
  have hdrop : y.closed.drop = y.drop := rfl
  rw [State.txnAt, holdClosed_txns, findKey_putKey, hdrop]
  by_cases h : c = y.drop
  · rw [if_pos h.symm, if_pos h]
  · rw [if_neg fun e => h e.symm, if_neg h]
    rfl

/-- One step of ending the holds, while a work item is undecided. -/
theorem drainHold_effects (h : s.Undecided) : (s.drainHold b).Undecided ∧
    s.drainHold b = { s with lpc := (s.drainHold b).lpc, rqu := (s.drainHold b).rqu } ∧
    ∀ c, (s.drainHold b).txnAt c = if c = b then (s.txnAt c).map Txn.drained else s.txnAt c := by
  rw [drainHold_eq]
  cases hy : s.heldAt b with
  | some y =>
    obtain ⟨hat, hheld⟩ := heldAt_some hy
    have hu := undecided_holdClosed h hy
    dsimp only
    rw [judgeDrain_undecided hu]
    refine ⟨hu, holdClosed_blocks, fun c => ?_⟩
    rw [txnAt_holdClosed hy]
    by_cases hc : c = b
    · subst hc
      rw [if_pos rfl, if_pos rfl, hat]
      exact congrArg some (if_pos hheld).symm
    · rw [if_neg hc, if_neg hc]
  | none =>
    refine ⟨h, rfl, fun c => ?_⟩
    by_cases hc : c = b
    · subst hc
      rw [if_pos rfl]
      cases hat : s.txnAt c with
      | none => rfl
      | some z =>
        have hnot : z.stage ≠ .held := by simpa [State.heldAt, hat, Option.filter] using hy
        exact congrArg some (if_neg hnot).symm
    · rw [if_neg hc]

theorem foldl_drainHold_effects (l : List Nat) (h : s.Undecided) : (l.foldl State.drainHold s).Undecided ∧
    l.foldl State.drainHold s =
      { s with lpc := (l.foldl State.drainHold s).lpc, rqu := (l.foldl State.drainHold s).rqu } ∧
    ∀ c, (l.foldl State.drainHold s).txnAt c = if c ∈ l then (s.txnAt c).map Txn.drained else s.txnAt c := by
  induction l generalizing s with
  | nil => exact ⟨h, rfl, fun c => by simp⟩
  | cons b l ih =>
    obtain ⟨hu, hblocks, hat⟩ := drainHold_effects (b := b) h
    obtain ⟨hu', hblocks', hat'⟩ := ih hu
    refine ⟨hu', ?_, fun c => ?_⟩
    · rw [List.foldl_cons, hblocks', hblocks]
    · rw [List.foldl_cons, hat', hat]
      by_cases hb : c = b <;> by_cases hl : c ∈ l <;>
        simp [hb, hl, Option.map_map, Function.comp_def, Txn.drained_drained]

/-! ### The drop of the confirming supervisor -/

theorem dropAt_queueStatusFor_marked (l : List Nat) (hd : s.dropAt a = some e) (hm : e.statusMark = true) :
    (s.queueStatusFor l).dropAt a = some e := by
  induction l generalizing s with
  | nil => exact hd
  | cons b l ih =>
    refine ih (s := s.queueStatus b) ?_
    rw [dropAt_queueStatus, hd]
    by_cases h : a = b <;> simp [h, queueStatus_marked hm]

theorem dropAt_drainHold_marked (h : s.Undecided) (hd : s.dropAt a = some e) (hm : e.statusMark = true)
    (ha : ∀ y, s.txnAt a = some y → y.stage ≠ .held) : (s.drainHold b).dropAt a = some e := by
  rw [drainHold_eq]
  cases hy : s.heldAt b with
  | some y =>
    obtain ⟨hat, hheld⟩ := heldAt_some hy
    have hne : a ≠ y.drop := by
      rintro rfl
      rw [txnAt_drop hat] at ha
      exact ha y hat hheld
    dsimp only
    rw [judgeDrain_undecided (undecided_holdClosed h hy)]
    have hmarked := dropAt_queueStatusFor_marked (s := s.putTxn { y with stage := .checking, holdTimer := .stopped })
      ((s.rqu.tellers.filter fun t => t.signedOn && t.supervises).filterMap (·.station)) hd hm
    have hlast : (s.holdClosed y).dropAt a = (((s.putTxn { y with stage := .checking, holdTimer := .stopped
        }).queueSupervisors).handOver y.drop (.final { y.reply .dayClosing with note := none })).dropAt a := rfl
    rw [hlast, dropAt_handOver]
    exact (congrArg (Option.map _) hmarked).trans (by simp [hne])
  | none => exact hd

theorem dropAt_foldl_drainHold (l : List Nat) (h : s.Undecided) (hd : s.dropAt a = some e) (hm : e.statusMark = true)
    (ha : ∀ y, s.txnAt a = some y → y.stage ≠ .held) : (l.foldl State.drainHold s).dropAt a = some e := by
  induction l generalizing s with
  | nil => exact hd
  | cons b l ih =>
    obtain ⟨hu, -, hat⟩ := drainHold_effects (b := b) h
    refine ih hu (dropAt_drainHold_marked h hd hm ha) fun y hy => ?_
    rw [hat] at hy
    split at hy
    · obtain ⟨z, hz, rfl⟩ := Option.map_eq_some_iff.1 hy
      rw [Txn.drained, if_neg (ha z hz)]
      exact ha z hz
    · exact ha y hy

/-- Settles O27: the proposal and its ends change the day alone, and the second supervisor's confirmation ends the holds. -/
theorem closeIsProposedAndConfirmed : Obligations.CloseIsProposedAndConfirmed := by
  unfold Obligations.CloseIsProposedAndConfirmed
  refine ⟨fun s => ⟨fun a d x h => ⟨fun hday => ?_, fun hday => ?_, fun hday => ⟨?_, ?_⟩⟩, fun c hday hc => ?_⟩, ?_⟩
  · refine onlyAnswers_of h.1.1 ?_
    rw [exec_closePropose h, State.closePropose, asSupervisor_of_supervises h, if_neg hday]
  · refine ⟨_, (exec_closePropose h).trans (by rw [closePropose_opened h hday]), rfl, rfl, ?_⟩
    exact dropAt_all_told (m := .answer .done .nothing) h.1.1 rfl
  · refine onlyAnswers_of h.1.1 ?_
    rw [exec_closeWithdraw h, State.closeWithdraw, asSupervisor_of_supervises h, if_neg hday]
  · refine onlyAnswers_of h.1.1 ?_
    rw [exec_closeConfirm h, State.closeConfirm, asSupervisor_of_supervises h, if_pos hday]
  · have habandon := abandonClose_eq hday
    rcases hc with ⟨a, d, x, rfl, h⟩ | ⟨a, d, x, p, rfl, h, hp, hsame⟩ | ⟨p, n, rfl, hrun, hp, hw⟩
    · refine ⟨_, (exec_closeWithdraw h).trans (by rw [closeWithdraw_proposed h hday, habandon]), rfl, rfl, ?_,
        fun _ he => by cases he⟩
      rintro _ ⟨⟩ d' hd'
      obtain rfl : d = d' := Option.some.inj (h.1.1.2.2.1.symm.trans hd')
      exact (dropAt_all_told (m := .answer .done .nothing) h.1.1 rfl).1
    · refine ⟨_, (exec_closeConfirm h).trans (by rw [closeConfirm_proposed h hday hp, if_pos hsame, habandon]), rfl, rfl,
        (fun _ he => by cases he), ?_⟩
      rintro _ ⟨⟩ d' hd'
      obtain rfl : d = d' := Option.some.inj (h.1.1.2.2.1.symm.trans hd')
      exact (dropAt_all_told (m := .answer .samePerson .nothing) h.1.1 rfl).1
    · have hexec : exec .closeWindowExpiry s = .next (s.whileRunning State.windowExpiry) := rfl
      rw [whileRunning_of hrun, State.windowExpiry, if_pos ⟨hday, by simp [hp, hw]⟩, habandon] at hexec
      exact ⟨_, hexec, rfl, rfl, (fun _ he => by cases he), fun _ he => by cases he⟩
  · intro s a d x p h hday hp hne hund
    obtain ⟨s1, hs1⟩ : ∃ s1, s1 = ((s.answer a .done).onDyc fun q => { q with
      day := .closeDrain
      proposal := some { p with confirmer := some x.number, window := .stopped } }).queueStatusAll := ⟨_, rfl⟩
    have hdrain : (s.answer a .done).enterDrain x.number =
        ((s1.rqu.txns.map (·.drop)).foldl State.drainHold s1).judgeDrain := by
      have hset : (((s.answer a .done).onDyc fun q => { q with
          proposal := q.proposal.map fun p => { p with confirmer := some x.number, window := .stopped } }).setDay
          .closeDrain) = s1 := by
        rw [setDay_shown (by simp only [State.onDyc_dyc, State.answer_frame, hday]; decide), hs1]
        simp [State.onDyc, hp]
      simp only [State.enterDrain, hset]
    have hs1r : s1.rqu = s.rqu := by simp [hs1]
    have hundecided : s1.Undecided := by
      rw [State.Undecided, hs1r]
      obtain ⟨y, hy, hst⟩ := List.any_eq_true.1 hund
      exact ⟨y, hy, by simpa using hst⟩
    obtain ⟨hu, hblocks, hat⟩ := foldl_drainHold_effects (s1.rqu.txns.map (·.drop)) hundecided
    rw [judgeDrain_undecided hu] at hdrain
    have hlisted : ∀ b y, s.txnAt b = some y → b ∈ s1.rqu.txns.map (·.drop) := fun b y hy =>
      List.mem_map.2 ⟨y, by rw [hs1r]; exact findKey_mem hy, txnAt_drop hy⟩
    have hafter : ∀ b y, s.txnAt b = some y →
        ((s1.rqu.txns.map (·.drop)).foldl State.drainHold s1).txnAt b = some y.drained := fun b y hy => by
      rw [hat, if_pos (hlisted b y hy), txnAt_congr hs1r, hy]
      rfl
    refine ⟨_, (exec_closeConfirm h).trans (by rw [closeConfirm_proposed h hday hp, if_neg hne, hdrain]), ?_, ?_,
      fun b y hy hst => ?_, fun b y hy hst => ?_, fun hown => ?_⟩
    · rw [hblocks, hs1]
      rfl
    · rw [hblocks, hs1]
      simp
    · rw [hafter b y hy, Txn.drained, if_neg hst]
    · rw [hafter b y hy, Txn.drained, if_pos hst]
    · have htold : s1.dropAt a = some { d.told (.answer .done .nothing) with statusMark := true } := by
        have hh := h.1.1
        obtain ⟨-, -, hd⟩ := onlyTold_handOver (m := .answer .done .nothing) hh
        have hk : (d.told (.answer .done .nothing)).kind = .teller := hh.2.2.2.1
        rw [hs1, dropAt_queueStatusAll]
        exact (congrArg (Option.map _) hd).trans (congrArg some (queueStatus_teller hk))
      refine dropAt_foldl_drainHold _ hundecided htold rfl fun y hy => ?_
      rw [txnAt_congr hs1r] at hy
      rw [hy] at hown
      simpa using hown

end Sys2Proof.Machine
end

section
/-! PROOFS. The end of the drain and the exit from BALANCING (R83, R129, R164 to R167). -/

namespace Sys2Proof.Machine

variable {s t u : State} {a b n : Nat} {d e : Drop} {w : Drawer}

/-! ### The drawers that fall due (R83) -/

theorem dropAt_foldl_setRelease (l : List Nat) (s : State) : (l.foldl State.setRelease s).dropAt b =
    (s.dropAt b).map fun d => { d with release := d.release || decide (b ∈ l) } := by
  induction l generalizing s with
  | nil => cases h : s.dropAt b <;> simp [h]
  | cons c l ih =>
    rw [List.foldl_cons, ih, dropAt_setRelease, Option.map_map]
    refine Option.map_congr fun d _ => ?_
    by_cases h : b = c <;> simp [h]

/-- The drawers of the CSU once those that fall due are DUE. -/
def dueDrawers (l : List Drawer) : List Drawer := l.map fun w => if w.fallsDue then { w with balance := .due } else w

/-- The drops of the holders of the drawers that fall due. -/
def State.dueDrops (s : State) : List Nat :=
  (s.csu.drawers.filter Drawer.fallsDue).filterMap fun w => (s.holderOf w.number).bind (·.station)

theorem drawersDue_eq : s.drawersDue =
    s.dueDrops.foldl State.setRelease (s.onCsu fun c => { c with drawers := dueDrawers c.drawers }) := rfl

theorem csu_drawersDue : s.drawersDue.csu = { s.csu with drawers := dueDrawers s.csu.drawers } := by
  rw [drawersDue_eq]
  exact foldl_fixed (g := State.csu) (f := State.setRelease) (fun _ _ => rfl) _ _

theorem fallsDue_iff : w.fallsDue = true ↔ w.number = 0 ∨ w.assigned.isSome = true := by simp [Drawer.fallsDue]

theorem dueDrawers_eq (l : List Drawer) : dueDrawers l = l.map fun w =>
    if w.number = 0 ∨ w.assigned.isSome = true then { w with balance := .due } else w :=
  List.map_congr_left fun _ _ => if_congr fallsDue_iff rfl rfl

theorem release_drawersDue {x : Teller} (hw : w ∈ s.csu.drawers) (hdue : w.fallsDue = true) (hx : s.holderOf w.number = some x)
    (hb : x.station = some b) (he : s.drawersDue.dropAt b = some e) : e.release = true := by
  have hmem : b ∈ s.dueDrops :=
    List.mem_filterMap.2 ⟨w, List.mem_filter.2 ⟨hw, hdue⟩, by rw [hx]; exact hb⟩
  rw [drawersDue_eq, dropAt_foldl_setRelease] at he
  obtain ⟨d, -, rfl⟩ := Option.map_eq_some_iff.1 he
  simp [hmem]

/-- With a drawer DUE the exit from BALANCING is not made. -/
theorem judgeExit_due (hw : w ∈ s.csu.drawers) (hdue : w.balance = .due) : s.judgeExit = s := by
  refine if_neg fun hc => ?_
  have hall := hc.2.1
  rw [State.allBalanced, List.all_eq_true] at hall
  have hrest := hall w hw
  simp [hdue] at hrest

/-! ### The end of the drain (R165) -/

/-- The state of BALANCING before its drawers fall due. -/
def State.drained (s : State) : State :=
  ((s.captureCutoff.writeRecord (closeMark s.captureCutoff)).onDyc fun y => { y with proposal := none }).setDay .balancing

theorem endDrain_eq : s.endDrain = s.drained.drawersDue.judgeExit := rfl

theorem setDay_dyc (day : DayState) : (s.setDay day).dyc = { s.dyc with day := day } := by
  simp only [State.setDay]
  split <;> simp

theorem closeMark_captured : closeMark s.captureCutoff = entry (.closeMark s.jnc.counter) none
    (s.dyc.proposal.map Proposal.proposer) (s.dyc.proposal.bind Proposal.confirmer) := rfl

theorem drained_dyc : s.drained.dyc = { s.dyc with day := .balancing, cutoff := some s.jnc.counter, proposal := none } := by
  rw [State.drained, setDay_dyc]
  simp only [State.onDyc_dyc, State.writeRecord_frame]
  rfl

theorem drained_jnc (hday : s.dyc.day = .closeDrain) (hroom : s.jnc.counter < 65535) : s.drained.jnc = { s.jnc with
    postingsClosed := true, counter := s.jnc.counter + 1
    records := s.jnc.records ++ [{ entry (.closeMark s.jnc.counter) none (s.dyc.proposal.map Proposal.proposer)
        (s.dyc.proposal.bind Proposal.confirmer) with seq := s.jnc.counter + 1, stamp := s.jnc.clock }] } := by
  have htakes : s.captureCutoff.journalTakes (closeMark s.captureCutoff).body = true := by
    have hopen : s.captureCutoff.dyc.day = .closeDrain := hday
    have hcount : s.captureCutoff.jnc.counter = s.jnc.counter := rfl
    simp [State.journalTakes, closeMark, entry, postingKind, ordinaryKind, Config.reserveLimit, hopen, hcount, hroom]
  simp only [State.drained, State.setDay_frame, State.onDyc_jnc, jnc_writeRecord htakes]
  rfl

theorem drained_reports : s.OnlyReports s.drained := by
  refine (onlyReports_writeRecord (s := s.captureCutoff) (r := closeMark s.captureCutoff)).congr rfl ?_ ?_ <;>
    simp [State.drained]

/-! ### The exit (R166, R167) -/

theorem balancingOver_iff : s.BalancingOver ↔ s.allBalanced = true ∧ s.csu.transit = [] ∧ s.nobodySignedOn = true := by
  simp [State.BalancingOver, State.allBalanced, State.nobodySignedOn, List.all_eq_true]

/-- The state of SENDING before it may stall. -/
def State.sendingEntered (s : State) : State :=
  ((((s.onDyc fun y => { y with
    batch := some (newBatch s.jnc.records s.jnc.counter), blockTimer := .stopped, resumed := false }).setDay .sending
    ).freezeSfq).raise (.sending s.jnc.counter (recordBlocks s.jnc.counter + 1)))

theorem enterSending_eq : s.enterSending = s.sendingEntered.stallUnlessOnline := rfl

theorem sendingEntered_dyc : s.sendingEntered.dyc = { s.dyc with
    day := .sending, batch := some (newBatch s.jnc.records s.jnc.counter), blockTimer := .stopped, resumed := false } := by
  simp only [State.sendingEntered, State.raise_frame, State.freezeSfq_frame, setDay_dyc]
  rfl

theorem tkc_raise {c : Condition} : (s.raise c).tkc = { s.tkc with
    nodeQueue := if s.nodeRoom = true then s.tkc.nodeQueue ++ [⟨0, .nodeStatus c⟩] else s.tkc.nodeQueue
    waiting := if s.nodeRoom = true then s.tkc.waiting else some ⟨0, .nodeStatus c⟩ } := by
  unfold State.raise State.raiseTagged
  split <;> rfl

theorem sendingEntered_tkc : s.sendingEntered.tkc = { s.tkc with
    slot6 := freeAdviceSlot
    nodeQueue := if s.nodeRoom = true then
        s.tkc.nodeQueue ++ [⟨0, .nodeStatus (.sending s.jnc.counter (recordBlocks s.jnc.counter + 1))⟩]
      else s.tkc.nodeQueue
    waiting := if s.nodeRoom = true then s.tkc.waiting
      else some ⟨0, .nodeStatus (.sending s.jnc.counter (recordBlocks s.jnc.counter + 1))⟩ } := by
  obtain ⟨u, hu, htkc⟩ : ∃ u : State, s.sendingEntered = u.raise (.sending s.jnc.counter (recordBlocks s.jnc.counter + 1)) ∧
      u.tkc = { s.tkc with slot6 := freeAdviceSlot } := ⟨_, rfl, by simp [State.freezeSfq]⟩
  have hroom : u.nodeRoom = s.nodeRoom := by rw [State.nodeRoom, htkc]; rfl
  rw [hu, tkc_raise, hroom, htkc]

theorem stall_dyc : s.stall.dyc = { s.dyc with day := .sendStalled, blockTimer := .stopped, resumed := false } := by
  rw [State.stall, setDay_dyc]
  rfl

theorem stall_tkc : s.stall.tkc =
    { s.tkc with transmitter := s.tkc.transmitter.map fun x => { x with startsTimer := false } } := by
  simp [State.stall, State.forgetResumption]

/-- Sending is entered with its batch, and stalls at once without an ONLINE link. -/
theorem enterSending_effects : s.enterSending = { s with
      lpc := s.enterSending.lpc, tkc := s.enterSending.tkc, dyc := s.enterSending.dyc } ∧
    s.enterSending.dyc.batch = some (newBatch s.jnc.records s.jnc.counter) ∧
    s.enterSending.dyc.day = (if s.tkc.link = .online then .sending else .sendStalled) ∧
    s.enterSending.tkc.slot6 = freeAdviceSlot ∧ s.enterSending.tkc.slots = s.tkc.slots ∧
    s.enterSending.tkc.nodeQueue = s.sendingEntered.tkc.nodeQueue ∧
    s.enterSending.tkc.waiting = s.sendingEntered.tkc.waiting := by
  have hlink : s.sendingEntered.tkc.link = s.tkc.link := by rw [sendingEntered_tkc]
  refine ⟨?_, ?_⟩
  · apply State.eq_of_blocks <;> simp
  · rw [enterSending_eq, State.stallUnlessOnline, hlink]
    by_cases h : s.tkc.link = .online
    · simp only [h, if_true, sendingEntered_dyc, sendingEntered_tkc, and_self]
    · simp only [h, if_false, stall_dyc, stall_tkc, sendingEntered_dyc, sendingEntered_tkc, and_self]

/-- Settles O28: the drain ends with `drained` and the drawers due, and BALANCING with `enterSending_effects`. -/
theorem drainAndBalancingEnd : Obligations.DrainAndBalancingEnd := by
  unfold Obligations.DrainAndBalancingEnd
  refine ⟨fun s hrun hday => ⟨fun hnone => ?_, fun hnone hroom hdue => ?_⟩, fun s hrun hday => ⟨fun hnot => ?_, fun hover => ?_⟩⟩
  · have hexec : exec .drainEnd s = .next (s.whileRunning State.judgeDrain) := rfl
    rw [hexec, whileRunning_of hrun, State.judgeDrain, if_neg fun hc => by simp [hnone] at hc]
  · obtain ⟨w, hw, hwdue⟩ := hdue
    have hexec : exec .drainEnd s = .next (s.whileRunning State.judgeDrain) := rfl
    have hcsu : s.drained.csu = s.csu := by simp [State.drained]
    have hrqu : s.drained.rqu = s.rqu := by simp [State.drained]
    have hdueDrawer : ({ w with balance := .due } : Drawer) ∈ s.drained.drawersDue.csu.drawers := by
      rw [csu_drawersDue, hcsu]
      exact List.mem_map.2 ⟨w, hw, if_pos (fallsDue_iff.2 hwdue)⟩
    rw [whileRunning_of hrun, State.judgeDrain, if_pos ⟨hday, hnone⟩, endDrain_eq, judgeExit_due hdueDrawer rfl] at hexec
    refine ⟨_, hexec, ?_, ?_, ?_, ?_, drained_reports.congr rfl (by simp) (by simp), fun v hv hvdue x b e hx hb he => ?_⟩
    · apply State.eq_of_blocks <;> simp [State.drained]
    · simp [drained_dyc]
    · simpa using drained_jnc hday hroom
    · rw [csu_drawersDue, hcsu, dueDrawers_eq]
    · refine release_drawersDue (s := s.drained) (by rw [hcsu]; exact hv) (fallsDue_iff.2 hvdue) ?_ hb he
      rw [holderOf_congr hrqu, hx]
  · have hexec : exec .balancingExit s = .next (s.whileRunning State.judgeExit) := rfl
    rw [hexec, whileRunning_of hrun, State.judgeExit, if_neg fun hc => hnot (balancingOver_iff.2 hc.2)]
  · have hexec : exec .balancingExit s = .next (s.whileRunning State.judgeExit) := rfl
    obtain ⟨hblocks, hbatch, hlast, hslot6, hslots, hqueue, hwaiting⟩ := enterSending_effects (s := s)
    rw [whileRunning_of hrun, State.judgeExit, if_pos ⟨hday, balancingOver_iff.1 hover⟩] at hexec
    have hblk : (newBatch s.jnc.records s.jnc.counter).blocks = (s.jnc.counter + 15) / 16 := rfl
    refine ⟨_, _, hexec, hblocks, hbatch, rfl, by rw [hblk]; omega, by rw [hblk]; omega, rfl, rfl, rfl, rfl, rfl, rfl, rfl,
      hlast, hslot6, hslots, fun hr => ?_, fun hr => ?_⟩
    · rw [hqueue, sendingEntered_tkc]
      exact if_pos hr
    · have hno : ¬ s.nodeRoom = true := by rw [hr]; decide
      rw [hqueue, hwaiting, sendingEntered_tkc]
      exact ⟨if_neg hno, if_neg hno⟩

end Sys2Proof.Machine
end

section
/-! SUPPORT. Changes that leave link supervision and the online slots alone and only add to the node queue. -/

namespace Sys2Proof.Machine

variable {s t u : State} {a n : Nat}

/-- The trunk but for slot 6, the transmitter and what waits to be sent. -/
def Tkc.core (k : Tkc) : Tkc :=
  { k with slot6 := freeAdviceSlot, transmitter := none, nodeQueue := [], waiting := none }

/-- Between the two states supervision, the slots and the parameters stay, and the node queue only grew. -/
structure State.Trails (s t : State) : Prop where
  core : t.tkc.core = s.tkc.core
  queue : ∃ more, t.tkc.nodeQueue = s.tkc.nodeQueue ++ more
  params : t.dyc.params = s.dyc.params

theorem State.Trails.refl (s : State) : s.Trails s := ⟨rfl, ⟨[], (List.append_nil _).symm⟩, rfl⟩

theorem State.Trails.trans (h : s.Trails t) (g : t.Trails u) : s.Trails u where
  core := g.core.trans h.core
  queue := by
    obtain ⟨l, hl⟩ := h.queue
    obtain ⟨m, hm⟩ := g.queue
    exact ⟨l ++ m, by rw [hm, hl, List.append_assoc]⟩
  params := g.params.trans h.params

theorem State.Trails.of_eq (h : t.tkc = s.tkc) (hd : t.dyc.params = s.dyc.params) : s.Trails t :=
  ⟨by rw [h], ⟨[], by rw [h, List.append_nil]⟩, hd⟩

theorem State.Trails.slots (h : s.Trails t) : t.tkc.slots = s.tkc.slots := by
  have hslots := congrArg Tkc.slots h.core
  exact hslots

theorem State.Trails.link (h : s.Trails t) : t.tkc.link = s.tkc.link := by
  have hlink := congrArg Tkc.link h.core
  exact hlink

theorem State.Trails.stats (h : s.Trails t) : t.tkc.stats = s.tkc.stats := by
  have hstats := congrArg Tkc.stats h.core
  exact hstats

theorem State.Trails.lastCheck (h : s.Trails t) : t.tkc.lastCheck = s.tkc.lastCheck := by
  have hlastCheck := congrArg Tkc.lastCheck h.core
  exact hlastCheck

theorem State.Trails.runCount (h : s.Trails t) : t.tkc.runCount = s.tkc.runCount := by
  have hrunCount := congrArg Tkc.runCount h.core
  exact hrunCount


theorem trails_queueStatusAll : s.Trails s.queueStatusAll := .of_eq rfl rfl
theorem trails_drawersDue : s.Trails s.drawersDue := .of_eq (by simp) (by simp)
theorem trails_applyCash {t : Txn} : s.Trails (s.applyCash t) := .of_eq (by simp) (by simp)
theorem trails_onSiu {f : Siu → Siu} : s.Trails (s.onSiu f) := .of_eq rfl rfl
theorem trails_onDyc {f : Dyc → Dyc} (h : (f s.dyc).params = s.dyc.params) : s.Trails (s.onDyc f) := .of_eq rfl h

/-! ### The journal, the day and the drawers -/

theorem trails_raise {c : Condition} : s.Trails (s.raise c) where
  core := by rw [tkc_raise]; rfl
  queue := by
    rw [tkc_raise]
    dsimp only
    split
    · exact ⟨_, rfl⟩
    · exact ⟨[], (List.append_nil _).symm⟩
  params := by simp

theorem trails_writeRecord {r : Record} : s.Trails (s.writeRecord r) := by
  unfold State.writeRecord
  split
  · unfold State.appendRecord State.judgeThresholds
    have hstart : s.Trails (s.onJnc fun j => { j with
      records := j.records ++ [{ r with seq := j.counter + 1, stamp := j.clock }], counter := j.counter + 1 }) := .of_eq rfl rfl
    dsimp only
    split
    · exact (hstart.trans trails_raise).trans trails_queueStatusAll
    · split
      · exact hstart.trans trails_raise
      · split
        · exact hstart.trans trails_raise
        · exact hstart
  · exact .refl s

theorem trails_setDay {d : DayState} : s.Trails (s.setDay d) := .of_eq (by simp) (by rw [setDay_dyc])

theorem trails_stall : s.Trails s.stall where
  core := by rw [stall_tkc]; rfl
  queue := ⟨[], by rw [stall_tkc, List.append_nil]⟩
  params := by rw [stall_dyc]

theorem trails_enterSending : s.Trails s.enterSending := by
  have hentered : s.Trails s.sendingEntered := by
    have hfrozen : s.Trails (((s.onDyc fun y => { y with
        batch := some (newBatch s.jnc.records s.jnc.counter), blockTimer := .stopped, resumed := false }).setDay
        .sending).freezeSfq) :=
      ((trails_onDyc rfl).trans trails_setDay).trans ⟨rfl, ⟨[], (List.append_nil _).symm⟩, rfl⟩
    exact hfrozen.trans trails_raise
  rw [enterSending_eq, State.stallUnlessOnline]
  split
  · exact hentered
  · exact hentered.trans trails_stall

theorem trails_judgeExit : s.Trails s.judgeExit := by
  unfold State.judgeExit
  split
  · exact trails_enterSending
  · exact .refl s

theorem trails_endDrain : s.Trails s.endDrain := by
  have hrecord : s.Trails (s.captureCutoff.writeRecord (closeMark s.captureCutoff)) :=
    (State.Trails.of_eq rfl rfl : s.Trails s.captureCutoff).trans trails_writeRecord
  have hdrained : s.Trails s.drained := (hrecord.trans (trails_onDyc rfl)).trans trails_setDay
  rw [endDrain_eq]
  exact (hdrained.trans trails_drawersDue).trans trails_judgeExit

theorem trails_judgeDrain : s.Trails s.judgeDrain := by
  unfold State.judgeDrain
  split
  · exact trails_endDrain
  · exact .refl s

/-! ### The transaction path without the trunk (R51, R57) -/

theorem trails_reachOutcome {t : Txn} {r : FinalReply} : s.Trails (s.reachOutcome t r) :=
  (State.Trails.of_eq (by simp) (by simp)).trans trails_judgeDrain

theorem trails_refuse {t : Txn} {r : Result} {o : Option LegNote} : s.Trails (s.refuse t r o) := trails_reachOutcome

theorem trails_trainingOk {t : Txn} {r : TrainingRoute} : s.Trails (s.trainingOk t r) := trails_reachOutcome

theorem trails_postLocal {t : Txn} : s.Trails (s.postLocal t) := by
  unfold State.postLocal
  dsimp only
  split
  · exact (trails_writeRecord.trans trails_applyCash).trans trails_reachOutcome
  · exact trails_refuse

theorem trails_completeLocal {t : Txn} {d : Definition} : s.Trails (s.completeLocal t d) := by
  unfold State.completeLocal
  split
  · exact trails_trainingOk
  · split
    · dsimp only
      split
      · exact trails_refuse
      · exact (State.Trails.of_eq (by simp) (by simp)).trans trails_postLocal
    · exact trails_postLocal

theorem trails_appendLine {l : Line} : s.Trails (s.appendLine n l) := by
  unfold State.appendLine
  split
  · exact .refl s
  · split
    · exact .of_eq (by simp) (by simp)
    · exact trails_raise

theorem trails_appendTxnLine {t : Txn} {d : Definition} {o : Origin} : s.Trails (s.appendTxnLine t d o n) := by
  unfold State.appendTxnLine
  split
  · split
    · exact trails_appendLine
    · exact .refl s
  · exact .refl s

theorem trails_postStandIn {t : Txn} {d : Definition} {g : Leg} : s.Trails (s.postStandIn t d n g) := by
  have hcash : s.Trails ((((s.writeRecord (t.record .standIn .advicePending)).appendSfq s.nextSeq .posting).modifySat n
      fun e => e.post g).applyCash t) :=
    ((trails_writeRecord.trans trails_onSiu).trans trails_onSiu).trans trails_applyCash
  exact (hcash.trans trails_appendTxnLine).trans trails_reachOutcome

theorem trails_standIn {t : Txn} {d : Definition} : s.Trails (s.standIn t d) := by
  unfold State.standIn
  split
  · split
    · exact trails_refuse
    · split
      · exact trails_trainingOk
      · split
        · exact trails_postStandIn
        · exact trails_refuse
  · exact trails_completeLocal

theorem trails_decideAgain {t : Txn} : s.Trails (s.decideAgain t) := by
  unfold State.decideAgain
  split
  · split
    · exact trails_standIn
    · exact trails_refuse
  · exact trails_refuse

/-! ### The printers (R145, R147, R152) -/

theorem trails_endSession : s.Trails (s.endSession a) := by
  unfold State.endSession
  split
  · exact .refl s
  · split
    · exact .refl s
    · dsimp only
      split
      · split
        · exact (State.Trails.of_eq (by simp) (by simp)).trans trails_writeRecord
        · exact .of_eq (by simp) (by simp)
      · exact .of_eq (by simp) (by simp)

theorem trails_finishSession {r : Option BookReason} : s.Trails (s.finishSession a r) :=
  (State.Trails.of_eq (by simp) (by simp)).trans trails_endSession

theorem trails_printLine {b : Passbook} {l : Line} {o : MarkerSource} : s.Trails (s.printLine a n b l o) := by
  unfold State.printLine
  split
  · exact .of_eq (by simp) (by simp)
  · exact trails_finishSession

theorem trails_chooseLine : s.Trails (s.chooseLine a n) := by
  have hstart : s.Trails (s.modifyBook n fun b => b.convertIfRoom s.poolFree) := .of_eq (by simp) (by simp)
  unfold State.chooseLine
  dsimp only
  split
  · exact hstart.trans trails_finishSession
  · split
    · exact hstart.trans trails_printLine
    · split
      · exact hstart.trans trails_printLine
      · exact hstart.trans trails_finishSession

theorem trails_resumeFetching : s.Trails (s.resumeFetching a) := by
  unfold State.resumeFetching
  split
  · split
    · exact (State.Trails.of_eq (by simp) (by simp)).trans trails_chooseLine
    · exact .refl s
  · exact .refl s

theorem trails_foldl {α : Type} {f : State → α → State} (h : ∀ (s : State) x, s.Trails (f s x)) (l : List α) (s : State) :
    s.Trails (l.foldl f s) := by
  induction l generalizing s with
  | nil => exact .refl s
  | cons x l ih => exact (h s x).trans (ih _)

theorem trails_fetchOutcome {f : Fetch} {l : List FetchLine} : s.Trails (s.fetchOutcome f l) :=
  ((State.Trails.of_eq (by simp) (by simp)).trans (trails_foldl (fun _ _ => trails_appendLine) _ _)).trans
    trails_resumeFetching

theorem trails_redecide : s.Trails (s.redecide a) := by
  unfold State.redecide
  split
  · exact trails_decideAgain
  · split
    · exact trails_fetchOutcome
    · exact .refl s

/-! ### The second decision of every waiting item (R51) -/

/-- What the second decisions leave: the slots that were QUEUED are FREE, and the rest of supervision stays. -/
theorem redecideAll_effects : s.redecideAll.tkc.core = { s.tkc.core with slots := s.redecideAll.tkc.slots } ∧
    (∃ more, s.redecideAll.tkc.nodeQueue = s.tkc.nodeQueue ++ more) ∧ s.redecideAll.dyc.params = s.dyc.params ∧
    ∀ x ∈ s.redecideAll.tkc.slots, x.state ≠ .queued := by
  have hfold : ∀ (l : List OnlineSlot) (v : State),
      let w := l.foldl (fun s x => (s.freeSlotAt x.number).redecide x.drop) v
      w.tkc.core = { v.tkc.core with slots := w.tkc.slots } ∧ (∃ more, w.tkc.nodeQueue = v.tkc.nodeQueue ++ more) ∧
        w.dyc.params = v.dyc.params ∧ ∀ x ∈ w.tkc.slots, x.state = .queued → x ∈ v.tkc.slots ∧ x ∉ l := by
    intro l
    induction l with
    | nil => exact fun v => ⟨rfl, ⟨[], (List.append_nil _).symm⟩, rfl, fun x hx _ => ⟨hx, List.not_mem_nil⟩⟩
    | cons y l ih =>
      intro v
      obtain ⟨hcore, ⟨more, hmore⟩, hparams, hslots⟩ := ih ((v.freeSlotAt y.number).redecide y.drop)
      have ht : (v.freeSlotAt y.number).Trails ((v.freeSlotAt y.number).redecide y.drop) := trails_redecide
      obtain ⟨more', hmore'⟩ := ht.queue
      refine ⟨?_, ⟨more' ++ more, ?_⟩, hparams.trans (ht.params.trans (by simp)), fun x hx hq => ?_⟩
      · rw [List.foldl_cons, hcore, ht.core]
        rfl
      · rw [List.foldl_cons, hmore, hmore', List.append_assoc]
        rfl
      · obtain ⟨hmem, hnot⟩ := hslots x hx hq
        rw [ht.slots] at hmem
        obtain ⟨z, hz, rfl⟩ := List.mem_map.1 hmem
        by_cases hnum : z.number = y.number
        · rw [if_pos hnum] at hq
          cases hq
        · rw [if_neg hnum] at hnot ⊢
          exact ⟨hz, fun h => (List.mem_cons.1 h).elim (fun h => hnum (by rw [h])) hnot⟩
  have hlist : s.Trails (s.rqu.waitList.foldl (fun s a => (s.leaveWaitList a).redecide a) s) :=
    trails_foldl (fun s a => (State.Trails.of_eq (s := s) (t := s.leaveWaitList a) rfl rfl).trans trails_redecide) _ _
  have hall : s.redecideAll = s.queuedSlots.foldl (fun s x => (s.freeSlotAt x.number).redecide x.drop)
      (s.rqu.waitList.foldl (fun s a => (s.leaveWaitList a).redecide a) s) := rfl
  obtain ⟨hcore, ⟨more, hmore⟩, hparams, hslots⟩ := hfold s.queuedSlots
    (s.rqu.waitList.foldl (fun s a => (s.leaveWaitList a).redecide a) s)
  obtain ⟨more', hmore'⟩ := hlist.queue
  rw [← hall] at hcore hmore hparams hslots
  refine ⟨?_, ⟨more' ++ more, ?_⟩, hparams.trans hlist.params, fun x hx hq => ?_⟩
  · rw [hcore, hlist.core]
  · rw [hmore, hmore', List.append_assoc]
  · obtain ⟨hmem, hnot⟩ := hslots x hx hq
    rw [hlist.slots] at hmem
    exact hnot (List.mem_filter.2 ⟨hmem, by simp [hq]⟩)

end Sys2Proof.Machine
end

section
/-! PROOFS. Link supervision, the judgement of frames, and the wait list (R49, R90 to R98, R106, R108). -/

namespace Sys2Proof.Machine

variable {s t u : State} {a n : Nat} {h : FrameHeader} {l : LinkState}

/-! ### What a change of the link leaves alone -/

/-- Between the two states the figures of supervision and the parameters stay, and the node queue only grew. -/
structure State.Watched (s t : State) : Prop where
  link : t.tkc.link = s.tkc.link
  lastCheck : t.tkc.lastCheck = s.tkc.lastCheck
  runCount : t.tkc.runCount = s.tkc.runCount
  stats : t.tkc.stats = s.tkc.stats
  queue : ∃ more, t.tkc.nodeQueue = s.tkc.nodeQueue ++ more
  params : t.dyc.params = s.dyc.params

theorem State.Watched.refl (s : State) : s.Watched s := ⟨rfl, rfl, rfl, rfl, ⟨[], (List.append_nil _).symm⟩, rfl⟩

theorem State.Watched.trans (h : s.Watched t) (g : t.Watched u) : s.Watched u where
  link := g.link.trans h.link
  lastCheck := g.lastCheck.trans h.lastCheck
  runCount := g.runCount.trans h.runCount
  stats := g.stats.trans h.stats
  queue := by
    obtain ⟨l, hl⟩ := h.queue
    obtain ⟨m, hm⟩ := g.queue
    exact ⟨l ++ m, by rw [hm, hl, List.append_assoc]⟩
  params := g.params.trans h.params

theorem State.Trails.watched (h : s.Trails t) : s.Watched t :=
  ⟨h.link, h.lastCheck, h.runCount, h.stats, h.queue, h.params⟩

theorem watched_redecideAll : s.Watched s.redecideAll := by
  obtain ⟨hcore, hqueue, hparams, -⟩ := redecideAll_effects (s := s)
  refine ⟨?_, ?_, ?_, ?_, hqueue, hparams⟩
  · have hlink := congrArg Tkc.link hcore
    exact hlink
  · have hcheck := congrArg Tkc.lastCheck hcore
    exact hcheck
  · have hrun := congrArg Tkc.runCount hcore
    exact hrun
  · have hstats := congrArg Tkc.stats hcore
    exact hstats

theorem watched_serveWaitList : s.Watched s.serveWaitList := by
  have htkc := tkc_serveWaitList (s := s)
  exact ⟨by rw [htkc], by rw [htkc], by rw [htkc], by rw [htkc], ⟨[], by rw [htkc, List.append_nil]⟩, by simp⟩

theorem trails_resumeOnline : s.Trails s.resumeOnline := by
  unfold State.resumeOnline
  split
  · unfold State.resumeBatch
    split
    · exact (trails_onDyc rfl).trans trails_setDay
    · exact .refl s
  · exact .refl s

theorem trails_reportLost : s.Trails s.reportLost := by
  unfold State.reportLost
  split
  · exact trails_raise.trans (.of_eq rfl rfl)
  · exact .refl s

theorem watched_reportOnline : s.Watched s.reportOnline :=
  (watched_serveWaitList.trans trails_resumeOnline.watched).trans trails_reportLost.watched

theorem watched_enterLink (s : State) (l : LinkState) : (s.onTkc fun t => { t with link := l }).Watched (s.enterLink l) := by
  have hshown : (s.onTkc fun t => { t with link := l }).Watched
      (if shownLink s.tkc.link = shownLink l then s.onTkc fun t => { t with link := l }
        else (s.onTkc fun t => { t with link := l }).queueStatusAll) := by
    split
    · exact .refl _
    · exact trails_queueStatusAll.watched
  simp only [State.enterLink]
  revert hshown
  generalize (if shownLink s.tkc.link = shownLink l then s.onTkc fun t => { t with link := l }
    else (s.onTkc fun t => { t with link := l }).queueStatusAll) = u
  intro hshown
  have honline : u.Watched (if l = .online ∧ s.tkc.link ≠ .online then u.reportOnline else u) := by
    split
    · exact watched_reportOnline
    · exact .refl u
  revert honline
  generalize (if l = .online ∧ s.tkc.link ≠ .online then u.reportOnline else u) = v
  intro honline
  have hoffline : v.Watched (if s.tkc.link = .online ∧ l ≠ .online then v.reportOffline else v) := by
    split
    · unfold State.reportOffline
      split
      · exact trails_stall.watched
      · exact .refl v
    · exact .refl v
  revert hoffline
  generalize (if s.tkc.link = .online ∧ l ≠ .online then v.reportOffline else v) = w
  intro hoffline
  have hbefore := (hshown.trans honline).trans hoffline
  split
  · exact hbefore.trans watched_redecideAll
  · exact hbefore

/-- Entering ONLINE from a link that was not, with the status lines and the reports (R97). -/
theorem enterLink_online (hne : s.tkc.link ≠ .online) : s.enterLink .online =
    (if shownLink s.tkc.link = shownLink .online then s.onTkc fun t => { t with link := .online }
      else (s.onTkc fun t => { t with link := .online }).queueStatusAll).reportOnline := by
  simp [State.enterLink, hne, trusted]

theorem reportOnline_effects : s.reportOnline.retainedLost = false ∧
    (s.dyc.day = .sendStalled → s.dyc.batch.isSome = true → s.reportOnline.dyc.day = .sending) := by
  refine ⟨?_, fun hday hb => ?_⟩
  · unfold State.reportOnline State.reportLost
    split
    · rfl
    · next h => exact Bool.eq_false_iff.2 h
  · obtain ⟨b, hb⟩ := Option.isSome_iff_exists.1 hb
    simp only [State.reportOnline, State.reportLost_frame, State.resumeOnline, State.serveWaitList_frame, hday, hb,
      State.resumeBatch, setDay_day]

/-! ### LINE-CHECK (R93 to R96) -/

theorem follows_iff : s.follows n = true ↔ ∃ m, s.tkc.lastCheck = some m ∧ n = (m + 1) % 256 := by
  rw [State.follows, Option.any_eq_true]
  exact exists_congr fun m => and_congr_right fun _ => by rw [beq_iff_eq, eq_comm]

/-- What the judgement of a LINE-CHECK ends with: the new number, the run, and a new check period. -/
def State.checked (s : State) (n run : Nat) : State := (s.setRun (some n) run).restartSupervision

theorem checked_lastCheck (s : State) (n k : Nat) : (s.checked n k).tkc.lastCheck = some n ∧
    (s.checked n k).tkc.supervision = .running s.dyc.params.checkPeriod ∧ (s.checked n k).tkc.runCount = k := ⟨rfl, rfl, rfl⟩

theorem startRun_effects (s : State) (n : Nat) : (s.startRun n).tkc.lastCheck = some n ∧
    (s.startRun n).tkc.supervision = .running s.dyc.params.checkPeriod ∧
    (∃ more, (s.startRun n).tkc.nodeQueue = s.tkc.nodeQueue ++ more) ∧ (s.startRun n).tkc.link = .resync ∧
    (s.startRun n).tkc.runCount = 1 := by
  have hw := watched_enterLink s .resync
  exact ⟨rfl, congrArg (fun p : Params => Timer.running p.checkPeriod) hw.params, hw.queue, hw.link, rfl⟩

theorem enterOnline_effects (s : State) (n k : Nat) :
    let t := ((s.setRun (some n) k).enterLink .online).restartSupervision
    t.tkc.lastCheck = some n ∧ t.tkc.supervision = .running s.dyc.params.checkPeriod ∧
      (∃ more, t.tkc.nodeQueue = s.tkc.nodeQueue ++ more) ∧ t.tkc.link = .online ∧ t.tkc.runCount = k := by
  have hw := watched_enterLink (s.setRun (some n) k) .online
  exact ⟨hw.lastCheck, congrArg (fun p : Params => Timer.running p.checkPeriod) hw.params, hw.queue, hw.link, hw.runCount⟩

theorem startRun_offline (hl : s.tkc.link = .offline) :
    s.startRun n = ((s.onTkc fun t => { t with link := .resync }).queueStatusAll).checked n 1 := by
  have henter : s.enterLink .resync = (s.onTkc fun t => { t with link := .resync }).queueStatusAll := by
    simp [State.enterLink, hl, shownLink, trusted]
  rw [State.startRun, henter]
  rfl

theorem exec_lineCheck (ha : s.Accepts h) :
    exec (.lineCheck h n) s = .next ((s.pushNode ⟨h.tag, .lineEcho n⟩).seeLineCheck n) := by
  obtain ⟨⟨hrun, hv⟩, hroom⟩ := ha
  have hexec : exec (.lineCheck h n) s = .next (s.whileRunning fun s => s.lineCheck h n) := rfl
  rw [hexec, whileRunning_of hrun, State.lineCheck, if_pos hv, if_pos hroom]

/-- What every LINE-CHECK leaves: its number, a new check period, and what followed in the node queue. -/
theorem seeLineCheck_effects (s : State) (n : Nat) : (s.seeLineCheck n).tkc.lastCheck = some n ∧
    (s.seeLineCheck n).tkc.supervision = .running s.dyc.params.checkPeriod ∧
    ∃ more, (s.seeLineCheck n).tkc.nodeQueue = s.tkc.nodeQueue ++ more := by
  have hstart := startRun_effects s n
  have hchecked : ∀ k, (s.checked n k).tkc.lastCheck = some n ∧
      (s.checked n k).tkc.supervision = .running s.dyc.params.checkPeriod ∧
      ∃ more, (s.checked n k).tkc.nodeQueue = s.tkc.nodeQueue ++ more :=
    fun k => ⟨rfl, rfl, [], (List.append_nil _).symm⟩
  have hstarted := And.intro hstart.1 (And.intro hstart.2.1 hstart.2.2.1)
  have hentered : ∀ k, let t := ((s.setRun (some n) k).enterLink .online).restartSupervision
      t.tkc.lastCheck = some n ∧ t.tkc.supervision = .running s.dyc.params.checkPeriod ∧
        ∃ more, t.tkc.nodeQueue = s.tkc.nodeQueue ++ more := fun k => by
    obtain ⟨h1, h2, h3, -⟩ := enterOnline_effects s n k
    exact ⟨h1, h2, h3⟩
  unfold State.seeLineCheck
  split
  · exact hstarted
  · unfold State.countRun
    split
    · split
      · exact hentered 0
      · exact hchecked _
    · exact hchecked 1
  · split
    · exact hchecked _
    · exact hstarted
  · split
    · exact hentered _
    · exact hstarted

theorem seeLineCheck_resync (hl : s.tkc.link = .resync) : s.seeLineCheck n =
    if s.follows n then
      if 3 ≤ s.tkc.runCount + 1 then ((s.setRun (some n) 0).enterLink .online).restartSupervision
      else s.checked n (s.tkc.runCount + 1)
    else s.checked n 1 := by
  rw [State.seeLineCheck, hl]
  rfl

/-- A number that does not follow starts a new run on a link that was trusted. -/
theorem seeLineCheck_trusted (hl : s.tkc.link = .online ∨ s.tkc.link = .suspect) :
    (s.follows n = true → (s.seeLineCheck n).tkc.link = .online ∧ (s.seeLineCheck n).tkc.runCount = s.tkc.runCount) ∧
      (¬ s.follows n = true → (s.seeLineCheck n).tkc.link = .resync ∧ (s.seeLineCheck n).tkc.runCount = 1) := by
  obtain ⟨-, -, -, hlink, hrun⟩ := startRun_effects s n
  rcases hl with hl | hl
  · refine ⟨fun hf => ?_, fun hf => ?_⟩
    · simp only [State.seeLineCheck, hl, hf, if_true]
      exact ⟨hl, rfl⟩
    · simp only [State.seeLineCheck, hl, if_neg hf]
      exact ⟨hlink, hrun⟩
  · refine ⟨fun hf => ?_, fun hf => ?_⟩
    · simp only [State.seeLineCheck, hl, hf, if_true]
      obtain ⟨-, -, -, hlink', hrun'⟩ := enterOnline_effects s n s.tkc.runCount
      exact ⟨hlink', hrun'⟩
    · simp only [State.seeLineCheck, hl, if_neg hf]
      exact ⟨hlink, hrun⟩

/-- The third number in a row brings ONLINE with its reports (R94, R97). -/
theorem enterOnline_resync (hl : s.tkc.link = .resync) : (s.enterLink .online).retainedLost = false ∧
    (s.dyc.day = .sendStalled → s.dyc.batch.isSome = true → (s.enterLink .online).dyc.day = .sending) := by
  have hshown : ¬ shownLink s.tkc.link = shownLink .online := by rw [hl]; decide
  rw [enterLink_online (by rw [hl]; decide), if_neg hshown]
  exact reportOnline_effects (s := (s.onTkc fun t => { t with link := .online }).queueStatusAll)

/-! ### The supervision timer (R94 to R96) -/

theorem exec_supervisionExpiry (hr : s.isRunning = true) :
    exec .supervisionTimerExpiry s = .next s.supervisionExpiry := by
  have hexec : exec .supervisionTimerExpiry s = .next (s.whileRunning State.supervisionExpiry) := rfl
  rw [hexec, whileRunning_of hr]

theorem supervisionExpiry_online (hs : s.tkc.supervision ≠ .stopped) (hl : s.tkc.link = .online) :
    s.supervisionExpiry = ((s.onTkc fun t => { t with link := .suspect }).reportOffline).restartSupervision := by
  simp [State.supervisionExpiry, hs, hl, State.enterLink, shownLink, trusted]

theorem supervisionExpiry_falls (hs : s.tkc.supervision ≠ .stopped) (hl : s.tkc.link = .suspect ∨ s.tkc.link = .resync) :
    s.supervisionExpiry = s.fallOffline := by
  rcases hl with hl | hl <;> simp [State.supervisionExpiry, hs, hl]

theorem enterOffline_resync (hl : s.tkc.link = .resync) :
    s.enterLink .offline = (s.onTkc fun t => { t with link := .offline }).queueStatusAll := by
  simp [State.enterLink, hl, shownLink, trusted]

theorem enterOffline_suspect (hl : s.tkc.link = .suspect) :
    s.enterLink .offline = ((s.onTkc fun t => { t with link := .offline }).queueStatusAll).redecideAll := by
  simp [State.enterLink, hl, shownLink, trusted]

/-- Settles O29: a LINE-CHECK by the state of its link, and the expiry of the timer that runs. -/
theorem linkIsSupervised : Obligations.LinkIsSupervised := by
  unfold Obligations.LinkIsSupervised
  refine ⟨fun s h n ha => ?_, fun s hrun => ⟨fun hs => ?_, fun hs hl => ?_, fun hs hl => ?_⟩⟩
  · obtain ⟨u, hu⟩ : ∃ u, u = s.pushNode ⟨h.tag, .lineEcho n⟩ := ⟨_, rfl⟩
    have hexec := exec_lineCheck (n := n) ha
    rw [← hu] at hexec
    obtain ⟨hcheck, hperiod, more, hmore⟩ := seeLineCheck_effects u n
    have hlink : u.tkc.link = s.tkc.link := by rw [hu]; rfl
    have hcount : u.tkc.runCount = s.tkc.runCount := by rw [hu]; rfl
    have hfollows : u.follows n = true ↔ ∃ m, s.tkc.lastCheck = some m ∧ n = (m + 1) % 256 := by
      rw [hu]; exact follows_iff
    refine ⟨_, hexec, hcheck, ?_, ⟨more, ?_⟩, fun hl => ?_, fun hl hf hk => ?_, fun hl hf hk => ?_, fun hl hf => ?_,
      fun hl hf => ?_, fun hl hf => ?_⟩
    · rw [hperiod, hu]; rfl
    · rw [hmore, hu]
      simp [State.pushNode]
    · have hstart : u.seeLineCheck n = u.startRun n := by rw [State.seeLineCheck, hlink, hl]
      rw [hstart, startRun_offline (hlink.trans hl), hu]
      exact ⟨rfl, rfl, rfl, rfl⟩
    · have hlow : ¬ 3 ≤ u.tkc.runCount + 1 := by omega
      rw [seeLineCheck_resync (hlink.trans hl), if_pos (hfollows.2 hf), if_neg hlow, hu]
      exact ⟨hl, rfl, rfl⟩
    · have hhigh : 3 ≤ u.tkc.runCount + 1 := by omega
      rw [seeLineCheck_resync (hlink.trans hl), if_pos (hfollows.2 hf), if_pos hhigh]
      obtain ⟨-, -, -, hon, hzero⟩ := enterOnline_effects u n 0
      have hset : (u.setRun (some n) 0).tkc.link = .resync := hlink.trans hl
      obtain ⟨hlost, hday⟩ := enterOnline_resync hset
      refine ⟨hon, hzero, ?_, fun hd hb => ?_⟩
      · rw [State.restartSupervision, State.onTkc_retainedLost, hlost]
      · rw [State.restartSupervision, State.onTkc_dyc]
        exact hday (by rw [hu]; exact hd) (by rw [hu]; exact hb)
    · rw [seeLineCheck_resync (hlink.trans hl), if_neg fun hc => hf (hfollows.1 hc), hu]
      exact ⟨hl, rfl, rfl⟩
    · rw [← hlink] at hl
      obtain ⟨hon, hk⟩ := (seeLineCheck_trusted hl).1 (hfollows.2 hf)
      exact ⟨hon, hk.trans hcount⟩
    · rw [← hlink] at hl
      exact (seeLineCheck_trusted hl).2 fun hc => hf (hfollows.1 hc)
  · rw [exec_supervisionExpiry hrun, State.supervisionExpiry, if_pos hs]
  · have hexec := exec_supervisionExpiry hrun
    rw [supervisionExpiry_online hs hl] at hexec
    refine ⟨_, hexec, ?_⟩
    unfold State.reportOffline
    by_cases hday : (s.onTkc fun t => { t with link := .suspect }).dyc.day = .sending
    · rw [if_pos hday]
      have hdyc := stall_dyc (s := s.onTkc fun t => { t with link := .suspect })
      have htkc := stall_tkc (s := s.onTkc fun t => { t with link := .suspect })
      refine ⟨?_, ?_, fun hn => absurd hday hn, fun _ => ⟨?_, ?_⟩⟩
      · apply State.eq_of_blocks <;> simp
      · simp [State.restartSupervision, htkc, hdyc]
      · simp [State.restartSupervision, htkc]
      · simpa using hdyc
    · rw [if_neg hday]
      exact ⟨rfl, rfl, fun _ => ⟨rfl, rfl, rfl⟩, fun hd => absurd hd hday⟩
  · have hexec := exec_supervisionExpiry hrun
    rw [supervisionExpiry_falls hs hl] at hexec
    have hw := watched_enterLink s .offline
    refine ⟨_, hexec, hw.link, rfl, rfl, hw.lastCheck, ?_, fun hl => ?_, fun hl => ?_⟩
    · exact congrArg (fun x : LinkStats => { x with offlineEntries := counted x.offlineEntries }) hw.stats
    · rw [State.fallOffline, enterOffline_resync hl]
      exact ⟨rfl, rfl⟩
    · have hslots : s.fallOffline.tkc.slots = (s.enterLink .offline).tkc.slots := rfl
      rw [hslots, enterOffline_suspect hl]
      obtain ⟨-, -, -, hfree⟩ := redecideAll_effects (s := (s.onTkc fun t => { t with link := .offline }).queueStatusAll)
      exact hfree

/-! ### Frames (R90, R106) -/

/-- A command that brings in a frame judges the frame before its own rule. -/
theorem exec_of_header {c : Instr} (hc : headerOf c = some h) (hr : s.isRunning = true) :
    (neverRefused c = true ∧ ∃ f, exec c s = .next (s.onFrame h f)) ∨
      (neverRefused c = false ∧ ((∃ f, exec c s = .next (s.onAnswered h f)) ∨ ∃ n, exec c s = .next (s.lineCheck h n))) := by
  cases c with
  | restart _ _ | txnReply _ _ | fetchReply _ _ | adviceAck _ | adviceException _ _ | blockAck _ _ | blockNak _ _ =>
    cases hc
    exact .inl ⟨rfl, _, congrArg Host.Outcome.next (whileRunning_of hr)⟩
  | lineCheck _ n =>
    cases hc
    exact .inr ⟨rfl, .inr ⟨n, congrArg Host.Outcome.next (whileRunning_of hr)⟩⟩
  | inquiryDrawers _ | inquiryLink _ | inquiryQueues _ | inquiryJournal _ | inquiryDay _ | inquiryDrops _
  | inquiryPassbook _ | inquiryUnknownKind _ | maskSet _ _ | notice _ _ _ | dayStart _ _ _ _
  | loadTellers _ _ | loadCodes _ _ | loadDefinitions _ _ | loadRoutes _ _ | loadSat _ _ | loadRates _ _
  | loadDenominations _ _ | loadLayout _ _ | loadParameters _ _ | dayOpen _
  | batchResume _ _ | batchVerdict _ _ | resendBatch _ | dayEnd _ =>
    cases hc
    exact .inr ⟨rfl, .inl ⟨_, congrArg Host.Outcome.next (whileRunning_of hr)⟩⟩
  | _ => cases hc

theorem countBad_eq : s.countBad = { s with
    tkc := { s.tkc with stats := { s.tkc.stats with badFrames := counted s.tkc.stats.badFrames } } } := rfl

theorem countOverrun_eq : s.countOverrun = { s with
    tkc := { s.tkc with stats := { s.tkc.stats with nodeOverruns := counted s.tkc.stats.nodeOverruns } } } := rfl

theorem frameValid_eq_false (hb : h.branch ≠ s.straps.branch ∨ s.straps.branch = 0) : s.frameValid h = false := by
  rw [State.frameValid, Bool.and_eq_false_iff]
  exact hb.elim (fun h => .inr (by simpa using h)) fun h => .inl (by simpa using h)

/-- Settles O30: no frame, a frame of another branch, a frame without room, and supervision's sight of one. -/
theorem framesAreJudged : Obligations.FramesAreJudged := by
  unfold Obligations.FramesAreJudged
  refine ⟨fun s bytes hr hv => ?_, fun s c h hc hr hb => ?_, fun s c h hc hn hrec hfull => ?_, fun s => ⟨seeFrame_away,
    seeFrame_online, fun hl => ?_⟩⟩
  · have hexec : exec (.badFrame bytes) s =
        .next (s.whileRunning fun s => if rawFrameValid s.straps.branch bytes then s else s.countBad) := rfl
    rw [hexec, whileRunning_of hr, if_neg (by rw [hv]; decide), countBad_eq]
  · have hv : ¬ s.frameValid h = true := by rw [frameValid_eq_false hb]; decide
    rw [← countBad_eq]
    rcases exec_of_header hc hr with ⟨-, f, hf⟩ | ⟨-, ⟨f, hf⟩ | ⟨n, hf⟩⟩
    · rw [hf, State.onFrame, if_neg hv]
    · rw [hf, State.onAnswered, if_neg hv]
    · rw [hf, State.lineCheck, if_neg hv]
  · obtain ⟨hr, hv⟩ := hrec
    have hno : ¬ s.nodeRoom = true := by
      rw [State.nodeRoom, decide_eq_true_iff]
      exact Nat.not_lt.2 hfull
    refine ⟨_, rfl, ?_⟩
    rw [← countOverrun_eq]
    rcases exec_of_header hc hr with ⟨hn', -⟩ | ⟨-, ⟨f, hf⟩ | ⟨n, hf⟩⟩
    · exact absurd (hn.symm.trans hn') (by decide)
    · rw [hf, State.onAnswered, if_pos hv, if_neg hno]
    · rw [hf, State.lineCheck, if_pos hv, if_neg hno]
  · obtain ⟨hj, hcs, hsi⟩ := seeFrame_keeps (s := s)
    have hw := watched_enterLink s .online
    have hsee : s.seeFrame = (s.enterLink .online).restartSupervision := by rw [State.seeFrame, hl]
    rw [hsee] at hj hcs hsi ⊢
    exact ⟨hw.link, congrArg (fun p : Params => Timer.running p.checkPeriod) hw.params, hj, hcs, hsi, hw.stats⟩

/-! ### The wait list (R49) and the waiting report (R106) -/

/-- The slots that are FREE. -/
def State.freeSlots (s : State) : Nat := s.tkc.slots.countP fun x => x.state == .free

theorem countP_map_lt {α : Type} {p : α → Bool} {f : α → α} {l : List α} {x : α} (hx : x ∈ l) (hp : p x = true)
    (hf : p (f x) = false) (hall : ∀ y, p (f y) = true → p y = true) : (l.map f).countP p < l.countP p := by
  induction l with
  | nil => exact absurd hx List.not_mem_nil
  | cons y l ih =>
    have hle : (l.map f).countP p ≤ l.countP p := by
      rw [List.countP_map]
      exact List.countP_mono_left fun z _ hz => hall z hz
    rw [List.map_cons, List.countP_cons, List.countP_cons]
    rcases List.mem_cons.1 hx with rfl | hx
    · rw [hp, hf]
      simp only [Bool.false_eq_true, if_false, if_true]
      omega
    · have hlt := ih hx
      have hhead : (if p (f y) = true then 1 else 0) ≤ if p y = true then 1 else 0 := by
        by_cases hy : p (f y) = true
        · rw [if_pos hy, if_pos (hall y hy)]
        · rw [if_neg hy]
          exact Nat.zero_le _
      omega

/-- Nothing is left to serve. -/
def State.Served (s : State) : Prop := s.rqu.waitList = [] ∨ s.lowestFree = none

theorem serveOne_served (h : s.Served) : s.serveOne = s := by
  unfold State.serveOne
  split
  · rcases h with h | h
    · rw [h]
    · rw [h]
      cases s.rqu.waitList <;> rfl
  · rfl

theorem lowestFree_some {i : Nat} (h : s.lowestFree = some i) : ∃ x ∈ s.tkc.slots, x.state = .free ∧ x.number = i := by
  obtain ⟨x, hx, hi⟩ := Option.map_eq_some_iff.1 h
  exact ⟨x, List.mem_of_find?_eq_some hx, by simpa using List.find?_some hx, hi⟩

/-- The slots after a work item has taken slot `i`. -/
theorem takeSlot_slots {i : Nat} : (s.takeSlot a i).tkc.slots = modifyKey OnlineSlot.number i (fun x =>
    { x with state := .queued, drop := a, kind := s.workKind a, tag := 0, timer := .stopped }) s.tkc.slots := by
  simp [State.takeSlot, State.modifySlot]

/-- What one serving does while there is something to serve (R49). -/
theorem serveOne_serves {rest : List Nat} {i : Nat} (hl : s.tkc.link = .online) (hw : s.rqu.waitList = a :: rest)
    (hi : s.lowestFree = some i) : s.serveOne = (s.onRqu fun r => { r with waitList := rest }).takeSlot a i := by
  rw [State.serveOne, if_pos hl, hw, hi]

/-- A serving of an ONLINE link: there was nothing to serve, or a FREE slot fewer is left. -/
theorem serveOne_progress (hl : s.tkc.link = .online) : s.Served ∨ s.serveOne.freeSlots < s.freeSlots := by
  cases hw : s.rqu.waitList with
  | nil => exact .inl (.inl hw)
  | cons a rest =>
    cases hi : s.lowestFree with
    | none => exact .inl (.inr hi)
    | some i =>
      right
      obtain ⟨x, hx, hfree, hnum⟩ := lowestFree_some hi
      rw [serveOne_serves hl hw hi, State.freeSlots, takeSlot_slots]
      refine countP_map_lt hx (by simp [hfree]) (by simp [hnum]) fun y hy => ?_
      split at hy
      · cases hy
      · exact hy

theorem serveOne_link : s.serveOne.tkc.link = s.tkc.link := by rw [tkc_serveOne]

theorem serveOne_suffix : ∃ served, s.rqu.waitList = served ++ s.serveOne.rqu.waitList := by
  by_cases hl : s.tkc.link = .online
  · cases hw : s.rqu.waitList with
    | nil => exact ⟨[], by rw [serveOne_served (.inl hw), hw]; rfl⟩
    | cons a rest =>
      cases hi : s.lowestFree with
      | none => exact ⟨[], by rw [serveOne_served (.inr hi), hw]; rfl⟩
      | some i => exact ⟨[a], by rw [serveOne_serves hl hw hi]; rfl⟩
  · exact ⟨[], by rw [State.serveOne, if_neg hl]; rfl⟩

/-- A slot that is not FREE is as it was after a serving. -/
theorem serveOne_slotAt {i : Nat} {x : OnlineSlot} (hx : s.slotAt i = some x) (hn : x.state ≠ .free)
    (hnum : (s.tkc.slots.map OnlineSlot.number).Nodup) : s.serveOne.slotAt i = some x := by
  by_cases hl : s.tkc.link = .online
  · cases hw : s.rqu.waitList with
    | nil => rw [serveOne_served (.inl hw), hx]
    | cons a rest =>
      cases hi : s.lowestFree with
      | none => rw [serveOne_served (.inr hi), hx]
      | some j =>
        obtain ⟨y, hy, hfree, rfl⟩ := lowestFree_some hi
        have hne : i ≠ y.number := by
          rintro rfl
          exact hn (Option.some.inj (hx.symm.trans (findKey_of_mem hnum hy)) ▸ hfree)
        rw [serveOne_serves hl hw hi, State.slotAt, takeSlot_slots]
        exact (findKey_modifyKey_other (fun _ h => by exact h) hne).trans hx
  · rw [State.serveOne, if_neg hl, hx]

theorem serveOne_numbers : s.serveOne.tkc.slots.map OnlineSlot.number = s.tkc.slots.map OnlineSlot.number := by
  unfold State.serveOne
  split
  · split
    · rw [takeSlot_slots]
      exact modifyKey_map_key fun _ h => h
    · rfl
  · rfl

/-- Servings one after another. -/
def State.serveTimes : Nat → State → State
  | 0, s => s
  | k + 1, s => State.serveTimes k s.serveOne

theorem serveWaitList_eq (s : State) : s.serveWaitList = State.serveTimes 6 s := rfl

theorem serveTimes_served (k : Nat) (h : s.Served) : State.serveTimes k s = s := by
  induction k with
  | zero => rfl
  | succ k ih => rw [State.serveTimes, serveOne_served h, ih]

theorem serveTimes_online (k : Nat) (s : State) (hl : s.tkc.link = .online) (hk : s.freeSlots ≤ k) :
    (State.serveTimes k s).Served := by
  induction k generalizing s with
  | zero =>
    right
    rw [State.serveTimes, State.lowestFree, Option.map_eq_none_iff, List.find?_eq_none]
    exact List.countP_eq_zero.1 (Nat.le_zero.1 hk)
  | succ k ih =>
    rcases serveOne_progress hl with h | h
    · rw [serveTimes_served _ h]
      exact h
    · exact ih s.serveOne (serveOne_link.trans hl) (by omega)

theorem serveTimes_suffix (k : Nat) (s : State) : ∃ served, s.rqu.waitList = served ++ (State.serveTimes k s).rqu.waitList := by
  induction k generalizing s with
  | zero => exact ⟨[], rfl⟩
  | succ k ih =>
    obtain ⟨l, hl⟩ := serveOne_suffix (s := s)
    obtain ⟨m, hm⟩ := ih s.serveOne
    exact ⟨l ++ m, by rw [State.serveTimes, hl, hm, List.append_assoc]⟩

theorem serveTimes_slotAt (k : Nat) {i : Nat} {x : OnlineSlot} (s : State) (hx : s.slotAt i = some x) (hn : x.state ≠ .free)
    (hnum : (s.tkc.slots.map OnlineSlot.number).Nodup) : (State.serveTimes k s).slotAt i = some x := by
  induction k generalizing s with
  | zero => exact hx
  | succ k ih => exact ih s.serveOne (serveOne_slotAt hx hn hnum) (by rw [serveOne_numbers]; exact hnum)

theorem serveWaitList_away (hl : s.tkc.link ≠ .online) : s.serveWaitList = s := by
  have hone : s.serveOne = s := if_neg hl
  rw [serveWaitList_eq]
  simp only [State.serveTimes, hone]

/-- The slot that the oldest entry takes (R49). -/
theorem serveOne_takes {rest : List Nat} {i : Nat} (hl : s.tkc.link = .online) (hw : s.rqu.waitList = a :: rest)
    (hi : s.lowestFree = some i) (hnum : (s.tkc.slots.map OnlineSlot.number).Nodup) : s.serveOne.slotAt i =
      some ⟨i, .queued, a, if (s.txnAt a).isSome then .txnForward else .passbookFetch, 0, .stopped⟩ := by
  obtain ⟨x, hx, -, rfl⟩ := lowestFree_some hi
  rw [serveOne_serves hl hw hi, State.slotAt, takeSlot_slots]
  refine (findKey_modifyKey_same fun _ h => by exact h).trans ?_
  exact (congrArg (Option.map _) (findKey_of_mem hnum hx)).trans rfl

theorem exec_waitListServing (hr : s.isRunning = true) : exec .waitListServing s = .next s.serveWaitList := by
  have hexec : exec .waitListServing s = .next (s.whileRunning State.serveWaitList) := rfl
  rw [hexec, whileRunning_of hr]

theorem exec_waitingReportJoin (hr : s.isRunning = true) : exec .waitingReportJoin s = .next s.joinWaiting := by
  have hexec : exec .waitingReportJoin s = .next (s.whileRunning State.joinWaiting) := rfl
  rw [hexec, whileRunning_of hr]

/-- Settles O31: six servings leave nothing to serve, and a waiting report joins when there is room. -/
theorem waitListIsServed : Obligations.WaitListIsServed := by
  unfold Obligations.WaitListIsServed
  refine ⟨fun s hr hsound => ⟨fun hl => ?_, fun hl => ?_⟩, fun s hr => ⟨fun hno => ?_, fun e he hroom => ?_⟩⟩
  · rw [exec_waitListServing hr, serveWaitList_away hl]
  · obtain ⟨hnumbers, -⟩ := hsound
    have hnum : (s.tkc.slots.map OnlineSlot.number).Nodup := by rw [hnumbers]; exact List.nodup_range
    have hsix : s.freeSlots ≤ 6 := by
      have hlen := congrArg List.length hnumbers
      rw [List.length_map, List.length_range] at hlen
      exact hlen ▸ List.countP_le_length
    have hexec := exec_waitListServing hr
    rw [serveWaitList_eq] at hexec
    refine ⟨_, hexec, ?_, serveTimes_online 6 s hl hsix, serveTimes_suffix 6 s, fun a rest i hw hi => ?_⟩
    · rw [← serveWaitList_eq]
      apply State.eq_of_blocks <;> simp
    · exact serveTimes_slotAt 5 s.serveOne (serveOne_takes hl hw hi hnum) (fun h => nomatch h) (by rw [serveOne_numbers]; exact hnum)
  · rw [exec_waitingReportJoin hr, State.joinWaiting]
    rcases hno with hno | hfull
    · rw [hno]
    · have hroom : ¬ s.nodeRoom = true := by
        rw [State.nodeRoom, decide_eq_true_iff]
        exact Nat.not_lt.2 hfull
      cases s.tkc.waiting with
      | none => rfl
      | some e => exact congrArg Host.Outcome.next (if_neg hroom)
  · have hnode : s.nodeRoom = true := decide_eq_true hroom
    rw [exec_waitingReportJoin hr, State.joinWaiting, he]
    exact congrArg Host.Outcome.next (if_pos hnode)

end Sys2Proof.Machine
end

section
/-! PROOFS. The arbiter, the start of frames and their end (R89, R99 to R101, R105, R106, R119, R168, R171). -/

namespace Sys2Proof.Machine

variable {s t u v : State} {a n i : Nat} {x : OnlineSlot} {y : Txn} {f : Fetch}

/-! ### The arbiter (R100) -/

theorem granted_slot (h : s.GrantsSlot x) : s.granted = some (.online x) := by
  obtain ⟨-, hidle, hstrap, hl, hhead, -⟩ := h
  simp [State.granted, hidle, hstrap, State.lowestReady, hl, hhead]

/-- With no online slot ready the lower sources follow in order. -/
theorem granted_lower (h : s.NoSlotReady) : s.granted =
    if s.adviceReady then some .advice else if s.answerReady then some .answer
    else if s.batchReady then some .batch else none := by
  obtain ⟨-, hidle, hstrap, hnone⟩ := h
  by_cases hl : s.tkc.link = .online
  · simp [State.granted, hidle, hstrap, State.lowestReady, hl, hnone hl]
  · simp [State.granted, hidle, hstrap, State.lowestReady, hl]

/-- While a frame is being sent, or under branch strap 0, nothing is granted. -/
theorem granted_none (h : s.tkc.transmitter.isSome = true ∨ s.straps.branch = 0) : s.granted = none := by
  rcases h with h | h
  · obtain ⟨x, hx⟩ := Option.isSome_iff_exists.1 h
    simp [State.granted, hx]
  · simp [State.granted, h]

theorem frameStart_idle {c : Instr} (hc : frameStart c) (h : s.tkc.transmitter.isSome = true ∨ s.straps.branch = 0) :
    exec c s = .next s := by
  have hnone := granted_none h
  have hwhile : ∀ f : State → State, f s = s → s.whileRunning f = s := fun f hf => by
    unfold State.whileRunning
    split
    · exact hf
    · rfl
  rcases hc with rfl | rfl | rfl | rfl | rfl
  · exact congrArg Host.Outcome.next (hwhile State.forwardStart (by rw [State.forwardStart, hnone]))
  · exact congrArg Host.Outcome.next (hwhile State.fetchStart (by rw [State.fetchStart, hnone]))
  · exact congrArg Host.Outcome.next (hwhile State.adviceStart (by rw [State.adviceStart, hnone]))
  · exact congrArg Host.Outcome.next (hwhile State.answerStart (by rw [State.answerStart, hnone]))
  · exact congrArg Host.Outcome.next (hwhile State.blockStart (by rw [State.blockStart, hnone]))

/-! ### Online slots (R50, R99, R101) -/

theorem onlySlot_of_modify {g : OnlineSlot → OnlineSlot} (ht : t.tkc.slots = modifyKey OnlineSlot.number i g s.tkc.slots)
    (hg : ∀ z, (g z).number = z.number) (hx : s.slotAt i = some x) : s.OnlySlot t i ∧ t.slotAt i = some (g x) := by
  have hat : ∀ j, t.slotAt j = (s.slotAt j).map fun z => if j = i then g z else z := fun j => by
    rw [State.slotAt, ht]
    exact findKey_modifyKey fun z hz => (hg z).trans hz
  refine ⟨fun j hj => by simp [hat, hj], by simp [hat, hx]⟩

theorem startSlot_slots : (s.startSlot x n).tkc.slots = modifyKey OnlineSlot.number x.number
    (fun z => { z with state := .sending, tag := n, timer := s.replyTimer }) s.tkc.slots := by
  simp [State.startSlot, State.modifySlot]

theorem txnAt_setStage {g : Stage} {o : Option Nat} (hy : s.txnAt a = some y) :
    (s.setStage a g o).txnAt a = some { y with stage := g, slot := o } := by
  have hfirst : (s.modifyTxn a fun t => { t with stage := g, slot := o }).txnAt a = some { y with stage := g, slot := o } := by
    rw [txnAt_modifyTxn fun _ h => by exact h, hy]
    simp
  exact hfirst

theorem fetchAt_setStage {g : Stage} {o : Option Nat} (hf : s.fetchAt a = some f) :
    (s.setStage a g o).fetchAt a = some { f with stage := g, slot := o } := by
  have hbase : (s.modifyTxn a fun t => { t with stage := g, slot := o }).fetchAt a = some f := hf
  rw [State.setStage, fetchAt_modifyFetch fun _ h => by exact h, hbase]
  simp

theorem journalTakes_posting {p : Posting} : s.journalTakes (.posting p) = true ↔
    s.dyc.day ≠ .noDay ∧ s.jnc.postingsClosed = false ∧ s.jnc.counter < 65279 := by
  simp [State.journalTakes, postingKind, ordinaryKind, Config.ordinaryLimit, and_assoc]

theorem exec_txnForwardStart (h : s.GrantsSlot x) (hk : x.kind = .txnForward) (hy : s.txnAt x.drop = some y) :
    exec .txnForwardStart s = .next (s.startForward x y) := by
  have hexec : exec .txnForwardStart s = .next (s.whileRunning State.forwardStart) := rfl
  rw [hexec, whileRunning_of h.1, State.forwardStart, granted_slot h]
  simp [hk, hy]

theorem exec_passbookFetchStart (h : s.GrantsSlot x) (hk : x.kind = .passbookFetch) (hf : s.fetchAt x.drop = some f) :
    exec .passbookFetchStart s = .next (s.startFetch x f) := by
  have hexec : exec .passbookFetchStart s = .next (s.whileRunning State.fetchStart) := rfl
  rw [hexec, whileRunning_of h.1, State.fetchStart, granted_slot h]
  simp [hk, hf]

/-- The state of a TXN-FORWARD with its record written and its slot started. -/
def State.forwarded (s : State) (x : OnlineSlot) (y : Txn) : State :=
  ((s.writeRecord (y.record .online .awaiting)).startSlot x s.nextSeq).modifyTxn x.drop fun t => { t with seq := some s.nextSeq }

theorem startForward_taken (ht : s.journalTakes (y.record .online .awaiting).body = true) : s.startForward x y =
    (s.forwarded x y).send x.number s.nextSeq (.txnForward y.drop y.defIndex (y.code.getD 0) y.account y.legs) := by
  rw [State.startForward]
  exact if_pos ht

/-- A transaction refused JOURNAL-FULL at its frame's start, before the drain is judged. -/
def State.forwardRefused (s : State) (x : OnlineSlot) (y : Txn) : State :=
  (((s.freeSlotAt x.number).modifyTeller y.teller Teller.restore).handOver y.drop
    (.final { y.reply .journalFull with note := none })).putTxn
    { y with stage := .answered, slot := none, outcome := some .journalFull, limit := none, holdTimer := .stopped }

theorem startForward_refused (ht : s.journalTakes (y.record .online .awaiting).body = false) :
    s.startForward x y = (s.forwardRefused x y).judgeDrain.serveWaitList := by
  rw [State.startForward, if_neg (by rw [ht]; decide)]
  rfl

/-- Settles O32: a TXN-FORWARD whose record is taken or refused, and a PASSBOOK-FETCH. -/
theorem onlineFramesStart : Obligations.OnlineFramesStart := by
  unfold Obligations.OnlineFramesStart
  refine ⟨fun s x y h hk hy hday => ⟨fun hopen hroom => ?_, fun hno => ?_⟩, fun s x f h hk hf => ?_⟩
  · have ht : s.journalTakes (y.record .online .awaiting).body = true := journalTakes_posting.2 ⟨hday, hopen, hroom⟩
    have hexec := exec_txnForwardStart h hk hy
    rw [startForward_taken ht] at hexec
    have htkc := tkc_writeRecord (s := s) (r := y.record .online .awaiting)
    have hparams : (s.writeRecord (y.record .online .awaiting)).replyTimer = s.replyTimer := by simp [State.replyTimer]
    obtain ⟨honly, hslot⟩ := onlySlot_of_modify (s := s) (t := (s.forwarded x y).send x.number s.nextSeq
        (.txnForward y.drop y.defIndex (y.code.getD 0) y.account y.legs))
      (g := fun z => { z with state := .sending, tag := s.nextSeq, timer := s.replyTimer })
      (by
        have hslots : (s.forwarded x y).tkc.slots = ((s.writeRecord (y.record .online .awaiting)).startSlot x s.nextSeq).tkc.slots :=
          rfl
        rw [show ((s.forwarded x y).send x.number s.nextSeq (.txnForward y.drop y.defIndex (y.code.getD 0) y.account
          y.legs)).tkc.slots = (s.forwarded x y).tkc.slots from rfl, hslots, startSlot_slots, hparams, htkc])
      (fun _ => rfl) h.2.2.2.2.2
    refine ⟨_, hexec, ?_, ?_, hslot, honly, ?_, ?_⟩
    · apply State.eq_of_blocks <;> simp [State.forwarded]
    · exact (wrote_writeRecord rfl ht).congr (by simp [State.forwarded])
    · have hbase : ((s.writeRecord (y.record .online .awaiting)).modifySlot x.number fun z =>
          { z with state := .sending, tag := s.nextSeq, timer := (s.writeRecord (y.record .online .awaiting)).replyTimer
            }).txnAt x.drop = some y := (txnAt_congr (by simp)).trans hy
      have hstaged := txnAt_setStage (g := .onTrunk) (o := some x.number) hbase
      have hlast : ((s.forwarded x y).send x.number s.nextSeq (.txnForward y.drop y.defIndex (y.code.getD 0) y.account
        y.legs)).txnAt x.drop = (s.forwarded x y).txnAt x.drop := rfl
      rw [hlast, State.forwarded, txnAt_modifyTxn fun _ h => by exact h]
      exact (congrArg (Option.map _) hstaged).trans (congrArg some (if_pos rfl))
    · have hstraps : (s.forwarded x y).straps = s.straps := by simp [State.forwarded]
      simp [State.send, hstraps, State.nextSeq]
  · have ht : s.journalTakes (y.record .online .awaiting).body = false := by
      rw [Bool.eq_false_iff]
      intro hc
      obtain ⟨-, hopen, hroom⟩ := journalTakes_posting.1 hc
      rcases hno with hclosed | hfull
      · exact absurd (hclosed.symm.trans hopen) (by decide)
      · exact Nat.not_lt.2 hfull hroom
    have hexec := exec_txnForwardStart h hk hy
    rw [startForward_refused ht] at hexec
    obtain ⟨honly, hslot⟩ := onlySlot_of_modify (s := s) (t := s.forwardRefused x y) (g := fun z => freeSlot z.number) rfl
      (fun _ => rfl) h.2.2.2.2.2
    exact ⟨_, hexec, rfl, rfl, hslot, honly, _, txnAt_putTxn.trans (if_pos (txnAt_drop hy)), rfl, rfl⟩
  · have hexec := exec_passbookFetchStart h hk hf
    have hslots : (s.startFetch x f).tkc.slots = (s.startSlot x s.tkc.fetchCounter).tkc.slots := rfl
    have hfetches : (s.startFetch x f).fetchAt x.drop = (s.startSlot x s.tkc.fetchCounter).fetchAt x.drop := rfl
    obtain ⟨honly, hslot⟩ := onlySlot_of_modify (s := s) (t := s.startFetch x f)
      (g := fun z => { z with state := .sending, tag := s.tkc.fetchCounter, timer := s.replyTimer })
      (hslots.trans startSlot_slots) (fun _ => rfl) h.2.2.2.2.2
    refine ⟨_, hexec, ?_, hslot, honly, ?_, rfl, ?_⟩
    · apply State.eq_of_blocks <;> simp [State.startFetch]
    · rw [hfetches, State.startSlot]
      exact fetchAt_setStage hf
    · simp [State.startFetch, State.send]

/-! ### The lower sources (R100, R105, R106, R119, R168, R171) -/

theorem frozenDay_eq_false {d : DayState} (h1 : d ≠ .sending) (h2 : d ≠ .sendStalled) (h3 : d ≠ .sent) :
    frozenDay d = false := by
  cases d <;> simp_all [frozenDay]

theorem adviceReady_eq_false (h : s.siu.sfq = [] ∨ s.tkc.link = .offline ∨ s.tkc.link = .suspect ∨ s.tkc.slot6.state ≠ .free ∨
    s.dyc.day = .sending ∨ s.dyc.day = .sendStalled ∨ s.dyc.day = .sent) : s.adviceReady = false := by
  rcases h with h | h | h | h | h | h | h <;> simp [State.adviceReady, frozenDay, h]

theorem adviceStart_ready {e : SfqEntry} {rest : List SfqEntry} (h : s.NoSlotReady) (hs : s.siu.sfq = e :: rest)
    (hfree : s.tkc.slot6.state = .free) (hl : s.tkc.link = .online ∨ s.tkc.link = .resync)
    (hday : frozenDay s.dyc.day = false) : s.adviceStart =
      (s.onTkc fun t => { t with slot6 := ⟨.sending, e.seq, s.replyTimer⟩ }).send 6 e.seq
        (.advice e.kind (s.recordAt e.seq)) := by
  have hready : s.adviceReady = true := by
    rcases hl with hl | hl <;> simp [State.adviceReady, hfree, hs, hl, hday]
  rw [State.adviceStart, granted_lower h, if_pos hready, hs]

theorem answerStart_ready {e : NodeEntry} {rest : List NodeEntry} (h : s.NoSlotReady) (hno : s.adviceReady = false)
    (hq : s.tkc.nodeQueue = e :: rest) (h7 : s.tkc.slot7 = none) : s.answerStart =
      ((s.onTkc fun t => { t with nodeQueue := rest, slot7 := some e }).send 7 e.tag (.node e.body)).joinWaiting := by
  have hready : s.answerReady = true := by simp [State.answerReady, hq, h7]
  rw [State.answerStart, granted_lower h, if_neg (by rw [hno]; decide), if_pos hready, hq]

theorem joinWaiting_room (h : s.nodeRoom = true) : s.joinWaiting = { s with tkc := { s.tkc with
    nodeQueue := s.tkc.nodeQueue ++ s.tkc.waiting.toList, waiting := none } } := by
  unfold State.joinWaiting
  cases hw : s.tkc.waiting with
  | none =>
    have htkc : s.tkc = { s.tkc with nodeQueue := s.tkc.nodeQueue ++ (none : Option NodeEntry).toList, waiting := none } := by
      rw [Option.toList_none, List.append_nil, ← hw]
    exact congrArg (fun t => { s with tkc := t }) htkc
  | some e => exact if_pos h

theorem blockStart_ready {b : Batch} (h : s.NoSlotReady) (hno : s.adviceReady = false) (hq : s.tkc.nodeQueue = [])
    (hday : s.dyc.day = .sending) (hb : s.dyc.batch = some b) (hleft : b.next ≤ b.blocks + 1) (hwindow : b.next < b.oldest + 4) :
    s.blockStart = (s.send 7 b.next (s.blockBody b) s.dyc.resumed).onDyc fun y =>
      { y with batch := some { b with next := b.next + 1 }, resumed := false } := by
  have hanswer : s.answerReady = false := by simp [State.answerReady, hq]
  have hready : s.batchReady = true := by simp [State.batchReady, hday, hb, hleft, hwindow]
  rw [State.blockStart, granted_lower h, if_neg (by rw [hno]; decide), if_neg (by rw [hanswer]; decide), if_pos hready, hb]

theorem blockRecords_eq (l : List Record) (m k : Nat) : blockRecords l m k =
    l.filter fun r => decide (16 * (k - 1) < r.seq ∧ r.seq ≤ 16 * k ∧ r.seq ≤ m) :=
  List.filter_congr fun _ _ => decide_eq_decide.2 (and_congr_right fun _ => Nat.le_min)

/-- Settles O33: each source in its turn, and no start without the transmitter or under strap 0. -/
theorem lowerSourcesStart : Obligations.LowerSourcesStart := by
  unfold Obligations.LowerSourcesStart
  refine ⟨fun s h => ⟨fun e rest hs hfree hl h1 h2 h3 => ?_, fun hno => ⟨fun e rest hq h7 hlen => ?_,
    fun b hq hday hb hleft hwindow => ?_⟩⟩, fun s c hc h => frameStart_idle hc h⟩
  · have hexec : exec .adviceStart s = .next (s.whileRunning State.adviceStart) := rfl
    rw [hexec, whileRunning_of h.1, adviceStart_ready h hs hfree hl (frozenDay_eq_false h1 h2 h3)]
    rfl
  · have hexec : exec .nodeAnswerStart s = .next (s.whileRunning State.answerStart) := rfl
    have hroom : ((s.onTkc fun t => { t with nodeQueue := rest, slot7 := some e }).send 7 e.tag (.node e.body)).nodeRoom =
        true := by
      rw [hq, List.length_cons] at hlen
      exact decide_eq_true hlen
    rw [hexec, whileRunning_of h.1, answerStart_ready h (adviceReady_eq_false hno) hq h7, joinWaiting_room hroom]
    rfl
  · have hexec : exec .batchBlockStart s = .next (s.whileRunning State.blockStart) := rfl
    rw [hexec, whileRunning_of h.1, blockStart_ready h (adviceReady_eq_false hno) hq hday hb hleft hwindow]
    have hbody : s.blockBody b = if b.next ≤ b.blocks then .batchBlock (s.jnc.records.filter fun r =>
          decide (16 * (b.next - 1) < r.seq ∧ r.seq ≤ 16 * b.next ∧ r.seq ≤ b.records))
        else .batchTrailer b.records b.blocks s.dyc.date s.dyc.time b.totals := by
      rw [State.blockBody, blockRecords_eq]
    rw [hbody]
    rfl

/-! ### The end of a frame (R89, R101, R105, R106, R171, R176) -/

theorem exec_trunkFrameEnd {z : Transmission} (hr : s.isRunning = true) (hn : s.restarting = none)
    (hz : s.tkc.transmitter = some z) : exec .trunkFrameEnd s = .next s.frameEnd := by
  have hexec : exec .trunkFrameEnd s = .next (s.whileRunning State.frameEndOrRestart) := rfl
  rw [hexec, whileRunning_of hr, State.frameEndOrRestart, if_pos (by rw [hz]; rfl), hn]

/-- The end of an online slot's frame. -/
theorem frameEnd_online {z : Transmission} (hz : s.tkc.transmitter = some z)
    (hb : (∃ a i c n l, z.frame.body = .txnForward a i c n l) ∨ ∃ n p, z.frame.body = .passbookFetch n p) :
    s.frameEnd = (s.onTkc fun t => { t with transmitter := none }).modifySlot z.frame.slot fun y =>
      if y.state = .sending ∧ y.tag = z.frame.tag then { y with state := .await } else y := by
  rcases hb with ⟨a, i, c, n, l, hb⟩ | ⟨n, p, hb⟩ <;> simp [State.frameEnd, hz, hb]

theorem frameEnd_batch {z : Transmission} (hz : s.tkc.transmitter = some z)
    (hb : (∃ l, z.frame.body = .batchBlock l) ∨ ∃ n k d m o, z.frame.body = .batchTrailer n k d m o) :
    s.frameEnd = (s.onTkc fun t => { t with transmitter := none }).blockEnd z.frame.tag z.startsTimer := by
  rcases hb with ⟨l, hb⟩ | ⟨n, k, d, m, o, hb⟩ <;> simp [State.frameEnd, hz, hb]

theorem blockEnd_eq {b : Batch} {q : Bool} (hb : s.dyc.batch = some b) : s.blockEnd n q = { s with dyc := { s.dyc with
    blockTimer := if s.dyc.day = .sending ∧ b.oldest < b.next ∧ (q = true ∨ n = b.oldest) then
      .running s.dyc.params.blockTimer else s.dyc.blockTimer } } := by
  have hcond : (s.dyc.day = .sending ∧
      (s.dyc.batch.any fun b => decide (b.oldest < b.next) && (q || n == b.oldest)) = true) ↔
      (s.dyc.day = .sending ∧ b.oldest < b.next ∧ (q = true ∨ n = b.oldest)) := by simp [hb]
  rw [State.blockEnd]
  by_cases h : s.dyc.day = .sending ∧ b.oldest < b.next ∧ (q = true ∨ n = b.oldest)
  · rw [if_pos (hcond.2 h), if_pos h]
    rfl
  · rw [if_neg fun hc => h (hcond.1 hc), if_neg h]

/-- Settles O34: the end of a frame, by its body. -/
theorem frameEnds : Obligations.FrameEnds := by
  unfold Obligations.FrameEnds
  intro s x hr hn hx
  have hexec := exec_trunkFrameEnd hr hn hx
  refine ⟨fun y hy hb => ?_, fun k r hb => ?_, fun b hb => ?_, fun b hb hbatch => ?_⟩
  · rw [frameEnd_online hx hb] at hexec
    obtain ⟨honly, hslot⟩ := onlySlot_of_modify (s := s)
      (t := (s.onTkc fun t => { t with transmitter := none }).modifySlot x.frame.slot fun y =>
        if y.state = .sending ∧ y.tag = x.frame.tag then { y with state := .await } else y) rfl
      (fun z => by split <;> rfl) hy
    exact ⟨_, hexec, rfl, rfl, honly, hslot⟩
  · rw [hexec, State.frameEnd, hx]
    simp only [hb]
    by_cases hs : s.tkc.slot6.state = .sending ∧ s.tkc.slot6.seq = x.frame.tag
    · simp [State.onTkc, hs]
    · simp [State.onTkc, hs]
  · rw [hexec, State.frameEnd, hx]
    simp only [hb]
    rfl
  · rw [hexec, frameEnd_batch hx hb, blockEnd_eq (s := s.onTkc fun t => { t with transmitter := none }) hbatch]
    rfl

end Sys2Proof.Machine
end

section
/-! SUPPORT. The final outcome of a work item before the drain is judged, and a line appended to a passbook. -/

namespace Sys2Proof.Machine

variable {s t u v : State} {a b k n : Nat} {d : Drop} {y : Txn} {r : FinalReply} {f : Drop → Drop}

/-! ### The final outcome (R37, R44, R57) -/

/-- A work item with its outcome: the masks are restored, the reply is handed over, and the item is ANSWERED. -/
def State.concluded (s : State) (y : Txn) (r : FinalReply) : State :=
  ((s.modifyTeller y.teller Teller.restore).handOver y.drop (.final r)).putTxn
    { y with stage := .answered, slot := none, outcome := some r.result, limit := none, holdTimer := .stopped }

theorem reachOutcome_eq : s.reachOutcome y r = (s.concluded y r).judgeDrain := rfl

theorem concluded_blocks :
    s.concluded y r = { s with lpc := (s.concluded y r).lpc, rqu := (s.concluded y r).rqu } := rfl

theorem txnAt_concluded : (s.concluded y r).txnAt y.drop = some
    { y with stage := .answered, slot := none, outcome := some r.result, limit := none, holdTimer := .stopped } :=
  txnAt_putTxn.trans (if_pos rfl)

theorem onlyTxn_concluded : s.OnlyTxn (s.concluded y r) y.drop y.teller :=
  ⟨rfl, fun _ hb => txnAt_putTxn.trans (if_neg (Ne.symm hb))⟩

/-- The outcome takes the loop on from where it stands: the reply is handed to the item's own drop. -/
theorem State.Touches.concluded (h : s.Touches t y.drop f) :
    s.Touches (t.concluded y r) y.drop fun d => (f d).take s.lpc.loop (.final r) := by
  have hm := h.modify (Drop.Unmarking.take t.lpc.loop (.final r))
  rw [h.loopState] at hm
  have hlpc : (t.concluded y r).lpc = (t.modifyDrop y.drop fun d => d.take s.lpc.loop (.final r)).lpc := by
    rw [← h.loopState]
    rfl
  exact hm.congr hlpc

/-- A reply handed to a drop alone: no other record of the loop changes. -/
theorem onlyDrop_concluded : s.OnlyDrop (s.concluded y r) y.drop := by
  refine ⟨rfl, fun b hb => ?_⟩
  have hlpc : (s.concluded y r).lpc = (s.handOver y.drop (.final r)).lpc := rfl
  rw [dropAt_congr hlpc, dropAt_handOver]
  simp [hb]

theorem dropAt_concluded (hd : s.dropAt y.drop = some d) :
    (s.concluded y r).dropAt y.drop = some (d.take s.lpc.loop (.final r)) := by
  have hlpc : (s.concluded y r).lpc = (s.handOver y.drop (.final r)).lpc := rfl
  rw [dropAt_congr hlpc, dropAt_handOver, hd]
  simp

/-- A drop that cannot receive, or a loop at fault, keeps a final reply as the held reply (R8, R13). -/
theorem Drop.take_held (h : d.canReceive = false ∨ u.lpc.loop = .loopFault) :
    d.take u.lpc.loop (.final r) = { d with held := some (.final r) } := by
  rcases h with h | h <;> simp [Drop.take, h, isFinal]

/-! ### The drain is judged in CLOSE-DRAIN alone (R164) -/

theorem judgeDrain_of_other (h : s.dyc.day ≠ .closeDrain) : s.judgeDrain = s := if_neg fun hc => h hc.1

/-- A drop without work takes a new item; what was undecided elsewhere stays so. -/
theorem judgeDrain_concluded (hday : s.dyc.day = .closeDrain → s.noneUndecided = false) (hno : s.txnAt y.drop = none) :
    (s.concluded y r).judgeDrain = s.concluded y r := by
  refine if_neg fun ⟨hdrain, hnone⟩ => ?_
  have hsome := hday hdrain
  rw [State.noneUndecided, List.all_eq_false] at hsome
  obtain ⟨z, hz, hstage⟩ := hsome
  have hother : z ∈ (s.concluded y r).rqu.txns := mem_putKey_of_other hz (by
    have hfind : findKey Txn.drop y.drop s.rqu.txns = none := hno
    exact fun hc => by cases hfind.symm.trans hc)
  exact hstage (List.all_eq_true.1 hnone z hother)

theorem txnAt_refuse {q : Result} {o : Option LegNote} : (s.refuse y q o).txnAt y.drop = some
    { y with stage := .answered, slot := none, outcome := some q, limit := none, holdTimer := .stopped } :=
  (txnAt_congr (s := s.concluded y { y.reply q with note := o }) (State.judgeDrain_frame _).2.2.2.2.2.2.1).trans txnAt_concluded

/-! ### Cash legs and the loop (R74, R76) -/

/-- What the cash legs of a completed transaction leave of its drop. -/
theorem touches_applyCash : s.Touches (s.applyCash y) y.drop fun d => { d with release := d.releasedBy y } := by
  have hcases : (s.applyCash y = s ∧ (y.drawer.isSome && y.legs.any isCashLeg) = false) ∨
      (∃ n, s.applyCash y = ((s.modifyDrawer n fun x => y.legs.foldl Drawer.applyLeg x).setRelease y.drop).judgeCashHigh n ∧
        (y.drawer.isSome && y.legs.any isCashLeg) = true) := by
    unfold State.applyCash
    cases hn : y.drawer with
    | none => exact .inl ⟨rfl, rfl⟩
    | some n =>
      by_cases hc : y.legs.any isCashLeg = true
      · exact .inr ⟨n, if_pos hc, by simp [hc]⟩
      · exact .inl ⟨if_neg hc, by simpa using hc⟩
  rcases hcases with ⟨heq, hno⟩ | ⟨n, heq, hyes⟩
  · rw [heq]
    have hf : (fun d : Drop => { d with release := d.releasedBy y }) = id := by
      funext d
      simp [Drop.releasedBy, hno]
    rw [hf]
    exact .refl s _
  · rw [heq]
    have hf : (fun d : Drop => { d with release := d.releasedBy y }) = fun d => { (id d) with release := true } := by
      funext d
      simp [Drop.releasedBy, hyes]
    rw [hf]
    exact (((State.Touches.refl s _).congr (u := s.modifyDrawer n fun x => y.legs.foldl Drawer.applyLeg x) rfl).setRelease).marks
      (unmarked_judgeCashHigh n)

/-! ### A line appended to a passbook (R139) -/

theorem appends_place (b : Passbook) (free : Nat) (l : Line) :
    b.Appends (({ b with lineBalance := b.lineBalance + l.amount }.place free l).foldIfLong) free l := by
  refine ⟨fun hi hf => ?_, fun h => ?_, fun hi hf hm => ?_⟩
  · have hplace : ({ b with lineBalance := b.lineBalance + l.amount }.place free l) =
        { b with lineBalance := b.lineBalance + l.amount, pending := b.pending ++ [l] } := by
      simp [Passbook.place, hi, Nat.pos_iff_ne_zero.1 hf]
    rw [hplace]
    rfl
  · have hplace : ({ b with lineBalance := b.lineBalance + l.amount }.place free l) =
        { b with lineBalance := b.lineBalance + l.amount }.joinOverflow l := by
      rcases h with rfl | ⟨hi, hm⟩
      · simp [Passbook.place]
      · have hm' : ({ b with lineBalance := b.lineBalance + l.amount } : Passbook).markedOverflow = true := hm
        simp [Passbook.place, hi, hm']
    rw [hplace]
    rfl
  · have hm' : ({ b with lineBalance := b.lineBalance + l.amount } : Passbook).markedOverflow = false := hm
    have hplace : ({ b with lineBalance := b.lineBalance + l.amount }.place free l) =
        ({ b with lineBalance := b.lineBalance + l.amount }.joinOverflow l).convertOverflow := by
      simp [Passbook.place, hi, hf, hm']
    rw [hplace]
    rfl

theorem poolFree_congr (h : t.siu.sat.map SatEntry.book = s.siu.sat.map SatEntry.book) : t.poolFree = s.poolFree := by
  have hmap : ∀ w : State, w.poolFree = Config.poolLines - ((w.siu.sat.map SatEntry.book).map fun b =>
      ((b.map fun b => b.pending.length).getD 0)).sum := fun w => by
    rw [List.map_map]
    rfl
  rw [hmap, hmap, h]

theorem poolFree_modifySat {f : SatEntry → SatEntry} (hf : ∀ e, (f e).book = e.book) :
    (s.modifySat n f).poolFree = s.poolFree := by
  refine poolFree_congr ?_
  rw [State.modifySat, State.onSiu_siu, modifyKey, List.map_map]
  refine List.map_congr_left fun e _ => ?_
  by_cases h : e.account = n <;> simp [h, hf]

theorem bookOf_satAt {e : SatEntry} (h : s.satAt n = some e) : s.bookOf n = e.book := by rw [State.bookOf, h]; rfl

theorem appendLine_noBook {l : Line} (h : s.bookOf n = none) : s.appendLine n l = s := by
  rw [State.appendLine, h]

theorem appendLine_inRange {l : Line} {b : Passbook} (h : s.bookOf n = some b)
    (hr : inBookRange (b.lineBalance + l.amount) = true) : s.appendLine n l = s.modifyBook n fun b =>
      ({ b with lineBalance := b.lineBalance + l.amount }.place s.poolFree l).foldIfLong := by
  rw [State.appendLine, h]
  exact if_pos hr

theorem appendLine_outOfRange {l : Line} {b : Passbook} (h : s.bookOf n = some b)
    (hr : inBookRange (b.lineBalance + l.amount) = false) : s.appendLine n l = s.raise (.passbookRange n) := by
  rw [State.appendLine, h]
  exact if_neg (by rw [hr]; decide)

theorem inBookRange_iff {m : Int} : inBookRange m = true ↔ -999999999999999 ≤ m ∧ m ≤ 999999999999999 := by
  exact decide_eq_true_iff

theorem siu_raise (c : Condition) : (s.raise c).siu = s.siu := by simp

/-- A line is appended to the passbook of its own account, and no other entry changes (R139). -/
theorem satAt_appendLine_other {l : Line} (h : k ≠ n) : (s.appendLine n l).satAt k = s.satAt k := by
  cases hb : s.bookOf n with
  | none => rw [appendLine_noBook hb]
  | some b =>
    cases hr : inBookRange (b.lineBalance + l.amount) with
    | true =>
      rw [appendLine_inRange hb hr, satAt_modifyBook]
      simp [h]
    | false => rw [appendLine_outOfRange hb hr, satAt_congr (siu_raise _)]

theorem siu_appendLine {l : Line} : (s.appendLine n l).siu = { s.siu with sat := (s.appendLine n l).siu.sat } := by
  cases hb : s.bookOf n with
  | none => rw [appendLine_noBook hb]
  | some b =>
    cases hr : inBookRange (b.lineBalance + l.amount) with
    | true => rw [appendLine_inRange hb hr]; rfl
    | false => rw [appendLine_outOfRange hb hr, siu_raise]

theorem raise_queued {c : Condition} (h : s.nodeRoom = true) : (s.raise c).tkc.nodeQueue = s.tkc.nodeQueue ++ [⟨0, .nodeStatus c⟩] := by
  rw [State.raise, State.raiseTagged, if_pos h]
  rfl

/-- What the passbook of an account becomes when a line is appended at `s`, as seen from a state `u` before it with the
same pool and from a state `t` after it with all of its reports. -/
theorem appendLine_book {l : Line} {e : SatEntry} (he : s.satAt k = some e) (hpool : s.poolFree = u.poolFree)
    (hroom : u.tkc.nodeQueue.length < 3 → s.nodeRoom = true)
    (hmore : ∀ m ∈ (s.appendLine k l).tkc.nodeQueue, m ∈ t.tkc.nodeQueue) :
    ∃ b, (s.appendLine k l).satAt k = some { e with book := b } ∧ u.BookTakes t k (some l) e.book b := by
  have hbook := bookOf_satAt he
  cases hb : e.book with
  | none =>
    rw [hb] at hbook
    refine ⟨none, ?_, fun _ => rfl, fun _ _ _ h => by cases h⟩
    rw [appendLine_noBook hbook, he, ← hb]
  | some b =>
    rw [hb] at hbook
    cases hr : inBookRange (b.lineBalance + l.amount) with
    | true =>
      refine ⟨some (({ b with lineBalance := b.lineBalance + l.amount }.place s.poolFree l).foldIfLong), ?_,
        fun h => by simp at h, fun l' b' hl hb' => ?_⟩
      · rw [appendLine_inRange hbook hr, satAt_modifyBook, he, Option.map_some, if_pos rfl, hb]
        rfl
      · cases hl
        cases hb'
        rw [if_pos (inBookRange_iff.1 hr), ← hpool]
        exact ⟨_, rfl, appends_place b _ l⟩
    | false =>
      have hout : ¬ (-999999999999999 ≤ b.lineBalance + l.amount ∧ b.lineBalance + l.amount ≤ 999999999999999) := fun h => by
        rw [inBookRange_iff.2 h] at hr
        cases hr
      have hlast := appendLine_outOfRange hbook hr
      refine ⟨some b, ?_, fun h => by simp at h, fun l' b' hl hb' => ?_⟩
      · rw [hlast, satAt_congr (siu_raise _), he, ← hb]
      · cases hl
        cases hb'
        rw [if_neg hout]
        refine ⟨rfl, fun hlen => hmore _ ?_⟩
        rw [hlast, raise_queued (hroom hlen)]
        exact List.mem_append_right _ List.mem_cons_self

/-- The line that a posted transaction asks for, if any, goes to the passbook of its account (R54, R114). -/
theorem appendTxnLine_book {g : Definition} {o : Origin} {q : Nat} {e : SatEntry} (hy : y.account = some k)
    (he : s.satAt k = some e) (hpool : s.poolFree = u.poolFree)
    (hroom : u.tkc.nodeQueue.length < 3 → s.nodeRoom = true)
    (hmore : ∀ m ∈ (s.appendTxnLine y g o q).tkc.nodeQueue, m ∈ t.tkc.nodeQueue) :
    ∃ b, (s.appendTxnLine y g o q).satAt k = some { e with book := b } ∧
      u.BookTakes t k (passbookLine g y.legs s.dyc.date o q) e.book b := by
  have hnone : passbookLine g y.legs s.dyc.date o q = none → s.appendTxnLine y g o q = s →
      ∃ b, (s.appendTxnLine y g o q).satAt k = some { e with book := b } ∧
        u.BookTakes t k (passbookLine g y.legs s.dyc.date o q) e.book b := fun hl hs => by
    rw [hs, hl]
    exact ⟨e.book, he, fun _ => rfl, fun _ _ h => by cases h⟩
  cases hleg : accountLeg y.legs with
  | none => exact hnone (by simp [passbookLine, hleg]) (by simp [State.appendTxnLine, hy, hleg])
  | some l =>
    cases hg : g.passbookLine with
    | false => exact hnone (by simp [passbookLine, hg]) (by simp [State.appendTxnLine, hy, hleg, hg])
    | true =>
      have hline : passbookLine g y.legs s.dyc.date o q = some (txnLine g l s.dyc.date o q) := by
        simp [passbookLine, hg, hleg, txnLine]
      have hlast : s.appendTxnLine y g o q = s.appendLine k (txnLine g l s.dyc.date o q) := by
        simp [State.appendTxnLine, hy, hleg, hg]
      rw [hlast] at hmore ⊢
      rw [hline]
      exact appendLine_book he hpool hroom hmore

theorem satAt_appendTxnLine_other {g : Definition} {o : Origin} {q : Nat} (h : y.account ≠ some k) :
    (s.appendTxnLine y g o q).satAt k = s.satAt k := by
  unfold State.appendTxnLine
  split
  · next account _ hy _ =>
    split
    · exact satAt_appendLine_other fun hk => h (by rw [hy, hk])
    · rfl
  · rfl

theorem siu_appendTxnLine {g : Definition} {o : Origin} {q : Nat} :
    (s.appendTxnLine y g o q).siu = { s.siu with sat := (s.appendTxnLine y g o q).siu.sat } := by
  unfold State.appendTxnLine
  split
  · split
    · exact siu_appendLine
    · rfl
  · rfl

end Sys2Proof.Machine
end

section
/-! SUPPORT. Head office's replies to a TXN-FORWARD, and the statements O35 and O36. -/

namespace Sys2Proof.Machine

variable {s t u v : State} {a b k n q reference : Nat} {d : Drop} {y : Txn} {r : Record} {x : OnlineSlot} {h : FrameHeader}
  {balance : ReplyBalance} {answer : ReplyAnswer}

/-! ### A matched reply (R102) -/

theorem txnReply_matched (hm : s.Matches h .txnForward x) (hy : s.txnAt x.drop = some y) :
    s.txnReply h answer = ((s.freeSlotAt x.number).completeOnline y h.tag answer).serveWaitList := by
  have htag : x.tag = h.tag := hm.2.2.2
  have htxn : (s.freeSlotAt x.number).txnAt x.drop = some y := hy
  rw [State.txnReply, matchedSlot_eq_some_iff.2 hm]
  simp only [htxn, htag, Option.map_some, Option.getD_some]

/-- The record of a forwarded transaction still awaits its reply. -/
theorem holdsDisposition_of {e : Disposition} (hr : s.recordAt q = some r) (hd : r.disposition = some e) :
    s.holdsDisposition q e = true := by simp [State.holdsDisposition, hr, hd]

theorem completeOnline_approved (hq : s.holdsDisposition q .awaiting = true) :
    s.completeOnline y q (.approved reference balance) = s.approve y q reference balance := if_pos hq

theorem completeOnline_declined {reason : Nat} (hq : s.holdsDisposition q .awaiting = true)
    (ha : answer = .declined reason ∨ (answer = .neither ∧ reason = 99)) :
    s.completeOnline y q answer = s.decline y q reason := by
  rcases ha with rfl | ⟨rfl, rfl⟩ <;> exact if_pos hq

/-- The matched slot, freed (R99). -/
theorem slots_freed {kind : OnlineKind} (hm : s.Matches h kind x) (ht : t.tkc.slots = (s.freeSlotAt x.number).tkc.slots) :
    s.OnlySlot t x.number ∧ t.slotAt x.number = some (freeSlot x.number) := by
  have hx : s.slotAt x.number = some x := by
    have hnum : x.number = h.slot := slotAt_number hm.1
    rw [hnum]
    exact hm.1
  exact onlySlot_of_modify (g := fun z => freeSlot z.number) ht (fun _ => rfl) hx

/-! ### The record's disposition (R133) -/

theorem onlyRecord_changed {e new : Disposition} {o : Option Nat} (hj : u.jnc = s.jnc)
    (ht : t.jnc = (u.changeDisposition q e new o).jnc) (hr : s.recordAt q = some r) (he : r.disposition = some e) :
    s.OnlyRecord t q { r with disposition := some new, reference := o <|> r.reference } := by
  have hru : u.recordAt q = some r := (recordAt_congr hj).trans hr
  have hholds : u.holdsDisposition q e = true := by simp [State.holdsDisposition, hru, he]
  refine ⟨?_, fun k hk => ?_, ?_⟩
  · rw [recordAt_congr ht, recordAt_changeDisposition, hru]
    simp [hholds]
  · rw [recordAt_congr ht, recordAt_changeDisposition, recordAt_congr hj]
    simp [hk]
  · rw [ht, State.changeDisposition, if_pos hholds, ← hj]
    rfl

theorem State.CashApplied.congr {s' t' : State} (h : s.CashApplied t y) (hs : s'.csu = s.csu) (ht : t'.csu = t.csu) :
    s'.CashApplied t' y := by
  obtain ⟨hcsu, hnone, hsome⟩ := h
  refine ⟨by rw [ht, hs]; exact hcsu, fun hc => by rw [ht, hs]; exact hnone hc, fun n hn hc => ?_⟩
  obtain ⟨honly, hat⟩ := hsome n hn hc
  refine ⟨fun m hm => ?_, ?_⟩
  · rw [drawerAt_congr ht, drawerAt_congr hs]
    exact honly m hm
  · rw [drawerAt_congr ht, drawerAt_congr hs]
    exact hat

/-! ### An APPROVED reply (R54) -/

/-- The record, the cash legs and the snapshot of an approved transaction. -/
def State.approvedCash (s : State) (y : Txn) (q reference : Nat) (balance : ReplyBalance) : State :=
  ((s.changeDisposition q .awaiting .approved (some reference)).applyCash y).refreshSnapshot y.account balance

theorem approvedLine_frame : (s.approvedLine y q).jnc = s.jnc ∧ (s.approvedLine y q).csu = s.csu ∧
    (s.approvedLine y q).dyc = s.dyc ∧ (s.approvedLine y q).pbu = s.pbu ∧ (s.approvedLine y q).lpc = s.lpc ∧
    (s.approvedLine y q).rqu = s.rqu := by
  unfold State.approvedLine
  split <;> simp

theorem trails_approvedLine : s.Trails (s.approvedLine y q) := by
  unfold State.approvedLine
  split
  · exact trails_appendTxnLine
  · exact .refl s

theorem siu_approvedLine : (s.approvedLine y q).siu = { s.siu with sat := (s.approvedLine y q).siu.sat } := by
  unfold State.approvedLine
  split
  · exact siu_appendTxnLine
  · rfl

theorem satAt_approvedLine_other (hk : y.account ≠ some k) : (s.approvedLine y q).satAt k = s.satAt k := by
  unfold State.approvedLine
  split
  · exact satAt_appendTxnLine_other hk
  · rfl

theorem approvedLine_book {e : SatEntry} (hy : y.account = some k) (he : s.satAt k = some e) (hpool : s.poolFree = u.poolFree)
    (hroom : u.tkc.nodeQueue.length < 3 → s.nodeRoom = true) (ht : t.tkc = (s.approvedLine y q).tkc) :
    ∃ b, (s.approvedLine y q).satAt k = some { e with book := b } ∧
      u.BookTakes t k (y.defn.bind fun g => passbookLine g y.legs s.dyc.date .branch q) e.book b := by
  unfold State.approvedLine at ht ⊢
  cases hg : y.defn with
  | none => exact ⟨e.book, he, fun _ => rfl, fun _ _ h => by cases h⟩
  | some g =>
    rw [hg] at ht
    exact appendTxnLine_book hy he hpool hroom fun m hm => by rw [ht]; exact hm

theorem satAt_refreshSnapshot_other {o : Option Nat} (hk : o ≠ some k) : (s.refreshSnapshot o balance).satAt k = s.satAt k := by
  unfold State.refreshSnapshot
  split
  · split
    · next a =>
      split
      · rw [satAt_modifySat fun _ h => by exact h]
        have hne : k ≠ a := fun e => hk (by rw [e])
        simp [hne]
      · rfl
    · rfl
  · rfl

/-- The snapshot of an approved transaction's account, and no other figure, takes a balance in range (R116). -/
theorem satAt_refreshSnapshot {e : SatEntry} (he : s.satAt k = some e) : ∃ snapshot,
    (s.refreshSnapshot (some k) balance).satAt k = some { e with snapshot := snapshot } ∧
      (∀ n, balance = .value n → -999999999999 ≤ n → n ≤ 999999999999 →
        snapshot = max (-999999999999) (min (n + e.net) 999999999999)) ∧
      ((∀ n, balance = .value n → n < -999999999999 ∨ 999999999999 < n) → snapshot = e.snapshot) := by
  by_cases hb : ∃ n, balance = .value n ∧ inTotalRange n = true
  · obtain ⟨n, rfl, hn⟩ := hb
    refine ⟨max (-999999999999) (min (n + e.net) 999999999999), ?_, fun m hm _ _ => by cases hm; rfl, fun h => ?_⟩
    · have hlast : s.refreshSnapshot (some k) (.value n) = s.modifySat k fun e => e.refresh n := if_pos hn
      rw [hlast, satAt_modifySat fun _ h => by exact h, he, Option.map_some, if_pos rfl]
      rfl
    · obtain ⟨hlow, hhigh⟩ := inTotalRange_iff.1 hn
      have hout := h n rfl
      omega
  · refine ⟨e.snapshot, ?_, fun n hn hlow hhigh => absurd ⟨n, hn, inTotalRange_iff.2 ⟨hlow, hhigh⟩⟩ hb, fun _ => rfl⟩
    have hlast : s.refreshSnapshot (some k) balance = s := by
      cases balance with
      | value n => exact if_neg fun hn => hb ⟨n, rfl, hn⟩
      | _ => rfl
    rw [hlast, he]

theorem siu_refreshSnapshot {o : Option Nat} :
    (s.refreshSnapshot o balance).siu = { s.siu with sat := (s.refreshSnapshot o balance).siu.sat } := by
  unfold State.refreshSnapshot
  (repeat' split) <;> rfl

theorem poolFree_refreshSnapshot {o : Option Nat} : (s.refreshSnapshot o balance).poolFree = s.poolFree := by
  unfold State.refreshSnapshot
  repeat' split
  · exact poolFree_modifySat fun _ => rfl
  all_goals rfl

/-- The reply that an approved transaction is answered with (R57). -/
def Txn.approvedReply (y : Txn) (q reference : Nat) (balance : ReplyBalance) : FinalReply :=
  { y.reply .approved with
    seq := some q, reference := some reference, legs := y.legs, unsold := y.unsold, balance := shownBalance balance }

/-- An approved transaction posted, up to its answer. -/
def State.approvedPosted (s : State) (y : Txn) (q reference : Nat) (balance : ReplyBalance) : State :=
  (s.approvedCash y q reference balance).approvedLine y q

theorem approve_eq : s.approve y q reference balance =
    ((s.approvedPosted y q reference balance).concluded y (y.approvedReply q reference balance)).judgeDrain := rfl

theorem approvedPosted_jnc : (s.approvedPosted y q reference balance).jnc =
    (s.changeDisposition q .awaiting .approved (some reference)).jnc := by
  simp [State.approvedPosted, approvedLine_frame, State.approvedCash]

theorem approvedPosted_blocks : (s.approvedPosted y q reference balance).dyc = s.dyc ∧
    (s.approvedPosted y q reference balance).pbu = s.pbu ∧ (s.approvedPosted y q reference balance).rqu = s.rqu := by
  simp [State.approvedPosted, approvedLine_frame, State.approvedCash]

theorem approvedPosted_slots : (s.approvedPosted y q reference balance).tkc.slots = s.tkc.slots := by
  rw [State.approvedPosted, trails_approvedLine.slots]
  simp [State.approvedCash]

theorem cashApplied_approvedPosted : s.CashApplied (s.approvedPosted y q reference balance) y :=
  (cashApplied_applyCash (s := s.changeDisposition q .awaiting .approved (some reference)) y).congr (by simp)
    (by simp [State.approvedPosted, approvedLine_frame, State.approvedCash])

theorem touches_approvedPosted :
    s.Touches (s.approvedPosted y q reference balance) y.drop fun d => { d with release := d.releasedBy y } := by
  have hcash : (s.changeDisposition q .awaiting .approved (some reference)).Touches
      ((s.changeDisposition q .awaiting .approved (some reference)).applyCash y) y.drop
      fun d => { d with release := d.releasedBy y } := touches_applyCash
  have hlpc : (s.approvedPosted y q reference balance).lpc =
      ((s.changeDisposition q .awaiting .approved (some reference)).applyCash y).lpc := by
    simp [State.approvedPosted, approvedLine_frame, State.approvedCash]
  refine ⟨hcash.unmarking, (unmarked_congr hlpc).trans (hcash.loop.trans ?_)⟩
  exact unmarked_modifyDrop_congr hcash.unmarking (unmarked_congr (by simp))

theorem siu_approvedPosted : (s.approvedPosted y q reference balance).siu.sfq = s.siu.sfq := by
  rw [State.approvedPosted, siu_approvedLine, State.approvedCash, siu_refreshSnapshot]
  simp

theorem satAt_approvedPosted_other (hk : y.account ≠ some k) :
    (s.approvedPosted y q reference balance).satAt k = s.satAt k := by
  rw [State.approvedPosted, satAt_approvedLine_other hk, State.approvedCash, satAt_refreshSnapshot_other hk]
  exact satAt_congr (by simp)

/-- The account of an approved transaction: its snapshot and its passbook (R54, R116, R139). -/
theorem satAt_approvedPosted {e : SatEntry} (hs : s.siu = u.siu) (hd : s.dyc = u.dyc)
    (hq : s.tkc.nodeQueue = u.tkc.nodeQueue) (hk : y.account = some k) (he : s.satAt k = some e)
    (ht : t.tkc = (s.approvedPosted y q reference balance).tkc) : ∃ snapshot b,
    (s.approvedPosted y q reference balance).satAt k = some { e with snapshot := snapshot, book := b } ∧
      (∀ n, balance = .value n → -999999999999 ≤ n → n ≤ 999999999999 →
        snapshot = max (-999999999999) (min (n + e.net) 999999999999)) ∧
      ((∀ n, balance = .value n → n < -999999999999 ∨ 999999999999 < n) → snapshot = e.snapshot) ∧
      u.BookTakes t k (y.defn.bind fun g => passbookLine g y.legs u.dyc.date .branch q) e.book b := by
  have hpaid : ((s.changeDisposition q .awaiting .approved (some reference)).applyCash y).satAt k = some e := by
    rw [satAt_congr (s := s) (by simp), he]
  obtain ⟨snapshot, hat, hrange, hout⟩ := satAt_refreshSnapshot (balance := balance) hpaid
  rw [← hk] at hat
  have hcash : (s.approvedCash y q reference balance).satAt k = some { e with snapshot := snapshot } := hat
  have hpool : (s.approvedCash y q reference balance).poolFree = u.poolFree := by
    rw [State.approvedCash, poolFree_refreshSnapshot]
    exact poolFree_congr (by simp [hs])
  have hroom : u.tkc.nodeQueue.length < 3 → (s.approvedCash y q reference balance).nodeRoom = true := fun hlen => by
    have hlong : u.tkc.nodeQueue.length < 4 := by omega
    simpa [State.nodeRoom, State.approvedCash, hq, Config.nodePlaces] using hlong
  obtain ⟨b, hb, htakes⟩ := approvedLine_book (q := q) hk hcash hpool hroom ht
  have hdate : (s.approvedCash y q reference balance).dyc.date = u.dyc.date := by simp [State.approvedCash, hd]
  rw [hdate] at htakes
  exact ⟨snapshot, b, hb, hrange, hout, htakes⟩

/-- Settles O35: the reply's slot is freed, the transaction posted and answered, and then the drain is judged. -/
theorem approvedReplyCompletes : Obligations.ApprovedReplyCompletes := by
  unfold Obligations.ApprovedReplyCompletes
  rintro s u h x y r reference balance d hs rfl hm hy hr hdisp hd reply
  have hexec := exec_txnReply_of_receives (answer := .approved reference balance) hs
  rw [txnReply_matched hm hy, completeOnline_approved
    (s := s.seeFrame.freeSlotAt x.number) (holdsDisposition_of (r := r) hr hdisp), approve_eq] at hexec
  have hreply : .final (y.approvedReply h.tag reference balance) = reply := by cases balance <;> rfl
  have hrec := onlyRecord_changed (s := s.seeFrame) (u := s.seeFrame.freeSlotAt x.number) rfl
    (approvedPosted_jnc (y := y) (reference := reference) (balance := balance)) hr hdisp
  obtain ⟨hdyc, hpbu, hrqu⟩ := approvedPosted_blocks (s := s.seeFrame.freeSlotAt x.number) (y := y) (q := h.tag)
    (reference := reference) (balance := balance)
  have hslots := slots_freed hm (approvedPosted_slots (y := y) (q := h.tag) (reference := reference) (balance := balance))
  have hcash : s.seeFrame.CashApplied _ y := (cashApplied_approvedPosted (s := s.seeFrame.freeSlotAt x.number) (q := h.tag)
    (reference := reference) (balance := balance)).congr rfl rfl
  have hloop := (touches_approvedPosted (s := s.seeFrame.freeSlotAt x.number) (y := y) (q := h.tag) (reference := reference)
    (balance := balance))
  have hsfq := siu_approvedPosted (s := s.seeFrame.freeSlotAt x.number) (y := y) (q := h.tag) (reference := reference)
    (balance := balance)
  have hother := fun k => satAt_approvedPosted_other (s := s.seeFrame.freeSlotAt x.number) (k := k) (y := y) (q := h.tag)
    (reference := reference) (balance := balance)
  have hown := fun k e t hk he => satAt_approvedPosted (s := s.seeFrame.freeSlotAt x.number) (u := s.seeFrame) (t := t) (k := k)
    (y := y) (q := h.tag) (reference := reference) (balance := balance) (e := e) rfl rfl rfl hk he
  generalize (s.seeFrame.freeSlotAt x.number).approvedPosted y h.tag reference balance = w at *
  generalize s.seeFrame = u at *
  have htouch : u.Touches (w.concluded y (y.approvedReply h.tag reference balance)) y.drop fun d =>
      { d with release := d.releasedBy y }.take u.lpc.loop (.final (y.approvedReply h.tag reference balance)) :=
    State.Touches.concluded ⟨hloop.unmarking, hloop.loop⟩
  obtain ⟨m, hat⟩ := htouch.dropAt hd
  obtain ⟨htellers, htxns⟩ := onlyTxn_concluded (s := w) (y := y) (r := y.approvedReply h.tag reference balance)
  obtain ⟨honly, hslot⟩ := hslots
  refine ⟨_, m, hexec, hrec, hcash.congr rfl rfl, hslot, honly, hdyc, hpbu, htouch.onlyDropAndMarks, ⟨?_, fun b hb => ?_⟩,
    hsfq, fun k hk => hother k fun hc => hk hc.symm, fun k e hk he => hown k e _ hk he rfl, txnAt_concluded,
    fun hc hl hn => ?_, fun hc => ?_⟩
  · rw [htellers, hrqu]
    rfl
  · rw [htxns b hb]
    exact txnAt_congr hrqu
  · rw [hat, hl, ← hreply, Drop.take_room (d := { d with release := d.releasedBy y }) hc hn]
    rfl
  · rw [hat, ← hreply, Drop.take_held (d := { d with release := d.releasedBy y }) hc]

/-! ### A DECLINED reply (R55) -/

/-- Settles O36: the slot is freed, the record declined and the item answered, with nothing posted. -/
theorem declinedReplyEnds : Obligations.DeclinedReplyEnds := by
  unfold Obligations.DeclinedReplyEnds
  rintro s u h x y r answer reason d hs rfl hm hy hr hdisp hd hc hl hn ha
  have hexec := exec_txnReply_of_receives (answer := answer) hs
  rw [txnReply_matched hm hy, completeOnline_declined
    (s := s.seeFrame.freeSlotAt x.number) (holdsDisposition_of (r := r) hr hdisp) ha, State.decline, reachOutcome_eq] at hexec
  have hdrop : ((s.seeFrame.freeSlotAt x.number).changeDisposition h.tag .awaiting .declined (some reason)).lpc =
      s.seeFrame.lpc := by simp
  have hrqu : ((s.seeFrame.freeSlotAt x.number).changeDisposition h.tag .awaiting .declined (some reason)).rqu =
      s.seeFrame.rqu := by simp
  obtain ⟨honly, hslot⟩ := slots_freed hm (t := ((s.seeFrame.freeSlotAt x.number).changeDisposition h.tag .awaiting .declined
    (some reason)).concluded y { y.reply .declined with seq := some h.tag, reason := some reason }) (by
      rw [concluded_blocks]
      simp)
  obtain ⟨hlpc, hdrops⟩ := onlyDrop_concluded (s := (s.seeFrame.freeSlotAt x.number).changeDisposition h.tag .awaiting
    .declined (some reason)) (y := y) (r := { y.reply .declined with seq := some h.tag, reason := some reason })
  obtain ⟨htellers, htxns⟩ := onlyTxn_concluded (s := (s.seeFrame.freeSlotAt x.number).changeDisposition h.tag .awaiting
    .declined (some reason)) (y := y) (r := { y.reply .declined with seq := some h.tag, reason := some reason })
  refine ⟨_, hexec, ?_, onlyRecord_changed (u := s.seeFrame.freeSlotAt x.number) rfl rfl hr hdisp, hslot, honly,
    ⟨?_, fun b hb => ?_⟩, ⟨?_, fun b hb => ?_⟩, txnAt_concluded, ?_⟩
  · apply State.eq_of_blocks <;> rw [concluded_blocks] <;> simp
  · rw [hlpc, hdrop]
  · rw [hdrops b hb, dropAt_congr hdrop]
  · rw [htellers, hrqu]
  · rw [htxns b hb, txnAt_congr hrqu]
  · rw [dropAt_concluded ((dropAt_congr hdrop).trans hd), hdrop, hl, Drop.take_room hc hn]
    rfl

end Sys2Proof.Machine
end

section
/-! SUPPORT. Reply timers and the outcomes of an advice, and the statements O39 and O40. -/

namespace Sys2Proof.Machine

variable {s t u v : State} {i k n q : Nat} {y : Txn} {r : Record} {x : OnlineSlot} {h : FrameHeader}

/-! ### The journal after a write and a change (R128, R133) -/

theorem findKey_concat {α : Type} {key : α → Nat} {x : α} {l : List α} :
    findKey key k (l ++ [x]) = (findKey key k l).or (if key x = k then some x else none) := by
  rw [findKey, List.find?_append, List.find?_singleton]
  by_cases hk : key x = k <;> simp [findKey, hk]

theorem recordAt_writeRecord (h : s.journalTakes r.body = true) : (s.writeRecord r).recordAt k =
    (s.recordAt k).or (if s.jnc.counter + 1 = k then some { r with seq := s.jnc.counter + 1, stamp := s.jnc.clock } else none) := by
  rw [State.recordAt, jnc_writeRecord h]
  exact findKey_concat

/-- A numbered journal holds no record past its counter (R128). -/
theorem recordAt_next (h : s.JournalNumbered) : s.recordAt (s.jnc.counter + 1) = none := by
  obtain ⟨hnum, -⟩ := h
  refine findKey_none.2 fun z hz hseq => ?_
  have hmem : z.seq ∈ s.jnc.records.map Record.seq := List.mem_map_of_mem hz
  rw [hnum, List.mem_range'_1] at hmem
  omega

/-! ### A record found AWAITING is timed out (R104, R124, R125) -/

theorem timeOut_reversed (hr : s.recordAt q = some r) (hd : r.disposition = some .awaiting) (hm : s.mayReverse r = true) :
    s.timeOut q = ((s.changeDisposition q .awaiting .timedOut).writeRecord (reversalOf r)).appendSfq s.nextSeq .reversal := by
  have hfound : (s.recordAt q).filter (fun r => r.disposition == some .awaiting) = some r := by simp [hr, hd]
  rw [State.timeOut, hfound]
  exact if_pos hm

theorem timeOut_unadvised (hr : s.recordAt q = some r) (hd : r.disposition = some .awaiting) (hm : s.mayReverse r = false) :
    s.timeOut q = (s.changeDisposition q .awaiting .timedOut).changeDisposition q .timedOut .timedOutUnadvised := by
  have hfound : (s.recordAt q).filter (fun r => r.disposition == some .awaiting) = some r := by simp [hr, hd]
  rw [State.timeOut, hfound]
  exact if_neg (by rw [hm]; decide)

theorem trails_timeOut : s.Trails (s.timeOut q) := by
  unfold State.timeOut
  split
  · exact .refl s
  · split
    · exact ((State.Trails.of_eq (by simp) (by simp)).trans trails_writeRecord).trans trails_onSiu
    · exact .of_eq (by simp) (by simp)

theorem mayReverse_iff (hday : s.dyc.day ≠ .noDay) :
    s.mayReverse r = true ↔ s.siu.sfq.length < 2048 ∧ s.jnc.counter < 65535 := by
  have htakes : s.journalTakes (reversalOf r).body = true ↔ s.jnc.counter < 65535 := by
    simp [State.journalTakes, reversalOf, entry, hday, postingKind, ordinaryKind, Config.reserveLimit]
  rw [State.mayReverse, Bool.and_eq_true, decide_eq_true_iff, htakes]
  exact Iff.rfl

/-- A timed-out record with room for its reversal advice (R124). -/
theorem timeOut_room {p : Posting} (hj : s.JournalNumbered) (hday : s.dyc.day ≠ .noDay) (hr : s.recordAt q = some r)
    (hd : r.disposition = some .awaiting) (hb : r.body = .posting p) (hsfq : s.siu.sfq.length < 2048)
    (hcount : s.jnc.counter < 65535) :
    (s.timeOut q).recordAt q = some { r with disposition := some .timedOut } ∧
      (s.timeOut q).recordAt (s.jnc.counter + 1) = some { entry (.reversalAdvice p.definition p.code p.account p.legs) r.drop
        r.teller none (some .reversalPending) (some r.seq) with seq := s.jnc.counter + 1, stamp := s.jnc.clock } ∧
      (s.timeOut q).siu = { s.siu with sfq := s.siu.sfq ++ [⟨s.jnc.counter + 1, .reversal⟩] } := by
  have hmay : s.mayReverse r = true := (mayReverse_iff hday).2 ⟨hsfq, hcount⟩
  rw [timeOut_reversed hr hd hmay]
  have hholds := holdsDisposition_of hr hd
  have hjnc : (s.changeDisposition q .awaiting .timedOut).jnc.counter = s.jnc.counter ∧
      (s.changeDisposition q .awaiting .timedOut).jnc.clock = s.jnc.clock := by
    rw [State.changeDisposition, if_pos hholds]
    exact ⟨rfl, rfl⟩
  have htakes : (s.changeDisposition q .awaiting .timedOut).journalTakes (reversalOf r).body = true := by
    simp [State.journalTakes, reversalOf, entry, hday, postingKind, ordinaryKind, Config.reserveLimit, hjnc, hcount]
  have hat : ∀ k, (((s.changeDisposition q .awaiting .timedOut).writeRecord (reversalOf r)).appendSfq s.nextSeq
      .reversal).recordAt k = ((s.changeDisposition q .awaiting .timedOut).recordAt k).or (if s.jnc.counter + 1 = k then
        some { reversalOf r with seq := s.jnc.counter + 1, stamp := s.jnc.clock } else none) := fun k => by
    rw [← hjnc.1, ← hjnc.2]
    exact recordAt_writeRecord htakes
  refine ⟨?_, ?_, ?_⟩
  · rw [hat, recordAt_changeDisposition, hr]
    simp [hholds]
  · rw [hat, recordAt_changeDisposition, recordAt_next hj]
    simp [reversalOf, hb, bodyDefinition, bodyAccount, bodyLegs]
  · simp [State.appendSfq, State.nextSeq]

/-- A timed-out record for which no reversal advice can be made (R125). -/
theorem timeOut_full (hday : s.dyc.day ≠ .noDay) (hr : s.recordAt q = some r) (hd : r.disposition = some .awaiting)
    (hfull : 2048 ≤ s.siu.sfq.length ∨ 65535 ≤ s.jnc.counter) :
    (s.timeOut q).recordAt q = some { r with disposition := some .timedOutUnadvised } ∧
      (s.timeOut q).siu = s.siu ∧ (s.timeOut q).jnc.counter = s.jnc.counter := by
  have hmay : s.mayReverse r = false := by
    rw [← Bool.not_eq_true, mayReverse_iff hday]
    omega
  rw [timeOut_unadvised hr hd hmay]
  have hholds := holdsDisposition_of hr hd
  have hfirst : (s.changeDisposition q .awaiting .timedOut).recordAt q = some { r with disposition := some .timedOut } := by
    rw [recordAt_changeDisposition, hr]
    simp [hholds]
  have hagain := holdsDisposition_of hfirst rfl
  refine ⟨?_, by simp, ?_⟩
  · rw [recordAt_changeDisposition, hfirst]
    simp [hagain]
  · rw [State.changeDisposition, if_pos hagain, State.changeDisposition, if_pos hholds]
    rfl

/-! ### A reply timer's expiry (R56, R104) -/

/-- A slot whose reply timer has expired, counted and freed. -/
def State.expired (s : State) (i : Nat) : State := s.countTimeout.freeSlotAt i

theorem replyExpiry_forward (hx : s.slotAt i = some x) (ht : x.timer ≠ .stopped) (hk : x.kind = .txnForward)
    (hy : s.txnAt x.drop = some y) : s.replyExpiry i =
      (((s.expired i).timeOut x.tag).decideAgain { y with timedOut := some x.tag, slot := none }).serveWaitList := by
  have hfound : (s.slotAt i).filter (fun x => x.timer != .stopped) = some x := by simp [hx, ht]
  have hat : ((s.expired i).timeOut x.tag).txnAt x.drop = some y := (txnAt_congr (s := s) (by simp [State.expired])).trans hy
  rw [State.replyExpiry, hfound]
  simp only [hk]
  rw [State.secondDecision, State.expired] at *
  rw [hat]

theorem replyExpiry_fetch {f : Fetch} (hx : s.slotAt i = some x) (ht : x.timer ≠ .stopped) (hk : x.kind = .passbookFetch)
    (hf : s.fetchAt x.drop = some f) : s.replyExpiry i = ((s.expired i).fetchOutcome f []).serveWaitList := by
  have hfound : (s.slotAt i).filter (fun x => x.timer != .stopped) = some x := by simp [hx, ht]
  have hat : (s.countTimeout.freeSlotAt i).fetchAt x.drop = some f := hf
  rw [State.replyExpiry, hfound]
  simp only [hk, hat]
  rfl

theorem expired_slots (hx : s.slotAt i = some x) (ht : t.tkc.slots = (s.expired i).tkc.slots) :
    s.OnlySlot t i ∧ t.slotAt i = some (freeSlot i) := by
  obtain rfl : x.number = i := slotAt_number hx
  exact onlySlot_of_modify (g := fun z => freeSlot z.number) ht (fun _ => rfl) hx

theorem decideAgain_onlineOnly (hy : y.routing = .onlineOnly) : s.decideAgain y = s.refuse y .headOfficeUnavailable := by
  rw [State.decideAgain, hy]

theorem fetchAt_fetchOutcome {f : Fetch} {l : List FetchLine} : (s.fetchOutcome f l).fetchAt f.drop = none := by
  have hrqu : (s.fetchOutcome f l).rqu = (s.endFetch f.drop).rqu := by
    rw [State.fetchOutcome, (State.resumeFetching_frame _ _).2.2.2.2.2.2.1]
    exact foldl_fixed (g := fun s : State => s.rqu) (fun _ _ => by simp) _ _
  have hend : (s.endFetch f.drop).fetchAt f.drop = none := fetchAt_endFetch.trans (if_pos rfl)
  simpa [State.fetchAt, hrqu] using hend

/-- Settles O39: a stopped timer does nothing; an expiry frees the slot and decides its work item again. -/
theorem replyTimerExpires : Obligations.ReplyTimerExpires := by
  unfold Obligations.ReplyTimerExpires
  intro s i x hrun hx
  have hexec : exec (.replyTimerExpiry i) s = .next (s.replyExpiry i) := by
    have hfirst : exec (.replyTimerExpiry i) s = .next (s.whileRunning fun s => s.replyExpiry i) := rfl
    rw [hfirst, whileRunning_of hrun]
  refine ⟨fun hstop => ?_, fun y r p ht hk hy hr hd hb hday hj => ?_, fun f ht hk hf => ?_⟩
  · have hnone : (s.slotAt i).filter (fun x => x.timer != .stopped) = none := by simp [hx, hstop]
    rw [hexec, State.replyExpiry, hnone]
  · rw [replyExpiry_forward hx ht hk hy] at hexec
    obtain ⟨honly, hslot⟩ := expired_slots hx (t := (s.expired i).timeOut x.tag) trails_timeOut.slots
    have hstats := (trails_timeOut (s := s.expired i) (q := x.tag)).stats
    refine ⟨_, hexec, hstats, hslot, honly, by simp [State.expired], by simp [State.expired], by simp [State.expired],
      timeOut_room (s := s.expired i) hj hday hr hd hb, timeOut_full (s := s.expired i) hday hr hd, fun honline => ?_⟩
    rw [decideAgain_onlineOnly (y := { y with timedOut := some x.tag, slot := none }) honline]
    exact ⟨_, txnAt_refuse (y := { y with timedOut := some x.tag, slot := none }), rfl, rfl⟩
  · obtain hdrop : f.drop = x.drop := fetchAt_drop hf
    rw [replyExpiry_fetch hx ht hk hf] at hexec
    have htrails : (s.expired i).Trails ((s.expired i).fetchOutcome f []) := trails_fetchOutcome
    obtain ⟨-, hslot⟩ := expired_slots hx htrails.slots
    exact ⟨_, hexec, hdrop ▸ fetchAt_fetchOutcome, hslot, htrails.stats⟩

/-! ### The outcomes of an advice (R105, R117, R120, R121) -/

theorem adviceOutcome_late {new : Disposition} {o : Option Nat} (h0 : s.adviceMatched h = false) :
    s.adviceOutcome h new o = { s with
      tkc := { s.tkc with stats := { s.tkc.stats with lateAcks := counted s.tkc.stats.lateAcks } } } := by
  rw [State.adviceOutcome, if_neg (by rw [h0]; decide)]
  rfl

/-- Slot 6 freed and the head taken off the SFQ. -/
def State.adviceTaken (s : State) (rest : List SfqEntry) : State :=
  { s with tkc := { s.tkc with slot6 := ⟨.free, 0, .stopped⟩ }, siu := { s.siu with sfq := rest } }

theorem adviceOutcome_posting {new : Disposition} {o : Option Nat} {e : SfqEntry} {rest : List SfqEntry}
    (h1 : s.adviceMatched h = true) (hs : s.siu.sfq = e :: rest) (he : e.kind = .posting) :
    s.adviceOutcome h new o = (s.adviceTaken rest).settlePosting e.seq new o := by
  rw [State.adviceOutcome, if_pos h1, State.settleAdvice]
  simp only [State.onTkc_siu, hs, he]
  rfl

theorem adviceOutcome_reversal {new : Disposition} {o : Option Nat} {e : SfqEntry} {rest : List SfqEntry}
    (h1 : s.adviceMatched h = true) (hs : s.siu.sfq = e :: rest) (he : e.kind = .reversal) :
    s.adviceOutcome h new o = (s.adviceTaken rest).changeDisposition e.seq .reversalPending .reversalSent o := by
  rw [State.adviceOutcome, if_pos h1, State.settleAdvice]
  simp only [State.onTkc_siu, hs, he]
  rfl

theorem settlePosting_pending {new : Disposition} {o : Option Nat} {p : Posting} (hr : s.recordAt q = some r)
    (hd : r.disposition = some .advicePending) (hb : r.body = .posting p) :
    s.settlePosting q new o = (s.changeDisposition q .advicePending new o).releaseNet p := by
  have hholds := holdsDisposition_of hr hd
  rw [State.settlePosting, if_pos hholds]
  simp only [hr, Option.bind_some, hb, postingOf]

theorem releaseNet_jnc {p : Posting} : (s.releaseNet p).jnc = s.jnc := by
  unfold State.releaseNet
  split <;> rfl

theorem satAt_releaseNet {p : Posting} : (s.releaseNet p).satAt k = (s.satAt k).map fun z =>
    if p.account = some k then { z with net := z.net - signedAccount p.legs } else z := by
  unfold State.releaseNet
  cases hp : p.account with
  | none => simp
  | some c =>
    simp only
    rw [satAt_modifySat fun _ h => by exact h]
    simp [eq_comm]

theorem sfq_releaseNet {p : Posting} : (s.releaseNet p).siu.sfq = s.siu.sfq := by
  unfold State.releaseNet
  split <;> rfl

theorem settlePosting_effects {new : Disposition} {o : Option Nat} : s.settlePosting q new o =
    { s with jnc := (s.settlePosting q new o).jnc, siu := (s.settlePosting q new o).siu } ∧
      (s.settlePosting q new o).siu.sfq = s.siu.sfq := by
  refine ⟨by apply State.eq_of_blocks <;> simp, ?_⟩
  unfold State.settlePosting
  dsimp only
  split
  · split
    · rw [sfq_releaseNet, (State.changeDisposition_frame _ _ _ _ _).2.2.2.2.2.2.2.2.2.2.1]
    · simp
  · rfl

/-- Settles O40: an outcome is late or matched, of a posting or of a reversal; and slot 6's timer is stopped or runs. -/
theorem adviceIsAnswered : Obligations.AdviceIsAnswered := by
  unfold Obligations.AdviceIsAnswered
  refine ⟨?_, fun s hrun => ?_⟩
  · rintro s u h c new reference hs rfl hc
    have hexec : exec c s = .next (s.seeFrame.adviceOutcome h new reference) := by
      obtain ⟨rfl, rfl, rfl⟩ | ⟨n, rfl, rfl, rfl⟩ := hc
      · have hfirst : exec (.adviceAck h) s = execAdviceAck h s := rfl
        rw [hfirst, execAdviceAck, whileRunning_onFrame_of_receives hs]
      · have hfirst : exec (.adviceException h n) s = execAdviceException h n s := rfl
        rw [hfirst, execAdviceException, whileRunning_onFrame_of_receives hs]
    refine ⟨fun hlate => by rw [hexec, adviceOutcome_late hlate], fun e rest r hm hq hr => ?_⟩
    cases he : e.kind with
    | posting =>
      rw [adviceOutcome_posting hm hq he] at hexec
      obtain ⟨hframe, hsfq⟩ := settlePosting_effects (s := s.seeFrame.adviceTaken rest) (q := e.seq) (new := new) (o := reference)
      refine ⟨_, hexec, ?_, by rw [hframe]; rfl, hsfq, fun p _ hd hb => ?_, fun hk => by cases hk⟩
      · apply State.eq_of_blocks <;> simp [State.adviceTaken]
      · rw [settlePosting_pending (s := s.seeFrame.adviceTaken rest) (r := r) hr hd hb]
        refine ⟨onlyRecord_changed (u := s.seeFrame.adviceTaken rest) rfl releaseNet_jnc hr hd, fun k => ?_⟩
        rw [satAt_releaseNet, satAt_congr (State.changeDisposition_frame _ _ _ _ _).2.2.2.2.2.2.2.2.2.2.1]
        rfl
    | reversal =>
      rw [adviceOutcome_reversal hm hq he] at hexec
      refine ⟨_, hexec, ?_, by simp [State.adviceTaken], by simp [State.adviceTaken], fun p hk => by (cases hk), fun _ hd =>
        ⟨onlyRecord_changed (u := s.seeFrame.adviceTaken rest) rfl rfl hr hd, by simp [State.adviceTaken]⟩⟩
      apply State.eq_of_blocks <;> simp [State.adviceTaken]
  · have hexec : exec .adviceReplyTimerExpiry s = .next s.adviceExpiry := by
      have hfirst : exec .adviceReplyTimerExpiry s = .next (s.whileRunning State.adviceExpiry) := rfl
      rw [hfirst, whileRunning_of hrun]
    refine ⟨fun hstop => ?_, fun hrunning => ?_⟩
    · rw [hexec, State.adviceExpiry, if_pos hstop]
    · rw [hexec, State.adviceExpiry, if_neg hrunning]
      rfl

end Sys2Proof.Machine
end

section
/-! SUPPORT. The printer sessions: a command sent to a printer, the choice of the next line, and the end of a session. -/

namespace Sys2Proof.Machine

variable {s t u v : State} {a k n p q : Nat} {d : Drop} {z : Session} {b : Passbook} {g : Line} {rest : List Line}
  {m : DownMessage} {c : PrinterCommand} {reason : Option BookReason} {f : Session → Session}

/-! ### Session records (R141) -/

theorem sessionOf_modifySession (hf : ∀ x, (f x).drop = x.drop) :
    (s.modifySession a f).sessionOf k = (s.sessionOf k).map fun x => if k = a then f x else x := by
  simp only [State.sessionOf, State.modifySession, State.onPbu_pbu]
  induction s.pbu.sessions with
  | nil => rfl
  | cons x l ih =>
    by_cases hx : x.drop = some a
    · by_cases hk : k = a
      · simp [hx, hf, hk]
      · have hne : ¬ a = k := fun e => hk e.symm
        simpa [hx, hf, hk, hne] using ih
    · by_cases hk : x.drop = some k
      · have hne : ¬ k = a := fun e => hx (by rw [hk, e])
        simp [hk, hne]
      · simpa [hx, hk] using ih

theorem sessionOf_modifySession_same (hf : ∀ x, (f x).drop = x.drop) (hz : s.sessionOf a = some z) :
    (s.modifySession a f).sessionOf a = some (f z) := by
  rw [sessionOf_modifySession hf, hz]
  simp

theorem sessionState_of (hz : s.sessionOf a = some z) : s.sessionState a = z.state := by rw [State.sessionState, hz]; rfl

/-! ### A command to a printer (R141) -/

theorem sendCommand_blocks : s.sendCommand a c m = { s with
    lpc := (s.handOver a m).lpc, pbu := (s.sendCommand a c m).pbu } := rfl

theorem sessionOf_sendCommand (hz : s.sessionOf a = some z) :
    (s.sendCommand a c m).sessionOf a = some { z with command := some c, timer := .running 30 } :=
  sessionOf_modifySession_same (s := s.handOver a m) (fun _ => rfl) hz

/-- A drop that can receive and has room is told what the part hands over, on any loop that runs. -/
theorem dropAt_handOver_told (h : s.HearsPrinter a d) (hu : u.lpc = s.lpc) :
    s.OnlyDrop (u.handOver a m) a ∧ (u.handOver a m).dropAt a = some (d.told m) := by
  obtain ⟨-, hl, hd, -, hc, hn⟩ := h
  have hlpc : (u.handOver a m).lpc = (s.handOver a m).lpc := by rw [State.handOver, State.handOver, hu]; simp [State.modifyDrop, hu]
  refine ⟨⟨?_, fun b hb => ?_⟩, ?_⟩
  · rw [hlpc]
    rfl
  · rw [dropAt_congr hlpc, dropAt_handOver]
    simp [hb]
  · rw [dropAt_congr hlpc, dropAt_handOver, hd, Option.map_some, if_pos rfl, hl, Drop.take_told hc hn]

/-! ### One account's passbook and the session records -/

theorem satAt_modifyBook_other {f : Passbook → Passbook} (hk : k ≠ n) : (s.modifyBook n f).satAt k = s.satAt k := by
  rw [satAt_modifyBook]
  simp [hk]

/-- Only the passbook of account `n` and session records change between two states. -/
structure State.Rebooks (s t : State) (n : Nat) : Prop where
  blocks : t = { s with siu := t.siu, pbu := t.pbu }
  layout : t.pbu.layout = s.pbu.layout
  accounts : t.siu = { s.siu with sat := t.siu.sat }
  others : ∀ k, k ≠ n → t.satAt k = s.satAt k

theorem rebooks_modifyBook {f : Passbook → Passbook} : s.Rebooks (s.modifyBook n f) n :=
  ⟨rfl, rfl, rfl, fun _ hk => satAt_modifyBook_other hk⟩

theorem rebooks_modifySession : s.Rebooks (s.modifySession a f) n := ⟨rfl, rfl, rfl, fun _ _ => rfl⟩

theorem State.Rebooks.trans (h : s.Rebooks t n) (g : t.Rebooks u n) : s.Rebooks u n where
  blocks := by rw [g.blocks, h.blocks]
  layout := g.layout.trans h.layout
  accounts := by rw [g.accounts, h.accounts]
  others k hk := (g.others k hk).trans (h.others k hk)

/-! ### The choice of the next line (R147) -/

/-- An account's overflow turned into a line of its list, if the pool has room for it (R147). -/
def State.converted (s : State) (n : Nat) : State := s.modifyBook n fun b => b.convertIfRoom s.poolFree

theorem bookOf_converted (hb : s.bookOf n = some b) : (s.converted n).bookOf n = some (b.convertIfRoom s.poolFree) := by
  rw [State.converted, bookOf_modifyBook, if_pos rfl, hb]
  rfl

theorem convertIfRoom_empty {free : Nat} (h : b.overflow.items = 0) : b.convertIfRoom free = b := by
  simp [Passbook.convertIfRoom, h]

theorem chooseLine_head (hb : s.bookOf n = some b) (hp : (b.convertIfRoom s.poolFree).pending = g :: rest) :
    s.chooseLine a n = (s.converted n).printLine a n (b.convertIfRoom s.poolFree) g .list := by
  have hc := bookOf_converted hb
  rw [State.converted] at hc
  rw [State.chooseLine]
  simp only [hc, hp]
  rfl

theorem chooseLine_overflow (hb : s.bookOf n = some b) (hp : (b.convertIfRoom s.poolFree).pending = [])
    (ho : (b.convertIfRoom s.poolFree).overflow.items ≠ 0) : s.chooseLine a n =
      (s.converted n).printLine a n (b.convertIfRoom s.poolFree) (b.convertIfRoom s.poolFree).overflowLine .overflow := by
  have hc := bookOf_converted hb
  rw [State.converted] at hc
  rw [State.chooseLine]
  simp only [hc, hp]
  exact if_pos ho

theorem chooseLine_none (hb : s.bookOf n = some b) (hp : (b.convertIfRoom s.poolFree).pending = [])
    (ho : (b.convertIfRoom s.poolFree).overflow.items = 0) : s.chooseLine a n = (s.converted n).finishSession a none := by
  have hc := bookOf_converted hb
  rw [State.converted] at hc
  rw [State.chooseLine]
  simp only [hc, hp]
  exact if_neg (not_not.2 ho)

/-- A line goes to the printer of session `z`: what it leaves (R147). -/
structure State.Prints (s t : State) (a n p q : Nat) (z : Session) (b : Passbook) (g : Line) (o : MarkerSource) : Prop where
  blocks : t = { s with lpc := t.lpc, siu := t.siu, pbu := t.pbu }
  loop : t.lpc = (s.handOver a (.printLine p q (lineColumns s.pbu.layout b.printed g))).lpc
  accounts : t.siu = { s.siu with sat := t.siu.sat }
  others : ∀ k, k ≠ n → t.satAt k = s.satAt k
  book : t.bookOf n = some { b with marker := some ⟨p, q, g.amount, g.items, o⟩ }
  session : t.sessionOf a = some { z with command := some (.printLine p q), timer := .running 30 }

theorem prints_printLine {o : MarkerSource} (hz : s.sessionOf a = some z) (hnext : b.next = .line p q)
    (hb : s.bookOf n = some b) : s.Prints (s.printLine a n b g o) a n p q z b g o := by
  have hline : s.printLine a n b g o = (s.modifyBook n fun b => { b with
      marker := some ⟨p, q, g.amount, g.items, o⟩ }).sendCommand a (.printLine p q)
        (.printLine p q (lineColumns s.pbu.layout b.printed g)) := by rw [State.printLine, hnext]
  rw [hline]
  refine ⟨rfl, rfl, rfl, fun k hk => satAt_modifyBook_other hk, ?_, sessionOf_sendCommand (s := s.modifyBook n _) hz⟩
  have hbook := bookOf_modifyBook (s := s) (a := n) (b := n) (f := fun b => { b with marker := some ⟨p, q, g.amount, g.items, o⟩ })
  rw [if_pos rfl, hb] at hbook
  exact hbook

/-- A line printed after a change of the account's own passbook and session is printed. -/
theorem State.Rebooks.prints {o : MarkerSource} (hu : s.Rebooks u n) (h : u.Prints t a n p q z b g o) :
    s.Prints t a n p q z b g o where
  blocks := by rw [h.blocks, hu.blocks]
  loop := by
    rw [h.loop, hu.layout, hu.blocks]
    rfl
  accounts := by rw [h.accounts, hu.accounts]
  others k hk := (h.others k hk).trans (hu.others k hk)
  book := h.book
  session := h.session

theorem prints_chooseLine (hz : s.sessionOf a = some z) (hb : s.bookOf n = some b) (ho : b.overflow.items = 0)
    (hp : b.pending = g :: rest) (hnext : b.next = .line p q) : s.Prints (s.chooseLine a n) a n p q z b g .list := by
  have hsame : b.convertIfRoom s.poolFree = b := convertIfRoom_empty ho
  have hc := bookOf_converted hb
  rw [hsame] at hc
  rw [chooseLine_head hb (by rw [hsame]; exact hp), hsame]
  exact rebooks_modifyBook.prints (prints_printLine hz hnext hc)

/-- The printer's drop is told to print, and no other record of the loop changes. -/
theorem State.Prints.dropAt {o : MarkerSource} (h : s.Prints t a n p q z b g o) (hh : s.HearsPrinter a d) :
    s.OnlyDrop t a ∧ t.dropAt a = some (d.told (.printLine p q (lineColumns s.pbu.layout b.printed g))) := by
  obtain ⟨⟨hlpc, hothers⟩, hat⟩ := dropAt_handOver_told (u := s)
    (m := .printLine p q (lineColumns s.pbu.layout b.printed g)) hh rfl
  refine ⟨⟨?_, fun k hk => ?_⟩, ?_⟩
  · rw [h.loop]
    exact hlpc
  · rw [dropAt_congr h.loop]
    exact hothers k hk
  · rw [dropAt_congr h.loop, hat]

/-! ### The end of a session (R152) -/

theorem foldLines_eq (b : Passbook) : b.fold = { b with pending := b.fold.pending } := by
  unfold Passbook.fold
  (repeat' split) <;> rfl

theorem foldDown_eq (j : Nat) (b : Passbook) : b.foldDown j = { b with pending := (b.foldDown j).pending } := by
  induction j generalizing b with
  | zero => rfl
  | succ j ih =>
    rw [Passbook.foldDown]
    split
    · rw [ih b.fold, foldLines_eq b]
    · rfl

theorem foldDown_short {j : Nat} (h : b.pending.length ≤ 40) : b.foldDown j = b := by
  cases j with
  | zero => rfl
  | succ j => exact if_neg (Nat.not_lt.2 h)

/-- A passbook whose session has ended: the flag cleared and the list folded (R152). -/
def Passbook.released (b : Passbook) : Passbook := { b with session := none }.foldDown b.pending.length

theorem released_eq (b : Passbook) : b.released = { b with session := none, pending := b.released.pending } :=
  foldDown_eq _ _

theorem released_short (h : b.pending.length ≤ 40) : b.released = { b with session := none } := foldDown_short h

/-- A session has ended with the book ejected: what it leaves (R131, R152). -/
structure State.Finishes (s t : State) (a n : Nat) (z : Session) (b : Passbook) (reason : Option BookReason) : Prop where
  blocks : t = { s with lpc := t.lpc, siu := t.siu, pbu := t.pbu, jnc := t.jnc, tkc := t.tkc }
  loop : t.lpc.unmarked = (s.handOver a (.eject reason)).lpc.unmarked
  accounts : t.siu = { s.siu with sat := t.siu.sat }
  others : ∀ k, k ≠ n → t.satAt k = s.satAt k
  book : t.bookOf n = some b.released
  session : t.sessionOf a = some { z with state := .finished, command := none, timer := .stopped }
  reports : s.OnlyReports t
  silent : z.printed = 0 → t.jnc = s.jnc
  record : 0 < z.printed → s.dyc.day ≠ .noDay → s.jnc.counter < 65535 →
    s.Wrote t (entry (.passbookPrint n z.printed b.next b.printed) (some a))

theorem endSession_eq (hz : s.sessionOf a = some z) (hn : z.account = some n) (hb : s.bookOf n = some b) :
    s.endSession a = if 0 < z.printed then (s.modifyBook n Passbook.released).writeRecord
      (passbookPrint a n z.printed b.released) else s.modifyBook n Passbook.released := by
  have hbook : (s.modifyBook n Passbook.released).bookOf n = some b.released := by
    rw [bookOf_modifyBook, if_pos rfl, hb]
    rfl
  have hreleased : (s.modifyBook n fun b => ({ b with session := none } : Passbook).foldDown
      ({ b with session := none } : Passbook).pending.length) = s.modifyBook n Passbook.released := rfl
  rw [State.endSession, hz]
  simp only [hn, hreleased, hbook]

theorem finishes_finishSession (hz : s.sessionOf a = some z) (hn : z.account = some n) (hb : s.bookOf n = some b) :
    s.Finishes (s.finishSession a reason) a n z b reason := by
  have hsession : ((s.handOver a (.eject reason)).modifySession a fun x =>
      { x with state := .finished, command := none, timer := .stopped }).sessionOf a =
        some { z with state := .finished, command := none, timer := .stopped } :=
    sessionOf_modifySession_same (s := s.handOver a (.eject reason)) (fun _ => rfl) hz
  have hend := endSession_eq (n := n) (b := b) hsession hn hb
  have hbook : (s.modifyBook n Passbook.released).bookOf n = some b.released := by
    rw [bookOf_modifyBook, if_pos rfl, hb]
    rfl
  have hnext : b.released.next = b.next ∧ b.released.printed = b.printed := by
    rw [released_eq]
    exact ⟨rfl, rfl⟩
  rw [State.finishSession, hend]
  by_cases hp : 0 < z.printed
  · rw [if_pos hp]
    refine ⟨by apply State.eq_of_blocks <;> simp, unmarked_writeRecord, by simp [State.modifyBook, State.modifySat],
      fun k hk => ?_, ?_, ?_, ?_, fun h0 => by omega, fun _ hday hc => ?_⟩
    · exact (satAt_congr (State.writeRecord_frame _ _).2.2.2.2.2.2.2.2.1).trans (satAt_modifyBook_other (s := s) hk)
    · rw [State.bookOf, satAt_congr (State.writeRecord_frame _ _).2.2.2.2.2.2.2.2.1]
      exact hbook
    · rw [sessionOf_congr (State.writeRecord_frame _ _).2.2.2.2.2.2.2.2.2.1]
      exact hsession
    · exact onlyReports_writeRecord
    · have htakes : s.journalTakes (.passbookPrint n z.printed b.released.next b.released.printed) = true := by
        simp [State.journalTakes, postingKind, ordinaryKind, Config.reserveLimit, hday, hc]
      rw [← hnext.1, ← hnext.2]
      exact wrote_writeRecord rfl htakes
  · rw [if_neg hp]
    exact ⟨rfl, rfl, rfl, fun k hk => satAt_modifyBook_other hk, hbook, hsession, ⟨rfl, fun _ => rfl⟩, fun _ => rfl,
      fun h0 => absurd h0 hp⟩

/-- A session that ends after a change of the account's own passbook and session ends. -/
theorem State.Rebooks.finishes (hu : s.Rebooks u n) (h : u.Finishes t a n z b reason) : s.Finishes t a n z b reason := by
  have hjnc : u.jnc = s.jnc := by rw [hu.blocks]
  have htkc : u.tkc = s.tkc := by rw [hu.blocks]
  have hdyc : u.dyc = s.dyc := by rw [hu.blocks]
  have hlpc : (u.handOver a (.eject reason)).lpc = (s.handOver a (.eject reason)).lpc := by
    rw [hu.blocks]
    rfl
  refine ⟨?_, h.loop.trans (unmarked_congr hlpc), ?_, fun k hk => (h.others k hk).trans (hu.others k hk), h.book, h.session,
    h.reports.congr htkc.symm rfl rfl, fun h0 => (h.silent h0).trans hjnc, fun h0 hday hc => ?_⟩
  · rw [h.blocks, hu.blocks]
  · rw [h.accounts, hu.accounts]
  · have hwrote := h.record h0 (by rw [hdyc]; exact hday) (by rw [hjnc]; exact hc)
    rw [State.Wrote, hjnc] at hwrote
    exact hwrote

theorem finishes_chooseLine (hz : s.sessionOf a = some z) (hn : z.account = some n) (hb : s.bookOf n = some b)
    (ho : b.overflow.items = 0) (hp : b.pending = []) : s.Finishes (s.chooseLine a n) a n z b none := by
  have hsame : b.convertIfRoom s.poolFree = b := convertIfRoom_empty ho
  have hc := bookOf_converted hb
  rw [hsame] at hc
  rw [chooseLine_none hb (by rw [hsame]; exact hp) (by rw [hsame]; exact ho)]
  exact rebooks_modifyBook.finishes (finishes_finishSession hz hn hc)

/-- The loop of a session that ends: the printer's own drop is told to eject, and others get marks only. -/
theorem State.Finishes.dropAt (h : s.Finishes t a n z b reason) (hh : s.HearsPrinter a d) :
    s.OnlyDropAndMarks t a ∧ ∃ m, t.dropAt a = some { d.told (.eject reason) with statusMark := m } := by
  obtain ⟨-, hl, hd, -, hc, hn⟩ := hh
  have htouch : s.Touches t a fun d => d.take .running (.eject reason) :=
    ((State.Touches.refl s a).handOver hl (.eject reason)).marks h.loop
  obtain ⟨m, hm⟩ := htouch.dropAt hd
  rw [Drop.take_told hc hn] at hm
  exact ⟨htouch.onlyDropAndMarks, m, hm⟩

end Sys2Proof.Machine
end

section
/-! SUPPORT. The lines that a FETCH-REPLY brings, and the statement O38. -/

namespace Sys2Proof.Machine

variable {s t u : State} {a k n p q : Nat} {z : Session} {b : Passbook} {x : OnlineSlot} {h : FrameHeader} {f : Fetch}

/-! ### What keeps the balances of the passbooks -/

/-- The printed and the line balance of every passbook stay as they were. -/
def State.KeepsBalances (s t : State) : Prop := ∀ k, (t.bookOf k).map (fun b => (b.printed, b.lineBalance)) =
  (s.bookOf k).map fun b => (b.printed, b.lineBalance)

theorem State.KeepsBalances.trans (h : s.KeepsBalances t) (g : t.KeepsBalances u) : s.KeepsBalances u :=
  fun k => (g k).trans (h k)

theorem keepsBalances_of_siu (h : t.siu = s.siu) : s.KeepsBalances t := fun k => by
  rw [State.bookOf, State.bookOf, satAt_congr h]

theorem keepsBalances_modifyBook {f : Passbook → Passbook} (hp : ∀ b, (f b).printed = b.printed)
    (hl : ∀ b, (f b).lineBalance = b.lineBalance) : s.KeepsBalances (s.modifyBook n f) := fun k => by
  rw [bookOf_modifyBook]
  split
  · cases s.bookOf k <;> simp [hp, hl]
  · rfl

theorem State.KeepsBalances.book (h : s.KeepsBalances t) (hb : s.bookOf k = some b) :
    ∃ b', t.bookOf k = some b' ∧ b'.printed = b.printed ∧ b'.lineBalance = b.lineBalance := by
  have hk := h k
  rw [hb] at hk
  obtain ⟨b', hb', heq⟩ := Option.map_eq_some_iff.1 hk
  exact ⟨b', hb', congrArg Prod.fst heq, congrArg Prod.snd heq⟩

theorem siu_writeRecord {r : Record} : (s.writeRecord r).siu = s.siu := by simp

theorem pbu_appendLine {l : Line} : (s.appendLine n l).pbu = s.pbu := by simp

theorem keepsBalances_finishSession {r : Option BookReason} : s.KeepsBalances (s.finishSession a r) := by
  have hstart : s.KeepsBalances ((s.handOver a (.eject r)).modifySession a fun x =>
      { x with state := .finished, command := none, timer := .stopped }) := keepsBalances_of_siu (by simp)
  have hrelease : ∀ (v : State) (m : Nat), v.KeepsBalances (v.modifyBook m Passbook.released) := fun v m =>
    keepsBalances_modifyBook (fun b => by rw [released_eq]) (fun b => by rw [released_eq])
  rw [State.finishSession]
  refine hstart.trans ?_
  unfold State.endSession
  split
  · exact keepsBalances_of_siu rfl
  · split
    · exact keepsBalances_of_siu rfl
    · dsimp only
      split
      · split
        · exact (hrelease _ _).trans (keepsBalances_of_siu siu_writeRecord)
        · exact hrelease _ _
      · exact hrelease _ _

theorem keepsBalances_printLine {l : Line} {o : MarkerSource} : s.KeepsBalances (s.printLine a n b l o) := by
  unfold State.printLine
  split
  · next p q _ =>
    have hmark : s.KeepsBalances (s.modifyBook n fun b => { b with marker := some ⟨p, q, l.amount, l.items, o⟩ }) :=
      keepsBalances_modifyBook (fun _ => rfl) fun _ => rfl
    exact hmark.trans (keepsBalances_of_siu rfl)
  · exact keepsBalances_finishSession

theorem keepsBalances_chooseLine : s.KeepsBalances (s.chooseLine a n) := by
  have hconvert : s.KeepsBalances (s.modifyBook n fun b => b.convertIfRoom s.poolFree) :=
    keepsBalances_modifyBook (fun b => by unfold Passbook.convertIfRoom; split <;> rfl)
      (fun b => by unfold Passbook.convertIfRoom; split <;> rfl)
  unfold State.chooseLine
  dsimp only
  split
  · exact hconvert.trans keepsBalances_finishSession
  · split
    · exact hconvert.trans keepsBalances_printLine
    · split
      · exact hconvert.trans keepsBalances_printLine
      · exact hconvert.trans keepsBalances_finishSession

theorem keepsBalances_resumeFetching : s.KeepsBalances (s.resumeFetching a) := by
  unfold State.resumeFetching
  split
  · split
    · exact (keepsBalances_of_siu rfl).trans keepsBalances_chooseLine
    · exact keepsBalances_of_siu rfl
  · exact keepsBalances_of_siu rfl

/-! ### The lines of a reply (R139, R145) -/

/-- A line taken into a passbook raises the line balance by its amount and leaves the printed balance. -/
theorem placed_balance (free : Nat) (l : Line) : (({ b with lineBalance := b.lineBalance + l.amount }.place free l).foldIfLong).printed =
    b.printed ∧ (({ b with lineBalance := b.lineBalance + l.amount }.place free l).foldIfLong).lineBalance =
      b.lineBalance + l.amount := by
  have hfold : ∀ c : Passbook, c.foldIfLong = { c with pending := c.foldIfLong.pending } := fun c => by
    unfold Passbook.foldIfLong
    split
    · exact foldLines_eq c
    · rfl
  have hplace : ∀ c : Passbook, (c.place free l).printed = c.printed ∧ (c.place free l).lineBalance = c.lineBalance := fun c => by
    unfold Passbook.place
    dsimp only
    (repeat' split) <;> exact ⟨rfl, rfl⟩
  rw [hfold]
  exact hplace _

theorem bookOf_appendLine {l : Line} (hb : s.bookOf n = some b) (hr : inBookRange (b.lineBalance + l.amount) = true) :
    (s.appendLine n l).bookOf n =
      some (({ b with lineBalance := b.lineBalance + l.amount }.place s.poolFree l).foldIfLong) := by
  rw [appendLine_inRange hb hr, bookOf_modifyBook, if_pos rfl, hb]
  rfl

/-- The lines of a reply whose running balances stay in range are all taken (R145). -/
theorem foldl_appendLine_balance (l : List FetchLine) (s : State) (b : Passbook) (hb : s.bookOf n = some b)
    (hr : ∀ k, inBookRange (b.lineBalance + ((l.take k).filterMap FetchLine.amount).sum) = true) :
    ∃ b', ((l.filterMap fetchedLine).foldl (fun s l => s.appendLine n l) s).bookOf n = some b' ∧
      b'.printed = b.printed ∧ b'.lineBalance = b.lineBalance + (l.filterMap FetchLine.amount).sum := by
  induction l generalizing s b with
  | nil => exact ⟨b, hb, rfl, (Int.add_zero _).symm⟩
  | cons y l ih =>
    cases hy : y.amount with
    | none =>
      have hline : fetchedLine y = none := by simp [fetchedLine, hy]
      rw [List.filterMap_cons_none hline, List.filterMap_cons_none hy]
      refine ih s b hb fun k => ?_
      have hk := hr (k + 1)
      rwa [List.take_succ_cons, List.filterMap_cons_none hy] at hk
    | some m =>
      have hline : fetchedLine y = some ⟨some y.date, .text y.text, 1, m, .headOffice, none⟩ := by simp [fetchedLine, hy]
      rw [List.filterMap_cons_some hline, List.filterMap_cons_some hy, List.foldl_cons, List.sum_cons, ← Int.add_assoc]
      have hfirst : inBookRange (b.lineBalance + m) = true := by
        have h1 := hr 1
        rw [List.take_succ_cons, List.take_zero, List.filterMap_cons_some hy] at h1
        simpa using h1
      obtain ⟨hprinted, hbalance⟩ := placed_balance (b := b) s.poolFree ⟨some y.date, .text y.text, 1, m, .headOffice, none⟩
      obtain ⟨b', hb', hp', hl'⟩ := ih _ _ (bookOf_appendLine (l := ⟨some y.date, .text y.text, 1, m, .headOffice, none⟩) hb hfirst)
        fun k => by
          have hk := hr (k + 1)
          rw [List.take_succ_cons, List.filterMap_cons_some hy, List.sum_cons, ← Int.add_assoc] at hk
          rw [hbalance]
          exact hk
      exact ⟨b', hb', hp'.trans hprinted, by rw [hl', hbalance]⟩

theorem foldl_appendLine_blocks (l : List Line) (s : State) : let t := l.foldl (fun s l => s.appendLine n l) s
    t = { s with siu := t.siu, tkc := t.tkc } ∧ t.siu = { s.siu with sat := t.siu.sat } ∧
      ∀ k, k ≠ n → t.satAt k = s.satAt k := by
  induction l generalizing s with
  | nil => exact ⟨rfl, rfl, fun _ _ => rfl⟩
  | cons y l ih =>
    obtain ⟨hblocks, hsiu, hothers⟩ := ih (s.appendLine n y)
    refine ⟨?_, ?_, fun k hk => (hothers k hk).trans (satAt_appendLine_other hk)⟩
    · have hfirst : s.appendLine n y = { s with siu := (s.appendLine n y).siu, tkc := (s.appendLine n y).tkc } := by
        apply State.eq_of_blocks <;> simp
      rw [List.foldl_cons, hblocks, hfirst]
    · rw [List.foldl_cons, hsiu, siu_appendLine]

/-! ### A matched reply (R58, R102) -/

theorem fetchReply_matched {lines : List FetchLine} (hm : s.Matches h .passbookFetch x) (hf : s.fetchAt x.drop = some f) :
    s.fetchReply h lines = ((s.freeSlotAt x.number).fetchOutcome f lines).serveWaitList := by
  have hat : (s.freeSlotAt x.number).fetchAt x.drop = some f := hf
  rw [State.fetchReply, matchedSlot_eq_some_iff.2 hm]
  simp only [hat, Option.map_some, Option.getD_some]

/-- A fetch's item ended and its slot freed, before its lines are taken. -/
def State.fetchEnded (s : State) (i a : Nat) : State := (s.freeSlotAt i).endFetch a

theorem resumeFetching_other (h : s.sessionState a ≠ .fetching) : s.resumeFetching a = s := by
  unfold State.resumeFetching
  split
  · next z hz =>
    rw [sessionState_of hz] at h
    split
    · next hst _ => exact absurd hst h
    · rfl
  · rfl

theorem resumeFetching_fetching (hz : s.sessionOf a = some z) (hst : z.state = .fetching) (hn : z.account = some n) :
    s.resumeFetching a = (s.modifySession a fun x => { x with
      state := .printing, command := none, timer := .stopped }).chooseLine a n := by
  rw [State.resumeFetching, hz]
  simp only [hst, hn]
  rfl

/-- One line to a passbook in a session, with room in the pool and no overflow, joins its list (R139). -/
theorem bookOf_appendLine_listed {l : Line} (hb : s.bookOf n = some b) (hs : b.session.isSome = true)
    (ho : b.overflow.items = 0) (hfree : 0 < s.poolFree) (hr : inBookRange (b.lineBalance + l.amount) = true) :
    (s.appendLine n l).bookOf n = some { b with lineBalance := b.lineBalance + l.amount, pending := b.pending ++ [l] } := by
  have hplace : ({ b with lineBalance := b.lineBalance + l.amount }.place s.poolFree l) =
      { b with lineBalance := b.lineBalance + l.amount, pending := b.pending ++ [l] } := by
    simp [Passbook.place, ho, Nat.pos_iff_ne_zero.1 hfree]
  rw [bookOf_appendLine hb hr, hplace, Passbook.foldIfLong, if_neg]
  rintro ⟨hnone, -⟩
  have hnone' : b.session = none := hnone
  rw [hnone'] at hs
  cases hs

/-- Settles O38: a FETCHING session goes on to print the line that came; and in any session the readable lines of the
first 16 reach the account's balance. -/
theorem fetchReplyBringsLines : Obligations.FetchReplyBringsLines := by
  unfold Obligations.FetchReplyBringsLines
  refine ⟨?_, ?_⟩
  · rintro s u h x f b z date text n p l hs rfl hm hf hb hsession hnext ho hfree hlow hhigh hz hst hacc
    have hdrop : f.drop = x.drop := fetchAt_drop hf
    have hexec := exec_fetchReply_of_receives (lines := [⟨date, text, some n⟩]) hs
    rw [fetchReply_matched hm hf] at hexec
    have hone : (s.seeFrame.freeSlotAt x.number).fetchOutcome f [⟨date, text, some n⟩] =
        ((s.seeFrame.fetchEnded x.number f.drop).appendLine f.account
          ⟨some date, .text text, 1, n, .headOffice, none⟩).resumeFetching x.drop := by rw [← hdrop]; rfl
    have hrange := inBookRange_iff.2 ⟨hlow, hhigh⟩
    have hbook := bookOf_appendLine_listed (s := s.seeFrame.fetchEnded x.number f.drop) (n := f.account)
      (l := ⟨some date, .text text, 1, n, .headOffice, none⟩) hb (by rw [hsession]; rfl) (by rw [ho]) hfree hrange
    have hline := appendLine_inRange (s := s.seeFrame.fetchEnded x.number f.drop) (n := f.account)
      (l := ⟨some date, .text text, 1, n, .headOffice, none⟩) hb hrange
    have hgrown : (s.seeFrame.fetchEnded x.number f.drop).Rebooks ((s.seeFrame.fetchEnded x.number f.drop).appendLine f.account
        ⟨some date, .text text, 1, n, .headOffice, none⟩) f.account := hline ▸ rebooks_modifyBook
    have hstart : (s.seeFrame.fetchEnded x.number f.drop).sessionOf x.drop = some z := hz
    have hsame : ((s.seeFrame.fetchEnded x.number f.drop).appendLine f.account
        ⟨some date, .text text, 1, n, .headOffice, none⟩).sessionOf x.drop = some z :=
      (sessionOf_congr pbu_appendLine).trans hstart
    generalize (s.seeFrame.fetchEnded x.number f.drop).appendLine f.account ⟨some date, .text text, 1, n, .headOffice, none⟩ = w
      at hone hbook hgrown hsame
    rw [resumeFetching_fetching hsame hst hacc] at hone
    obtain ⟨g, rest, hlist⟩ := List.exists_cons_of_ne_nil (l := b.pending ++ [⟨some date, .text text, 1, n, .headOffice, none⟩])
      (by simp)
    have hprint := prints_chooseLine (s := w.modifySession x.drop fun x => { x with
      state := .printing, command := none, timer := .stopped }) (n := f.account)
      (sessionOf_modifySession_same (fun _ => rfl) hsame) hbook (by rw [ho]) hlist hnext
    rw [← hone] at hprint
    obtain ⟨hblocks, -, -, -, hbookt, hsess⟩ := (hgrown.trans rebooks_modifySession).prints hprint
    obtain ⟨honly, hslot⟩ := slots_freed hm (t := (s.seeFrame.freeSlotAt x.number).fetchOutcome f [⟨date, text, some n⟩])
      (by rw [hblocks]; rfl)
    refine ⟨_, _, hexec, ?_, hslot, honly, ?_, hbookt, rfl, rfl, rfl, ?_, _, rfl, rfl, rfl⟩
    · rw [hblocks]
      rfl
    · rw [← hdrop]
      exact fetchAt_fetchOutcome
    · rw [sessionState_of hsess]
  · rintro s u h x f b lines hs rfl hm hf hb hrange
    have hdrop : f.drop = x.drop := fetchAt_drop hf
    have hexec := exec_fetchReply_of_receives (lines := lines) hs
    rw [fetchReply_matched hm hf] at hexec
    have htrails : (s.seeFrame.freeSlotAt x.number).Trails ((s.seeFrame.freeSlotAt x.number).fetchOutcome f lines) :=
      trails_fetchOutcome
    obtain ⟨honly, hslot⟩ := slots_freed hm htrails.slots
    obtain ⟨b1, hb1, hprinted, hbalance⟩ := foldl_appendLine_balance (n := f.account) (lines.take 16)
      (s.seeFrame.fetchEnded x.number f.drop) b hb fun k => by
        rw [List.take_take]
        exact inBookRange_iff.2 (hrange _ (min_le_right k 16))
    obtain ⟨hblocks, hsiu, hothers⟩ := foldl_appendLine_blocks (n := f.account) ((lines.take 16).filterMap fetchedLine)
      (s.seeFrame.fetchEnded x.number f.drop)
    have hout : (s.seeFrame.freeSlotAt x.number).fetchOutcome f lines =
        (((lines.take 16).filterMap fetchedLine).foldl (fun s l => s.appendLine f.account l)
          (s.seeFrame.fetchEnded x.number f.drop)).resumeFetching f.drop := rfl
    obtain ⟨b2, hb2, hprinted2, hbalance2⟩ := (keepsBalances_resumeFetching (a := f.drop)).book hb1
    have hgone : ((s.seeFrame.freeSlotAt x.number).fetchOutcome f lines).fetchAt x.drop = none := hdrop ▸ fetchAt_fetchOutcome
    rw [← hout] at hb2
    refine ⟨_, b2, hexec, hslot, honly, hgone, ?_, hb2, hprinted2.trans hprinted, hbalance2.trans hbalance, fun hst => ?_⟩
    · rw [hout, (State.resumeFetching_frame _ _).2.2.2.2.2.2.2.1, hblocks]
      rfl
    · have hstay : (((lines.take 16).filterMap fetchedLine).foldl (fun s l => s.appendLine f.account l)
          (s.seeFrame.fetchEnded x.number f.drop)).sessionState f.drop ≠ .fetching := by
        rw [hblocks, hdrop]
        exact hst
      rw [hout, resumeFetching_other hstay]
      refine ⟨?_, hsiu, hothers⟩
      rw [hblocks]
      rfl

end Sys2Proof.Machine
end

section
/-! SUPPORT. A presented book and a printer's fault, and the statements O51 and O53. -/

namespace Sys2Proof.Machine

variable {s t u : State} {a k n p q l : Nat} {d : Drop} {z : Session} {b : Passbook} {g : Line} {rest : List Line}
  {account : Option Nat} {pos : Option BookPos} {reason : BookReason}

/-- A heard printer message runs its own rule (R6). -/
theorem whileRunning_fromPrinter_of_hears {f : State → State} (h : s.HearsPrinter a d) :
    (s.whileRunning fun s => s.fromPrinter a f) = f s := by
  obtain ⟨hr, hl, hd, hk, hc, hn⟩ := h
  rw [whileRunning_of hr, fromPrinter_of hl hd hk hc hn]

/-! ### A fault (R150) -/

theorem exec_printerFault_of {c : Instr} (h : s.HearsPrinter a d) (hz : s.sessionOf a = some z)
    (hc : c = .printerFault a ∨ (c = .answerTimerExpiry a ∧ z.timer ≠ .stopped)) :
    exec c s = .next (s.printerFaultAt a) := by
  obtain rfl | ⟨rfl, ht⟩ := hc
  · have hexec : exec (.printerFault a) s = execPrinterFault a s := rfl
    rw [hexec, execPrinterFault, whileRunning_fromPrinter_of_hears h]
  · have hexec : exec (.answerTimerExpiry a) s = execAnswerTimerExpiry a s := rfl
    have hruns : ((s.sessionOf a).any fun x => x.timer != .stopped) = true := by simp [hz, ht]
    rw [hexec, execAnswerTimerExpiry, whileRunning_of h.1, State.answerTimerExpiry, if_pos hruns]

theorem exec_answerTimerExpiry_stopped (hz : s.sessionOf a = some z) (hr : s.isRunning = true) (ht : z.timer = .stopped) :
    exec (.answerTimerExpiry a) s = .next s := by
  have hexec : exec (.answerTimerExpiry a) s = execAnswerTimerExpiry a s := rfl
  have hstops : ((s.sessionOf a).any fun x => x.timer != .stopped) = false := by simp [hz, ht]
  rw [hexec, execAnswerTimerExpiry, whileRunning_of hr, State.answerTimerExpiry, if_neg (by rw [hstops]; decide)]

theorem withdrawFetch_none (h : s.fetchAt a = none) : s.withdrawFetch a = s := by rw [State.withdrawFetch, h]

/-- Settles O53: no session is open, or the one that prints ends as finished. -/
theorem printerFaultEndsTheSession : Obligations.PrinterFaultEndsTheSession := by
  unfold Obligations.PrinterFaultEndsTheSession
  intro s c a d z h hz hc
  have hexec := exec_printerFault_of h hz hc
  refine ⟨fun hst => ?_, fun n b hst hn hb hf hlen => ?_, exec_answerTimerExpiry_stopped hz h.1⟩
  · rw [hexec, State.printerFaultAt, sessionState_of hz]
    rcases hst with hst | hst | hst <;> simp only [hst]
  · rw [State.printerFaultAt, sessionState_of hz] at hexec
    simp only [hst] at hexec
    have hend := finishes_finishSession (reason := some .printerFault) hz hn hb
    have hnone : (s.finishSession a (some .printerFault)).fetchAt a = none := by
      rw [fetchAt_congr (State.finishSession_frame _ _ _).2.2.2.2.2.2.1, hf]
    rw [State.faultSession, withdrawFetch_none hnone] at hexec
    obtain ⟨hdrops, m, hat⟩ := hend.dropAt h
    refine ⟨_, m, hexec, hend.blocks, hat, hdrops, ?_, ?_, hend.others, hend.silent, hend.record⟩
    · rw [sessionState_of hend.session]
    · rw [hend.book, released_short hlen]

/-! ### A book that is refused (R142, R143) -/

theorem exec_bookPresent_of {stripe : Stripe} (h : s.HearsPrinter a d) (hz : s.sessionOf a = some z) (hst : z.state = .identify) :
    exec (.bookPresent a stripe) s = .next ((s.modifySession a Session.settle).checkBook a stripe) := by
  have hexec : exec (.bookPresent a stripe) s = execBookPresent a stripe s := rfl
  rw [hexec, execBookPresent, whileRunning_fromPrinter_of_hears h, State.bookPresent,
    if_pos ((sessionState_of hz).trans hst)]

theorem checkBook_read (h1 : s.dyc.day ≠ .noDay) (h2 : s.dyc.day ≠ .loading) (hb : s.bookOf n = some b)
    (hs : b.session = none) {x : BookPos} : s.checkBook a (.read n x) = s.reconcile a n x b := by
  rw [State.checkBook, if_neg (not_or.2 ⟨h1, h2⟩)]
  simp only [hb, hs, Option.isSome_none, Bool.false_eq_true, if_false]

/-- What the refusal of a presented book leaves. -/
theorem refuseBook_effects (h : s.HearsPrinter a d) (hz : s.sessionOf a = some z) :
    let t := (s.modifySession a Session.settle).refuseBook a account pos reason
    ∃ m, t = { s with lpc := t.lpc, pbu := t.pbu, jnc := t.jnc, tkc := t.tkc } ∧ s.OnlyReports t ∧
      s.OnlyDropAndMarks t a ∧ t.dropAt a = some { d.told (.eject (some reason)) with statusMark := m } ∧
      t.sessionState a = .refused ∧
      (s.journalTakes (.passbookAlert account pos reason) = true →
        s.Wrote t (entry (.passbookAlert account pos reason) (some a))) ∧
      (s.journalTakes (.passbookAlert account pos reason) = false → t.jnc = s.jnc) := by
  intro t
  obtain ⟨-, hl, hd, -, hc, hn⟩ := h
  have hloop : s.Touches t a fun d => d.take .running (.eject (some reason)) :=
    ((State.Touches.refl s a).handOver hl (.eject (some reason))).marks unmarked_writeRecord
  obtain ⟨m, hat⟩ := hloop.dropAt hd
  rw [Drop.take_told hc hn] at hat
  have hsession : t.sessionOf a = some { z.settle with state := .refused, command := none, timer := .stopped } := by
    have hfirst : (s.modifySession a Session.settle).sessionOf a = some z.settle :=
      sessionOf_modifySession_same (fun _ => rfl) hz
    have hsecond : ((s.modifySession a Session.settle).modifySession a fun x =>
        { x with state := .refused, command := none, timer := .stopped }).sessionOf a = _ :=
      sessionOf_modifySession_same (fun _ => rfl) hfirst
    exact (sessionOf_congr (State.writeRecord_frame _ _).2.2.2.2.2.2.2.2.2.1).trans hsecond
  refine ⟨m, by apply State.eq_of_blocks <;> simp [t], onlyReports_writeRecord, hloop.onlyDropAndMarks, hat, ?_,
    fun htakes => wrote_writeRecord rfl htakes, fun hrefused => ?_⟩
  · rw [sessionState_of hsession]
  · have hnot := writeRecord_refused (s := ((s.modifySession a Session.settle).modifySession a fun x =>
      { x with state := .refused, command := none, timer := .stopped }).handOver a (.eject (some reason)))
      (r := entry (.passbookAlert account pos reason) (some a)) hrefused
    have hjnc := congrArg State.jnc hnot
    exact hjnc

theorem checkBook_refused {stripe : Stripe}
    (h : (stripe = .unreadable ∧ account = none ∧ pos = none ∧ reason = .noStripe) ∨
       ∃ n p, stripe = .read n p ∧ account = some n ∧ pos = some p ∧
         ((reason = .dayNotOpen ∧ (s.dyc.day = .noDay ∨ s.dyc.day = .loading)) ∨
          (s.dyc.day ≠ .noDay ∧ s.dyc.day ≠ .loading ∧
           ((reason = .notPassbook ∧ s.bookOf n = none) ∨
            ∃ b, s.bookOf n = some b ∧
              ((reason = .accountBusy ∧ b.session.isSome = true) ∨
               (b.session = none ∧
                 ((reason = .bookFull ∧ b.next = .full) ∨
                  (∃ q l, b.next = .line q l ∧ p ≠ .line q l ∧ ¬ (p = positionAfter q l ∧ b.marker.isSome = true) ∧
                    reason = if positionBefore p (.line q l) = true then .bookSuperseded
                      else .positionMismatch)))))))) :
    s.checkBook a stripe = s.refuseBook a account pos reason := by
  obtain ⟨rfl, rfl, rfl, rfl⟩ | ⟨n, p, rfl, rfl, rfl, h⟩ := h
  · rfl
  obtain ⟨rfl, hday⟩ | ⟨h1, h2, h⟩ := h
  · exact if_pos hday
  obtain ⟨rfl, hb⟩ | ⟨b, hb, h⟩ := h
  · rw [State.checkBook, if_neg (not_or.2 ⟨h1, h2⟩)]
    simp only [hb]
  obtain ⟨rfl, hs⟩ | ⟨hs, h⟩ := h
  · rw [State.checkBook, if_neg (not_or.2 ⟨h1, h2⟩)]
    simp only [hb, hs, if_true]
  rw [checkBook_read h1 h2 hb hs, State.reconcile]
  obtain ⟨rfl, hnext⟩ | ⟨q, l, hnext, hne, hnot, rfl⟩ := h
  · simp only [hnext]
  · simp only [hnext, if_neg hne, if_neg hnot]
    split <;> rfl

/-! ### A session that proceeds (R144) -/

/-- The account's session opened, before its fetch or its first line (R144). -/
def State.bookOpened (s : State) (a n printed : Nat) : State :=
  (s.modifyBook n fun b => { b.convertIfRoom s.poolFree with session := some a }).modifySession a
    fun x => { x with account := some n, printed := printed, command := none, timer := .stopped }

theorem bookOpened_effects {printed : Nat} (hz : s.sessionOf a = some z) (hb : s.bookOf n = some b)
    (ho : b.overflow.items = 0) : s.Rebooks (s.bookOpened a n printed) n ∧
      (s.bookOpened a n printed).bookOf n = some { b with session := some a } ∧
      (s.bookOpened a n printed).sessionOf a =
        some { z with account := some n, printed := printed, command := none, timer := .stopped } := by
  refine ⟨rebooks_modifyBook.trans rebooks_modifySession, ?_, sessionOf_modifySession_same (s := s.modifyBook n _) (fun _ => rfl) hz⟩
  have hbook := bookOf_modifyBook (s := s) (a := n) (b := n) (f := fun b => { b.convertIfRoom s.poolFree with session := some a })
  rw [if_pos rfl, hb, Option.map_some, convertIfRoom_empty ho] at hbook
  exact hbook

theorem proceedSession_eq {printed : Nat} (hb : (s.bookOpened a n printed).bookOf n = some b) :
    s.proceedSession a n printed = if b.next = .full then (s.bookOpened a n printed).finishSession a (some .bookFull)
      else (s.bookOpened a n printed).requestFetch a n := by
  have hopened : s.proceedSession a n printed = if ((s.bookOpened a n printed).bookOf n).any (fun b => b.next == .full) then
      (s.bookOpened a n printed).finishSession a (some .bookFull) else (s.bookOpened a n printed).requestFetch a n := rfl
  rw [hopened, hb]
  by_cases h : b.next = .full <;> simp [h]

/-- A fetch is asked for: what it leaves (R58, R144). -/
structure State.Fetches (s t : State) (a n : Nat) (z : Session) (b : Passbook) : Prop where
  blocks : t = { s with rqu := t.rqu, tkc := t.tkc, pbu := t.pbu }
  session : t.sessionOf a = some { z with state := .fetching, command := none, timer := .stopped }
  fetch : ∃ f, t.fetchAt a = some f ∧ f.account = n ∧ f.pos = b.next ∧
    (f.stage = .queued ∨ (f.stage = .waitListed ∧ s.lowestFree = none))

theorem fetches_requestFetch (hz : s.sessionOf a = some z) (hb : s.bookOf n = some b) (hno : s.hasWork a = false)
    (hl : s.tkc.link = .online) : s.Fetches (s.requestFetch a n) a n z b := by
  have hask : s.requestFetch a n = ((s.putFetch ⟨a, n, b.next, .checking, none⟩).forward a).modifySession a fun x =>
      { x with state := .fetching, command := none, timer := .stopped } := by
    rw [State.requestFetch, if_neg (by simp [hno, hl]), hb]
    rfl
  have hput : (s.putFetch ⟨a, n, b.next, .checking, none⟩).fetchAt a = some ⟨a, n, b.next, .checking, none⟩ :=
    fetchAt_putFetch.trans (if_pos rfl)
  rw [hask]
  refine ⟨by apply State.eq_of_blocks <;> simp, sessionOf_modifySession_same (fun _ => rfl) ((sessionOf_congr (by simp)).trans hz), ?_⟩
  have hfetch : ∀ v : State, (v.modifySession a fun x => { x with state := .fetching, command := none, timer := .stopped }).fetchAt a =
      v.fetchAt a := fun _ => rfl
  rw [hfetch, State.forward]
  have hfree : (s.putFetch ⟨a, n, b.next, .checking, none⟩).lowestFree = s.lowestFree := rfl
  cases hlow : s.lowestFree with
  | none =>
    rw [hfree, hlow]
    exact ⟨_, fetchAt_setStage (s := (s.putFetch _).onRqu _) hput, rfl, rfl, .inr ⟨rfl, rfl⟩⟩
  | some i =>
    rw [hfree, hlow]
    exact ⟨_, fetchAt_setStage (s := (s.putFetch _).modifySlot i _) hput, rfl, rfl, .inl rfl⟩

/-- With no fetch the session goes on to print. -/
theorem requestFetch_prints (hl : s.tkc.link ≠ .online) : s.requestFetch a n = (s.modifySession a fun x =>
    { x with state := .printing, command := none, timer := .stopped }).chooseLine a n := by
  rw [State.requestFetch, if_pos (.inr hl)]
  rfl

theorem positionAfter_ne : positionAfter q l ≠ .line q l := by
  unfold positionAfter
  split
  · intro h
    injection h
    omega
  · split
    · intro h
      injection h
      omega
    · exact nofun

/-- What changes ahead of a fetch in the account's own passbook and session alone. -/
theorem State.Rebooks.fetches {f : State} (hu : s.Rebooks u n) (h : u.Fetches f a n z b) :
    f = { s with rqu := f.rqu, tkc := f.tkc, pbu := f.pbu, siu := f.siu } ∧ f.siu = { s.siu with sat := f.siu.sat } ∧
      (∀ k, k ≠ n → f.satAt k = s.satAt k) ∧ f.bookOf n = u.bookOf n := by
  have hsiu : f.siu = u.siu := by rw [h.blocks]
  refine ⟨?_, ?_, fun k hk => (satAt_congr hsiu).trans (hu.others k hk), ?_⟩
  · rw [h.blocks, hu.blocks]
  · rw [hsiu, hu.accounts]
  · rw [State.bookOf, State.bookOf, satAt_congr hsiu]

/-- A book at its account's next position is taken: its session is opened with no marker (R143). -/
theorem exec_bookPresent_match (h : s.HearsPrinter a d) (hz : s.sessionOf a = some z) (hst : z.state = .identify)
    (h1 : s.dyc.day ≠ .noDay) (h2 : s.dyc.day ≠ .loading) (hb : s.bookOf n = some b) (hs : b.session = none)
    (hnext : b.next = .line q l) (ho : b.overflow.items = 0) : ∃ u, s.Rebooks u n ∧
      u.bookOf n = some { b with marker := none, session := some a } ∧
      u.sessionOf a = some { z with account := some n, printed := 0, command := none, timer := .stopped } ∧
      exec (.bookPresent a (.read n (.line q l))) s = .next (u.requestFetch a n) := by
  have hsettled : ((s.modifySession a Session.settle).modifyBook n fun b => { b with marker := none }).sessionOf a =
      some z.settle := sessionOf_modifySession_same (f := Session.settle) (fun _ => rfl) hz
  have hbook : ((s.modifySession a Session.settle).modifyBook n fun b => { b with marker := none }).bookOf n =
      some { b with marker := none } := by
    have hmod := bookOf_modifyBook (s := s.modifySession a Session.settle) (a := n) (b := n)
      (f := fun b => { b with marker := none })
    have hsame : (s.modifySession a Session.settle).bookOf n = some b := hb
    rwa [if_pos rfl, hsame] at hmod
  obtain ⟨hreb, hopened, hsession⟩ := bookOpened_effects (a := a) (printed := 0) hsettled hbook ho
  refine ⟨_, (rebooks_modifySession.trans rebooks_modifyBook).trans hreb, hopened, hsession, ?_⟩
  rw [exec_bookPresent_of h hz hst, checkBook_read (s := s.modifySession a Session.settle) h1 h2 hb hs, State.reconcile]
  simp only [hnext, if_true]
  rw [proceedSession_eq hopened, if_neg (by rw [hnext]; exact nofun)]

/-- A book one position past its marked line is taken with that line counted as printed (R143, R148). -/
theorem exec_bookPresent_past (h : s.HearsPrinter a d) (hz : s.sessionOf a = some z) (hst : z.state = .identify)
    (h1 : s.dyc.day ≠ .noDay) (h2 : s.dyc.day ≠ .loading) (hb : s.bookOf n = some b) (hs : b.session = none)
    (hnext : b.next = .line q l) (ho : b.overflow.items = 0) (hp : b.pending = g :: rest)
    (hm : b.marker = some ⟨q, l, g.amount, g.items, .list⟩) : ∃ u, s.Rebooks u n ∧
      u.bookOf n = some { b with
        pending := rest, printed := b.printed + g.amount, marker := none, next := positionAfter q l, session := some a } ∧
      u.sessionOf a = some { z with account := some n, printed := 1, command := none, timer := .stopped } ∧
      exec (.bookPresent a (.read n (positionAfter q l))) s = .next (if positionAfter q l = .full then
        u.finishSession a (some .bookFull) else u.requestFetch a n) := by
  have hsettled : ((s.modifySession a Session.settle).modifyBook n Passbook.confirmMarked).sessionOf a = some z.settle :=
    sessionOf_modifySession_same (f := Session.settle) (fun _ => rfl) hz
  have hconfirmed : b.confirmMarked = { b with
      pending := rest, printed := b.printed + g.amount, marker := none, next := positionAfter q l } := by
    simp [Passbook.confirmMarked, hm, hp]
  have hbook : ((s.modifySession a Session.settle).modifyBook n Passbook.confirmMarked).bookOf n = some { b with
      pending := rest, printed := b.printed + g.amount, marker := none, next := positionAfter q l } := by
    have hsame : (s.modifySession a Session.settle).bookOf n = some b := hb
    rw [bookOf_modifyBook, if_pos rfl, hsame, Option.map_some, hconfirmed]
  obtain ⟨hreb, hopened, hsession⟩ := bookOpened_effects (a := a) (printed := 1) hsettled hbook ho
  refine ⟨_, (rebooks_modifySession.trans rebooks_modifyBook).trans hreb, hopened, hsession, ?_⟩
  rw [exec_bookPresent_of h hz hst, checkBook_read (s := s.modifySession a Session.settle) h1 h2 hb hs, State.reconcile]
  simp only [hnext, if_neg positionAfter_ne]
  rw [if_pos (by simp [hm]), proceedSession_eq hopened]

/-- Settles O51: a book is refused, taken at its position, or taken one position past its marked line. -/
theorem bookIsTakenOrRefused : Obligations.BookIsTakenOrRefused := by
  unfold Obligations.BookIsTakenOrRefused
  refine ⟨fun s a stripe d z account pos reason h hz hst hr => ?_, fun s a n q l d z b g rest h hz hst h1 h2 hb hs hnext ho hp hno => ?_,
    fun s a n q l pos d z b g rest h hz hst h1 h2 hb hs hnext ho hp hm hpos hno => ?_⟩
  · obtain ⟨m, hall⟩ := refuseBook_effects (account := account) (pos := pos) (reason := reason) h hz
    exact ⟨_, m, (exec_bookPresent_of h hz hst).trans (congrArg Host.Outcome.next
      (checkBook_refused (s := s.modifySession a Session.settle) hr)), hall⟩
  · obtain ⟨u, hreb, hbook, hsession, hexec⟩ := exec_bookPresent_match h hz hst h1 h2 hb hs hnext ho
    have hlink : u.tkc.link = s.tkc.link := by rw [hreb.blocks]
    by_cases hl : s.tkc.link = .online
    · have hwork : u.hasWork a = false := by
        rw [hreb.blocks]
        exact hno
      have hf := fetches_requestFetch hsession hbook hwork (hlink.trans hl)
      obtain ⟨hblocks, hsiu, hothers, hsame⟩ := hreb.fetches hf
      obtain ⟨f, hat, hfn, hfp, hstage⟩ := hf.fetch
      refine ⟨_, _, hexec, hsame.trans hbook, rfl, rfl, rfl, rfl, by rw [hblocks], by rw [hblocks], by rw [hblocks], hsiu, hothers,
        fun _ => ⟨sessionState_of hf.session, rfl, by rw [hblocks], f, hat, hfn, hfp.trans hnext, ?_⟩, fun hn => absurd hl hn⟩
      have hlow : u.lowestFree = s.lowestFree := by rw [hreb.blocks]; rfl
      rwa [hlow] at hstage
    · rw [requestFetch_prints (by rw [hlink]; exact hl)] at hexec
      have hprint := (hreb.trans rebooks_modifySession).prints (prints_chooseLine (n := n)
        (s := u.modifySession a fun x => { x with state := .printing, command := none, timer := .stopped })
        (sessionOf_modifySession_same (fun _ => rfl) hsession) hbook ho hp hnext)
      obtain ⟨honly, hat⟩ := hprint.dropAt h
      refine ⟨_, _, hexec, hprint.book, rfl, rfl, rfl, rfl, by rw [hprint.blocks], by rw [hprint.blocks], by rw [hprint.blocks],
        hprint.accounts, hprint.others, fun hn => absurd hn hl, fun _ => ⟨by rw [hprint.blocks], by rw [hprint.blocks], honly, rfl,
          hat, _, hprint.session, rfl, rfl, rfl, rfl, rfl⟩⟩
  · subst hpos
    obtain ⟨u, hreb, hbook, hsession, hexec⟩ := exec_bookPresent_past h hz hst h1 h2 hb hs hnext ho hp hm
    have hlink : u.tkc.link = s.tkc.link := by rw [hreb.blocks]
    by_cases hfull : positionAfter q l = .full
    · rw [if_pos hfull] at hexec
      have hend := hreb.finishes (finishes_finishSession (reason := some .bookFull) hsession rfl hbook)
      obtain ⟨-, hat⟩ := hend.dropAt h
      refine ⟨_, _, _, hexec, hend.book, hend.session, ?_, ?_, rfl, rfl, fun hlen => ?_, by rw [hend.blocks], by rw [hend.blocks],
        hend.accounts, hend.others, fun _ => ⟨rfl, ?_, ?_, ?_, fun hc => hend.record Nat.one_pos h1 hc⟩,
        fun hn => absurd hfull hn, fun q' l' g' more hq' => absurd (hfull.symm.trans hq') nofun⟩
      · rw [released_eq]
      · rw [released_eq]
      · rw [released_short hlen]
      · rw [released_eq]
      · rw [released_eq]
      · rw [if_pos hfull]
        exact hat
    · rw [if_neg hfull] at hexec
      obtain ⟨q', l', hq'⟩ : ∃ q' l', positionAfter q l = .line q' l' := by
        cases hp : positionAfter q l with
        | line q' l' => exact ⟨q', l', rfl⟩
        | full => exact absurd hp hfull
      by_cases hl : s.tkc.link = .online
      · have hwork : u.hasWork a = false := by
          rw [hreb.blocks]
          exact hno
        have hf := fetches_requestFetch hsession hbook hwork (hlink.trans hl)
        obtain ⟨hblocks, hsiu, hothers, hsame⟩ := hreb.fetches hf
        obtain ⟨f, hat, hfn, hfp, -⟩ := hf.fetch
        exact ⟨_, _, _, hexec, hsame.trans hbook, hf.session, rfl, rfl, rfl, rfl, fun _ => rfl, by rw [hblocks], by rw [hblocks], hsiu,
          hothers, fun hc => (hc.elim hfull fun hn => absurd hl hn.1).elim, fun _ _ => ⟨rfl, rfl, rfl, rfl, f, hat, hfn, hfp⟩,
          fun _ _ _ _ _ hn => absurd hl hn⟩
      · rw [requestFetch_prints (by rw [hlink]; exact hl)] at hexec
        have hsess : (u.modifySession a fun x => { x with state := .printing, command := none, timer := .stopped }).sessionOf a = _ :=
          sessionOf_modifySession_same (fun _ => rfl) hsession
        cases hrest : rest with
        | nil =>
          rw [hrest] at hbook
          have hend := (hreb.trans rebooks_modifySession).finishes (finishes_chooseLine hsess rfl hbook ho rfl)
          obtain ⟨-, hat⟩ := hend.dropAt h
          refine ⟨_, _, _, hexec, hend.book, hend.session, ?_, ?_, rfl, rfl, fun hlen => ?_, by rw [hend.blocks], by rw [hend.blocks],
            hend.accounts, hend.others, fun _ => ⟨rfl, ?_, ?_, ?_, fun hc => hend.record Nat.one_pos h1 hc⟩,
            fun _ hn => absurd hn hl, fun q' l' g' more _ _ hr => by cases hr⟩
          · rw [released_eq]
          · rw [released_eq]
          · rw [released_short hlen]
          · rw [released_eq]
          · rw [released_eq]
          · rw [if_neg hfull]
            exact hat
        | cons g' more =>
          rw [hrest] at hbook
          have hprint := (hreb.trans rebooks_modifySession).prints (prints_chooseLine hsess hbook ho rfl hq')
          obtain ⟨-, hat⟩ := hprint.dropAt h
          refine ⟨_, _, _, hexec, hprint.book, hprint.session, rfl, rfl, rfl, rfl, fun _ => rfl, by rw [hprint.blocks],
            by rw [hprint.blocks], hprint.accounts, hprint.others, fun hc => (hc.elim hfull fun hn => by cases hn.2).elim,
            fun _ hn => absurd hn hl, fun q2 l2 g2 more2 hq2 _ hr => ?_⟩
          cases hr
          cases hq'.symm.trans hq2
          exact ⟨rfl, rfl, rfl, rfl, hat⟩

end Sys2Proof.Machine
end

section
/-! SUPPORT. The refutation of O52: an account that the table holds twice. -/

namespace Sys2Proof.Machine

/-- The state that a command is answered with. -/
def execNext (c : Instr) (s : State) : Option State :=
  match exec c s with
  | .next t => some t
  | _ => none

/-- The passbook of account 52 at page 7, line 23, with an overflow of which two items are being printed. -/
def overflowBook : Passbook := ⟨500000, 500900, .line 7 23, [], ⟨3, 900, none⟩, some ⟨7, 23, 400, 2, .overflow⟩, some 25⟩

/-- A passbook whose lines fill the pool, the first of them marked. -/
def crowdedBook : Passbook := ⟨0, 0, .line 7 23, List.replicate 8192 ⟨none, .summary, 1, 0, .branch, none⟩, ⟨0, 0, none⟩,
  some ⟨7, 23, 0, 1, .list⟩, none⟩

/-- Printer drop 25 prints the overflow of account 52 while the table holds the account a second time, with all the
lines of the pool: none is free until the confirmation takes the second entry's first line too. -/
def doubledAccount : State := { State.reset with
  lpc := { State.reset.lpc with drops := State.reset.lpc.drops.map fun d => if d.addr = 25 then { d with state := .active } else d }
  siu := { State.reset.siu with
    sat := [⟨52, .full, 0, 0, 0, false, 0, some overflowBook⟩, ⟨52, .full, 0, 0, 0, false, 0, some crowdedBook⟩] }
  pbu := { State.reset.pbu with sessions := State.reset.pbu.sessions.map fun z => if z.drop = some 25 then { z with
    state := .printing, account := some 52, command := some (.printLine 7 23), timer := .running 30 } else z } }

theorem doubledAccount_lineDone : ((execNext (.lineDone 25 7 23) doubledAccount).bind fun t =>
    (t.bookOf 52).map fun b => b.overflow.items) = some 0 := by decide +kernel

/-- Refutes O52: with an account listed twice, a confirmation frees a line of a pool that had none, so the rest of the
overflow joins the list instead of being printed itself. -/
theorem not_linesAreConfirmed : ¬ Obligations.LinesAreConfirmed := by
  unfold Obligations.LinesAreConfirmed
  intro h
  obtain ⟨-, h⟩ := h
  have hgives := doubledAccount_lineDone
  obtain ⟨t, b', z', hexec, hb', -, -, -, -, -, -, -, -, -, hitems⟩ := h doubledAccount (.lineDone 25 7 23) 25 52 7 24
    (((doubledAccount.sessionOf 25).getD default).printed + 1) (((doubledAccount.bookOf 52).getD default).printed + 400)
    ((doubledAccount.dropAt 25).getD default) ((doubledAccount.sessionOf 25).getD default) ((doubledAccount.bookOf 52).getD default)
    ⟨1, 500, none⟩ ⟨none, .summary, 1, 500, .branch, none⟩ (by unfold State.HearsPrinter; decide +kernel) (by decide +kernel)
    (by decide +kernel) (by decide +kernel) (by decide +kernel)
    (.inl ⟨7, 23, ⟨7, 23, 400, 2, .overflow⟩, rfl, by decide, by decide +kernel, by decide +kernel, by decide +kernel, rfl, rfl, rfl,
      rfl, rfl, rfl, rfl, by decide +kernel⟩) rfl
  obtain ⟨-, -, -, -, -, -, hfull⟩ := hitems (by decide)
  obtain ⟨ho, -, -⟩ := hfull (by decide +kernel)
  simp [execNext, hexec, hb', ho] at hgives

end Sys2Proof.Machine
end

section
/-! SUPPORT. The path of a request: the checks it passes one by one, its override, its drawer and its routing. -/

namespace Sys2Proof.Machine

variable {s t u : State} {a b k n i : Nat} {d : Drop} {x : Teller} {f : TxnFields} {y : Txn} {g : Definition} {r : Result}
  {note : Option LegNote} {q : FinalReply}

/-! ### The first checks (R45) -/

theorem exec_txnRequest (h : s.Attends a d x) : exec (.txnRequest a f) s = .next (s.takeRequest a f) := by
  have hexec : exec (.txnRequest a f) s = execTxnRequest a f s := rfl
  rw [hexec, execTxnRequest, whileRunning_fromTeller_of_hears h.1]

theorem takeRequest_asked (h : s.Asks a d x) : s.takeRequest a f = s.checkRequest (newTxn a x f) := by
  obtain ⟨hat, hactive, hno, -⟩ := h
  rw [State.takeRequest, asTeller_of_attends hat, if_neg (not_not.2 hactive), if_neg (by rw [hno]; decide)]

theorem exec_asked (h : s.Asks a d x) : exec (.txnRequest a f) s = .next (s.checkRequest (newTxn a x f)) := by
  rw [exec_txnRequest h.1, takeRequest_asked h]

theorem txnAt_asked (h : s.Asks a d x) : s.txnAt a = none := by
  obtain ⟨-, -, hno, -⟩ := h
  rw [State.hasWork, Bool.or_eq_false_iff] at hno
  simpa using hno.1

/-- A request's definition passes checks 5 to 7 and 9 (R45). -/
structure State.Clear (s : State) (x : Teller) (f : TxnFields) (g : Definition) : Prop where
  training : (x.training && g.noTraining) = false
  mask : s.rqu.classMask.has g.cls = false
  rate : ¬ (g.mode ≠ .home ∧ rateFresh s.siu.rate s.jnc.clock = false)
  route : s.needsAccount g = true → ∃ n, readAccount f.account = some n ∧ routeResult s.rqu.routes n ≠ .refuse

theorem requestDay_of (h : s.earlyRefusal x f = none) : s.dyc.day = .opened ∨ s.dyc.day = .closeProposed := by
  unfold State.earlyRefusal at h
  cases hd : s.dyc.day <;> simp [hd] at h ⊢

theorem day_open (h : s.earlyRefusal x f = none) : requestDay s.dyc.day = none := by
  rcases requestDay_of h with h | h <;> rw [h] <;> rfl

/-- From check 4 on the day plays no part (R45). -/
def State.definitionRefusal (s : State) (x : Teller) (f : TxnFields) (g : Definition) : Option (Result × Option LegNote) :=
  if x.training = true ∧ g.noTraining = true then some (.trainingRefused, none)
  else if s.rqu.classMask.has g.cls = true then some (.classMasked, none)
  else if g.mode ≠ .home ∧ rateFresh s.siu.rate s.jnc.clock = false then some (.rateStale, none)
  else
    match amounts g f s.siu.rate with
    | .refused r note => some (r, note)
    | .legs _ _ =>
      if s.needsAccount g = true ∧
          ((readAccount f.account).all fun n => routeResult s.rqu.routes n == .refuse) = true then
        some (.routeRefused, none)
      else none

theorem earlyRefusal_definition (hday : requestDay s.dyc.day = none) (hdef : s.definitionOf (readCode f.code) = some (i, g)) :
    s.earlyRefusal x f = s.definitionRefusal x f g := by
  unfold State.earlyRefusal
  cases hd : s.dyc.day <;> simp [hd, requestDay] at hday ⊢ <;> simp only [hdef] <;> rfl

theorem clear_of (h : s.definitionRefusal x f g = none) : s.Clear x f g := by
  unfold State.definitionRefusal at h
  split at h
  · cases h
  next h1 =>
  split at h
  · cases h
  next h2 =>
  split at h
  · cases h
  next h3 =>
  refine ⟨by simpa using h1, by simpa using h2, h3, fun hneeds => ?_⟩
  split at h
  · cases h
  split at h
  · cases h
  next h4 =>
  cases ha : readAccount f.account with
  | none => simp [ha, hneeds] at h4
  | some n => exact ⟨n, rfl, by simpa [ha, hneeds] using h4⟩

/-- The item of a checked request before its drawer is chosen. -/
theorem Checked.item_eq (h : s.Checked a x f y g) : ({ y with drawer := none } : Txn) = { newTxn a x f with
    defIndex := y.defIndex, defn := some g, routing := y.routing, account := y.account, legs := y.legs, exchange := y.exchange } :=
  congrArg (fun z : Txn => { z with drawer := none }) h.item

/-! ### A checked request comes to its override (R45, checks 3 to 9) -/

theorem fromRoute_checked (h : s.Checked a x f y g) (hc : s.Clear x f g) : s.fromRoute { newTxn a x f with
    defIndex := y.defIndex, defn := some g, routing := g.routing, legs := y.legs, exchange := y.exchange } g =
      s.fromOverride { y with drawer := none } g := by
  rw [Checked.item_eq h]
  by_cases hneeds : s.needsAccount g = true
  · obtain ⟨n, ha, hn⟩ := hc.route hneeds
    have haccount : y.account = some n := by rw [h.account, if_pos hneeds, ha]
    have hrouting : y.routing = effectiveRouting g.routing (routeResult s.rqu.routes n) := by rw [h.routing, haccount]
    have hfields : (newTxn a x f).fields.account = f.account := rfl
    rw [State.fromRoute, if_pos hneeds]
    simp only [hfields, ha, haccount, hrouting]
  · have haccount : y.account = none := by rw [h.account, if_neg hneeds]
    have hrouting : y.routing = g.routing := by rw [h.routing, haccount]
    rw [State.fromRoute, if_neg hneeds, haccount, hrouting]

theorem fromMask_clear {l : List Leg} {e : Option Exchange} {z : Txn} (hc : s.Clear x f g) (hf : z.fields = f)
    (ha : amounts g f s.siu.rate = .legs l e) : s.fromMask z g = s.fromRoute { z with legs := l, exchange := e } g := by
  rw [State.fromMask, if_neg (by rw [hc.mask]; decide), if_neg hc.rate, hf]
  simp only [ha]

theorem checkRequest_definition (hday : requestDay s.dyc.day = none) (hdef : s.definitionOf (readCode f.code) = some (i, g)) :
    s.checkRequest (newTxn a x f) =
      if x.training && g.noTraining then s.refuse { newTxn a x f with defIndex := i, defn := some g, routing := g.routing } .trainingRefused
      else s.fromMask { newTxn a x f with defIndex := i, defn := some g, routing := g.routing } g := by
  have hcode : (newTxn a x f).code = readCode f.code := rfl
  rw [State.checkRequest]
  simp only [hday, hcode, hdef]
  rfl

/-- A request that passes checks 3 to 9 comes to the override check (R33). -/
theorem checkRequest_checked (h : s.Checked a x f y g) :
    s.checkRequest (newTxn a x f) = s.fromOverride { y with drawer := none } g := by
  have hday := day_open h.passed
  have hc := clear_of ((earlyRefusal_definition hday h.definition).symm.trans h.passed)
  rw [checkRequest_definition hday h.definition, hc.training, if_neg (by decide), fromMask_clear hc rfl h.amounts]
  exact fromRoute_checked h hc

/-! ### A request that fails one of checks 3 to 9 (R45, R57) -/

/-- An item that a refused request leaves: the request's own, with no figure of a reply set. -/
structure Txn.Refusable (z : Txn) (a : Nat) (x : Teller) (f : TxnFields) : Prop where
  drop : z.drop = a
  teller : z.teller = x.number
  fields : z.fields = f
  code : z.code = readCode f.code
  timedOut : z.timedOut = none

theorem refusable_newTxn (i : Nat) (m : Option Definition) (p : Routing) :
    ({ newTxn a x f with defIndex := i, defn := m, routing := p } : Txn).Refusable a x f := ⟨rfl, rfl, rfl, rfl, rfl⟩

theorem fromRoute_refused {z : Txn} (hneeds : s.needsAccount g = true)
    (hall : ((readAccount z.fields.account).all fun n => routeResult s.rqu.routes n == .refuse) = true) :
    s.fromRoute z g = s.refuse z .routeRefused := by
  rw [State.fromRoute, if_pos hneeds]
  cases ha : readAccount z.fields.account with
  | none => rfl
  | some n =>
    have hn : routeResult s.rqu.routes n = .refuse := by simpa [ha] using hall
    simp only [hn]

theorem checkRequest_refused (h : s.earlyRefusal x f = some (r, note)) :
    ∃ z, s.checkRequest (newTxn a x f) = s.refuse z r note ∧ z.Refusable a x f := by
  cases hday : requestDay s.dyc.day with
  | some q =>
    have hq : s.earlyRefusal x f = some (q, none) := by
      unfold State.earlyRefusal
      cases hd : s.dyc.day <;> simp_all [requestDay]
    rw [h] at hq
    cases hq
    refine ⟨newTxn a x f, ?_, rfl, rfl, rfl, rfl, rfl⟩
    rw [State.checkRequest]
    simp only [hday]
  | none =>
    cases hdef : s.definitionOf (readCode f.code) with
    | none =>
      have hq : s.earlyRefusal x f = some (.unknownCode, none) := by
        unfold State.earlyRefusal
        cases hd : s.dyc.day <;> simp_all [requestDay]
      rw [h] at hq
      cases hq
      have hcode : (newTxn a x f).code = readCode f.code := rfl
      refine ⟨newTxn a x f, ?_, rfl, rfl, rfl, rfl, rfl⟩
      rw [State.checkRequest]
      simp only [hday, hcode, hdef]
    | some p =>
      obtain ⟨i, g⟩ := p
      rw [earlyRefusal_definition hday hdef] at h
      rw [checkRequest_definition hday hdef]
      have hnew := refusable_newTxn (a := a) (x := x) (f := f) i (some g) g.routing
      generalize ({ newTxn a x f with defIndex := i, defn := some g, routing := g.routing } : Txn) = z at hnew ⊢
      unfold State.definitionRefusal at h
      split at h
      · next h1 =>
        cases h
        exact ⟨z, if_pos (by simpa using h1), hnew⟩
      next h1 =>
      rw [if_neg (by simpa using h1), State.fromMask]
      split at h
      · next h2 =>
        cases h
        exact ⟨z, if_pos h2, hnew⟩
      next h2 =>
      rw [if_neg h2]
      split at h
      · next h3 =>
        cases h
        exact ⟨z, if_pos h3, hnew⟩
      next h3 =>
      rw [if_neg h3, hnew.fields]
      cases hq : amounts g f s.siu.rate with
      | refused r' note' =>
        simp only [hq] at h
        cases h
        exact ⟨z, rfl, hnew⟩
      | legs l e =>
        simp only [hq] at h
        split at h
        · next h4 =>
          cases h
          obtain ⟨hneeds, hall⟩ := h4
          exact ⟨_, fromRoute_refused hneeds hall, hnew.drop, hnew.teller, rfl, hnew.code, hnew.timedOut⟩
        · cases h

end Sys2Proof.Machine
end

section
/-! SUPPORT. A request's answer and its posting, and the statements O12, O13 and O14. -/

namespace Sys2Proof.Machine

variable {s t u p w : State} {a b k n i : Nat} {d : Drop} {x : Teller} {f : TxnFields} {y z : Txn} {g : Definition} {r : Result}
  {note : Option LegNote} {q : FinalReply}

/-! ### The outcome at a heard drop -/

theorem onlyTxn_of (hw : w.rqu = s.rqu) : s.OnlyTxn (w.concluded y q) y.drop y.teller := by
  obtain ⟨htellers, htxns⟩ := onlyTxn_concluded (s := w) (y := y) (r := q)
  exact ⟨by rw [htellers, hw], fun b hb => (htxns b hb).trans (txnAt_congr hw)⟩

theorem dropAt_concluded_told (h : s.Hears y.drop d) : (s.concluded y q).dropAt y.drop = some (d.told (.final q)) := by
  obtain ⟨-, hl, hd, -, hc, hn⟩ := h
  rw [dropAt_concluded hd, hl, Drop.take_told hc hn]

/-- A request refused at a heard drop without work (R44, R57). -/
theorem refuse_effects (h : s.Hears a d) (hz : z.drop = a) (hno : s.txnAt a = none)
    (hday : s.dyc.day = .closeDrain → s.noneUndecided = false) :
    s.refuse z r note = { s with lpc := (s.refuse z r note).lpc, rqu := (s.refuse z r note).rqu } ∧
      s.OnlyDrop (s.refuse z r note) a ∧
      (s.refuse z r note).dropAt a = some (d.told (.final { z.reply r with note := note })) ∧
      s.OnlyTxn (s.refuse z r note) a z.teller ∧ (s.refuse z r note).txnAt a = some
        { z with stage := .answered, slot := none, outcome := some r, limit := none, holdTimer := .stopped } := by
  subst hz
  have heq : s.refuse z r note = s.concluded z { z.reply r with note := note } := judgeDrain_concluded hday hno
  rw [heq]
  exact ⟨rfl, onlyDrop_concluded, dropAt_concluded_told h, onlyTxn_of rfl, txnAt_concluded⟩

/-- Settles O12: the first check that fails refuses the request. -/
theorem earlyChecksRefuse : Obligations.EarlyChecksRefuse := by
  unfold Obligations.EarlyChecksRefuse
  intro s a d x f r note h hr hday
  obtain ⟨z, heq, hz⟩ := checkRequest_refused (a := a) hr
  obtain ⟨hblocks, honly, hat, htxn, hitem⟩ := refuse_effects (r := r) (note := note) h.1.1 hz.drop (txnAt_asked h) hday
  rw [hz.teller] at htxn
  refine ⟨_, _, by rw [exec_asked h, heq], hblocks, honly, ?_, htxn, hitem, rfl, rfl, hz.fields, hz.teller⟩
  rw [hat, Txn.reply, hz.code, hz.timedOut]
  rfl

/-! ### The item of a checked request -/

/-- The item of a request that has not been held, forwarded or answered. -/
structure Txn.Fresh (y : Txn) (a : Nat) (x : Teller) : Prop where
  drop : y.drop = a
  teller : y.teller = x.number
  training : y.training = x.training
  supervisor : y.supervisor = none
  timedOut : y.timedOut = none
  slot : y.slot = none
  limit : y.limit = none
  timer : y.holdTimer = .stopped

theorem Checked.fresh (h : s.Checked a x f y g) : y.Fresh a x := by
  constructor <;> rw [h.item] <;> rfl

/-- The outcome of a fresh item changes its stage and its outcome alone. -/
theorem Txn.Fresh.answered {o : Option Result} (h : y.Fresh a x) : ({ y with
    stage := .answered, slot := none, outcome := o, limit := none, holdTimer := .stopped } : Txn) =
      { y with stage := .answered, outcome := o } := by
  have hslot := h.slot
  have hlimit := h.limit
  have htimer := h.timer
  cases y
  simp_all

theorem Txn.Fresh.reply (h : y.Fresh a x) : y.reply r = refusalReply y.code r none := by
  rw [Txn.reply, h.timedOut]
  rfl

/-! ### A request that clears its checks comes to its routing (R45, checks 10 to 12) -/

theorem limitInForce_fresh (h : y.Fresh a x) (hx : s.tellerOf x.number = some x) : s.limitInForce y = x.cashLimit := by
  rw [State.limitInForce, h.limit, h.teller, hx]
  rfl

theorem overrideReason_fresh (h : y.Fresh a x) (hx : s.tellerOf x.number = some x) :
    s.overrideReason y g = x.holdReason g y.legs := by
  rw [State.overrideReason, limitInForce_fresh h hx, h.teller, hx]
  rfl

theorem holdReason_cleared (h : s.Cleared a d x f y g) :
    ((x.holdReason g y.legs).cls || (x.holdReason g y.legs).amount) = false := by
  rw [Bool.or_eq_false_iff]
  refine ⟨?_, ?_⟩
  · rcases h.inClass with hc | hc <;> simp [Teller.holdReason, hc]
  · have hlimit := h.inLimit
    cases hq : amountCompared y.legs with
    | none => simp [Teller.holdReason, hq]
    | some m => simpa [Teller.holdReason, hq] using hlimit m hq

theorem targetDrawer_held (h : y.Fresh a x) (hx : s.tellerOf x.number = some x) (hn : x.heldDrawer = some n)
    (hg : g.target = .reserve → n = 0) : s.targetDrawer y g = some n := by
  rw [State.targetDrawer, h.teller, hx]
  have hown : g.target = .own ∨ n = 0 := by
    cases ht : g.target with
    | own => exact .inl rfl
    | reserve => exact .inr (hg ht)
  rcases hown with h | h <;> simp [hn, h]

theorem drawerRefusal_none {v : Drawer} (hn : s.drawerAt n = some v) (hd : s.dropAt y.drop = some d)
    (ho : d.sigs.drawerOpen.confirmed = false) (hl : ∀ l ∈ y.legs, cashShort v l = false ∧ overTotal v l = false) :
    s.drawerRefusal y (some n) = none := by
  have hshort : y.legs.find? (cashShort v) = none := List.find?_eq_none.2 fun l hm => by rw [(hl l hm).1]; decide
  have hover : y.legs.find? (overTotal v) = none := List.find?_eq_none.2 fun l hm => by rw [(hl l hm).2]; decide
  have hclosed : (s.dropIs y.drop fun d => d.sigs.drawerOpen.confirmed) = false := by simp [State.dropIs, hd, ho]
  rw [State.drawerRefusal]
  simp only [Option.bind_some, hn, hclosed, hshort, hover]
  rfl

/-- With the drawer and the journal as they must be, an item is decided by its routing (R46, R47). -/
theorem fromDrawer_cleared (hz : z.Fresh a x) (hx : s.tellerOf x.number = some x) (hd : s.dropAt a = some d)
    (htraining : x.training = false) (hroom : s.jnc.counter < 65279) {target : Option Nat}
    (hcash : if hasCash g = true then
      ∃ n w, x.heldDrawer = some n ∧ (g.target = .reserve → n = 0) ∧ target = some n ∧ s.drawerAt n = some w ∧
        d.sigs.drawerOpen.confirmed = false ∧ ∀ l ∈ z.legs, cashShort w l = false ∧ overTotal w l = false
    else target = none) : s.fromDrawer z g = s.route { z with drawer := target } g := by
  have hjournal : s.journalRoom = true := decide_eq_true hroom
  rw [State.fromDrawer, if_neg (by rw [hz.training, htraining]; decide)]
  by_cases hg : hasCash g = true
  · rw [if_pos hg] at hcash ⊢
    obtain ⟨n, v, hn, htarget, rfl, hv, hopen, hlegs⟩ := hcash
    rw [← hz.drop] at hd
    simp only [targetDrawer_held hz hx hn htarget, drawerRefusal_none hv hd hopen hlegs]
    exact if_pos hjournal
  · rw [if_neg hg] at hcash ⊢
    rw [if_pos hjournal, hcash]

/-- A request that clears checks 3 to 12 is decided by its routing and the link (R48). -/
theorem checkRequest_cleared (h : s.Asks a d x) (hc : s.Cleared a d x f y g) :
    s.checkRequest (newTxn a x f) = s.route y g := by
  obtain ⟨⟨⟨-, -, hd, -⟩, -⟩, -, -, hx⟩ := h
  have hfresh := Checked.fresh hc.toChecked
  have hbare : ({ y with drawer := none } : Txn).Fresh a x :=
    ⟨hfresh.drop, hfresh.teller, hfresh.training, hfresh.supervisor, hfresh.timedOut, hfresh.slot, hfresh.limit, hfresh.timer⟩
  have hreason : s.overrideReason { y with drawer := none } g = x.holdReason g y.legs := overrideReason_fresh hbare hx
  rw [checkRequest_checked hc.toChecked, State.fromOverride, hreason, holdReason_cleared hc, if_neg (by decide)]
  exact fromDrawer_cleared hbare hx hd hc.working hc.room hc.cash

/-! ### The posting of a request (R53, R74) -/

/-- The loop after a posting: the request's own drop has its release and its reply, others get marks only. -/
theorem posted_loop (h : s.Hears y.drop d) (hp : p.lpc.unmarked = s.lpc.unmarked) (hw : w.lpc = (p.applyCash y).lpc)
    (hz : z.drop = y.drop) : s.OnlyDropAndMarks (w.concluded z q) y.drop ∧ ∃ m, (w.concluded z q).dropAt y.drop =
      some { d.told (.final q) with release := d.releasedBy y, statusMark := m } := by
  obtain ⟨-, hl, hd, -, hc, hn⟩ := h
  have hcash : p.Touches (p.applyCash y) y.drop fun d => { d with release := d.releasedBy y } := touches_applyCash
  have hfirst : s.Touches w z.drop fun d => { d with release := d.releasedBy y } := by
    rw [hz]
    exact ⟨hcash.unmarking, (unmarked_congr hw).trans (hcash.loop.trans (unmarked_modifyDrop_congr hcash.unmarking hp))⟩
  have htouch := hfirst.concluded (r := q)
  rw [hz] at htouch
  obtain ⟨m, hm⟩ := htouch.dropAt hd
  rw [hl, Drop.take_told (d := { d with release := d.releasedBy y }) hc hn] at hm
  exact ⟨htouch.onlyDropAndMarks, m, hm⟩

theorem day_ne_closeDrain (h : s.earlyRefusal x f = none) : s.dyc.day ≠ .closeDrain ∧ s.dyc.day ≠ .noDay := by
  rcases requestDay_of h with h | h <;> rw [h] <;> exact ⟨nofun, nofun⟩

theorem journalTakes_cleared (hc : s.Cleared a d x f y g) (hopen : s.jnc.postingsClosed = false) {m : Posting} :
    s.journalTakes (.posting m) = true := by
  obtain ⟨-, hno⟩ := day_ne_closeDrain hc.passed
  exact journalTakes_posting.2 ⟨hno, hopen, hc.room⟩

/-- The reply DONE of a local completion (R53). -/
def Txn.doneReply (y : Txn) (q : Nat) : FinalReply :=
  { y.reply .done with seq := some q, legs := y.legs, reduced := y.reduced, unsold := y.unsold }

theorem postLocal_posted (ht : s.journalTakes (.posting (y.posting .localMode)) = true) (hday : s.dyc.day ≠ .closeDrain) :
    s.postLocal y = ((s.writeRecord (y.record .localMode .done)).applyCash y).concluded { y with seq := some (s.jnc.counter + 1) }
      (y.doneReply (s.jnc.counter + 1)) := by
  have htakes : s.journalTakes (y.record .localMode .done).body = true := ht
  rw [State.postLocal, if_pos htakes, reachOutcome_eq]
  exact judgeDrain_of_other (by rw [concluded_blocks]; simpa using hday)

/-- What a local posting leaves (R53, R74). -/
theorem postLocal_effects (h : s.Hears y.drop d) (hd : s.dyc.day ≠ .closeDrain) (hf : y.Fresh a x)
    (ht : s.journalTakes (.posting (y.posting .localMode)) = true) (heq : t = s.postLocal y) :
    t = { s with lpc := t.lpc, rqu := t.rqu, csu := t.csu, jnc := t.jnc, tkc := t.tkc } ∧
      s.Wrote t (entry (.posting (y.posting .localMode)) (some a) (some x.number) none (some .done)) ∧
      s.CashApplied t y ∧ s.OnlyReports t ∧ s.OnlyDropAndMarks t a ∧ s.OnlyTxn t a x.number ∧
      t.txnAt a = some { y with stage := .answered, outcome := some .done, seq := some (s.jnc.counter + 1) } ∧
      ∃ m, t.dropAt a = some { d.told (.final { refusalReply y.code .done none with
          seq := some (s.jnc.counter + 1), legs := y.legs, reduced := y.reduced, unsold := y.unsold }) with
        release := d.releasedBy y, statusMark := m } := by
  rw [postLocal_posted ht hd] at heq
  have hrecord : y.record .localMode .done =
      entry (.posting (y.posting .localMode)) (some a) (some x.number) none (some .done) := by
    rw [Txn.record, hf.drop, hf.teller, hf.supervisor]
  have hreply : y.doneReply (s.jnc.counter + 1) = { refusalReply y.code .done none with
      seq := some (s.jnc.counter + 1), legs := y.legs, reduced := y.reduced, unsold := y.unsold } := by
    rw [Txn.doneReply, hf.reply]
  obtain ⟨hloop, m, hat⟩ := posted_loop (z := { y with seq := some (s.jnc.counter + 1) })
    (q := y.doneReply (s.jnc.counter + 1)) h (unmarked_writeRecord (r := y.record .localMode .done)) rfl rfl
  have htxn := txnAt_concluded (s := (s.writeRecord (y.record .localMode .done)).applyCash y)
    (y := { y with seq := some (s.jnc.counter + 1) }) (r := y.doneReply (s.jnc.counter + 1))
  have honly := onlyTxn_of (s := s) (w := (s.writeRecord (y.record .localMode .done)).applyCash y)
    (y := { y with seq := some (s.jnc.counter + 1) }) (q := y.doneReply (s.jnc.counter + 1)) (by simp)
  rw [← heq] at hloop hat htxn honly
  rw [hreply, hf.drop] at hat
  rw [hf.drop] at hloop
  have hjnc : t.jnc = (s.writeRecord (y.record .localMode .done)).jnc := by
    rw [heq, concluded_blocks]
    simp
  have htkc : t.tkc = (s.writeRecord (y.record .localMode .done)).tkc := by
    rw [heq, concluded_blocks]
    simp
  refine ⟨by rw [heq]; apply State.eq_of_blocks <;> rw [concluded_blocks] <;> simp, ?_, ?_, ?_, hloop, ?_, ?_, m, hat⟩
  · rw [← hrecord]
    exact (wrote_writeRecord rfl ht).congr hjnc
  · exact (cashApplied_applyCash (s := s.writeRecord (y.record .localMode .done)) y).congr (by simp) (by rw [heq]; rfl)
  · exact onlyReports_writeRecord.congr rfl htkc hjnc
  · rw [← hf.drop, ← hf.teller]
    exact honly
  · rw [← hf.drop]
    refine htxn.trans (congrArg some ?_)
    exact Txn.Fresh.answered (y := { y with seq := some (s.jnc.counter + 1) }) (a := a) (x := x)
      ⟨hf.drop, hf.teller, hf.training, hf.supervisor, hf.timedOut, hf.slot, hf.limit, hf.timer⟩

theorem route_local (hr : y.routing = .localOnly) : s.route y g = s.completeLocal y g := by
  rw [State.route]
  simp only [hr]

theorem completeLocal_posts (ht : y.training = false) (hn : s.isNewBook g = false) : s.completeLocal y g = s.postLocal y := by
  rw [State.completeLocal, if_neg (by rw [ht]; decide), if_neg (by rw [hn]; decide)]

theorem completeLocal_newBook (ht : y.training = false) (hn : s.isNewBook g = true) (hy : y.account = some n) :
    (∀ q, s.newBookRefusal n = some q → s.completeLocal y g = s.refuse y q) ∧
      (s.newBookRefusal n = none →
        s.completeLocal y g = (s.modifyBook n fun b => b.renew s.poolFree s.dyc.date).postLocal y) := by
  rw [State.completeLocal, if_neg (by rw [ht]; decide), if_pos hn, hy, Option.getD_some]
  exact ⟨fun q hq => by simp only [hq], fun hq => by simp only [hq]⟩

/-- A NEW-BOOK has no legs, so it asks for no amount and no drawer (R41, R153). -/
theorem newBook_bare (hc : s.Cleared a d x f y g) (hn : s.isNewBook g = true) (hm : g.mode = .home) :
    y.legs = [] ∧ y.exchange = none ∧ y.drawer = none := by
  rw [State.isNewBook, Bool.and_eq_true] at hn
  obtain ⟨hleg, -⟩ := hn
  obtain ⟨hcash, haccount⟩ : g.cash = .noCash ∧ g.account = .noAccount := by simpa [hasLeg] using hleg
  have hamounts := hc.amounts
  have hnone : homeAmounts g f = .legs [] none := by simp [homeAmounts, homeKinds, hcash, haccount, cashLegKind, accountLegKind]
  have hhome : amounts g f s.siu.rate = homeAmounts g f := by
    unfold amounts
    simp only [hm]
  rw [hhome] at hamounts
  simp only [hnone, AmountResult.legs.injEq] at hamounts
  have hdrawer := hc.cash
  rw [if_neg (by simp [hasCash, hcash, hm])] at hdrawer
  exact ⟨hamounts.1.symm, hamounts.2.symm, hdrawer⟩

/-- Settles O13: a local posting, and a NEW-BOOK that is refused or renews its passbook. -/
theorem localTransactionIsPosted : Obligations.LocalTransactionIsPosted := by
  unfold Obligations.LocalTransactionIsPosted
  refine ⟨fun s a d x f y g h hc hr hnew hopen => ?_, fun s a n d x f y g h hc hr hnew hm hn => ⟨fun r hrefused => ?_,
    fun b hb hsession hopen => ?_⟩⟩
  · have hfresh := Checked.fresh hc.toChecked
    have hexec := exec_asked (f := f) h
    have hhears := h.1.1
    rw [checkRequest_cleared h hc, route_local hr, completeLocal_posts (hfresh.training.trans hc.working) hnew] at hexec
    rw [← hfresh.drop] at hhears
    obtain ⟨hblocks, hwrote, hcash, hreports, hloop, htxn, hitem, m, hat⟩ := postLocal_effects hhears
      (day_ne_closeDrain hc.passed).1 hfresh (journalTakes_cleared hc hopen) rfl
    exact ⟨_, m, hexec, hblocks, hwrote, hcash, hreports, hloop, htxn, hitem, hat⟩
  · have hfresh := Checked.fresh hc.toChecked
    have hexec := exec_asked (f := f) h
    have hrefusal : s.newBookRefusal n = some r := by
      rw [State.newBookRefusal]
      rcases hrefused with ⟨hb, rfl⟩ | ⟨b, hb, hsession, rfl⟩
      · simp only [hb]
      · simp only [hb, hsession, if_true]
    rw [checkRequest_cleared h hc, route_local hr,
      (completeLocal_newBook (hfresh.training.trans hc.working) hnew hn).1 r hrefusal] at hexec
    obtain ⟨hblocks, honly, hat, htxn, hitem⟩ := refuse_effects (r := r) (note := none) h.1.1 hfresh.drop (txnAt_asked h)
      fun hday => absurd hday (day_ne_closeDrain hc.passed).1
    rw [hfresh.answered] at hitem
    rw [hfresh.teller] at htxn
    rw [hfresh.reply] at hat
    exact ⟨_, hexec, hblocks, honly, hat, htxn, hitem⟩
  · have hfresh := Checked.fresh hc.toChecked
    have hexec := exec_asked (f := f) h
    have hhears := h.1.1
    obtain ⟨hlegs, hexchange, hdrawer⟩ := newBook_bare hc hnew hm
    have hrefusal : s.newBookRefusal n = none := by
      rw [State.newBookRefusal]
      simp only [hb, hsession]
      rfl
    rw [checkRequest_cleared h hc, route_local hr,
      (completeLocal_newBook (hfresh.training.trans hc.working) hnew hn).2 hrefusal] at hexec
    rw [← hfresh.drop] at hhears
    obtain ⟨hblocks, hwrote, hcash, hreports, hloop, htxn, hitem, m, hat⟩ := postLocal_effects
      (s := s.modifyBook n fun b => b.renew s.poolFree s.dyc.date) hhears (day_ne_closeDrain hc.passed).1 hfresh
      (journalTakes_cleared hc hopen) rfl
    have hsat : ∀ k, ((s.modifyBook n fun b => b.renew s.poolFree s.dyc.date).postLocal y).satAt k =
        (s.modifyBook n fun b => b.renew s.poolFree s.dyc.date).satAt k := fun k => satAt_congr (by rw [hblocks])
    obtain ⟨e, he, heb⟩ : ∃ e, s.satAt n = some e ∧ e.book = some b := by
      rw [State.bookOf] at hb
      exact Option.bind_eq_some_iff.1 hb
    have hcsu : ((s.modifyBook n fun b => b.renew s.poolFree s.dyc.date).postLocal y).csu = s.csu := hcash.2.1 (.inl hdrawer)
    have hunsold : y.reduced = none ∧ y.unsold = none := by
      rw [Txn.reduced, Txn.unsold, hexchange]
      exact ⟨rfl, rfl⟩
    have hrelease : d.releasedBy y = d.release := by simp [Drop.releasedBy, hdrawer]
    refine ⟨_, m, b.renew s.poolFree s.dyc.date, hexec, ?_, ?_, ?_, fun k hk => ?_, ?_, ?_, fun hfree => ?_, fun hfull => ?_,
      hreports, hloop, htxn, hitem, ?_⟩
    · rw [hblocks]
      exact congrArg (fun c => ({ s with
        lpc := _, rqu := _, csu := c, jnc := _, tkc := _, siu := (s.modifyBook n fun b => b.renew s.poolFree s.dyc.date).siu } : State))
        hcsu
    · have hposting : y.posting .localMode = ⟨y.defIndex, y.code.getD 0, some n, [], none, .localMode⟩ := by
        rw [Txn.posting, hlegs, hexchange, hn]
      rw [← hposting]
      exact hwrote
    · rw [hblocks]
      rfl
    · rw [hsat, satAt_modifyBook_other hk]
    · rw [hsat, satAt_modifyBook, he, Option.map_some, if_pos rfl, heb]
      rfl
    · unfold Passbook.renew
      split <;> rfl
    · rw [Passbook.renew, if_pos hfree]
    · rw [Passbook.renew, if_neg (by rw [hfull]; decide)]
    · rw [hat, hlegs, hrelease, hunsold.1, hunsold.2]
      rfl

/-! ### A request that is forwarded or waits (R48) -/

/-- An item to be decided online joins the wait list or takes the lowest-numbered FREE slot (R48). -/
theorem route_forwards (hr : y.routing ≠ .localOnly) (ht : y.training = false)
    (hl : s.tkc.link = .online ∨ s.tkc.link = .suspect) :
    (s.route y g = (s.putTxn y).joinWaitList y.drop ∧
        (s.tkc.link = .suspect ∨ (s.tkc.link = .online ∧ s.lowestFree = none))) ∨
      ∃ i, s.tkc.link = .online ∧ s.lowestFree = some i ∧ s.route y g = (s.putTxn y).takeSlot y.drop i := by
  have honline : s.tkc.link = .online → s.route y g = (s.putTxn y).forward y.drop := fun hl => by
    rw [State.route]
    cases hq : y.routing <;> simp_all
  have hsuspect : s.tkc.link = .suspect → s.route y g = (s.putTxn y).joinWaitList y.drop := fun hl => by
    rw [State.route]
    cases hq : y.routing <;> simp_all
  have hfree : (s.putTxn y).lowestFree = s.lowestFree := rfl
  rcases hl with hl | hl
  · rw [honline hl, State.forward, hfree]
    cases hlow : s.lowestFree with
    | none => exact .inl ⟨rfl, .inr ⟨hl, rfl⟩⟩
    | some i => exact .inr ⟨i, hl, rfl, rfl⟩
  · exact .inl ⟨hsuspect hl, .inl hl⟩

theorem slotAt_lowestFree (h : s.lowestFree = some i) : ∃ z, s.slotAt i = some z ∧ z.number = i := by
  obtain ⟨z, hz, hzn⟩ := Option.map_eq_some_iff.1 h
  cases hi : s.slotAt i with
  | some w => exact ⟨w, rfl, slotAt_number hi⟩
  | none => exact absurd hzn (findKey_none.1 hi z (List.mem_of_find?_eq_some hz))

theorem setStage_rqu {o : Option Nat} {st : Stage} (hf : s.fetchAt a = none) : (s.setStage a st o).rqu = { s.rqu with
    txns := (s.setStage a st o).rqu.txns } := by
  have hfetches : modifyKey Fetch.drop a (fun f => { f with stage := st, slot := o }) s.rqu.fetches = s.rqu.fetches :=
    modifyKey_absent hf
  simp [State.setStage, State.modifyFetch, State.modifyTxn, hfetches]

theorem txnAt_setStage_other {o : Option Nat} {st : Stage} (hb : b ≠ a) : (s.setStage a st o).txnAt b = s.txnAt b := by
  have hfetch : (s.setStage a st o).txnAt b = (s.modifyTxn a fun t => { t with stage := st, slot := o }).txnAt b := rfl
  rw [hfetch, txnAt_modifyTxn fun _ h => by exact h]
  simp [hb]

/-- Settles O14: the request takes a slot or joins the wait list. -/
theorem onlineTransactionIsForwarded : Obligations.OnlineTransactionIsForwarded := by
  unfold Obligations.OnlineTransactionIsForwarded
  intro s a d x f y g h hc hr hlink
  have hfresh := Checked.fresh hc.toChecked
  have hexec := exec_asked (f := f) h
  rw [checkRequest_cleared h hc] at hexec
  obtain rfl := hfresh.drop
  have hput : (s.putTxn y).txnAt y.drop = some y := txnAt_putTxn.trans (if_pos rfl)
  have hother : ∀ b, b ≠ y.drop → (s.putTxn y).txnAt b = s.txnAt b := fun b hb => txnAt_putTxn.trans (if_neg (Ne.symm hb))
  have hnofetch : s.fetchAt y.drop = none := by
    obtain ⟨-, -, hno, -⟩ := h
    rw [State.hasWork, Bool.or_eq_false_iff] at hno
    simpa using hno.2
  obtain ⟨hroute, hcase⟩ | ⟨i, hl, hlow, hroute⟩ :=
    route_forwards (s := s) (g := g) hr (hfresh.training.trans hc.working) hlink
  · rw [hroute] at hexec
    refine ⟨_, hexec, rfl, ?_, fun b hb => ?_, fun hl i hi => ?_, fun _ => ⟨?_, rfl, rfl⟩⟩
    · have hrqu := setStage_rqu (s := (s.putTxn y).onRqu fun r => { r with waitList := r.waitList ++ [y.drop] })
        (st := .waitListed) (o := none) hnofetch
      rw [State.joinWaitList, hrqu]
      rfl
    · exact (txnAt_setStage_other hb).trans (hother b hb)
    · rcases hcase with hs | ⟨-, hnone⟩
      · cases hl.symm.trans hs
      · cases hnone.symm.trans hi
    · exact txnAt_setStage (s := (s.putTxn y).onRqu _) hput
  · rw [hroute] at hexec
    obtain ⟨z, hz, hzn⟩ := slotAt_lowestFree hlow
    have hkind : (s.putTxn y).workKind y.drop = .txnForward := by rw [State.workKind, hput]; rfl
    obtain ⟨honly, hslot⟩ := onlySlot_of_modify (s := s) (t := (s.putTxn y).takeSlot y.drop i)
      (g := fun x => { x with state := .queued, drop := y.drop, kind := (s.putTxn y).workKind y.drop, tag := 0, timer := .stopped })
      takeSlot_slots (fun _ => rfl) hz
    refine ⟨_, hexec, rfl, ?_, fun b hb => ?_, fun _ j hj => ?_, fun hs => ?_⟩
    · have hrqu := setStage_rqu (s := (s.putTxn y).modifySlot i fun x =>
        { x with state := .queued, drop := y.drop, kind := (s.putTxn y).workKind y.drop, tag := 0, timer := .stopped })
        (st := .queued) (o := some i) hnofetch
      rw [State.takeSlot, hrqu]
      rfl
    · exact (txnAt_setStage_other hb).trans (hother b hb)
    · cases hlow.symm.trans hj
      refine ⟨txnAt_setStage (s := (s.putTxn y).modifySlot i _) hput, rfl, rfl, honly, ?_⟩
      rw [hslot, hkind, ← hzn]
    · rcases hs with hs | ⟨-, hs⟩
      · cases hl.symm.trans hs
      · cases hlow.symm.trans hs

end Sys2Proof.Machine
end

section
/-! SUPPORT. Stand-in, the override hold and training, and the statements O15, O16 and O17. -/

namespace Sys2Proof.Machine

variable {s t u p w : State} {a b k n i : Nat} {d : Drop} {x : Teller} {f : TxnFields} {y z : Txn} {g : Definition} {r : Result}
  {note : Option LegNote} {q : FinalReply} {l : Leg} {e : SatEntry}

/-! ### The stand-in decision (R112, R113) -/

theorem route_away (hl : s.tkc.link = .offline ∨ s.tkc.link = .resync) :
    (y.routing = .onlineOnly → s.route y g = s.refuse y .headOfficeUnavailable) ∧
      (y.routing = .standInAllowed → s.route y g = s.standIn y g) := by
  rw [State.route]
  rcases hl with hl | hl <;> constructor <;> intro hr <;> simp only [hl, hr]

theorem standInRefusal_eq : s.standInRefusal n l = s.standInFails n l := by
  unfold State.standInRefusal State.standInFails
  cases s.satAt n with
  | none => rfl
  | some e =>
    cases hk : e.kind with
    | full =>
      simp only [hk, Option.filter]
      rfl
    | pendingOnly => simp [hk, Option.filter]

theorem standIn_fails (hn : y.account = some n) (hl : accountLeg y.legs = some l) (hr : s.standInFails n l = some r) :
    s.standIn y g = s.refuse y r := by
  rw [← standInRefusal_eq] at hr
  rw [State.standIn]
  simp only [hn, hl, hr]

theorem standIn_posts (hn : y.account = some n) (hl : accountLeg y.legs = some l) (hr : s.standInFails n l = none)
    (ht : y.training = false) (hj : s.journalTakes (.posting (y.posting .standIn)) = true) :
    s.standIn y g = s.postStandIn y g n l := by
  have htakes : s.journalTakes (y.record .standIn .advicePending).body = true := hj
  rw [← standInRefusal_eq] at hr
  rw [State.standIn]
  simp only [hn, hl, hr, ht, htakes]
  rfl

/-! ### The posting in stand-in (R114) -/

theorem queue_writeRecord {m : Record} : (s.writeRecord m).tkc.nodeQueue.length ≤ s.tkc.nodeQueue.length + 1 := by
  have hraise : ∀ (v : State) (c : Condition), (v.raise c).tkc.nodeQueue.length ≤ v.tkc.nodeQueue.length + 1 := fun v c => by
    rw [tkc_raise]
    dsimp only
    split
    · rw [List.length_append, List.length_singleton]
    · exact Nat.le_succ _
  unfold State.writeRecord
  split
  · unfold State.appendRecord State.judgeThresholds
    dsimp only
    split
    · exact hraise _ _
    · split
      · exact hraise _ _
      · split
        · exact hraise _ _
        · exact Nat.le_succ _
  · exact Nat.le_succ _

/-- A stand-in posting recorded, with its advice queued and its account's entry moved (R114). -/
def State.standInRecorded (s : State) (y : Txn) (n : Nat) (l : Leg) : State :=
  ((s.writeRecord (y.record .standIn .advicePending)).appendSfq s.nextSeq .posting).modifySat n fun e => e.post l

/-- The cash and the passbook line of a stand-in posting (R114). -/
def State.standInCash (s : State) (y : Txn) (g : Definition) (n : Nat) (l : Leg) : State :=
  ((s.standInRecorded y n l).applyCash y).appendTxnLine y g .standIn s.nextSeq

/-- The reply of a stand-in posting (R57, R114). -/
def State.standInReply (s : State) (y : Txn) (n : Nat) (l : Leg) : FinalReply :=
  { y.reply .approvedStandIn with
    seq := some s.nextSeq, legs := y.legs, unsold := y.unsold
    snapshot := ((s.standInRecorded y n l).satAt n).map (·.snapshot) }

theorem standInCash_frame : (s.standInCash y g n l).rqu = s.rqu ∧ (s.standInCash y g n l).dyc = s.dyc ∧
    (s.standInCash y g n l).pbu = s.pbu ∧ (s.standInCash y g n l).jnc = (s.writeRecord (y.record .standIn .advicePending)).jnc ∧
    (s.standInCash y g n l).lpc = ((s.standInRecorded y n l).applyCash y).lpc ∧
    (s.standInCash y g n l).csu = ((s.standInRecorded y n l).applyCash y).csu := by
  simp [State.standInCash, State.standInRecorded]

theorem postStandIn_eq (hday : s.dyc.day ≠ .closeDrain) : s.postStandIn y g n l =
    (s.standInCash y g n l).concluded { y with seq := some s.nextSeq } (s.standInReply y n l) := by
  have heq : s.postStandIn y g n l =
      ((s.standInCash y g n l).concluded { y with seq := some s.nextSeq } (s.standInReply y n l)).judgeDrain := rfl
  rw [heq]
  refine judgeDrain_of_other ?_
  have hdyc : (s.standInCash y g n l).dyc = s.dyc := standInCash_frame.2.1
  rw [concluded_blocks, hdyc]
  exact hday

/-- Stage 3 of a stand-in posting, by the sign of its account leg (R114, R115). -/
theorem SatEntry.post_eq : e.post l = if l.kind = .accountDebit then
      { e with used := e.used + l.amount, snapshot := e.snapshot - l.amount, net := e.net - l.amount }
    else { e with
      snapshot := max (-999999999999) (min (e.snapshot + l.amount) 999999999999), net := e.net + l.amount } := by
  unfold SatEntry.post
  cases hk : l.kind <;> simp [clampSnapshot, Config.maxTotal]

theorem satAt_standInRecorded : (s.standInRecorded y n l).satAt k = (s.satAt k).map fun e => if k = n then e.post l else e := by
  have hbase : ((s.writeRecord (y.record .standIn .advicePending)).appendSfq s.nextSeq .posting).satAt k = s.satAt k := by
    simp [State.satAt, State.appendSfq]
  rw [State.standInRecorded, satAt_modifySat fun e he => by rw [SatEntry.post_eq]; split <;> exact he, hbase]

/-- The account of a stand-in posting: its entry moved and its line asked for (R114, R139). -/
theorem standInCash_account (hn : y.account = some n) (he : s.satAt n = some e) (ht : t.tkc = (s.standInCash y g n l).tkc) :
    ∃ b, (s.standInCash y g n l).satAt n = some { e.post l with book := b } ∧
      s.BookTakes t n (passbookLine g y.legs s.dyc.date .standIn (s.jnc.counter + 1)) e.book b := by
  have hbook : (e.post l).book = e.book := by
    rw [SatEntry.post_eq]
    split <;> rfl
  have hentry : ((s.standInRecorded y n l).applyCash y).satAt n = some (e.post l) := by
    rw [satAt_congr (State.applyCash_frame _ _).2.2.2.2.2.2.2.2.1, satAt_standInRecorded, he]
    simp
  have hpool : ((s.standInRecorded y n l).applyCash y).poolFree = s.poolFree := by
    have hpost : ∀ e : SatEntry, (e.post l).book = e.book := fun e => by
      rw [SatEntry.post_eq]
      split <;> rfl
    have hrecorded : (s.standInRecorded y n l).poolFree = s.poolFree := by
      rw [State.standInRecorded, poolFree_modifySat hpost]
      exact poolFree_congr (by simp [State.appendSfq])
    rw [← hrecorded]
    exact poolFree_congr (by simp)
  have hroom : s.tkc.nodeQueue.length < 3 → ((s.standInRecorded y n l).applyCash y).nodeRoom = true := fun hlen => by
    have hone := queue_writeRecord (s := s) (m := y.record .standIn .advicePending)
    have hlong : (s.writeRecord (y.record .standIn .advicePending)).tkc.nodeQueue.length < 4 := by omega
    simpa [State.nodeRoom, State.standInRecorded, State.appendSfq, Config.nodePlaces] using hlong
  obtain ⟨b, hb, htakes⟩ := appendTxnLine_book (g := g) (o := .standIn) (q := s.nextSeq) (t := t) hn hentry hpool hroom
    fun m hm => by
      rw [ht]
      exact hm
  have hdate : ((s.standInRecorded y n l).applyCash y).dyc.date = s.dyc.date := by simp [State.standInRecorded, State.appendSfq]
  rw [hdate, hbook] at htakes
  exact ⟨b, hb, htakes⟩

theorem standInCash_siu : (s.standInCash y g n l).siu = { s.siu with
    sfq := s.siu.sfq ++ [⟨s.jnc.counter + 1, .posting⟩], sat := (s.standInCash y g n l).siu.sat } := by
  rw [State.standInCash, siu_appendTxnLine, State.standInRecorded]
  simp [State.modifySat, State.appendSfq, State.nextSeq]

theorem standInCash_other (hn : y.account = some n) (hk : k ≠ n) : (s.standInCash y g n l).satAt k = s.satAt k := by
  have hother : y.account ≠ some k := fun h => hk (Option.some.inj (h.symm.trans hn))
  rw [State.standInCash, satAt_appendTxnLine_other hother, satAt_congr (State.applyCash_frame _ _).2.2.2.2.2.2.2.2.1,
    satAt_standInRecorded]
  simp [hk]

/-- Settles O15: the link is away, and the routing and the stand-in checks decide. -/
theorem standInIsPosted : Obligations.StandInIsPosted := by
  unfold Obligations.StandInIsPosted
  intro s a d x f y g h hc hlink
  have hfresh := Checked.fresh hc.toChecked
  have hexec := exec_asked (f := f) h
  have hday := day_ne_closeDrain hc.passed
  rw [checkRequest_cleared h hc] at hexec
  obtain rfl := hfresh.drop
  obtain ⟨honline, hstand⟩ := route_away (s := s) (y := y) (g := g) hlink
  have hrefuse : ∀ r, s.route y g = s.refuse y r → ∃ t, exec (.txnRequest y.drop f) s = .next t ∧
      t = { s with lpc := t.lpc, rqu := t.rqu } ∧ s.OnlyDrop t y.drop ∧ s.OnlyTxn t y.drop x.number ∧
      t.dropAt y.drop = some (d.told (.final (refusalReply y.code r none))) ∧
      t.txnAt y.drop = some { y with stage := .answered, outcome := some r } := fun r heq => by
    rw [heq] at hexec
    obtain ⟨hblocks, honly, hat, htxn, hitem⟩ := refuse_effects (r := r) (note := none) h.1.1 hfresh.drop (txnAt_asked h)
      fun hc => absurd hc hday.1
    rw [hfresh.answered] at hitem
    rw [hfresh.teller] at htxn
    rw [hfresh.reply] at hat
    exact ⟨_, hexec, hblocks, honly, htxn, hat, hitem⟩
  refine ⟨fun hr => ?_, fun n l r hr hn hl hfails => hrefuse r ((hstand hr).trans (standIn_fails hn hl hfails)),
    fun n e l hr hn hl he hkind hblocked hdebit hsfq hopen => ?_⟩
  · obtain ⟨t, ht, hblocks, honly, htxn, hat, -⟩ := hrefuse _ (honline hr)
    exact ⟨t, ht, hblocks, honly, htxn, hat⟩
  · intro e'
    have hpasses : s.standInFails n l = none := by
      have hfull : (s.satAt n).filter (fun e => e.kind == .full) = some e := by simp [he, hkind]
      rw [State.standInFails, hfull]
      have hlimit : ¬ (l.kind = .accountDebit ∧ e.limit < e.used + l.amount) := fun hc => by
        have := (hdebit hc.1).1
        omega
      have hbalance : ¬ (l.kind = .accountDebit ∧ e.snapshot < l.amount) := fun hc => by
        have := (hdebit hc.1).2
        omega
      simp only [hblocked, Bool.false_eq_true, if_false, if_neg hlimit, if_neg hbalance, if_neg (Nat.not_le.2 hsfq)]
    have hjournal := journalTakes_cleared hc hopen (m := y.posting .standIn)
    have he' : e.post l = e' := SatEntry.post_eq
    have hreply : s.standInReply y n l = { refusalReply y.code .approvedStandIn none with
        seq := some (s.jnc.counter + 1), legs := y.legs, unsold := y.unsold, snapshot := some e'.snapshot } := by
      rw [State.standInReply, satAt_standInRecorded, he, hfresh.reply, ← he']
      simp [State.nextSeq]
    rw [hstand hr, standIn_posts hn hl hpasses (hfresh.training.trans hc.working) hjournal, postStandIn_eq hday.1, hreply] at hexec
    have hhears := h.1.1
    obtain ⟨hrqu, -, -, hjnc, hlpc, hcsu⟩ := standInCash_frame (s := s) (y := y) (g := g) (n := n) (l := l)
    have hmarks : (s.standInRecorded y n l).lpc.unmarked = s.lpc.unmarked :=
      (unmarked_congr rfl).trans (unmarked_writeRecord (r := y.record .standIn .advicePending))
    obtain ⟨hloop, m, hat⟩ := posted_loop (z := { y with seq := some s.nextSeq }) (q := { refusalReply y.code .approvedStandIn none with
        seq := some (s.jnc.counter + 1), legs := y.legs, unsold := y.unsold, snapshot := some e'.snapshot }) hhears hmarks hlpc rfl
    obtain ⟨b, hb, htakes⟩ := standInCash_account (g := g) (l := l) hn he
      (t := (s.standInCash y g n l).concluded { y with seq := some s.nextSeq } { refusalReply y.code .approvedStandIn none with
        seq := some (s.jnc.counter + 1), legs := y.legs, unsold := y.unsold, snapshot := some e'.snapshot }) rfl
    have hrecord : y.record .standIn .advicePending =
        entry (.posting (y.posting .standIn)) (some y.drop) (some x.number) none (some .advicePending) := by
      rw [Txn.record, hfresh.teller, hfresh.supervisor]
    have hcash : s.CashApplied (s.standInCash y g n l) y :=
      (cashApplied_applyCash (s := s.standInRecorded y n l) y).congr (by simp [State.standInRecorded, State.appendSfq]) hcsu
    rw [he'] at hb
    refine ⟨_, m, hexec, ?_, ?_, standInCash_siu, fun k hk => standInCash_other hn hk, ⟨b, hb, htakes⟩, hcash.congr rfl rfl, hloop,
      ?_, ?_, hat⟩
    · apply State.eq_of_blocks <;> rw [concluded_blocks] <;> simp [State.standInCash, State.standInRecorded, State.appendSfq]
    · rw [hrecord] at hjnc
      exact (wrote_writeRecord rfl hjournal).congr hjnc
    · rw [← hfresh.teller]
      exact onlyTxn_of (y := { y with seq := some s.nextSeq }) hrqu
    · refine (txnAt_concluded (y := { y with seq := some s.nextSeq })).trans (congrArg some ?_)
      exact Txn.Fresh.answered (y := { y with seq := some s.nextSeq }) (a := y.drop) (x := x)
        ⟨hfresh.drop, hfresh.teller, hfresh.training, hfresh.supervisor, hfresh.timedOut, hfresh.slot, hfresh.limit, hfresh.timer⟩

/-! ### A request is held for an override (R33) -/

/-- Every TELLER drop of a list has a status line queued. -/
theorem queueStatusFor_marks {v : List Nat} {e : Drop} (hb : b ∈ v) (he : (s.queueStatusFor v).dropAt b = some e)
    (hk : e.kind = .teller) : e.statusMark = true := by
  induction v generalizing s with
  | nil => cases hb
  | cons c v ih =>
    have hstep : s.queueStatusFor (c :: v) = (s.queueStatus c).queueStatusFor v := rfl
    rw [hstep] at he
    by_cases hv : b ∈ v
    · exact ih hv he
    · obtain rfl : b = c := (List.mem_cons.1 hb).resolve_right hv
      obtain ⟨m, hm⟩ := dropAt_unmarked (unmarked_queueStatusFor (s := s.queueStatus b) v) b
      cases hd : s.dropAt b with
      | none =>
        rw [he, dropAt_queueStatus, hd] at hm
        cases hm
      | some d0 =>
        have hfirst : (s.queueStatus b).dropAt b = some d0.queueStatus := by
          rw [dropAt_queueStatus, hd, Option.map_some, if_pos rfl]
        rw [hfirst, he, Option.map_some, Option.some.injEq] at hm
        have hkind : d0.kind = .teller := by
          rw [hm, Drop.queueStatus_eq] at hk
          exact hk
        have hmark : d0.queueStatus.statusMark = true := by simp [Drop.queueStatus_eq, hkind]
        rw [dropAt_queueStatusFor_marked v hfirst hmark] at he
        cases he
        exact hmark

theorem Txn.bare (h : y.drawer = none) : ({ y with drawer := none } : Txn) = y :=
  congrArg (fun o => ({ y with drawer := o } : Txn)) h.symm

theorem fromOverride_holds (hf : y.Fresh a x) (hx : s.tellerOf x.number = some x) (ht : x.training = false)
    (hr : ((x.holdReason g y.legs).cls || (x.holdReason g y.legs).amount) = true) :
    s.fromOverride y g = s.holdTxn y (x.holdReason g y.legs) := by
  rw [State.fromOverride, overrideReason_fresh hf hx]
  simp only [hr, hf.training, ht]
  rfl

/-- Settles O16: the item is held, its teller told, and the supervisors' lines queued. -/
theorem overrideHolds : Obligations.OverrideHolds := by
  unfold Obligations.OverrideHolds
  intro s a d x f y g r h hc hdrawer htraining hr hholds
  have hfresh := Checked.fresh hc
  have hexec := exec_asked (f := f) h
  obtain rfl := hfresh.drop
  subst hr
  rw [checkRequest_checked hc, Txn.bare hdrawer, fromOverride_holds hfresh h.2.2.2 htraining hholds, State.holdTxn,
    limitInForce_fresh hfresh h.2.2.2] at hexec
  obtain ⟨-, hl, hd, -, hcan, hn⟩ := h.1.1
  have hloop : s.Touches (((s.putTxn { y with
        stage := .held, reason := some (x.holdReason g y.legs), compared := amountCompared y.legs
        holdTimer := .running Config.holdSeconds }).handOver y.drop
      (.overrideNeeded (x.holdReason g y.legs) (amountCompared y.legs) x.cashLimit)).queueSupervisors) y.drop
      fun d => d.take .running (.overrideNeeded (x.holdReason g y.legs) (amountCompared y.legs) x.cashLimit) :=
    ((State.Touches.refl s y.drop).handOver hl _).marks unmarked_queueSupervisors
  obtain ⟨m, hm⟩ := hloop.dropAt hd
  rw [Drop.take_told hcan hn] at hm
  refine ⟨_, m, hexec, ?_, hloop.onlyDropAndMarks, ?_, fun b hb => ?_, ?_, hm, fun w hw hon hsup b e hb he hk => ?_⟩
  · apply State.eq_of_blocks <;> simp
  · simp [State.putTxn]
  · rw [txnAt_congr (State.queueSupervisors_frame _).2.2.2.2.2.2.1]
    exact txnAt_putTxn.trans (if_neg (Ne.symm hb))
  · rw [txnAt_congr (State.queueSupervisors_frame _).2.2.2.2.2.2.1]
    exact txnAt_putTxn.trans (if_pos rfl)
  · refine queueStatusFor_marks (List.mem_filterMap.2 ⟨w, List.mem_filter.2 ⟨hw, ?_⟩, hb⟩) he hk
    rw [hon, hsup]
    rfl

/-! ### A request in training (R31) -/

/-- An item of drop `a` has come to a final outcome. -/
def State.Concludes (s t : State) (a : Nat) : Prop := ∃ y q, t = s.reachOutcome y q ∧ y.drop = a

theorem concludes_refuse : s.Concludes (s.refuse y r note) y.drop := ⟨_, _, rfl, rfl⟩
theorem concludes_trainingOk {o : TrainingRoute} : s.Concludes (s.trainingOk y o) y.drop := ⟨_, _, rfl, rfl⟩

theorem completeLocal_training (ht : y.training = true) : s.completeLocal y g = s.trainingOk y .localRoute := if_pos ht

theorem concludes_standIn (ht : y.training = true) : s.Concludes (s.standIn y g) y.drop := by
  unfold State.standIn
  split
  · split
    · exact concludes_refuse
    · rw [if_pos ht]
      exact concludes_trainingOk
  · rw [completeLocal_training ht]
    exact concludes_trainingOk

theorem concludes_route (ht : y.training = true) : s.Concludes (s.route y g) y.drop := by
  unfold State.route
  split
  · rw [completeLocal_training ht]
    exact concludes_trainingOk
  · rw [if_pos ht]
    exact concludes_trainingOk
  · rw [if_pos ht]
    exact concludes_trainingOk
  · exact concludes_refuse
  · exact concludes_standIn ht

theorem fromDrawer_training (ht : y.training = true) : s.fromDrawer y g = s.route y g := if_pos ht

theorem fromOverride_training (ht : y.training = true) : s.fromOverride y g = s.route { y with
    wouldHold := if ((s.overrideReason y g).cls || (s.overrideReason y g).amount) = true then some (s.overrideReason y g)
      else y.wouldHold } g := by
  unfold State.fromOverride
  dsimp only
  by_cases hr : ((s.overrideReason y g).cls || (s.overrideReason y g).amount) = true
  · rw [if_pos hr, if_pos ht, if_pos hr]
    exact fromDrawer_training (y := { y with wouldHold := some (s.overrideReason y g) }) ht
  · rw [if_neg hr, if_neg hr]
    exact fromDrawer_training ht

theorem concludes_fromOverride (ht : y.training = true) : s.Concludes (s.fromOverride y g) y.drop := by
  rw [fromOverride_training ht]
  exact concludes_route (y := { y with wouldHold := _ }) ht

theorem concludes_fromRoute (ht : y.training = true) : s.Concludes (s.fromRoute y g) y.drop := by
  unfold State.fromRoute
  split
  · split
    · exact concludes_refuse
    · split
      · exact concludes_refuse
      · exact concludes_fromOverride (y := { y with account := some _, routing := _ }) ht
  · exact concludes_fromOverride (y := { y with account := none, routing := _ }) ht

theorem concludes_fromMask (ht : y.training = true) : s.Concludes (s.fromMask y g) y.drop := by
  unfold State.fromMask
  split
  · exact concludes_refuse
  · split
    · exact concludes_refuse
    · split
      · exact concludes_refuse
      · exact concludes_fromRoute (y := { y with legs := _, exchange := _ }) ht

theorem concludes_checkRequest (ht : y.training = true) : s.Concludes (s.checkRequest y) y.drop := by
  unfold State.checkRequest
  split
  · exact concludes_refuse
  · split
    · exact concludes_refuse
    · dsimp only
      split
      · exact concludes_refuse (y := { y with defIndex := _, defn := _, routing := _ })
      · exact concludes_fromMask (y := { y with defIndex := _, defn := _, routing := _ }) ht

/-- What a request in training leaves: the loop and the work items of its own drop (R31). -/
theorem takeRequest_training (h : s.Attends a d x) (ht : x.training = true)
    (hday : s.dyc.day = .closeDrain → s.noneUndecided = false) :
    s.takeRequest a f = { s with lpc := (s.takeRequest a f).lpc, rqu := (s.takeRequest a f).rqu } ∧
      s.OnlyDrop (s.takeRequest a f) a := by
  have hanswer : ∀ q, (s.answer a q = { s with lpc := (s.answer a q).lpc, rqu := (s.answer a q).rqu } ∧ s.OnlyDrop (s.answer a q) a) :=
    fun q => ⟨rfl, (onlyTold_handOver h.1).2.1⟩
  rw [State.takeRequest, asTeller_of_attends h]
  split
  · exact hanswer _
  · split
    · exact hanswer _
    · next hwork =>
      obtain ⟨y, q, heq, hy⟩ := concludes_checkRequest (s := s) (y := newTxn a x f) ht
      have hno : s.txnAt y.drop = none := by
        have hdrop : y.drop = a := hy
        rw [hdrop]
        have hnone : s.hasWork a = false := by simpa using hwork
        rw [State.hasWork, Bool.or_eq_false_iff] at hnone
        simpa using hnone.1
      have hjudged : s.reachOutcome y q = s.concluded y q := judgeDrain_concluded hday hno
      rw [heq, hjudged]
      have hdrop : y.drop = a := hy
      exact ⟨rfl, hdrop ▸ onlyDrop_concluded⟩

/-- A request answered TRAINING-OK at a heard drop (R31). -/
theorem trainingOk_effects {o : TrainingRoute} (h : s.Hears a d) (hz : z.drop = a) (hday : s.dyc.day ≠ .closeDrain) :
    (s.trainingOk z o).dropAt a = some (d.told (.final { z.reply .trainingOk with
      legs := z.legs, unsold := z.unsold, route := some o, wouldHold := z.wouldHold })) ∧
    (s.trainingOk z o).txnAt a = some
      { z with stage := .answered, slot := none, outcome := some .trainingOk, limit := none, holdTimer := .stopped } := by
  subst hz
  have heq : s.trainingOk z o = s.concluded z { z.reply .trainingOk with
      legs := z.legs, unsold := z.unsold, route := some o, wouldHold := z.wouldHold } := judgeDrain_of_other hday
  rw [heq]
  exact ⟨dropAt_concluded_told h, txnAt_concluded⟩

/-- The route of a request in training, by its routing, the link and the stand-in checks (R31, R48, R113). -/
theorem route_training (ht : y.training = true) :
    (y.routing = .localOnly → s.route y g = s.trainingOk y .localRoute) ∧
    (y.routing ≠ .localOnly → s.tkc.link = .online ∨ s.tkc.link = .suspect → s.route y g = s.trainingOk y .online) ∧
    (s.tkc.link = .offline ∨ s.tkc.link = .resync → ∀ n l, y.routing = .standInAllowed → y.account = some n →
      accountLeg y.legs = some l → s.standInFails n l = none → s.route y g = s.trainingOk y .standIn) := by
  refine ⟨fun hr => (route_local hr).trans (completeLocal_training ht), fun hr hl => ?_, fun hl n l hr hn hleg hpass => ?_⟩
  · rw [State.route]
    rcases hl with hl | hl <;> cases hq : y.routing <;> simp_all
  · rw [(route_away hl).2 hr, State.standIn]
    rw [← standInRefusal_eq] at hpass
    simp only [hn, hleg, hpass, ht, if_true]

/-- Settles O17: a request in training changes no more than the loop and the work items, and its answer tells the route. -/
theorem trainingMovesNothing : Obligations.TrainingMovesNothing := by
  unfold Obligations.TrainingMovesNothing
  intro s a d x f h ht hday
  obtain ⟨hblocks, honly⟩ := takeRequest_training (f := f) h ht hday
  refine ⟨_, exec_txnRequest h, hblocks, honly, ?_⟩
  intro y g ha hc hdrawer r would passes fails
  have hfresh := Checked.fresh hc
  have hopen := (day_ne_closeDrain hc.passed).1
  have htraining := hfresh.training.trans ht
  have hwould : y.wouldHold = none := by
    rw [hc.item]
    rfl
  have hroute : s.takeRequest a f = s.route { y with wouldHold := would } g := by
    rw [takeRequest_asked ha, checkRequest_checked hc, Txn.bare hdrawer, fromOverride_training htraining,
      overrideReason_fresh hfresh ha.2.2.2, hwould]
  have hz : ({ y with wouldHold := would } : Txn).Fresh a x := ⟨hfresh.drop, hfresh.teller, hfresh.training, hfresh.supervisor,
    hfresh.timedOut, hfresh.slot, hfresh.limit, hfresh.timer⟩
  have hpasses : ∀ o, s.route { y with wouldHold := would } g = s.trainingOk { y with wouldHold := would } o → passes o :=
    fun o heq => by
      obtain ⟨hat, hitem⟩ := trainingOk_effects (o := o) h.1 hz.drop hopen
      rw [hz.answered] at hitem
      rw [hz.reply] at hat
      rw [← heq, ← hroute] at hat hitem
      exact ⟨hat, hitem⟩
  have hfails : ∀ q, s.route { y with wouldHold := would } g = s.refuse { y with wouldHold := would } q → fails q :=
    fun q heq => by
      obtain ⟨-, -, hat, -, hitem⟩ := refuse_effects (r := q) (note := none) h.1 hz.drop (txnAt_asked ha)
        fun hc => absurd hc hopen
      rw [hz.answered] at hitem
      rw [hz.reply] at hat
      rw [← heq, ← hroute] at hat hitem
      exact ⟨hat, hitem⟩
  obtain ⟨hlocal, honline, hstand⟩ := route_training (s := s) (y := { y with wouldHold := would }) (g := g) htraining
  refine ⟨fun hr => hpasses _ (hlocal hr), fun hr hl => hpasses _ (honline hr hl), fun hl => ⟨fun hr =>
    hfails _ ((route_away hl).1 hr), fun n l hr hn hleg => ⟨fun hp => hpasses _ (hstand hl n l hr hn hleg hp), fun q hq => ?_⟩⟩⟩
  exact hfails q (((route_away (y := { y with wouldHold := would }) hl).2 hr).trans (standIn_fails (y := { y with wouldHold := would }) hn hleg hq))

end Sys2Proof.Machine
end

section
/-! SUPPORT. Who is heard: the key, the teller, the queue and the work item of a drop, and the statement O11. -/

namespace Sys2Proof.Machine

variable {s : State} {a : Nat} {d : Drop} {x : Teller} {c : Instr}

/-! ### The way a message takes to its rule (R6) -/

theorem exec_fromTeller (h : requestOf c = some a ∨ c = .noticeNext a) :
    ∃ f : State → State, ∀ s, exec c s = .next (s.whileRunning fun s => s.fromTeller a f) := by
  rcases h with h | rfl
  · cases c with
    | txnRequest | cancel | signOn | signOff | unlock | forceSignOff | overrideGrant | overrideDeny | transferOut
    | transferAccept | transferRecall | countDeclare | acceptDifference | forceBalance | closePropose | closeConfirm
    | closeWithdraw => cases h; exact ⟨_, fun _ => rfl⟩
    | _ => cases h
  · exact ⟨_, fun _ => rfl⟩

theorem exec_fromPrinter (h : printerMessageOf c = some a) :
    ∃ f : State → State, ∀ s, exec c s = .next (s.whileRunning fun s => s.fromPrinter a f) := by
  cases c with
  | bookPresent | lineDone | pageReady | printerFault => cases h; exact ⟨_, fun _ => rfl⟩
  | _ => cases h

/-- Every request but a SIGN-ON is one of a signed-on teller (R23). -/
theorem exec_asTeller (h : requestOf c = some a) (hc : ∀ n k, c ≠ .signOn a n k) (hh : s.Hears a d) :
    ∃ f, exec c s = .next (s.asTeller a f) := by
  cases c with
  | signOn b n k => cases h; exact absurd rfl (hc n k)
  | txnRequest | cancel | signOff | unlock | forceSignOff | overrideGrant | overrideDeny | transferOut | transferAccept
  | transferRecall | countDeclare | acceptDifference | forceBalance | closePropose | closeConfirm | closeWithdraw =>
    cases h
    exact ⟨_, congrArg Host.Outcome.next (whileRunning_fromTeller_of_hears hh)⟩
  | _ => cases h

theorem exec_asSupervisor (h : requestOf c = some a) (hc : supervisorRequest c = true) (hh : s.Hears a d) :
    ∃ f, exec c s = .next (s.asSupervisor a f) := by
  cases c with
  | unlock | forceSignOff | overrideGrant | overrideDeny | acceptDifference | forceBalance | closePropose | closeConfirm
  | closeWithdraw =>
    cases h
    exact ⟨_, congrArg Host.Outcome.next (whileRunning_fromTeller_of_hears hh)⟩
  | _ => cases hc

theorem exec_asCashier (h : requestOf c = some a) (hc : cashRequest c = true) (hh : s.Hears a d) :
    ∃ f, exec c s = .next (s.asCashier a f) := by
  cases c with
  | transferOut | transferAccept | transferRecall | countDeclare =>
    cases h
    exact ⟨_, congrArg Host.Outcome.next (whileRunning_fromTeller_of_hears hh)⟩
  | _ => cases hc

/-! ### The refusals of the first checks (R23, R27, R79) -/

theorem asTeller_locked {f : Teller → State} (hd : s.dropAt a = some d) (hk : d.sigs.keyOperate.confirmed = false) :
    s.asTeller a f = s.answer a .stationLocked := by simp [State.asTeller, State.keyOn, State.dropIs, hd, hk]

theorem asTeller_nobody {f : Teller → State} (hk : s.keyOn a = true) (ht : s.tellerAt a = none) :
    s.asTeller a f = s.answer a .notSignedOn := by rw [State.asTeller, if_pos hk, ht]

theorem exec_locked (h : requestOf c = some a) (hh : s.Hears a d) (hk : d.sigs.keyOperate.confirmed = false) :
    exec c s = .next (s.answer a .stationLocked) := by
  have ⟨_, _, hd, _⟩ := hh
  by_cases hc : ∀ n k, c ≠ .signOn a n k
  · obtain ⟨f, hf⟩ := exec_asTeller h hc hh
    rw [hf, asTeller_locked hd hk]
  · push Not at hc
    obtain ⟨n, k, rfl⟩ := hc
    have hexec : exec (.signOn a n k) s = .next (s.signOn a n k) :=
      congrArg Host.Outcome.next (whileRunning_fromTeller_of_hears hh)
    have hkey : s.keyOn a = false := by simp [State.keyOn, State.dropIs, hd, hk]
    rw [hexec, State.signOn, if_pos hkey]

theorem asSupervisor_refused {f : Teller → State} (h : s.Attends a d x) :
    (x.supervises = false → s.asSupervisor a f = s.answer a .notPermitted) ∧
      (x.supervises = true → x.training = true → s.asSupervisor a f = s.answer a .trainingRefused) := by
  rw [State.asSupervisor, asTeller_of_attends h]
  exact ⟨fun hs => by simp [hs], fun hs ht => by simp [hs, ht]⟩

theorem asCashier_refused {f : Teller → State} (h : s.Attends a d x) :
    (x.session ≠ .active → s.asCashier a f = s.answer a .notSignedOn) ∧
      (x.session = .active → x.training = true → s.asCashier a f = s.answer a .trainingRefused) ∧
      (x.session = .active → x.training = false → s.hasWork a = true → s.asCashier a f = s.answer a .busy) := by
  rw [State.asCashier, asTeller_of_attends h]
  exact ⟨fun hs => by simp [hs], fun hs ht => by simp [hs, ht], fun hs ht hw => by simp [hs, ht, hw]⟩

/-! ### A drop whose queue has no room (R6) -/

theorem sends_of (hl : s.lpc.loop = .running) (hd : s.dropAt a = some d) (hc : d.canReceive = true) : s.sends a = true := by
  simp [State.sends, State.dropIs, hd, hc, hl]

theorem admitted_full {f : State → State} (hd : s.dropAt a = some d) (hn : 3 ≤ d.outbound.length) :
    s.admitted a f = s.modifyDrop a fun d => { d with refused := countUp Config.maxScore d.refused } := by
  rw [State.admitted, if_neg]
  simpa [State.dropIs, hd] using hn

/-- A message that is discarded is counted at its drop, and no more (R6). -/
theorem onlyDrop_refused (hd : s.dropAt a = some d) {t : State}
    (ht : t = s.modifyDrop a fun d => { d with refused := countUp Config.maxScore d.refused }) :
    t = { s with lpc := t.lpc } ∧ s.OnlyDrop t a ∧
      t.dropAt a = some { d with refused := if d.refused < 255 then d.refused + 1 else d.refused } := by
  subst ht
  refine ⟨rfl, ⟨rfl, fun b hb => ?_⟩, ?_⟩
  · rw [dropAt_modifyDrop fun _ h => by exact h]
    simp [hb]
  · rw [dropAt_modifyDrop fun _ h => by exact h, hd]
    exact congrArg some (if_pos rfl)

theorem exec_queueFull (h : ((requestOf c = some a ∨ c = .noticeNext a) ∧ d.kind = .teller) ∨
      (printerMessageOf c = some a ∧ d.kind = .printer)) (hr : s.isRunning = true) (hl : s.lpc.loop = .running)
    (hd : s.dropAt a = some d) (hc : d.canReceive = true) (hn : 3 ≤ d.outbound.length) :
    exec c s = .next (s.modifyDrop a fun d => { d with refused := countUp Config.maxScore d.refused }) := by
  have hsends := sends_of hl hd hc
  rcases h with ⟨hm, hk⟩ | ⟨hm, hk⟩
  · obtain ⟨f, hf⟩ := exec_fromTeller hm
    have hteller : (s.dropIs a fun d => d.kind == .teller) = true := by simp [State.dropIs, hd, hk]
    rw [hf, whileRunning_of hr, State.fromTeller, hsends, hteller, Bool.and_self, if_pos rfl, admitted_full hd hn]
  · obtain ⟨f, hf⟩ := exec_fromPrinter hm
    have hprinter : (s.dropIs a fun d => d.kind == .printer) = true := by simp [State.dropIs, hd, hk]
    rw [hf, whileRunning_of hr, State.fromPrinter, hsends, hprinter, Bool.and_self, if_pos rfl, admitted_full hd hn]

/-- Settles O11: each check that refuses comes before the request's own rule. -/
theorem requestsNeedTheirSender : Obligations.RequestsNeedTheirSender := by
  unfold Obligations.RequestsNeedTheirSender
  refine ⟨fun c s a d h hh => ⟨fun hk => onlyAnswers_of hh (exec_locked h hh hk), fun hk ht hc => ?_, fun hc x hx => ?_⟩,
    fun c s a d hm hr hl hd hc hn => ?_, fun s a d x f h hact hwork => ?_, fun c s a d x h hc hx => ?_⟩
  · have ⟨_, _, hd, _⟩ := hh
    have hkey : s.keyOn a = true := by simp [State.keyOn, State.dropIs, hd, hk]
    obtain ⟨f, hf⟩ := exec_asTeller h hc hh
    exact onlyAnswers_of hh (by rw [hf, asTeller_nobody hkey ht])
  · obtain ⟨f, hf⟩ := exec_asSupervisor h hc hx.1
    obtain ⟨hnot, htraining⟩ := asSupervisor_refused (f := f) hx
    exact ⟨fun hs => onlyAnswers_of hx.1 (by rw [hf, hnot hs]), fun hs ht => onlyAnswers_of hx.1 (by rw [hf, htraining hs ht])⟩
  · obtain ⟨hframe, honly, hat⟩ := onlyDrop_refused hd rfl
    exact ⟨_, exec_queueFull hm hr hl hd hc hn, hframe, honly, hat⟩
  · refine onlyAnswers_of h.1 ?_
    rw [exec_txnRequest h, State.takeRequest, asTeller_of_attends h, if_neg (not_not.2 hact), if_pos hwork]
  · obtain ⟨f, hf⟩ := exec_asCashier h hc hx.1
    obtain ⟨hnot, htraining, hbusy⟩ := asCashier_refused (f := f) hx
    exact ⟨fun hs => onlyAnswers_of hx.1 (by rw [hf, hnot hs]), fun hs ht => onlyAnswers_of hx.1 (by rw [hf, htraining hs ht]),
      fun hs ht hw => onlyAnswers_of hx.1 (by rw [hf, hbusy hs ht hw])⟩

end Sys2Proof.Machine
end

section
/-! SUPPORT. The ends of a hold and the withdrawal of a request, and the statements O18, O19 and O20. -/

namespace Sys2Proof.Machine

variable {s t u : State} {a b i : Nat} {d e : Drop} {x sup : Teller} {y : Txn} {g : Definition} {r : Result} {rest : List Nat}

/-! ### The transaction on hold (R34) -/

theorem heldAt_of (hy : s.txnAt b = some y) (hst : y.stage = .held) : s.heldAt b = some y := by
  simp [State.heldAt, hy, hst, Option.filter]

theorem onHold_of {f : Txn → State} (hab : a ≠ b) (hy : s.txnAt b = some y) (hst : y.stage = .held)
    (hne : y.teller ≠ sup.number) : s.onHold a b sup f = f y := by
  rw [State.onHold, if_neg (Ne.symm hab), heldAt_of hy hst]
  exact if_neg hne

theorem txnAt_endHold : (s.endHold y).txnAt b =
    if y.drop = b then some { y with stage := .checking, holdTimer := .stopped } else s.txnAt b := by
  have hrqu : (s.endHold y).rqu = (s.putTxn { y with stage := .checking, holdTimer := .stopped }).rqu :=
    (State.queueSupervisors_frame _).2.2.2.2.2.2.1
  exact (txnAt_congr hrqu).trans txnAt_putTxn

/-- The end of a hold changes the work item, and status marks of the loop (R35, R36). -/
theorem endHold_blocks : s.endHold y = { s with lpc := (s.endHold y).lpc, rqu := { s.rqu with txns := (s.endHold y).rqu.txns } } := by
  apply State.eq_of_blocks <;> simp [State.endHold, State.putTxn]

theorem unmarked_endHold : (s.endHold y).lpc.unmarked = s.lpc.unmarked := unmarked_queueSupervisors

theorem exec_overrideGrant (h : s.Hears a d) : exec (.overrideGrant a b) s = .next (s.overrideGrant a b) :=
  congrArg Host.Outcome.next (whileRunning_fromTeller_of_hears h)

theorem exec_overrideDeny (h : s.Hears a d) : exec (.overrideDeny a b) s = .next (s.overrideDeny a b) :=
  congrArg Host.Outcome.next (whileRunning_fromTeller_of_hears h)

theorem exec_cancel (h : s.Hears a d) : exec (.cancel a) s = .next (s.cancel a) :=
  congrArg Host.Outcome.next (whileRunning_fromTeller_of_hears h)

/-! ### A hold that is granted (R35) -/

/-- The work item with which a granted transaction goes on. -/
def Txn.granted (y : Txn) (sup : Teller) : Txn :=
  { y with stage := .checking, holdTimer := .stopped, limit := some sup.cashLimit, supervisor := some sup.number }

/-- The state in which a granted transaction goes on (R35). -/
def State.granting (s : State) (a : Nat) (sup : Teller) (y : Txn) (g : Definition) : State :=
  (((s.endHold y).modifyTeller y.teller fun x => x.grant g.cls).answer a .done).putTxn (y.granted sup)

theorem not_beyond (h : y.reason.any (fun r => r.amount) = true → ∀ n, y.compared = some n → n ≤ sup.cashLimit) :
    y.beyond sup = false := by
  rw [Txn.beyond, Bool.and_eq_false_iff]
  cases hr : y.reason.any (·.amount) with
  | false => exact .inl rfl
  | true =>
    right
    cases hn : y.compared with
    | none => rfl
    | some n => exact decide_eq_false (Nat.not_lt.2 (h hr n hn))

theorem acceptGrant_eq (hg : y.defn = some g) :
    s.acceptGrant a sup y = (s.granting a sup y g).fromMask (y.granted sup) g := by
  rw [State.acceptGrant]
  split
  · next hnone => cases hnone.symm.trans hg
  · next d hd =>
    cases hd.symm.trans hg
    rfl

theorem overrideGrant_accepted (h : s.Supervises a d sup) (hab : a ≠ b) (hy : s.txnAt b = some y) (hst : y.stage = .held)
    (hne : y.teller ≠ sup.number) (hg : y.defn = some g) (hb : y.beyond sup = false) :
    s.overrideGrant a b = (s.granting a sup y g).fromMask (y.granted sup) g := by
  rw [State.overrideGrant, asSupervisor_of_supervises h, onHold_of hab hy hst hne, if_neg (by rw [hb]; decide),
    acceptGrant_eq hg]

theorem txnAt_granting : (s.granting a sup y g).txnAt b = if y.drop = b then some (y.granted sup) else s.txnAt b := by
  have hrqu : (((s.endHold y).modifyTeller y.teller fun x => x.grant g.cls).answer a .done).txnAt b = (s.endHold y).txnAt b := rfl
  have hput : (s.granting a sup y g).txnAt b = if y.drop = b then some (y.granted sup) else
    (((s.endHold y).modifyTeller y.teller fun x => x.grant g.cls).answer a .done).txnAt b := txnAt_putTxn
  rw [hput, hrqu, txnAt_endHold]
  split_ifs <;> rfl

/-- Settles O18: the hold is over, the supervisor is answered, and the transaction goes on. -/
theorem grantReentersThePath : Obligations.GrantReentersThePath := by
  unfold Obligations.GrantReentersThePath
  intro s a b d sup y g h hab hy hst hne hg hlimit
  have ⟨⟨hh, _⟩, _⟩ := h
  have ⟨_, hl, hd, _, hc, hn⟩ := hh
  obtain rfl : y.drop = b := txnAt_drop hy
  have hexec := exec_overrideGrant (b := y.drop) hh
  rw [overrideGrant_accepted h hab hy hst hne hg (not_beyond hlimit)] at hexec
  have hloop : s.Touches (s.granting a sup y g) a fun d => d.take .running (.answer .done .nothing) :=
    ((State.Touches.of_marks unmarked_endHold).handOver hl (.answer .done .nothing)).congr rfl
  obtain ⟨m, hm⟩ := hloop.dropAt hd
  rw [Drop.take_told hc hn] at hm
  have htellers : (s.endHold y).rqu.tellers = s.rqu.tellers := by rw [endHold_blocks]
  refine ⟨_, _, hexec, ?_, hloop.onlyDropAndMarks, hm, rfl, ?_, ?_, fun k hk => ?_⟩
  · apply State.eq_of_blocks <;> simp [State.granting, State.putTxn, State.endHold]
  · have hrqu : (s.granting a sup y g).rqu = { (s.endHold y).rqu with
        txns := (s.granting a sup y g).rqu.txns
        tellers := modifyKey Teller.number y.teller (fun x => x.grant g.cls) (s.endHold y).rqu.tellers } := rfl
    rw [hrqu, endHold_blocks]
    rfl
  · rw [State.holdsOn, txnAt_granting, if_pos rfl]
    rfl
  · rw [txnAt_granting, if_neg (Ne.symm hk)]

/-! ### A hold that ends without a grant (R36, R52) -/

theorem endHoldWith_eq (hday : s.dyc.day ≠ .closeDrain) : s.endHoldWith y r = (s.endHold y).concluded y (y.reply r) := by
  rw [State.endHoldWith, State.refuse, reachOutcome_eq, judgeDrain_of_other]
  · rfl
  · rw [concluded_blocks, endHold_blocks]
    exact hday

theorem Txn.reply_eq : y.reply r = { refusalReply y.code r none with timedOut := y.timedOut } := rfl

/-- What the end of a hold leaves (R36). -/
theorem endHoldWith_effects (hl : s.lpc.loop = .running) (hd : s.dropAt y.drop = some e) (hc : e.canReceive = true)
    (hn : e.outbound.length < 3) (hday : s.dyc.day ≠ .closeDrain) (ht : t = s.endHoldWith y r) :
    t = { s with lpc := t.lpc, rqu := t.rqu } ∧
      t.txnAt y.drop = some { y with
        stage := .answered, slot := none, outcome := some r, limit := none, holdTimer := .stopped } ∧
      (∀ k, k ≠ y.drop → t.txnAt k = s.txnAt k) ∧
      t.rqu = { s.rqu with
        txns := t.rqu.txns, tellers := modifyKey Teller.number y.teller Teller.restore s.rqu.tellers } ∧
      t.lpc.loop = s.lpc.loop ∧ s.OnlyDropAndMarks t y.drop ∧
      ∃ m, t.dropAt y.drop = some { e.told (.final (y.reply r)) with statusMark := m } := by
  rw [endHoldWith_eq hday] at ht
  subst ht
  have hloop := (State.Touches.of_marks (a := y.drop) (unmarked_endHold (s := s) (y := y))).concluded (r := y.reply r)
  obtain ⟨m, hm⟩ := hloop.dropAt hd
  rw [hl, id_eq, Drop.take_told hc hn] at hm
  refine ⟨?_, txnAt_concluded, fun k hk => ?_, ?_, hloop.loopState, hloop.onlyDropAndMarks, m, hm⟩
  · rw [concluded_blocks, endHold_blocks]
  · exact (onlyTxn_concluded.2 k hk).trans (txnAt_endHold.trans (if_neg (Ne.symm hk)))
  · rw [onlyTxn_concluded.1, endHold_blocks]

/-- Settles O19: each way a hold ends refuses it at its own drop; a deny is answered as well. -/
theorem holdEndsWithoutAGrant : Obligations.HoldEndsWithoutAGrant := by
  unfold Obligations.HoldEndsWithoutAGrant
  intro c s b e y r hr hl hd hc hn hy hst hdrop hday hcase
  subst hdrop
  have hopen : s.dyc.day ≠ .closeDrain := by rcases hday with h | h <;> rw [h] <;> nofun
  obtain ⟨hblocks, htxn, hothers, hrqu, hrun, hdrops, m, hat⟩ := endHoldWith_effects (r := r) hl hd hc hn hopen rfl
  rcases hcase with ⟨a, d, sup, rfl, hab, hsup, hne, rfl⟩ | ⟨rfl, htimer, rfl⟩ | ⟨x, rfl, hx, rfl⟩
  · have ⟨⟨⟨_, _, hda, _, hca, hna⟩, _⟩, _⟩ := hsup
    have hexec := exec_overrideDeny (b := y.drop) hsup.1.1
    rw [State.overrideDeny, asSupervisor_of_supervises hsup, onHold_of hab hy hst hne] at hexec
    obtain ⟨ma, hma⟩ := hdrops.2 a hab
    have hother : ((s.endHoldWith y .overrideDenied).answer a .done).dropAt y.drop =
        (s.endHoldWith y .overrideDenied).dropAt y.drop := by
      rw [State.answer, dropAt_handOver]
      simp [Ne.symm hab]
    have hself : ((s.endHoldWith y .overrideDenied).answer a .done).dropAt a =
        some ({ d with statusMark := ma }.told (.answer .done .nothing)) := by
      have htake : ({ d with statusMark := ma } : Drop).take .running (.answer .done .nothing) =
        ({ d with statusMark := ma } : Drop).told (.answer .done .nothing) := Drop.take_told hca hna
      rw [State.answer, dropAt_handOver, hma, hda, hrun, hl]
      simp [htake]
    refine ⟨_, _, hexec, ?_, htxn, hothers, hrqu, hother.trans hat, rfl, fun a' d' ha hd' => ?_⟩
    · exact (congrArg (fun t : State => t.answer a .done) hblocks).trans rfl
    · cases ha
      cases hda.symm.trans hd'
      exact ⟨_, hself, rfl⟩
  · have hexec : exec (.holdTimerExpiry y.drop) s = .next (s.endHoldWith y .overrideExpired) := by
      have harm : exec (.holdTimerExpiry y.drop) s = execHoldTimerExpiry y.drop s := rfl
      rw [harm, execHoldTimerExpiry, whileRunning_of hr, State.holdExpiry, heldAt_of hy hst]
      exact congrArg _ (if_neg htimer)
    exact ⟨_, _, hexec, hblocks, htxn, hothers, hrqu, hat, rfl, fun _ _ h => by cases h⟩
  · have hexec := exec_cancel hx.1
    rw [State.cancel, asTeller_of_attends hx, hy] at hexec
    simp only [hst] at hexec
    exact ⟨_, _, hexec, hblocks, htxn, hothers, hrqu, hat, rfl, fun _ _ h => by cases h⟩

/-! ### A request that is withdrawn (R49, R52) -/

/-- Serving the wait list changes the slots and the work items alone (R49). -/
theorem serveWaitList_blocks : s.serveWaitList = { s with rqu := s.serveWaitList.rqu, tkc := s.serveWaitList.tkc } := by
  apply State.eq_of_blocks <;> simp

/-- What a withdrawn request's refusal leaves, whatever its withdrawal did to the slots and the other items (R52). -/
theorem refuse_withdrawn (h : s.Hears y.drop d) (hday : s.dyc.day ≠ .closeDrain) (hu : u = { s with rqu := u.rqu, tkc := u.tkc })
    (ht : t = u.refuse y r) : t = { s with lpc := t.lpc, rqu := t.rqu, tkc := t.tkc } ∧ s.OnlyDrop t y.drop ∧
      t.dropAt y.drop = some (d.told (.final (y.reply r))) ∧ t.txnAt y.drop = some { y with
        stage := .answered, slot := none, outcome := some r, limit := none, holdTimer := .stopped } ∧
      t.tkc = u.tkc ∧ t.rqu.waitList = u.rqu.waitList := by
  have hdyc : (u.concluded y (y.reply r)).dyc.day ≠ .closeDrain := by
    have hkept : (u.concluded y (y.reply r)).dyc = u.dyc := rfl
    rw [hkept, hu]
    exact hday
  have heq : u.refuse y r = u.concluded y (y.reply r) := judgeDrain_of_other hdyc
  have hlpc : u.lpc = s.lpc := by rw [hu]
  rw [heq] at ht
  subst ht
  have hh : u.Hears y.drop d := by rw [hu]; exact h
  obtain ⟨hframe, hdrops⟩ := onlyDrop_concluded (s := u) (y := y) (r := y.reply r)
  refine ⟨?_, ⟨by rw [hframe, hlpc], fun b hb => (hdrops b hb).trans (dropAt_congr hlpc)⟩, dropAt_concluded_told hh,
    txnAt_concluded, rfl, rfl⟩
  rw [concluded_blocks, hu]

theorem slotAt_freed_none (hi : s.lowestFree = none) (hslot : (s.slotAt i).isSome = true) :
    (s.freeSlotAt i).lowestFree = some i := by
  rw [State.lowestFree, Option.map_eq_none_iff, List.find?_eq_none] at hi
  obtain ⟨z, hz⟩ := Option.isSome_iff_exists.1 hslot
  have hsome : ((s.freeSlotAt i).tkc.slots.find? fun x => x.state == .free).isSome = true := by
    rw [List.find?_isSome]
    refine ⟨freeSlot z.number, List.mem_map.2 ⟨z, List.mem_of_find?_eq_some hz, ?_⟩, rfl⟩
    rw [if_pos (slotAt_number hz)]
  obtain ⟨w, hw⟩ := Option.isSome_iff_exists.1 hsome
  rw [State.lowestFree, hw]
  obtain ⟨v, hv, hvw⟩ := List.mem_map.1 (List.mem_of_find?_eq_some hw)
  have hfree := List.find?_some hw
  by_cases hvi : v.number = i
  · rw [if_pos hvi] at hvw
    rw [← hvw]
    exact congrArg some hvi
  · rw [if_neg hvi] at hvw
    rw [← hvw] at hfree
    exact absurd hfree (hi v hv)

/-- A freed slot, the only FREE one, goes to the oldest entry, and no other entry is served (R49). -/
theorem freeAndOffer_serves (hl : s.tkc.link = .online) (hw : s.rqu.waitList = b :: rest) (hi : s.lowestFree = none)
    (hslot : (s.slotAt i).isSome = true) : (s.freeAndOffer i).rqu.waitList = rest ∧
      ∃ z, (s.freeAndOffer i).slotAt i = some z ∧ z.state = .queued ∧ z.drop = b := by
  have hfree := slotAt_freed_none hi hslot
  have hone := serveOne_serves (s := s.freeSlotAt i) (a := b) hl hw hfree
  have hserved : (s.freeSlotAt i).serveOne.Served := by
    right
    rw [State.lowestFree, Option.map_eq_none_iff, List.find?_eq_none] at hi ⊢
    rw [hone, takeSlot_slots]
    intro z hz
    obtain ⟨v, hv, rfl⟩ := List.mem_map.1 hz
    obtain ⟨x, hx, rfl⟩ := List.mem_map.1 hv
    by_cases hxi : x.number = i
    · simp [hxi, freeSlot]
    · simpa [hxi] using hi x hx
  have heq : s.freeAndOffer i = (s.freeSlotAt i).serveOne := by
    rw [State.freeAndOffer, serveWaitList_eq]
    exact serveTimes_served 5 hserved
  obtain ⟨x, hx⟩ := Option.isSome_iff_exists.1 hslot
  refine ⟨by rw [heq, hone]; rfl, ?_⟩
  have hat : (s.freeAndOffer i).slotAt i = ((s.freeSlotAt i).slotAt i).map fun z =>
      { z with state := .queued, drop := b, kind := (({ s.freeSlotAt i with rqu :=
        { s.rqu with waitList := rest } } : State)).workKind b, tag := 0, timer := .stopped } := by
    rw [heq, hone, State.slotAt, takeSlot_slots]
    exact findKey_modifyKey_same fun _ h => by exact h
  rw [slotAt_freeSlotAt, hx] at hat
  exact ⟨_, hat, rfl, rfl⟩

/-- Settles O20: a CANCEL by the stage of the drop's work item. -/
theorem cancelWithdraws : Obligations.CancelWithdraws := by
  unfold Obligations.CancelWithdraws
  intro s a d x h
  have hexec := exec_cancel h.1
  rw [State.cancel, asTeller_of_attends h] at hexec
  refine ⟨fun hy => ?_, fun y hy hst => ?_, fun y hy hdrop hday hst => ?_⟩
  · rw [hy] at hexec
    exact onlyAnswers_of h.1 hexec
  · rw [hy] at hexec
    rcases hst with hst | hst <;> simp only [hst] at hexec <;> exact onlyAnswers_of h.1 hexec
  · subst hdrop
    have hopen : s.dyc.day ≠ .closeDrain := by rcases hday with h | h <;> rw [h] <;> nofun
    rw [hy] at hexec
    rcases hst with hst | ⟨hst, hslot⟩
    · simp only [hst] at hexec
      obtain ⟨hblocks, honly, hat, htxn, htkc, hwait⟩ := refuse_withdrawn (r := .cancelled) h.1 hopen
        (u := s.leaveWaitList y.drop) rfl rfl
      exact ⟨_, hexec, hblocks, honly, hat, htxn, fun _ => ⟨htkc, hwait⟩, fun _ hq => by (cases hst.symm.trans hq),
        fun _ _ _ hq => by cases hst.symm.trans hq⟩
    · obtain ⟨j, hj⟩ := Option.isSome_iff_exists.1 hslot
      simp only [hst, hj] at hexec
      have hu : s.freeAndOffer j = { s with rqu := (s.freeAndOffer j).rqu, tkc := (s.freeAndOffer j).tkc } :=
        (serveWaitList_blocks (s := s.freeSlotAt j)).trans rfl
      obtain ⟨hblocks, honly, hat, htxn, htkc, hwait⟩ := refuse_withdrawn (r := .cancelled) h.1 hopen hu rfl
      have hslots : ∀ k, ((s.freeAndOffer j).refuse y .cancelled).slotAt k = (s.freeAndOffer j).slotAt k :=
        fun k => slotAt_congr htkc
      refine ⟨_, hexec, hblocks, honly, hat, htxn, fun hw => by (cases hst.symm.trans hw), fun i _ hi hl => ?_,
        fun i b rest _ hi hl hw hnone hsome => ?_⟩
      · cases hj.symm.trans hi
        have haway : s.freeAndOffer j = s.freeSlotAt j := serveWaitList_away (s := s.freeSlotAt j) hl
        refine ⟨by rw [hwait, haway]; rfl, ?_, fun k hk => ?_⟩
        · rw [hslots, haway, slotAt_freeSlotAt]
          cases s.slotAt j with
          | none => rfl
          | some z => exact congrArg some (if_pos rfl)
        · rw [hslots, haway, slotAt_freeSlotAt]
          simp [hk]
      · cases hj.symm.trans hi
        obtain ⟨hrest, z, hz, hqueued, hb⟩ := freeAndOffer_serves hl hw hnone hsome
        exact ⟨hwait.trans hrest, z, (hslots j).trans hz, hqueued, hb⟩

end Sys2Proof.Machine
end

section
/-! SUPPORT. Head office's single frames: the inquiries, MASK-SET and NOTICE, and the statements O41 and O42. -/

namespace Sys2Proof.Machine

variable {s u : State} {h : FrameHeader} {n : Nat} {groups : BitVec 8} {text : Text}

/-! ### A frame that may need an answer (R106) -/

/-- A frame that finds room for its answer meets its rule after supervision has seen it (R90, R106). -/
theorem whileRunning_onAnswered_of_accepts {f : State → State} (ha : s.Accepts h) :
    (s.whileRunning fun s => s.onAnswered h f) = f s.seeFrame := by
  obtain ⟨⟨hrun, hvalid⟩, hroom⟩ := ha
  rw [whileRunning_of hrun, onAnswered_of hvalid hroom]

/-- An answer joins the node queue's tail, and nothing else changes (R106). -/
theorem pushNode_eq (e : NodeEntry) :
    u.pushNode e = { u with tkc := { u.tkc with nodeQueue := u.tkc.nodeQueue ++ [e] } } := rfl

theorem nodeStatus_eq (c : Condition) : u.nodeStatus h c =
    { u with tkc := { u.tkc with nodeQueue := u.tkc.nodeQueue ++ [⟨h.tag, .nodeStatus c⟩] } } := rfl

theorem inquire_of_accepts {f : State → InquiryAnswer} (ha : s.Accepts h) : (s.whileRunning fun s => s.inquire h f) =
    s.seeFrame.pushNode ⟨h.tag, .inquiryAnswer (f s.seeFrame)⟩ := whileRunning_onAnswered_of_accepts ha

/-! ### The figures of an answer (R107, R136) -/

theorem recordsWith_eq (q : Disposition) :
    u.recordsWith q = u.jnc.records.countP fun r => decide (r.disposition = some q) :=
  List.countP_congr fun r _ => by rw [beq_iff_eq, decide_eq_true_iff]

theorem thresholdOf_eq : thresholdOf n = if 65535 ≤ n then .exhausted else if 65279 ≤ n then .full
    else if 61439 ≤ n then .nearFull else .none := rfl

theorem reversals_eq : (u.siu.sfq.countP fun e => e.kind == .reversal) =
    u.siu.sfq.countP fun e => decide (e.kind = .reversal) :=
  List.countP_congr fun e _ => by rw [beq_iff_eq, decide_eq_true_iff]

/-- Settles O41: each kind of inquiry pushes its own answer. -/
theorem inquiriesAreAnswered : Obligations.InquiriesAreAnswered := by
  unfold Obligations.InquiriesAreAnswered
  rintro s u h c b ha rfl hc
  obtain ⟨rfl, rfl⟩ | ⟨rfl, rfl⟩ | ⟨rfl, rfl⟩ | ⟨rfl, rfl⟩ | ⟨rfl, rfl⟩ | ⟨rfl, rfl⟩ | ⟨rfl, rfl⟩ | ⟨rfl, rfl⟩ := hc
  · exact congrArg Host.Outcome.next (inquire_of_accepts (f := State.drawersAnswer) ha)
  · exact congrArg Host.Outcome.next (inquire_of_accepts (f := State.linkAnswer) ha)
  · rw [← reversals_eq]
    exact congrArg Host.Outcome.next (inquire_of_accepts (f := State.queuesAnswer) ha)
  · simp only [← recordsWith_eq, ← thresholdOf_eq]
    exact congrArg Host.Outcome.next (inquire_of_accepts (f := State.journalAnswer) ha)
  · exact congrArg Host.Outcome.next (inquire_of_accepts (f := State.dayAnswer) ha)
  · exact congrArg Host.Outcome.next (inquire_of_accepts (f := State.dropsAnswer) ha)
  · exact congrArg Host.Outcome.next (inquire_of_accepts (f := State.passbookAnswer) ha)
  · exact congrArg Host.Outcome.next (whileRunning_onAnswered_of_accepts ha)

/-! ### The mask and the notices (R19, R20, R38) -/

theorem exec_maskSet {mask : ClassMask} (ha : s.Accepts h) : exec (.maskSet h mask) s = .next
    (if startable s.seeFrame.dyc.day then s.seeFrame.nodeStatus h (.wrongState .maskSet)
      else (s.seeFrame.onRqu fun r => { r with classMask := mask }).nodeStatus h (.maskSet mask)) :=
  congrArg Host.Outcome.next (whileRunning_onAnswered_of_accepts ha)

theorem exec_notice (ha : s.Accepts h) : exec (.notice h groups text) s = .next
    (if groups = 0 ∨ text = [] ∨ 64 < text.length then s.seeFrame.nodeStatus h (.fieldRange .notice)
      else if 65536 ≤ s.seeFrame.lpc.noticeCounter then s.seeFrame.nodeStatus h .noticeLimit
      else s.seeFrame.enterNotice groups text) :=
  congrArg Host.Outcome.next (whileRunning_onAnswered_of_accepts ha)

theorem startable_iff {day : DayState} : startable day = true ↔ day = .noDay ∨ day = .loading := by
  cases day <;> simp [startable]

/-- What an entered notice leaves of the loop but the drops' marks (R19). -/
theorem enterNotice_lpc : (u.enterNotice groups text).lpc = { u.lpc with
    drops := (u.enterNotice groups text).lpc.drops, noticeCounter := u.lpc.noticeCounter + 1
    notices := (if u.lpc.notices.length < 8 then u.lpc.notices else u.lpc.notices.tail) ++
      [⟨u.lpc.noticeCounter, groups, text⟩] } := rfl

/-- A notice entered as the newest, before the drops' marks are judged (R19). -/
def State.noticed (u : State) (groups : BitVec 8) (text : Text) : State :=
  u.onLpc fun l => { l with
    notices := (if l.notices.length < Config.noticePlaces then l.notices else l.notices.tail) ++
      [⟨l.noticeCounter, groups, text⟩]
    noticeCounter := l.noticeCounter + 1 }

theorem enterNotice_eq : u.enterNotice groups text = (u.noticed groups text).queueUnseen u := rfl

/-- A drop's mark after a notice: only a TELLER drop's whose unseen count changes is set (R20). -/
theorem dropAt_enterNotice {a : Nat} {d : Drop} (hd : u.dropAt a = some d) :
    (u.enterNotice groups text).dropAt a = some { d with statusMark := d.statusMark || (d.kind == .teller &&
      unseenCount u.lpc.notices d != unseenCount (u.enterNotice groups text).lpc.notices d) } := by
  have hnotices : (u.enterNotice groups text).lpc.notices = (u.noticed groups text).lpc.notices := rfl
  have hat : (u.noticed groups text).dropAt a = some d := hd
  rw [hnotices, enterNotice_eq, dropAt_queueUnseen, hd, hat, Option.map_some, Option.any_some, Drop.queueStatus_eq]
  cases unseenCount u.lpc.notices d != unseenCount (u.noticed groups text).lpc.notices d <;> simp

/-- Settles O42: each frame by its checks, in their order. -/
theorem maskAndNoticesAreSet : Obligations.MaskAndNoticesAreSet := by
  unfold Obligations.MaskAndNoticesAreSet
  refine ⟨?_, ?_⟩
  · rintro s u h mask ha rfl
    rw [exec_maskSet ha]
    exact ⟨fun hday => congrArg _ (if_pos (startable_iff.2 hday)), fun hno hload =>
      congrArg _ (if_neg fun hs => (startable_iff.1 hs).elim hno hload)⟩
  · rintro s u h groups text ha rfl
    rw [exec_notice ha]
    refine ⟨fun hr => congrArg _ (if_pos hr), fun hg ht hl hc => ?_, fun hg ht hl hc => ?_⟩
    · rw [if_neg (fun hbad => hbad.elim hg fun hbad => hbad.elim ht (Nat.not_lt.2 hl)), if_pos hc]
      rfl
    · rw [if_neg (fun hbad => hbad.elim hg fun hbad => hbad.elim ht (Nat.not_lt.2 hl)), if_neg (Nat.not_le.2 hc)]
      exact ⟨_, rfl, rfl, enterNotice_lpc, fun a d hd => dropAt_enterNotice hd⟩

end Sys2Proof.Machine
end

section
/-! SUPPORT. DAY-START, the day clock and DAY-OPEN, and the statements O43 and O46. -/

namespace Sys2Proof.Machine

variable {s u : State} {h : FrameHeader} {date : Date} {time : TimeOfDay} {expected : PerKind Nat}

/-! ### DAY-START (R155) -/

theorem exec_dayStart (ha : s.Accepts h) : exec (.dayStart h date time expected) s = .next
    (if startable s.seeFrame.dyc.day = false then s.seeFrame.nodeStatus h (.wrongState .dayStart)
      else if dayStartOk date time expected then
        (s.seeFrame.startDay date time expected).nodeStatus h (.loading (some date))
      else s.seeFrame.nodeStatus h (.fieldRange .dayStart)) :=
  congrArg Host.Outcome.next (whileRunning_onAnswered_of_accepts ha)

theorem emptyJournal_blocks : u.emptyJournal = { u with
    lpc := u.emptyJournal.lpc, jnc := { u.jnc with records := [], counter := 0, postingsClosed := false } } := by
  unfold State.emptyJournal
  dsimp only
  split <;> rfl

theorem unmarked_emptyJournal : u.emptyJournal.lpc.unmarked = u.lpc.unmarked := by
  unfold State.emptyJournal
  dsimp only
  split
  · exact unmarked_queueStatusAll
  · rfl

/-- The day's figures that a DAY-START sets, before the day becomes LOADING (R155). -/
def State.dayCleared (u : State) (date : Date) (time : TimeOfDay) (expected : PerKind Nat) : State :=
  { u with
    lpc := u.emptyJournal.lpc
    rqu := { u.rqu with classMask := 0 }
    tkc := { u.tkc with stats := ⟨0, 0, 0, 0, 0, 0⟩ }
    siu := { u.siu with rate := none }
    jnc := ⟨[], 0, 0, 0, true, false⟩
    dyc := { u.dyc with
      date := some date, time := some time, expected := expected
      loaded := ⟨[], [], [], [], [], [], [], [], []⟩, cutoff := none, batch := none } }

theorem startDay_eq : u.startDay date time expected = (u.dayCleared date time expected).setDay .loading := by
  rw [State.startDay, emptyJournal_blocks]
  rfl

theorem setDay_blocks (day : DayState) : u.setDay day = { u with lpc := (u.setDay day).lpc, dyc := { u.dyc with day := day } } := by
  simp only [State.setDay]
  split <;> rfl

theorem unmarked_startDay : (u.startDay date time expected).lpc.unmarked = u.lpc.unmarked := by
  rw [startDay_eq, unmarked_setDay]
  exact unmarked_emptyJournal

theorem startable_eq_false {day : DayState} : startable day = false ↔ day ≠ .noDay ∧ day ≠ .loading := by
  cases day <;> simp [startable]

/-! ### The day clock (R127) -/

theorem tick_eq : s.tick = if s.jnc.clockRuns then { s with jnc := { s.jnc with
    clock := if s.jnc.clock < 4294967295 then s.jnc.clock + 1 else s.jnc.clock
    clockKept := if s.jnc.clock < 4294967295 then s.jnc.clock + 1 else s.jnc.clock } } else s := by
  unfold State.tick
  split <;> rfl

theorem exec_dayClockTick (hs : s.supply = true) : exec .dayClockTick s = .next s.tick := by
  have hexec : exec .dayClockTick s = execDayClockTick s := rfl
  rw [hexec, execDayClockTick, if_pos hs]

/-- Settles O43: the frame's checks, the day it starts, and a second of the clock. -/
theorem dayStartsItsClock : Obligations.DayStartsItsClock := by
  unfold Obligations.DayStartsItsClock
  refine ⟨?_, fun s hs => ?_⟩
  · rintro s u h date time expected ha rfl
    rw [exec_dayStart ha]
    refine ⟨fun hno hload => congrArg _ (if_pos (startable_eq_false.2 ⟨hno, hload⟩)), fun hday hok => ?_, fun hday hok => ?_⟩
    · rw [startable_iff.2 hday, if_neg (by decide), hok]
      rfl
    · rw [startable_iff.2 hday, if_neg (by decide), hok, if_pos rfl]
      have hblocks := setDay_blocks (u := s.seeFrame.dayCleared date time expected) .loading
      refine ⟨_, rfl, ?_, ?_, ?_, ?_, ?_, ?_, fun a => ?_⟩
      · rw [startDay_eq, hblocks]
        rfl
      · rw [startDay_eq, hblocks]
        rfl
      · rw [startDay_eq, hblocks]
        rfl
      · rw [startDay_eq, hblocks]
        rfl
      · rw [startDay_eq, hblocks]
        rfl
      · rw [startDay_eq, hblocks]
        rfl
      · exact dropAt_unmarked (s := s.seeFrame) (t := (s.seeFrame.startDay date time expected).nodeStatus h _) unmarked_startDay a
  · rw [exec_dayClockTick hs, tick_eq]
    exact ⟨fun hr => congrArg _ (if_neg (by rw [hr]; decide)), fun hr => congrArg _ (if_pos hr)⟩

/-! ### DAY-OPEN (R159) -/

theorem exec_dayOpen_wrongState (ha : s.Accepts h) (hday : s.seeFrame.dyc.day ≠ .loading) :
    exec (.dayOpen h) s = .next (s.seeFrame.nodeStatus h (.wrongState .dayOpen)) := by
  have hexec : exec (.dayOpen h) s = execDayOpen h s := rfl
  rw [hexec, execDayOpen]
  simp only [State.dayOpen, whileRunning_onAnswered_of_accepts ha, if_pos hday]

theorem exec_dayOpen_mismatch {k : TableKind} (ha : s.Accepts h) (hday : s.seeFrame.dyc.day = .loading)
    (hk : s.seeFrame.loadMismatch = some k) : exec (.dayOpen h) s = .next (s.seeFrame.nodeStatus h
      (.loadMismatch k (kindGet s.seeFrame.dyc.expected k) (s.seeFrame.acceptedCount k))) := by
  have hexec : exec (.dayOpen h) s = execDayOpen h s := rfl
  rw [hexec, execDayOpen]
  simp only [State.dayOpen, whileRunning_onAnswered_of_accepts ha, if_neg (not_not.2 hday), hk]

theorem exec_dayOpen_opens (ha : s.Accepts h) (hday : s.seeFrame.dyc.day = .loading) (hk : s.seeFrame.loadMismatch = none) :
    exec (.dayOpen h) s = .next ((s.seeFrame.sweepSat.setDay .opened).nodeStatus h (.opened s.seeFrame.dyc.date)) := by
  have hexec : exec (.dayOpen h) s = execDayOpen h s := rfl
  rw [hexec, execDayOpen]
  simp only [State.dayOpen, whileRunning_onAnswered_of_accepts ha, if_neg (not_not.2 hday), hk]

/-- The first kind whose count differs is the one named (R159). -/
theorem loadMismatch_eq_some {l r : List TableKind} {k : TableKind} (hl : tableKinds = l ++ k :: r)
    (hsame : ∀ j ∈ l, (kindGet u.dyc.loaded j).length = kindGet u.dyc.expected j)
    (hk : (kindGet u.dyc.loaded k).length ≠ kindGet u.dyc.expected k) : u.loadMismatch = some k := by
  rw [State.loadMismatch, hl]
  refine List.find?_eq_some_iff_append.2 ⟨bne_iff_ne.2 hk, l, r, rfl, fun j hj => ?_⟩
  rw [State.acceptedCount, hsame j hj, bne_self_eq_false]
  rfl

theorem loadMismatch_eq_none (hsame : ∀ j ∈ tableKinds, (kindGet u.dyc.loaded j).length = kindGet u.dyc.expected j) :
    u.loadMismatch = none :=
  List.find?_eq_none.2 fun j hj => by
    rw [State.acceptedCount, hsame j hj, bne_self_eq_false]
    decide

theorem hasWork_iff {b : Passbook} : b.hasWork = true ↔
    b.pending ≠ [] ∨ b.overflow.items ≠ 0 ∨ b.marker.isSome = true ∨ b.session.isSome = true := by
  simp [Passbook.hasWork, or_assoc]

/-- The sweep keeps the accounts that were loaded, and of the others those with work pending (R159). -/
theorem mem_sweepSat {e : SatEntry} : e ∈ u.sweepSat.siu.sat ↔ (e ∈ u.siu.sat ∧ e.account ∈ u.dyc.loaded.sat) ∨
    ∃ o b, o ∈ u.siu.sat ∧ o.account ∉ u.dyc.loaded.sat ∧ o.book = some b ∧
      (b.pending ≠ [] ∨ b.overflow.items ≠ 0 ∨ b.marker.isSome = true ∨ b.session.isSome = true) ∧
      e = { o with kind := .pendingOnly } := by
  have hloaded : ∀ o : SatEntry, (kindGet u.dyc.loaded .sat).contains o.account = true ↔ o.account ∈ u.dyc.loaded.sat :=
    fun o => List.contains_iff_mem
  rw [State.sweepSat, State.onSiu]
  dsimp only
  rw [List.mem_filterMap]
  constructor
  · rintro ⟨o, ho, hkept⟩
    split_ifs at hkept with hin hwork
    · rw [← Option.some.inj hkept]
      exact .inl ⟨ho, (hloaded o).1 hin⟩
    · obtain ⟨b, hb, hbwork⟩ := (Option.any_eq_true _ _).1 hwork
      exact .inr ⟨o, b, ho, fun hc => hin ((hloaded o).2 hc), hb, hasWork_iff.1 hbwork, (Option.some.inj hkept).symm⟩
  · rintro (⟨he, hin⟩ | ⟨o, b, ho, hout, hb, hwork, he⟩)
    · exact ⟨e, he, if_pos ((hloaded e).2 hin)⟩
    · refine ⟨o, ho, ?_⟩
      subst he
      rw [if_neg fun hc => hout ((hloaded o).1 hc), if_pos]
      rw [hb]
      exact hasWork_iff.2 hwork

/-- Settles O46: the day's state, the counts, and the sweep. -/
theorem dayOpens : Obligations.DayOpens := by
  unfold Obligations.DayOpens
  rintro s u h ha rfl
  refine ⟨fun hday => exec_dayOpen_wrongState ha hday, fun l k r hday hl hsame hk =>
    exec_dayOpen_mismatch ha hday (loadMismatch_eq_some hl hsame hk), fun hday hsame => ?_⟩
  have hblocks := setDay_blocks (u := s.seeFrame.sweepSat) .opened
  refine ⟨_, exec_dayOpen_opens ha hday (loadMismatch_eq_none hsame), ?_, ?_, ?_, ?_, fun e => ?_⟩
  · rw [hblocks]
    rfl
  · rw [hblocks]
    rfl
  · rw [hblocks]
    rfl
  · rw [hblocks]
    rfl
  · rw [hblocks]
    exact mem_sweepSat

end Sys2Proof.Machine
end

section
/-! SUPPORT. The LOAD frames: why one is refused, and what the entries of one that is taken leave. -/

namespace Sys2Proof.Machine

variable {α : Type} {s t u : State} {h : FrameHeader} {r : LoadRule α} {f : LoadFault}

/-! ### Why a load is refused (R156) -/

theorem load_refused {l : List (Option α)} (ha : s.Accepts h) (hf : s.seeFrame.loadFault r l = some f) :
    (s.whileRunning fun s => s.load h r l) = s.seeFrame.nak h r.kind f := by
  simp only [State.load, whileRunning_onAnswered_of_accepts ha, hf]
  rfl

/-- The entries of a load that is taken, before its answer (R156). -/
def State.loadAll (s : State) (r : LoadRule α) (l : List α) : State := l.foldl (State.loadEntry r) s

theorem readEntries_map_some (l : List α) : readEntries (l.map some) = l := by
  rw [readEntries, List.filterMap_map]
  exact List.filterMap_some

theorem load_accepted {l : List α} (ha : s.Accepts h) (hf : s.seeFrame.loadFault r (l.map some) = none) :
    (s.whileRunning fun s => s.load h r (l.map some)) = (s.seeFrame.loadAll r l).pushNode
      ⟨h.tag, .loadAck r.kind ((s.seeFrame.loadAll r l).acceptedCount r.kind)⟩ := by
  simp only [State.load, whileRunning_onAnswered_of_accepts ha, hf, readEntries_map_some]
  rfl

theorem kindAccepted_iff {k : TableKind} {d : DayState} : kindAccepted k d = true ↔ d ∈ loadDay k := by
  cases k <;> cases d <;> decide

theorem findIdx?_first {β : Type} {p : β → Bool} {l q : List β} {e : β} (hl : ∀ x ∈ l, p x = false) (he : p e = true) :
    (l ++ e :: q).findIdx? p = some l.length := by
  induction l with
  | nil => simp [List.findIdx?_cons, he]
  | cons x l ih =>
    rw [List.cons_append, List.findIdx?_cons, hl x List.mem_cons_self, if_neg (by decide),
      ih fun y hy => hl y (List.mem_cons_of_mem x hy)]
    rfl

theorem loadFault_of_fails {l : List (Option α)} (hf : s.LoadFails r.kind r.ok l f) : s.loadFault r l = some f := by
  rcases hf with ⟨hday, rfl⟩ | ⟨hday, ⟨rfl, rfl⟩ | ⟨p, e, q, rfl, hp, he, rfl⟩⟩
  · exact if_pos (Bool.eq_false_iff.2 fun hc => hday (kindAccepted_iff.1 hc))
  · rw [State.loadFault, kindAccepted_iff.2 hday, if_neg (by decide)]
    rfl
  · have hfirst : (p ++ e :: q).findIdx? (fun e => !e.any r.ok) = some p.length := by
      refine findIdx?_first (fun x hx => ?_) ?_
      · obtain ⟨y, rfl, hy⟩ := hp x hx
        simp [hy]
      · cases e with
        | none => rfl
        | some y => simp [he y rfl]
    have hsome : (p ++ e :: q).isEmpty = false := by simp
    rw [State.loadFault, kindAccepted_iff.2 hday, if_neg (by decide)]
    simp only [hsome, hfirst]

theorem readable_all {l : List α} (hok : l.all r.ok = true) : (l.map some).findIdx? (fun e => !e.any r.ok) = none := by
  rw [List.findIdx?_eq_none_iff]
  intro x hx
  obtain ⟨y, hy, rfl⟩ := List.mem_map.1 hx
  simp [List.all_eq_true.1 hok y hy]

theorem loadFault_inUse {l : List α} {i : Nat} (hday : s.dyc.day = .opened) (hkind : .opened ∈ loadDay r.kind) (hl : l ≠ [])
    (hok : l.all r.ok = true) (hi : l.findIdx? (r.inUse s) = some i) : s.loadFault r (l.map some) = some (.inUse (i + 1)) := by
  have hsome : (l.map some).isEmpty = false := by simpa using hl
  rw [State.loadFault, hday, kindAccepted_iff.2 hkind, if_neg (by decide)]
  simp only [hsome, readable_all hok, readEntries_map_some, if_true, hi]

theorem loadFault_unused {l : List α} (hday : s.dyc.day ∈ loadDay r.kind) (hl : l ≠ []) (hok : l.all r.ok = true)
    (hi : s.dyc.day = .opened → l.findIdx? (r.inUse s) = none) :
    s.loadFault r (l.map some) = if r.fits s l then none else some .tableFull := by
  have hsome : (l.map some).isEmpty = false := by simpa using hl
  have hnone : (if s.dyc.day = .opened then l.findIdx? (r.inUse s) else none) = none := by
    split
    · next h => exact hi h
    · rfl
  rw [State.loadFault, kindAccepted_iff.2 hday, if_neg (by decide)]
  simp only [hsome, readable_all hok, readEntries_map_some, hnone]

/-! ### The loaded-key sets (R156) -/

theorem mem_joinKey {k n : Nat} {l : List Nat} : n ∈ joinKey l k ↔ n ∈ l ∨ k = n := by
  unfold joinKey
  split
  · next h =>
    constructor
    · exact .inl
    · rintro (hn | rfl)
      · exact hn
      · exact List.contains_iff_mem.1 h
  · simp [eq_comm]

theorem mem_foldl_joinKey {key : α → Nat} {n : Nat} {l : List α} : ∀ {ks : List Nat},
    n ∈ l.foldl (fun ks e => joinKey ks (key e)) ks ↔ n ∈ ks ∨ ∃ e ∈ l, key e = n := by
  induction l with
  | nil => simp
  | cons e l ih =>
    intro ks
    rw [List.foldl_cons, ih, mem_joinKey, List.exists_mem_cons_iff, or_assoc]

theorem length_foldl_joinKey (l ks : List Nat) : (l.foldl joinKey ks).length ≤ ks.length + l.length := by
  induction l generalizing ks with
  | nil => exact Nat.le_refl _
  | cons k l ih =>
    have hjoin : (joinKey ks k).length ≤ ks.length + 1 := by
      unfold joinKey
      split <;> simp
    rw [List.foldl_cons, List.length_cons]
    exact (ih _).trans (by omega)

/-- The new keys fit when the load has no more entries than there are free places (R156). -/
theorem keysFit_of_length {present : Nat → Bool} {free : Nat} {keys : List Nat} (hl : keys.length ≤ free) :
    keysFit present free keys = true := by
  have hfilter := List.length_filter_le (fun k => !present k) keys
  have hjoin := length_foldl_joinKey (keys.filter fun k => !present k) []
  exact decide_eq_true (by simp only [List.length_nil, Nat.zero_add] at hjoin; omega)

/-- More distinct new keys than free places do not fit (R156). -/
theorem keysFit_eq_false {present : Nat → Bool} {free : Nat} {keys new : List Nat} (hnew : new.Nodup)
    (hmem : ∀ n ∈ new, n ∈ keys ∧ present n = false) (hl : free < new.length) : keysFit present free keys = false := by
  have hsub : new ⊆ (keys.filter fun k => !present k).foldl joinKey [] := fun n hn => by
    obtain ⟨hkeys, hp⟩ := hmem n hn
    exact (mem_foldl_joinKey (key := id)).2 (.inr ⟨n, List.mem_filter.2 ⟨hkeys, by rw [hp]; rfl⟩, rfl⟩)
  have hlen := (hnew.subperm hsub).length_le
  exact decide_eq_false (by omega)

/-! ### The entries one after another (R156, R157) -/

theorem kindSet_kindGet {β : Type} (p : PerKind β) (k : TableKind) : kindSet p k (kindGet p k) = p := by cases k <;> rfl

theorem kindGet_kindSet {β : Type} (p : PerKind β) (k : TableKind) (x : β) : kindGet (kindSet p k x) k = x := by
  cases k <;> rfl

theorem kindSet_kindSet {β : Type} (p : PerKind β) (k : TableKind) (x y : β) :
    kindSet (kindSet p k x) k y = kindSet p k y := by cases k <;> rfl

/-- A loaded-key set after the entries of a load (R156). -/
def LoadRule.keysAfter (r : LoadRule α) (l : List α) (ks : List Nat) : List Nat :=
  l.foldl (fun ks e => joinKey ks (r.key e)) ks

/-- The entries of a kind do not look at the day record, nor change it or the trunk. -/
structure LoadRule.TableOnly (r : LoadRule α) : Prop where
  dyc : ∀ s e, (r.apply s e).dyc = s.dyc
  tkc : ∀ s e, (r.apply s e).tkc = s.tkc
  blind : ∀ (s : State) (y : Dyc) (e : α), r.apply { s with dyc := y } e = { r.apply s e with dyc := y }

theorem LoadRule.TableOnly.foldl_blind (hr : r.TableOnly) (y : Dyc) (l : List α) :
    ∀ s : State, l.foldl r.apply { s with dyc := y } = { l.foldl r.apply s with dyc := y } := by
  induction l with
  | nil => exact fun s => rfl
  | cons e l ih =>
    intro s
    rw [List.foldl_cons, List.foldl_cons, hr.blind, ih]

/-- The tables after the entries are those of the entries alone; the day record gains their keys. -/
theorem LoadRule.TableOnly.loadAll_eq (hr : r.TableOnly) (l : List α) : ∀ s : State, s.loadAll r l = { l.foldl r.apply s with
    dyc := { s.dyc with loaded := kindSet s.dyc.loaded r.kind (r.keysAfter l (kindGet s.dyc.loaded r.kind)) } } := by
  induction l with
  | nil =>
    intro s
    simp only [State.loadAll, LoadRule.keysAfter, List.foldl_nil, kindSet_kindGet]
  | cons e l ih =>
    intro s
    have hentry : State.loadEntry r s e = { r.apply s e with dyc := { s.dyc with
        loaded := kindSet s.dyc.loaded r.kind (joinKey (kindGet s.dyc.loaded r.kind) (r.key e)) } } := by
      rw [State.loadEntry, State.onDyc, hr.dyc]
    have hrest := ih (State.loadEntry r s e)
    rw [State.loadAll] at hrest ⊢
    rw [List.foldl_cons, hrest, hentry, hr.foldl_blind]
    simp only [LoadRule.keysAfter, kindGet_kindSet, kindSet_kindSet, List.foldl_cons]

theorem LoadRule.TableOnly.foldl_tkc (hr : r.TableOnly) (l : List α) : ∀ s : State, (l.foldl r.apply s).tkc = s.tkc := by
  induction l with
  | nil => exact fun s => rfl
  | cons e l ih =>
    intro s
    rw [List.foldl_cons, ih, hr.tkc]

/-- The state after a load that is taken: its tables, its keys and its LOAD-ACK (R156). -/
theorem LoadRule.TableOnly.taken (hr : r.TableOnly) {l : List α} (ha : s.Accepts h)
    (hf : s.seeFrame.loadFault r (l.map some) = none) : ∃ t, (s.whileRunning fun s => s.load h r (l.map some)) = t ∧
      s.seeFrame.LoadTaken t h r.kind r.key l ∧ t = { l.foldl r.apply s.seeFrame with tkc := t.tkc, dyc := t.dyc } := by
  have hall := hr.loadAll_eq l s.seeFrame
  refine ⟨_, load_accepted ha hf, ⟨?_, ?_, fun k => ?_⟩, ?_⟩
  · rw [hall, pushNode_eq]
    simp only [hr.foldl_tkc, State.acceptedCount]
  · rw [hall, pushNode_eq]
    simp only [kindGet_kindSet]
  · rw [hall, pushNode_eq]
    simp only [kindGet_kindSet, LoadRule.keysAfter, mem_foldl_joinKey]
  · rw [hall]
    rfl

/-! ### The last entry of a key stands (R156) -/

theorem lastWith_concat {key : α → Nat} {k : Nat} {l : List α} {e : α} :
    lastWith key k (l ++ [e]) = if key e = k then some e else lastWith key k l := by
  rw [lastWith, List.reverse_append, List.reverse_singleton, List.singleton_append, List.find?_cons]
  by_cases he : key e = k
  · simp [he]
  · have hb : (key e == k) = false := by simpa using he
    simp [he, hb, lastWith]

theorem findKey_setEntry {β : Type} {k n : Nat} {x : Option β} {l : List (Nat × β)} :
    findKey Prod.fst n (setEntry k x l) = if k = n then x.map fun y => (n, y) else findKey Prod.fst n l := by
  cases x with
  | some y =>
    rw [setEntry, findKey_putKey]
    by_cases hk : k = n <;> simp [hk]
  | none =>
    rw [setEntry, findKey_eraseKey]
    by_cases hk : k = n
    · simp [hk]
    · simp [hk, Ne.symm hk]

theorem findKey_foldl_setEntry {β : Type} {key : α → Nat} {value : α → Option β} {n : Nat} (l : List α)
    (m : List (Nat × β)) : findKey Prod.fst n (l.foldl (fun m e => setEntry (key e) (value e) m) m) =
      (lastWith key n l).elim (findKey Prod.fst n m) fun e => (value e).map fun y => (n, y) := by
  induction l using List.reverseRecOn with
  | nil => rfl
  | append_singleton l e ih =>
    rw [List.foldl_append, List.foldl_cons, List.foldl_nil, findKey_setEntry, ih, lastWith_concat]
    by_cases he : key e = n <;> simp [he]

end Sys2Proof.Machine
end

section
/-! SUPPORT. The kinds of tables and what their entries leave. -/

namespace Sys2Proof.Machine

variable {s t u : State} {h : FrameHeader} {f : LoadFault} {n : Nat}

/-! ### The kinds whose entries change their table alone -/

theorem codesRule_tableOnly : codesRule.TableOnly := ⟨fun _ _ => rfl, fun _ _ => rfl, fun _ _ _ => rfl⟩
theorem definitionsRule_tableOnly : definitionsRule.TableOnly := ⟨fun _ _ => rfl, fun _ _ => rfl, fun _ _ _ => rfl⟩
theorem routesRule_tableOnly : routesRule.TableOnly := ⟨fun _ _ => rfl, fun _ _ => rfl, fun _ _ _ => rfl⟩
theorem ratesRule_tableOnly : ratesRule.TableOnly := ⟨fun _ _ => rfl, fun _ _ => rfl, fun _ _ _ => rfl⟩
theorem layoutRule_tableOnly : layoutRule.TableOnly := ⟨fun _ _ => rfl, fun _ _ => rfl, fun _ _ _ => rfl⟩
theorem denominationsRule_tableOnly : denominationsRule.TableOnly := ⟨fun _ _ => rfl, fun _ _ => rfl, fun _ _ _ => rfl⟩
theorem satRule_tableOnly : satRule.TableOnly := ⟨fun _ _ => rfl, fun _ _ => rfl, fun _ _ _ => rfl⟩

theorem tellersRule_tableOnly : tellersRule.TableOnly where
  dyc _ e := by cases e <;> rfl
  tkc _ e := by cases e <;> rfl
  blind _ _ e := by cases e <;> rfl

/-- The entries of a kind are never in use and always fit. -/
structure LoadRule.Plain {α : Type} (r : LoadRule α) : Prop where
  unused : ∀ s e, r.inUse s e = false
  fits : ∀ s l, r.fits s l = true

/-- Entries of a plain kind in its days are taken (R156). -/
theorem loadFault_plain {α : Type} {r : LoadRule α} {l : List α} (hday : s.dyc.day ∈ loadDay r.kind) (hl : l ≠ [])
    (hok : l.all r.ok = true) (hplain : r.Plain) : s.loadFault r (l.map some) = none := by
  rw [loadFault_unused hday hl hok fun _ => List.findIdx?_eq_none_iff.2 fun e _ => hplain.unused s e, if_pos (hplain.fits s l)]

/-- What a plain load that is taken leaves (R156). -/
theorem plain_taken {α : Type} {r : LoadRule α} {l : List α} (hr : r.TableOnly) (hplain : r.Plain)
    (ha : s.Accepts h) (hday : s.seeFrame.dyc.day ∈ loadDay r.kind) (hl : l ≠ []) (hok : l.all r.ok = true) :
    ∃ t, (s.whileRunning fun s => s.load h r (l.map some)) = t ∧ s.seeFrame.LoadTaken t h r.kind r.key l ∧
      t = { l.foldl r.apply s.seeFrame with tkc := t.tkc, dyc := t.dyc } :=
  hr.taken ha (loadFault_plain hday hl hok hplain)

/-! ### The tables after the entries (R157) -/

theorem foldl_applyCode (l : List CodeEntry) : ∀ s : State, l.foldl State.applyCode s = { s with rqu := { s.rqu with
    codeMap := l.foldl (fun m e => setEntry e.code e.index m) s.rqu.codeMap } } := by
  induction l with
  | nil => exact fun s => rfl
  | cons e l ih => exact fun s => ih (s.applyCode e)

theorem foldl_applyDefinition (l : List DefinitionEntry) : ∀ s : State, l.foldl State.applyDefinition s = { s with
    rqu := { s.rqu with definitions := l.foldl (fun m e => setEntry e.index e.body m) s.rqu.definitions } } := by
  induction l with
  | nil => exact fun s => rfl
  | cons e l ih => exact fun s => ih (s.applyDefinition e)

theorem foldl_applyRoute (l : List RouteEntry) : ∀ s : State, l.foldl State.applyRoute s = { s with
    rqu := { s.rqu with routes := l.foldl (fun m e => setEntry e.index e.body m) s.rqu.routes } } := by
  induction l with
  | nil => exact fun s => rfl
  | cons e l ih => exact fun s => ih (s.applyRoute e)

theorem foldl_applyLayout (l : List Layout) (e : Layout) (s : State) :
    (l ++ [e]).foldl State.applyLayout s = { s with pbu := { s.pbu with layout := e } } := by
  have hkept : ∀ s : State, l.foldl State.applyLayout s = { s with pbu := { s.pbu with
      layout := (l.foldl State.applyLayout s).pbu.layout } } := by
    induction l with
    | nil => exact fun s => rfl
    | cons e l ih => exact fun s => (ih (s.applyLayout e)).trans rfl
  rw [List.foldl_append, hkept s]
  rfl

theorem foldl_applyRates (l : List RateLoad) (e : RateLoad) (s : State) :
    (l ++ [e]).foldl State.applyRates s = { s with siu := { s.siu with rate := some ⟨e, s.jnc.clock⟩ } } := by
  have hkept : ∀ s : State, l.foldl State.applyRates s = { s with siu := { s.siu with
      rate := (l.foldl State.applyRates s).siu.rate } } := by
    induction l with
    | nil => exact fun s => rfl
    | cons e l ih => exact fun s => (ih (s.applyRates e)).trans rfl
  rw [List.foldl_append, hkept s]
  rfl

theorem applyDenominations_blocks (s : State) (e : DenominationEntry) : s.applyDenominations e = { s with csu := { s.csu with
    denomHome := (s.applyDenominations e).csu.denomHome
    denomForeign := (s.applyDenominations e).csu.denomForeign } } := by
  unfold State.applyDenominations State.onCsu
  cases e.currency <;> rfl

theorem foldl_applyDenominations (l : List DenominationEntry) : ∀ s : State, l.foldl State.applyDenominations s = { s with
    csu := { s.csu with
      denomHome := (l.foldl State.applyDenominations s).csu.denomHome
      denomForeign := (l.foldl State.applyDenominations s).csu.denomForeign } } := by
  induction l with
  | nil => exact fun s => rfl
  | cons e l ih =>
    intro s
    have hrest := ih (s.applyDenominations e)
    rw [applyDenominations_blocks s e] at hrest
    rw [List.foldl_cons, applyDenominations_blocks s e]
    exact hrest

theorem applyDenominations_table (s : State) (e : DenominationEntry) : (if e.currency = .home then
    (s.applyDenominations e).csu.denomHome else (s.applyDenominations e).csu.denomForeign) = e.values := by
  unfold State.applyDenominations State.onCsu
  cases e.currency <;> rfl

theorem foldl_applyTeller_blocks (l : List TellerEntry) : ∀ s : State, l.foldl State.applyTeller s = { s with
    rqu := { s.rqu with tellers := (l.foldl State.applyTeller s).rqu.tellers } } := by
  induction l with
  | nil => exact fun s => rfl
  | cons e l ih =>
    intro s
    refine (ih (s.applyTeller e)).trans ?_
    cases e <;> rfl

/-- A teller that no entry names is as before (R157). -/
theorem tellerOf_foldl_applyTeller {l : List TellerEntry} (hn : ∀ e ∈ l, tellerKey e ≠ n) :
    ∀ s : State, (l.foldl State.applyTeller s).tellerOf n = s.tellerOf n := by
  induction l with
  | nil => exact fun s => rfl
  | cons e l ih =>
    intro s
    have hkey : tellerKey e ≠ n := hn e List.mem_cons_self
    refine (ih (fun y hy => hn y (List.mem_cons_of_mem e hy)) _).trans ?_
    cases e with
    | load m => exact findKey_putKey.trans (if_neg hkey)
    | remove m => exact findKey_eraseKey.trans (if_neg (Ne.symm hkey))

/-- The entry an SAT load leaves at its account (R158). -/
structure SatEntry.Loaded (x : SatEntry) (e : SatLoad) (kept : Option Passbook) : Prop where
  kind : x.kind = .full
  snapshot : x.snapshot = e.snapshot
  limit : x.limit = e.limit
  blocked : x.blocked = e.blocked
  used : x.used = 0
  net : x.net = 0
  book : ∀ b, kept = some b → x.book = some b

theorem satAt_applySat (e : SatLoad) : (s.applySat e).satAt n = if e.account = n then
    some ⟨e.account, .full, e.snapshot, e.limit, 0, e.blocked, 0, (s.bookOf e.account) <|> e.book.map bookFrom⟩
    else s.satAt n := findKey_putKey

/-- A passbook part that is there stays (R158). -/
theorem bookOf_applySat {e : SatLoad} {b : Passbook} (hb : s.bookOf n = some b) : (s.applySat e).bookOf n = some b := by
  rw [State.bookOf, satAt_applySat]
  by_cases he : e.account = n
  · rw [if_pos he, he, hb]
    rfl
  · rw [if_neg he]
    exact hb

theorem bookOf_foldl_applySat {b : Passbook} (l : List SatLoad) : ∀ {s : State}, s.bookOf n = some b →
    (l.foldl State.applySat s).bookOf n = some b := by
  induction l with
  | nil => exact fun hb => hb
  | cons e l ih => exact fun hb => ih (bookOf_applySat hb)

theorem satAt_foldl_applySat (l : List SatLoad) (s : State) :
    (lastWith SatLoad.account n l = none → (l.foldl State.applySat s).satAt n = s.satAt n) ∧
      ∀ e, lastWith SatLoad.account n l = some e →
        ∃ x, (l.foldl State.applySat s).satAt n = some x ∧ x.Loaded e (s.bookOf n) := by
  induction l using List.reverseRecOn with
  | nil => exact ⟨fun _ => rfl, fun e he => nomatch he⟩
  | append_singleton l e ih =>
    rw [List.foldl_append, lastWith_concat, List.foldl_cons, List.foldl_nil, satAt_applySat]
    by_cases he : e.account = n
    · rw [if_pos he, if_pos he, he]
      refine ⟨nofun, fun e' he' => ?_⟩
      cases he'
      refine ⟨_, rfl, rfl, rfl, rfl, rfl, rfl, rfl, fun b hb => ?_⟩
      rw [bookOf_foldl_applySat l hb]
      rfl
    · rw [if_neg he, if_neg he]
      exact ih

theorem foldl_applySat_blocks (l : List SatLoad) : ∀ s : State, l.foldl State.applySat s = { s with
    siu := { s.siu with sat := (l.foldl State.applySat s).siu.sat } } := by
  induction l with
  | nil => exact fun s => rfl
  | cons e l ih => exact fun s => (ih (s.applySat e)).trans rfl

end Sys2Proof.Machine
end

section
/-! SUPPORT. The loads that are taken and those that are refused, and the statements O44 and O45. -/

namespace Sys2Proof.Machine

variable {s t u : State} {h : FrameHeader} {f : LoadFault} {n : Nat}

/-! ### The tables of a plain load (R156, R157) -/

theorem loadCodes_taken {l : List CodeEntry} (ha : s.Accepts h) (hday : s.seeFrame.dyc.day = .loading) (hl : l ≠ [])
    (hok : l.all codeEntryOk = true) : ∃ t, exec (.loadCodes h (l.map some)) s = .next t ∧
      s.seeFrame.LoadTaken t h .codes CodeEntry.code l ∧ t = { s.seeFrame with
        rqu := { s.seeFrame.rqu with codeMap := l.foldl (fun m e => setEntry e.code e.index m) s.seeFrame.rqu.codeMap }
        tkc := t.tkc, dyc := t.dyc } := by
  obtain ⟨t, ht, htaken, hblocks⟩ := plain_taken codesRule_tableOnly ⟨fun _ _ => rfl, fun _ _ => rfl⟩ ha (List.mem_singleton.2 hday) hl hok
  have happly := foldl_applyCode l s.seeFrame
  exact ⟨t, congrArg Host.Outcome.next ht, htaken, hblocks.trans (congrArg (fun v : State => { v with
    tkc := t.tkc, dyc := t.dyc }) happly)⟩

theorem loadDefinitions_taken {l : List DefinitionEntry} (ha : s.Accepts h) (hday : s.seeFrame.dyc.day = .loading) (hl : l ≠ [])
    (hok : l.all definitionEntryOk = true) : ∃ t, exec (.loadDefinitions h (l.map some)) s = .next t ∧
      s.seeFrame.LoadTaken t h .definitions DefinitionEntry.index l ∧ t = { s.seeFrame with
        rqu := { s.seeFrame.rqu with
          definitions := l.foldl (fun m e => setEntry e.index e.body m) s.seeFrame.rqu.definitions }
        tkc := t.tkc, dyc := t.dyc } := by
  obtain ⟨t, ht, htaken, hblocks⟩ := plain_taken definitionsRule_tableOnly ⟨fun _ _ => rfl, fun _ _ => rfl⟩ ha (List.mem_singleton.2 hday) hl hok
  have happly := foldl_applyDefinition l s.seeFrame
  exact ⟨t, congrArg Host.Outcome.next ht, htaken, hblocks.trans (congrArg (fun v : State => { v with
    tkc := t.tkc, dyc := t.dyc }) happly)⟩

theorem loadRoutes_taken {l : List RouteEntry} (ha : s.Accepts h) (hday : s.seeFrame.dyc.day = .loading) (hl : l ≠ [])
    (hok : l.all routeEntryOk = true) : ∃ t, exec (.loadRoutes h (l.map some)) s = .next t ∧
      s.seeFrame.LoadTaken t h .routes RouteEntry.index l ∧ t = { s.seeFrame with
        rqu := { s.seeFrame.rqu with routes := l.foldl (fun m e => setEntry e.index e.body m) s.seeFrame.rqu.routes }
        tkc := t.tkc, dyc := t.dyc } := by
  obtain ⟨t, ht, htaken, hblocks⟩ := plain_taken routesRule_tableOnly ⟨fun _ _ => rfl, fun _ _ => rfl⟩ ha (List.mem_singleton.2 hday) hl hok
  have happly := foldl_applyRoute l s.seeFrame
  exact ⟨t, congrArg Host.Outcome.next ht, htaken, hblocks.trans (congrArg (fun v : State => { v with
    tkc := t.tkc, dyc := t.dyc }) happly)⟩

theorem loadDenominations_taken {l : List DenominationEntry} {e : DenominationEntry} (ha : s.Accepts h)
    (hday : s.seeFrame.dyc.day = .loading) (hok : (l ++ [e]).all denominationEntryOk = true) :
    ∃ t, exec (.loadDenominations h ((l ++ [e]).map some)) s = .next t ∧
      s.seeFrame.LoadTaken t h .denominations (fun x => currencyKey x.currency) (l ++ [e]) ∧ t = { s.seeFrame with
        csu := { s.seeFrame.csu with denomHome := t.csu.denomHome, denomForeign := t.csu.denomForeign }
        tkc := t.tkc, dyc := t.dyc } ∧
      (if e.currency = .home then t.csu.denomHome else t.csu.denomForeign) = e.values := by
  obtain ⟨t, ht, htaken, hblocks⟩ := plain_taken denominationsRule_tableOnly ⟨fun _ _ => rfl, fun _ _ => rfl⟩ ha (List.mem_singleton.2 hday)
    (List.append_ne_nil_of_right_ne_nil l (List.cons_ne_nil e [])) hok
  have happly := foldl_applyDenominations (l ++ [e]) s.seeFrame
  have hcsu : t.csu = ((l ++ [e]).foldl State.applyDenominations s.seeFrame).csu := by
    rw [hblocks]
    rfl
  refine ⟨t, congrArg Host.Outcome.next ht, htaken, hblocks.trans ?_, ?_⟩
  · rw [hcsu]
    exact congrArg (fun v : State => { v with tkc := t.tkc, dyc := t.dyc }) happly
  · rw [hcsu, List.foldl_append]
    exact applyDenominations_table _ e

theorem loadLayout_taken {l : List Layout} {e : Layout} (ha : s.Accepts h) (hday : s.seeFrame.dyc.day = .loading)
    (hok : (l ++ [e]).all layoutOk = true) : ∃ t, exec (.loadLayout h ((l ++ [e]).map some)) s = .next t ∧
      s.seeFrame.LoadTaken t h .layout (fun _ => 0) (l ++ [e]) ∧
      t = { s.seeFrame with pbu := { s.seeFrame.pbu with layout := e }, tkc := t.tkc, dyc := t.dyc } := by
  obtain ⟨t, ht, htaken, hblocks⟩ := plain_taken layoutRule_tableOnly ⟨fun _ _ => rfl, fun _ _ => rfl⟩ ha (List.mem_singleton.2 hday)
    (List.append_ne_nil_of_right_ne_nil l (List.cons_ne_nil e [])) hok
  have happly := foldl_applyLayout l e s.seeFrame
  exact ⟨t, congrArg Host.Outcome.next ht, htaken, hblocks.trans (congrArg (fun v : State => { v with
    tkc := t.tkc, dyc := t.dyc }) happly)⟩

theorem loadRates_taken {l : List RateLoad} {e : RateLoad} (ha : s.Accepts h)
    (hday : s.seeFrame.dyc.day = .loading ∨ s.seeFrame.dyc.day = .opened ∨ s.seeFrame.dyc.day = .closeProposed)
    (hok : (l ++ [e]).all rateLoadOk = true) : ∃ t, exec (.loadRates h ((l ++ [e]).map some)) s = .next t ∧
      s.seeFrame.LoadTaken t h .rates (fun _ => 0) (l ++ [e]) ∧ t = { s.seeFrame with
        siu := { s.seeFrame.siu with rate := some ⟨e, s.seeFrame.jnc.clock⟩ }, tkc := t.tkc, dyc := t.dyc } := by
  have haccepted : s.seeFrame.dyc.day ∈ loadDay .rates := by
    rcases hday with hd | hd | hd <;> rw [hd] <;> decide
  obtain ⟨t, ht, htaken, hblocks⟩ := plain_taken ratesRule_tableOnly ⟨fun _ _ => rfl, fun _ _ => rfl⟩ ha haccepted
    (List.append_ne_nil_of_right_ne_nil l (List.cons_ne_nil e [])) hok
  have happly := foldl_applyRates l e s.seeFrame
  exact ⟨t, congrArg Host.Outcome.next ht, htaken, hblocks.trans (congrArg (fun v : State => { v with
    tkc := t.tkc, dyc := t.dyc }) happly)⟩

/-! ### Tellers and accounts (R156, check 3 and check 4) -/

theorem tellers_day {l : List TellerEntry} (ht : s.TakesTellers l) : s.dyc.day ∈ loadDay .tellers := by
  rcases ht with hd | ⟨hd, -⟩ <;> rw [hd] <;> decide

theorem tellers_unused {l : List TellerEntry} (ht : s.TakesTellers l) (hday : s.dyc.day = .opened) :
    l.findIdx? (tellersRule.inUse s) = none := by
  rcases ht with hd | ⟨-, hoff⟩
  · cases hday.symm.trans hd
  · refine List.findIdx?_eq_none_iff.2 fun e he => ?_
    have huse : tellersRule.inUse s e = (s.tellerOf (tellerKey e)).any Teller.signedOn := rfl
    rw [huse]
    cases hx : s.tellerOf (tellerKey e) with
    | none => rfl
    | some x => exact hoff e he x hx

theorem loadTellers_inUse {p q : List TellerEntry} {e : TellerEntry} (ha : s.Accepts h) (hday : s.seeFrame.dyc.day = .opened)
    (hok : (p ++ e :: q).all tellerEntryOk = true)
    (hp : ∀ y ∈ p, ∀ x, s.seeFrame.tellerOf (tellerKey y) = some x → x.signedOn = false)
    (he : (s.seeFrame.tellerOf (tellerKey e)).any Teller.signedOn = true) :
    exec (.loadTellers h ((p ++ e :: q).map some)) s = .next (s.seeFrame.nak h .tellers (.inUse (p.length + 1))) := by
  refine congrArg Host.Outcome.next (load_refused ha (loadFault_inUse (r := tellersRule) hday (by decide) (by simp) hok ?_))
  refine findIdx?_first (fun y hy => ?_) he
  have huse : tellersRule.inUse s.seeFrame y = (s.seeFrame.tellerOf (tellerKey y)).any Teller.signedOn := rfl
  rw [huse]
  cases hx : s.seeFrame.tellerOf (tellerKey y) with
  | none => rfl
  | some x => exact hp y hy x hx

theorem loadTellers_tableFull {l : List TellerEntry} {keys : List Nat} (ha : s.Accepts h) (ht : s.seeFrame.TakesTellers l)
    (hok : l.all tellerEntryOk = true) (hne : keys ≠ []) (hkeys : keys.Nodup)
    (hnew : ∀ n ∈ keys, n ∈ l.filterMap loadedNumber ∧ s.seeFrame.tellerOf n = none)
    (hfull : 32 < keys.length + s.seeFrame.rqu.tellers.length) :
    exec (.loadTellers h (l.map some)) s = .next (s.seeFrame.nak h .tellers .tableFull) := by
  have hpos : 0 < keys.length := List.length_pos_iff.2 hne
  have hl : l ≠ [] := by
    rintro rfl
    obtain ⟨n, hn⟩ := List.exists_mem_of_ne_nil keys hne
    exact List.not_mem_nil (hnew n hn).1
  have hfits : tellersRule.fits s.seeFrame l = false := by
    refine keysFit_eq_false hkeys (fun n hn => ?_) ?_
    · obtain ⟨hmem, hnone⟩ := hnew n hn
      exact ⟨hmem, by rw [hnone]; rfl⟩
    · have hplaces : Config.tellerPlaces = 32 := rfl
      omega
  have hfault : s.seeFrame.loadFault tellersRule (l.map some) = some .tableFull := by
    rw [loadFault_unused (tellers_day ht) hl hok (tellers_unused ht), hfits]
    rfl
  exact congrArg Host.Outcome.next (load_refused ha hfault)

theorem sat_unused {l : List SatLoad} : l.findIdx? (satRule.inUse s) = none :=
  List.findIdx?_eq_none_iff.2 fun _ _ => rfl

theorem loadSat_tableFull {l : List SatLoad} {keys : List Nat} (ha : s.Accepts h) (hday : s.seeFrame.dyc.day = .loading)
    (hok : l.all satLoadOk = true) (hne : keys ≠ []) (hkeys : keys.Nodup)
    (hnew : ∀ n ∈ keys, n ∈ l.map SatLoad.account ∧ s.seeFrame.satAt n = none)
    (hfull : 4096 < keys.length + s.seeFrame.siu.sat.length) :
    exec (.loadSat h (l.map some)) s = .next (s.seeFrame.nak h .sat .tableFull) := by
  have hpos : 0 < keys.length := List.length_pos_iff.2 hne
  have hl : l ≠ [] := by
    rintro rfl
    obtain ⟨n, hn⟩ := List.exists_mem_of_ne_nil keys hne
    exact List.not_mem_nil (hnew n hn).1
  have hfits : satRule.fits s.seeFrame l = false := by
    refine keysFit_eq_false hkeys (fun n hn => ?_) ?_
    · obtain ⟨hmem, hnone⟩ := hnew n hn
      exact ⟨hmem, by rw [hnone]; rfl⟩
    · have hplaces : Config.satPlaces = 4096 := rfl
      omega
  have hfault : s.seeFrame.loadFault satRule (l.map some) = some .tableFull := by
    rw [loadFault_unused (List.mem_singleton.2 hday) hl hok fun _ => sat_unused, hfits]
    rfl
  exact congrArg Host.Outcome.next (load_refused ha hfault)

theorem load_fails {α : Type} {r : LoadRule α} {l : List (Option α)} (ha : s.Accepts h)
    (hf : s.seeFrame.LoadFails r.kind r.ok l f) : (s.whileRunning fun s => s.load h r l) = s.seeFrame.nak h r.kind f :=
  load_refused ha (loadFault_of_fails hf)

/-- Settles O44: the tables of the loads that are taken, and the four refusals in their order. -/
theorem loadsAreApplied : Obligations.LoadsAreApplied := by
  unfold Obligations.LoadsAreApplied
  refine ⟨?_, ?_, ?_, ?_⟩
  · rintro s u h ha rfl hday
    refine ⟨fun l hl hok => ?_, fun l hl hok => ?_, fun l hl hok => ?_, fun l e hok => ?_, fun l e hok => ?_⟩
    · obtain ⟨t, hexec, htaken, hblocks⟩ := loadCodes_taken ha hday hl hok
      refine ⟨t, hexec, htaken, by rw [hblocks], fun k => ?_⟩
      rw [hblocks]
      dsimp only
      rw [findKey_foldl_setEntry]
      cases lastWith CodeEntry.code k l <;> rfl
    · obtain ⟨t, hexec, htaken, hblocks⟩ := loadDefinitions_taken ha hday hl hok
      refine ⟨t, hexec, htaken, by rw [hblocks], fun k => ?_⟩
      rw [hblocks]
      dsimp only
      rw [findKey_foldl_setEntry]
      cases lastWith DefinitionEntry.index k l <;> rfl
    · obtain ⟨t, hexec, htaken, hblocks⟩ := loadRoutes_taken ha hday hl hok
      refine ⟨t, hexec, htaken, by rw [hblocks], fun k => ?_⟩
      rw [hblocks]
      dsimp only
      rw [findKey_foldl_setEntry]
      cases lastWith RouteEntry.index k l <;> rfl
    · exact loadDenominations_taken ha hday hok
    · exact loadLayout_taken ha hday hok
  · rintro s u h l e ha rfl hday hok
    exact loadRates_taken ha hday hok
  · rintro s u h r ha rfl
    exact ⟨fun l hf => congrArg _ (load_fails (r := tellersRule) ha hf), fun l hf => congrArg _ (load_fails (r := codesRule) ha hf),
      fun l hf => congrArg _ (load_fails (r := definitionsRule) ha hf), fun l hf => congrArg _ (load_fails (r := routesRule) ha hf),
      fun l hf => congrArg _ (load_fails (r := satRule) ha hf), fun l hf => congrArg _ (load_fails (r := ratesRule) ha hf),
      fun l hf => congrArg _ (load_fails (r := denominationsRule) ha hf), fun l hf => congrArg _ (load_fails (r := layoutRule) ha hf),
      fun l hf => congrArg _ (load_fails (r := paramsRule) ha hf)⟩
  · rintro s u h ha rfl
    exact ⟨fun p e q hday hok hp he => loadTellers_inUse ha hday hok hp he,
      fun l keys ht hok hne hkeys hnew hfull => loadTellers_tableFull ha ht hok hne hkeys hnew hfull,
      fun l keys hday hok hne hkeys hnew hfull => loadSat_tableFull ha hday hok hne hkeys hnew hfull⟩

/-! ### The tellers and the accounts that are taken (R22, R157, R158) -/

theorem loadTellers_taken {l : List TellerEntry} {free : Nat} (ha : s.Accepts h) (ht : s.seeFrame.TakesTellers l) (hl : l ≠ [])
    (hok : l.all tellerEntryOk = true) (hfree : free + s.seeFrame.rqu.tellers.length = 32)
    (hfits : (l.filterMap loadedNumber).length ≤ free) : ∃ t, exec (.loadTellers h (l.map some)) s = .next t ∧
      s.seeFrame.LoadTaken t h .tellers tellerKey l ∧
      t = { l.foldl State.applyTeller s.seeFrame with tkc := t.tkc, dyc := t.dyc } := by
  have hkeys : tellersRule.fits s.seeFrame l = true := by
    refine keysFit_of_length ?_
    have hplaces : Config.tellerPlaces = 32 := rfl
    omega
  have hfault : s.seeFrame.loadFault tellersRule (l.map some) = none := by
    rw [loadFault_unused (tellers_day ht) hl hok (tellers_unused ht), if_pos hkeys]
  obtain ⟨t, hrun, htaken, hblocks⟩ := tellersRule_tableOnly.taken ha hfault
  exact ⟨t, congrArg Host.Outcome.next hrun, htaken, hblocks⟩

theorem loadSat_taken {l : List SatLoad} (ha : s.Accepts h) (hday : s.seeFrame.dyc.day = .loading) (hl : l ≠ [])
    (hok : l.all satLoadOk = true) (hfits : l.length + s.seeFrame.siu.sat.length ≤ 4096) :
    ∃ t, exec (.loadSat h (l.map some)) s = .next t ∧ s.seeFrame.LoadTaken t h .sat SatLoad.account l ∧
      t = { l.foldl State.applySat s.seeFrame with tkc := t.tkc, dyc := t.dyc } := by
  have hkeys : satRule.fits s.seeFrame l = true := by
    refine keysFit_of_length ?_
    have hplaces : Config.satPlaces = 4096 := rfl
    rw [List.length_map]
    omega
  have hfault : s.seeFrame.loadFault satRule (l.map some) = none := by
    rw [loadFault_unused (List.mem_singleton.2 hday) hl hok fun _ => sat_unused, if_pos hkeys]
  obtain ⟨t, hrun, htaken, hblocks⟩ := satRule_tableOnly.taken ha hfault
  exact ⟨t, congrArg Host.Outcome.next hrun, htaken, hblocks⟩

/-! ### The parameters record (R72, R75, R157) -/

/-- The parameters record and the drawers' limits, before cash-high is judged (R72). -/
def State.limited (s : State) (p : Params) : State :=
  { s with
    dyc := { s.dyc with params := p }
    csu := { s.csu with drawers := s.csu.drawers.map fun d => { d with limit := p.cashHigh.getD d.number d.limit } } }

theorem applyParams_eq (p : Params) : s.applyParams p = (List.range 25).foldl State.judgeCashHigh (s.limited p) := rfl

/-- Two tables with the same keys, each once, that read the same are the same. -/
theorem eq_of_findKey {α : Type} {key : α → Nat} {l m : List α} (hkeys : l.map key = m.map key) (hn : (l.map key).Nodup)
    (hfind : ∀ k, findKey key k l = findKey key k m) : l = m := by
  induction l generalizing m with
  | nil => exact (List.map_eq_nil_iff.1 hkeys.symm).symm
  | cons x l ih =>
    cases m with
    | nil => cases hkeys
    | cons y m =>
      obtain ⟨hxy, htail⟩ := List.cons_eq_cons.1 hkeys
      obtain ⟨hx, hl⟩ := List.nodup_cons.1 hn
      have hhead : some x = some y := by
        have hat := hfind (key x)
        rwa [findKey_cons, findKey_cons, if_pos rfl, if_pos hxy.symm] at hat
      rw [Option.some.inj hhead, ih htail hl fun k => ?_]
      by_cases hk : key x = k
      · have hnone : ∀ {q : List α}, q.map key = l.map key → findKey key k q = none := fun hq =>
          findKey_none.2 fun z hz hzk => hx (hk ▸ hzk ▸ hq ▸ List.mem_map_of_mem hz)
        rw [hnone rfl, hnone htail.symm]
      · have hat := hfind k
        rwa [findKey_cons, findKey_cons, if_neg hk, if_neg (hxy ▸ hk)] at hat

theorem Drawer.judged_judged (w : Drawer) : w.judged.judged = w.judged := rfl

theorem judgeCashHigh_numbers : (s.judgeCashHigh n).csu.drawers.map Drawer.number = s.csu.drawers.map Drawer.number := by
  unfold State.judgeCashHigh
  split
  · split
    · rfl
    · have hcsu : ∀ v : State, (v.queueHolder n).csu = v.csu := fun v => by simp
      rw [hcsu]
      exact modifyKey_map_key fun _ h => h
  · rfl

/-- What judging cash-high of several drawers leaves: the drawers alone, each of them judged (R75). -/
theorem foldl_judgeCashHigh (l : List Nat) : ∀ s : State,
    l.foldl State.judgeCashHigh s = { s with
      lpc := (l.foldl State.judgeCashHigh s).lpc
      csu := { s.csu with drawers := (l.foldl State.judgeCashHigh s).csu.drawers } } ∧
    (l.foldl State.judgeCashHigh s).lpc.unmarked = s.lpc.unmarked ∧
    (l.foldl State.judgeCashHigh s).csu.drawers.map Drawer.number = s.csu.drawers.map Drawer.number ∧
    ∀ m, (l.foldl State.judgeCashHigh s).drawerAt m = (s.drawerAt m).map fun w => if m ∈ l then w.judged else w := by
  induction l with
  | nil => exact fun s => ⟨rfl, rfl, rfl, fun m => by simp⟩
  | cons n l ih =>
    intro s
    obtain ⟨hblocks, hlpc, hnumbers, hat⟩ := ih (s.judgeCashHigh n)
    have hfirst : s.judgeCashHigh n = { s with lpc := (s.judgeCashHigh n).lpc, csu := { s.csu with
        drawers := (s.judgeCashHigh n).csu.drawers } } := by
      apply State.eq_of_blocks <;> simp [← csu_judgeCashHigh]
    refine ⟨?_, hlpc.trans (unmarked_judgeCashHigh n), hnumbers.trans judgeCashHigh_numbers, fun m => ?_⟩
    · rw [List.foldl_cons]
      refine hblocks.trans ?_
      rw [hfirst]
    · rw [List.foldl_cons, hat, drawerAt_judgeCashHigh, Option.map_map]
      congr 1
      funext w
      by_cases hm : m = n <;> by_cases hl : m ∈ l <;> simp [hm, hl, Drawer.judged_judged]

/-- A drawer under a new parameters record: its limit, and cash-high judged by it (R72, R75). -/
def Drawer.relimited (p : Params) (d : Drawer) : Drawer := { d with limit := p.cashHigh.getD d.number d.limit }.judged

theorem applyParams_drawers {p : Params} (hn : s.csu.drawers.map Drawer.number = List.range 25) :
    (s.applyParams p).csu.drawers = s.csu.drawers.map (Drawer.relimited p) := by
  obtain ⟨-, -, hnumbers, hat⟩ := foldl_judgeCashHigh (List.range 25) (s.limited p)
  have hlimited : (s.limited p).csu.drawers.map Drawer.number = s.csu.drawers.map Drawer.number := by
    rw [State.limited, List.map_map]
    rfl
  have hjudged : (s.csu.drawers.map (Drawer.relimited p)).map Drawer.number = s.csu.drawers.map Drawer.number := by
    rw [List.map_map]
    rfl
  rw [applyParams_eq]
  refine eq_of_findKey (key := Drawer.number) (by rw [hnumbers, hlimited, hjudged]) ?_ fun k => (hat k).trans ?_
  · rw [hnumbers, hlimited, hn]
    exact List.nodup_range
  · have hread : (s.limited p).drawerAt k = (s.drawerAt k).map fun d => { d with limit := p.cashHigh.getD d.number d.limit } :=
      findKey_map fun _ => rfl
    have hgoal : findKey Drawer.number k (s.csu.drawers.map (Drawer.relimited p)) = (s.drawerAt k).map (Drawer.relimited p) :=
      findKey_map fun _ => rfl
    rw [hread, hgoal, Option.map_map]
    cases hd : s.drawerAt k with
    | none => rfl
    | some d =>
      have hin : k ∈ List.range 25 := by
        rw [← hn, ← drawerAt_number hd]
        exact List.mem_map_of_mem (findKey_mem hd)
      exact congrArg some (if_pos hin)

theorem applyParams_effects (p : Params) : s.applyParams p = { s with
      lpc := (s.applyParams p).lpc, csu := { s.csu with drawers := (s.applyParams p).csu.drawers }
      dyc := { s.dyc with params := p } } ∧ (s.applyParams p).lpc.unmarked = s.lpc.unmarked := by
  rw [applyParams_eq]
  generalize List.range 25 = l
  exact foldl_judgeCashHigh l (s.limited p) |>.imp_right And.left

/-- The entry of a PARAMETERS load: the record and the drawers, and its key (R156, R157). -/
theorem loadEntry_params {p : Params} : State.loadEntry paramsRule s p = (s.applyParams p).onDyc fun y => { y with
    loaded := kindSet y.loaded .parameters (joinKey (kindGet y.loaded .parameters) 0) } := by
  rw [State.loadEntry]
  simp only [paramsRule, plainRule]

/-- A PARAMETERS load that is taken, entry and answer (R156, R157). -/
theorem loadParameters_taken {p : Params} (ha : s.Accepts h) (hday : s.seeFrame.dyc.day = .noDay ∨ s.seeFrame.dyc.day = .loading)
    (hok : paramsOk p = true) : exec (.loadParameters h [some p]) s = .next
      ((State.loadEntry paramsRule s.seeFrame p).pushNode
        ⟨h.tag, .loadAck .parameters (State.loadEntry paramsRule s.seeFrame p).dyc.loaded.parameters.length⟩) := by
  have haccepted : s.seeFrame.dyc.day ∈ loadDay .parameters := by
    rcases hday with hd | hd <;> rw [hd] <;> decide
  have hall : [p].all paramsRule.ok = true := List.all_eq_true.2 fun e he => by rw [List.mem_singleton.1 he]; exact hok
  have hfault : s.seeFrame.loadFault paramsRule ([p].map some) = none :=
    loadFault_plain haccepted (List.cons_ne_nil p []) hall ⟨fun _ _ => rfl, fun _ _ => rfl⟩
  have hrun := load_accepted ha hfault
  have hone : s.seeFrame.loadAll paramsRule [p] = State.loadEntry paramsRule s.seeFrame p := rfl
  rw [hone] at hrun
  exact congrArg Host.Outcome.next hrun

/-- Settles O45: the tellers, the accounts and the parameters record. -/
theorem tellersAccountsAndParametersAreLoaded : Obligations.TellersAccountsAndParametersAreLoaded := by
  unfold Obligations.TellersAccountsAndParametersAreLoaded
  refine ⟨?_, ?_⟩
  · rintro s u h ha rfl
    refine ⟨fun l ht hl hok hfree => ?_, fun l hday hl hok hfits => ?_⟩
    · obtain ⟨free, hsum, hlength⟩ := hfree
      obtain ⟨t, hexec, htaken, hblocks⟩ := loadTellers_taken ha ht hl hok hsum hlength
      have hread : ∀ n, t.tellerOf n = (l.foldl State.applyTeller s.seeFrame).tellerOf n := fun n =>
        tellerOf_congr (by rw [hblocks])
      refine ⟨t, hexec, htaken, ?_, fun n hn => (hread n).trans (tellerOf_foldl_applyTeller hn _), fun e he => ?_⟩
      · have hrqu : t.rqu = (l.foldl State.applyTeller s.seeFrame).rqu := by rw [hblocks]
        rw [hrqu]
        exact hblocks.trans (congrArg (fun v : State => { v with tkc := t.tkc, dyc := t.dyc })
          (foldl_applyTeller_blocks l s.seeFrame))
      · subst he
        cases e with
        | remove n =>
          have herase : (s.seeFrame.applyTeller (.remove n)).tellerOf n = none := findKey_eraseKey.trans (if_pos rfl)
          exact (hread n).trans herase
        | load n role training check limit restriction drawer =>
          have hput : (s.seeFrame.applyTeller (.load n role training check limit restriction drawer)).tellerOf n = some _ :=
            findKey_putKey.trans (if_pos rfl)
          exact ⟨_, (hread n).trans hput, rfl, rfl, rfl, rfl, rfl, rfl, rfl, rfl⟩
    · obtain ⟨t, hexec, htaken, hblocks⟩ := loadSat_taken ha hday hl hok hfits
      have hread : ∀ n, t.satAt n = (l.foldl State.applySat s.seeFrame).satAt n := fun n => satAt_congr (by rw [hblocks])
      refine ⟨t, hexec, htaken, ?_, fun n => ?_⟩
      · have hsiu : t.siu = (l.foldl State.applySat s.seeFrame).siu := by rw [hblocks]
        rw [hsiu]
        exact hblocks.trans (congrArg (fun v : State => { v with tkc := t.tkc, dyc := t.dyc })
          (foldl_applySat_blocks l s.seeFrame))
      · obtain ⟨hnone, hsome⟩ := satAt_foldl_applySat (n := n) l s.seeFrame
        cases he : lastWith SatLoad.account n l with
        | none => exact (hread n).trans (hnone he)
        | some e =>
          obtain ⟨x, hx, hkind, hsnapshot, hlimit, hblocked, hused, hnet, hbook⟩ := hsome e he
          exact ⟨x, (hread n).trans hx, hkind, hsnapshot, hlimit, hblocked, hused, hnet, hbook⟩
  · rintro s u h p ha rfl hday hok hn
    obtain ⟨hblocks, hlpc⟩ := applyParams_effects (s := s.seeFrame) p
    have hdrawers := applyParams_drawers (s := s.seeFrame) (p := p) hn
    have hexec := loadParameters_taken ha hday hok
    rw [loadEntry_params] at hexec
    generalize s.seeFrame.applyParams p = v at hblocks hlpc hdrawers hexec
    rw [hdrawers] at hblocks
    refine ⟨_, hexec, ?_, ?_, ?_, lpc_unmarked hlpc, fun a => dropAt_unmarked (s := s.seeFrame) (t := v) hlpc a, ?_⟩
    · rw [hblocks]
      rfl
    · rw [hblocks]
      rfl
    · rw [hblocks]
      rfl
    · rw [hblocks]
      rfl

end Sys2Proof.Machine
end

section
/-! SUPPORT. The acknowledgments of the batch and its block timer, and the statement O47. -/

namespace Sys2Proof.Machine

variable {s t u : State} {h : FrameHeader} {n k : Nat} {b : Batch}

/-! ### A block that is acknowledged (R172) -/

theorem exec_blockAck (hr : s.Receives h) : exec (.blockAck h n) s = .next (s.seeFrame.blockAck n) :=
  congrArg Host.Outcome.next (whileRunning_onFrame_of_receives hr)

theorem exec_blockNak (hr : s.Receives h) : exec (.blockNak h n) s = .next (s.seeFrame.blockNak n) :=
  congrArg Host.Outcome.next (whileRunning_onFrame_of_receives hr)

theorem inFlight_of (h1 : b.oldest ≤ n) (h2 : n < b.next) : b.inFlight n = true := decide_eq_true ⟨h1, h2⟩

theorem not_inFlight (h : n < b.oldest ∨ b.next ≤ n) : b.inFlight n = false :=
  decide_eq_false fun ⟨h1, h2⟩ => h.elim (fun h => absurd h1 (Nat.not_le.2 h)) fun h => absurd h2 (Nat.not_lt.2 h)

theorem onBatch_eq {f : Batch → Batch} (hb : u.dyc.batch = some b) :
    u.onBatch f = { u with dyc := { u.dyc with batch := some (f b) } } := by
  rw [State.onBatch, State.onDyc, hb]
  rfl

theorem blockAck_discarded (hb : u.dyc.batch = some b)
    (hd : (n < b.oldest ∨ b.next ≤ n) ∨ (u.dyc.day ≠ .sending ∧ u.dyc.day ≠ .sendStalled)) : u.blockAck n = u := by
  rw [State.blockAck]
  simp only [hb]
  rcases hd with hd | ⟨h1, h2⟩
  · rw [not_inFlight hd]
    rfl
  · split
    · cases hday : u.dyc.day with
      | sending => exact absurd hday h1
      | sendStalled => exact absurd hday h2
      | _ => rfl
    · rfl

theorem blockAck_taken (hb : u.dyc.batch = some b) (h1 : b.oldest ≤ n) (h2 : n < b.next)
    (hday : u.dyc.day = .sending ∨ u.dyc.day = .sendStalled) : u.blockAck n = { u with dyc := { u.dyc with
      batch := some { b with oldest := n + 1, attempts := 0, trailer := b.trailer || n == b.blocks + 1 }
      blockTimer := if u.dyc.day = .sendStalled then u.dyc.blockTimer
        else if n + 1 < b.next then .running u.dyc.params.blockTimer else .stopped } } := by
  rw [State.blockAck]
  simp only [hb, inFlight_of h1 h2, if_true, onBatch_eq hb]
  rcases hday with hday | hday
  · simp only [hday]
    split <;> rfl
  · simp only [hday]
    rfl

/-! ### The batch stalls at the fifth attempt (R174) -/

theorem stallAttempts_effects : u.stallAttempts k = { u with
      lpc := (u.stallAttempts k).lpc, dyc := (u.stallAttempts k).dyc, tkc := (u.stallAttempts k).tkc } ∧
    (u.stallAttempts k).dyc = { u.dyc with day := .sendStalled, blockTimer := .stopped, resumed := false } ∧
    (u.nodeRoom = true → (u.stallAttempts k).tkc.nodeQueue = u.tkc.nodeQueue ++ [⟨0, .nodeStatus (.batchStalled k)⟩]) := by
  have hqueue : u.stall.tkc.nodeQueue = u.tkc.nodeQueue := by rw [stall_tkc]
  refine ⟨?_, ?_, fun hroom => ?_⟩
  · apply State.eq_of_blocks <;> simp [State.stallAttempts, State.stall]
  · rw [State.stallAttempts, ← stall_dyc]
    simp
  · rw [State.stallAttempts, raise_queued ((nodeRoom_congr hqueue).trans hroom), hqueue]

/-! ### A block that is asked for again (R173) -/

theorem blockNak_discarded (hb : u.dyc.batch = some b) (hd : (n < b.oldest ∨ b.next ≤ n) ∨ u.dyc.day ≠ .sending) :
    u.blockNak n = u := by
  rw [State.blockNak]
  cases hday : u.dyc.day with
  | sending =>
    simp only [hb]
    rcases hd with hd | hd
    · rw [not_inFlight hd]
      rfl
    · exact absurd hday hd
  | _ => rfl

/-- Block `n` is the next to send, with its timer stopped (R173). -/
def State.askedAgain (u : State) (b : Batch) (n : Nat) : State :=
  { u with dyc := { u.dyc with batch := some (b.nak n), blockTimer := .stopped } }

theorem blockNak_taken (hb : u.dyc.batch = some b) (h1 : b.oldest ≤ n) (h2 : n < b.next) (hday : u.dyc.day = .sending) :
    u.blockNak n = if 5 ≤ (b.nak n).attempts then (u.askedAgain b n).stallAttempts n else u.askedAgain b n := by
  have hasked : (u.onBatch fun b => b.nak n).stopBlockTimer = u.askedAgain b n := by
    rw [onBatch_eq hb]
    rfl
  rw [State.blockNak]
  simp only [hday, hb, inFlight_of h1 h2, if_true, hasked]

/-! ### The block timer (R174) -/

theorem exec_blockTimerExpiry (hr : s.isRunning = true) : exec .blockTimerExpiry s = .next s.blockExpiry :=
  congrArg Host.Outcome.next (whileRunning_of hr)

/-- An attempt more is counted, with the timer stopped (R174). -/
def State.attempted (u : State) (b : Batch) : State :=
  { u with dyc := { u.dyc with batch := some { b with attempts := b.attempts + 1 }, blockTimer := .stopped } }

theorem blockExpiry_taken (hb : s.dyc.batch = some b) (ht : s.dyc.blockTimer ≠ .stopped) : s.blockExpiry =
    if 5 ≤ b.attempts + 1 then (s.attempted b).stallAttempts b.oldest
    else (s.attempted b).onBatch fun b => { b with next := b.oldest } := by
  rw [State.blockExpiry, if_neg ht]
  simp only [hb, onBatch_eq hb]
  rfl

/-- Settles O47: an acknowledgment, a request for a block, and the block timer. -/
theorem blocksAreAcknowledged : Obligations.BlocksAreAcknowledged := by
  unfold Obligations.BlocksAreAcknowledged
  refine ⟨?_, fun s b hr hb => ?_⟩
  · rintro s u h n b hr rfl hb
    rw [exec_blockAck hr, exec_blockNak hr]
    refine ⟨fun hd => congrArg _ (blockAck_discarded hb hd), fun h1 h2 hday => congrArg _ (blockAck_taken hb h1 h2 hday),
      fun hd => congrArg _ (blockNak_discarded hb hd), fun h1 h2 hday => ?_⟩
    have hattempts : (b.nak n).attempts = (if n = b.oldest then b.attempts else 0) + 1 := rfl
    rw [blockNak_taken hb h1 h2 hday]
    by_cases hfive : 5 ≤ (b.nak n).attempts
    · obtain ⟨hblocks, hdyc, hqueue⟩ := stallAttempts_effects (u := s.seeFrame.askedAgain b n) (k := n)
      rw [if_pos hfive]
      refine ⟨_, rfl, by rw [hdyc]; rfl, by rw [hdyc], fun hless => ?_, fun _ => ⟨hblocks.trans rfl, by rw [hdyc], hqueue⟩⟩
      exact absurd hless (Nat.not_lt.2 (hattempts ▸ hfive))
    · rw [if_neg hfive]
      exact ⟨_, rfl, rfl, rfl, fun _ => ⟨rfl, hday⟩, fun hmore => absurd (hattempts ▸ hmore) hfive⟩
  · rw [exec_blockTimerExpiry hr]
    refine ⟨fun ht => congrArg _ (if_pos ht), fun ht hless => ?_, fun ht hmore => ?_⟩
    · rw [blockExpiry_taken hb ht, if_neg (Nat.not_le.2 hless)]
      rfl
    · obtain ⟨hblocks, hdyc, hqueue⟩ := stallAttempts_effects (u := s.attempted b) (k := b.oldest)
      rw [blockExpiry_taken hb ht, if_pos hmore]
      exact ⟨_, rfl, by rw [hdyc], by rw [hdyc], by rw [hdyc], by rw [hdyc]; rfl, hblocks.trans rfl, hqueue⟩

end Sys2Proof.Machine
end

section
/-! SUPPORT. Resumption, sending again and the verdict, and the statements O48 and O49. -/

namespace Sys2Proof.Machine

variable {s t u : State} {h : FrameHeader} {n k : Nat} {b : Batch} {v : Verdict} {theirs : Totals}

/-! ### BATCH-RESUME (R176) -/

theorem exec_batchResume_wrongState (ha : s.Accepts h) (hd : s.seeFrame.dyc.day ≠ .sendStalled ∨
      s.seeFrame.tkc.link ≠ .online ∨ s.seeFrame.dyc.batch = none) :
    exec (.batchResume h n) s = .next (s.seeFrame.nodeStatus h (.wrongState .batchResume)) := by
  have hexec : exec (.batchResume h n) s = execBatchResume h n s := rfl
  rw [hexec, execBatchResume]
  simp only [State.batchResume, whileRunning_onAnswered_of_accepts ha]
  split
  · next hday hlink hb =>
    rcases hd with hd | hd | hd
    · exact absurd hday hd
    · exact absurd hlink hd
    · cases hb.symm.trans hd
  · rfl

theorem exec_batchResume_stalled (ha : s.Accepts h) (hday : s.seeFrame.dyc.day = .sendStalled)
    (hlink : s.seeFrame.tkc.link = .online) (hb : s.seeFrame.dyc.batch = some b) : exec (.batchResume h n) s = .next
      (if 1 ≤ n ∧ n ≤ b.next then s.seeFrame.resumeBatch (min n b.oldest) n (b.trailer && decide (b.blocks + 1 < n))
        else s.seeFrame.refuseResume h b n) := by
  have hexec : exec (.batchResume h n) s = execBatchResume h n s := rfl
  rw [hexec, execBatchResume]
  simp only [State.batchResume, whileRunning_onAnswered_of_accepts ha, hday, hlink, hb]

/-- A day that is shown the same changes without a status line (R18). -/
theorem setDay_silent {day : DayState} (h : shownDay u.dyc.day = shownDay day) :
    u.setDay day = { u with dyc := { u.dyc with day := day } } := by
  simp only [State.setDay]
  exact if_pos h

theorem resumeBatch_stalled {oldest next : Nat} {trailer : Bool} (hday : u.dyc.day = .sendStalled) (hb : u.dyc.batch = some b) :
    u.resumeBatch oldest next trailer = { u with dyc := { u.dyc with
      day := .sending, resumed := decide (next ≤ b.blocks + 1)
      batch := some { b with oldest := oldest, next := next, attempts := 0, trailer := trailer } } } := by
  rw [State.resumeBatch]
  simp only [hb]
  rw [setDay_silent (by rw [State.onDyc_dyc, hday]; decide)]
  rfl

/-! ### RESEND-BATCH (R178) -/

theorem exec_resendBatch (ha : s.Accepts h) : exec (.resendBatch h) s = .next
    (if s.seeFrame.dyc.day = .sent then
      (((((s.seeFrame.onBatch Batch.again).onSiu fun u => { u with
        sfq := refillSfq s.seeFrame.jnc.records ((s.seeFrame.dyc.batch.map (·.records)).getD 0) }).onDyc fun y =>
        { y with resumed := false }).setDay .sending).stallUnlessOnline)
    else s.seeFrame.nodeStatus h (.wrongState .resendBatch)) :=
  congrArg Host.Outcome.next (whileRunning_onAnswered_of_accepts ha)

theorem mem_refillSfq {l : List Record} {e : SfqEntry} : e ∈ refillSfq l n ↔ ∃ r ∈ l, r.seq ≤ n ∧ r.seq = e.seq ∧
    ((e.kind = .posting ∧ r.disposition = some .advicePending) ∨
      (e.kind = .reversal ∧ r.disposition = some .reversalPending)) := by
  have hentry : ∀ r : Record, pendingEntry r = some e ↔ r.seq = e.seq ∧
      ((e.kind = .posting ∧ r.disposition = some .advicePending) ∨
        (e.kind = .reversal ∧ r.disposition = some .reversalPending)) := fun r => by
    obtain ⟨seq, kind⟩ := e
    unfold pendingEntry
    split
    · next hr => rw [hr]; simp [eq_comm]
    · next hr => rw [hr]; simp [eq_comm]
    · next h1 h2 =>
      refine ⟨nofun, ?_⟩
      rintro ⟨-, ⟨-, hr⟩ | ⟨-, hr⟩⟩
      · exact absurd hr h1
      · exact absurd hr h2
  simp only [refillSfq, List.mem_filterMap, List.mem_filter, decide_eq_true_iff, hentry, and_assoc]

theorem stallUnlessOnline_effects : u.stallUnlessOnline = { u with
      lpc := u.stallUnlessOnline.lpc, tkc := u.stallUnlessOnline.tkc, dyc := u.stallUnlessOnline.dyc } ∧
    u.stallUnlessOnline.tkc.nodeQueue = u.tkc.nodeQueue ∧
    u.stallUnlessOnline.dyc.batch = u.dyc.batch ∧
    (u.dyc.resumed = false → u.stallUnlessOnline.dyc.resumed = false) ∧
    u.stallUnlessOnline.dyc.day = if u.tkc.link = .online then u.dyc.day else .sendStalled := by
  by_cases hl : u.tkc.link = .online
  · have hkept : u.stallUnlessOnline = u := if_pos hl
    rw [hkept, if_pos hl]
    exact ⟨rfl, rfl, rfl, id, rfl⟩
  · have hstall : u.stallUnlessOnline = u.stall := if_neg hl
    rw [hstall, if_neg hl, stall_dyc, stall_tkc]
    refine ⟨?_, rfl, rfl, fun _ => rfl, rfl⟩
    apply State.eq_of_blocks <;> simp [State.stall, State.forgetResumption, setDay_dyc]

/-- Settles O48: a batch that resumes, and one that is sent again. -/
theorem batchResumesOrStartsAgain : Obligations.BatchResumesOrStartsAgain := by
  unfold Obligations.BatchResumesOrStartsAgain
  refine ⟨?_, ?_⟩
  · rintro s u h n ha rfl
    refine ⟨fun hd => exec_batchResume_wrongState ha hd, fun b hday hlink hb => ?_⟩
    rw [exec_batchResume_stalled ha hday hlink hb]
    refine ⟨fun hn => ?_, fun h1 h2 => ?_⟩
    · rw [if_neg (by omega), State.refuseResume, onBatch_eq hb]
      rfl
    · rw [if_pos ⟨h1, h2⟩, resumeBatch_stalled hday hb]
      exact ⟨_, rfl, rfl, rfl⟩
  · rintro s u h b ha rfl
    rw [exec_resendBatch ha]
    refine ⟨fun hday => congrArg _ (if_neg hday), fun hday hb => ?_⟩
    rw [if_pos hday, onBatch_eq hb, hb]
    obtain ⟨w, hw⟩ : ∃ w : State, w = { s.seeFrame with
        siu := { s.seeFrame.siu with sfq := refillSfq s.seeFrame.jnc.records b.records }
        dyc := { s.seeFrame.dyc with batch := some b.again, resumed := false } } := ⟨_, rfl⟩
    have hset := setDay_blocks (u := w) .sending
    obtain ⟨hblocks, hqueue, hbatch, hresumed, hsend⟩ := stallUnlessOnline_effects (u := w.setDay .sending)
    have hstate : (w.setDay .sending).stallUnlessOnline.siu = w.siu ∧ (w.setDay .sending).stallUnlessOnline.jnc = w.jnc ∧
        (w.setDay .sending).stallUnlessOnline.csu = w.csu ∧ (w.setDay .sending).stallUnlessOnline.rqu = w.rqu := by
      rw [hblocks]
      simp
    obtain ⟨hsiu, hjnc, hcsu, hrqu⟩ := hstate
    refine ⟨(w.setDay .sending).stallUnlessOnline, by rw [hw]; rfl, ?_, ?_, hresumed ?_, ?_, ?_, ?_, ?_, ?_, fun e => ?_⟩
    · rw [hbatch, hset, hw]
      rfl
    · rw [hsend, hset, hw]
    · rw [hset, hw]
    · rw [hjnc, hw]
    · rw [hcsu, hw]
    · rw [hrqu, hw]
    · rw [hqueue, hset, hw]
    · rw [hsiu, hw]
    · rw [hsiu, hw]
      exact mem_refillSfq

/-! ### BATCH-VERDICT (R177) -/

theorem exec_batchVerdict_none (ha : s.Accepts h) (hb : s.seeFrame.dyc.batch = none) :
    exec (.batchVerdict h theirs) s = .next (s.seeFrame.nodeStatus h (.wrongState .batchVerdict)) := by
  have hexec : exec (.batchVerdict h theirs) s = execBatchVerdict h theirs s := rfl
  rw [hexec, execBatchVerdict]
  simp only [State.batchVerdict, whileRunning_onAnswered_of_accepts ha, hb]

theorem exec_batchVerdict_taken (ha : s.Accepts h) (hb : s.seeFrame.dyc.batch = some b)
    (hw : (awaitsVerdict s.seeFrame.dyc.day && b.trailer) = true) : exec (.batchVerdict h theirs) s = .next
      ((s.seeFrame.takeVerdict (compareTotals b.totals theirs)).nodeStatus h
        (verdictCondition (compareTotals b.totals theirs))) := by
  have hexec : exec (.batchVerdict h theirs) s = execBatchVerdict h theirs s := rfl
  rw [hexec, execBatchVerdict]
  simp only [State.batchVerdict, whileRunning_onAnswered_of_accepts ha, hb, hw, if_true]

theorem exec_batchVerdict_kept (ha : s.Accepts h) (hb : s.seeFrame.dyc.batch = some b) (hday : s.seeFrame.dyc.day = .sent)
    (hv : b.verdict = some v) :
    exec (.batchVerdict h theirs) s = .next (s.seeFrame.nodeStatus h (verdictCondition v)) := by
  have hexec : exec (.batchVerdict h theirs) s = execBatchVerdict h theirs s := rfl
  have hnot : awaitsVerdict .sent = false := rfl
  rw [hexec, execBatchVerdict]
  simp only [State.batchVerdict, whileRunning_onAnswered_of_accepts ha, hb, hday, hv, hnot, Bool.false_and]
  rfl

theorem exec_batchVerdict_wrongState (ha : s.Accepts h) (hb : s.seeFrame.dyc.batch = some b)
    (hday : s.seeFrame.dyc.day ≠ .sent) (hw : (awaitsVerdict s.seeFrame.dyc.day && b.trailer) = false) :
    exec (.batchVerdict h theirs) s = .next (s.seeFrame.nodeStatus h (.wrongState .batchVerdict)) := by
  have hexec : exec (.batchVerdict h theirs) s = execBatchVerdict h theirs s := rfl
  rw [hexec, execBatchVerdict]
  simp only [State.batchVerdict, whileRunning_onAnswered_of_accepts ha, hb, hw]
  split
  · next hc => cases hc
  · split
    · next hd _ => exact absurd hd hday
    · rfl

theorem awaitsVerdict_iff {d : DayState} : awaitsVerdict d = true ↔ d = .sending ∨ d = .sendStalled := by
  cases d <;> decide

theorem totalsList_injective {p q : Totals} : totalsList p = totalsList q ↔ p = q := by
  cases p
  cases q
  simp [totalsList]

/-- The comparison names the first position that differs, and none when the lists are equal (R177). -/
theorem firstDifference_spec {i : Nat} {xs ys : List Int} (hlen : xs.length = ys.length) :
    (firstDifference i xs ys = .agreed ↔ xs = ys) ∧ ∀ k x y, firstDifference i xs ys = .disputed k x y →
      i ≤ k ∧ xs[k - i]? = some x ∧ ys[k - i]? = some y ∧ x ≠ y ∧ xs.take (k - i) = ys.take (k - i) := by
  induction xs generalizing i ys with
  | nil =>
    cases ys with
    | nil => exact ⟨⟨fun _ => rfl, fun _ => rfl⟩, nofun⟩
    | cons y ys => cases hlen
  | cons x xs ih =>
    cases ys with
    | nil => cases hlen
    | cons y ys =>
      rw [firstDifference]
      by_cases hxy : x = y
      · obtain ⟨hagree, hfirst⟩ := ih (i := i + 1) (ys := ys) (Nat.succ.inj hlen)
        rw [if_pos hxy]
        refine ⟨by rw [hagree, List.cons_eq_cons]; exact ⟨fun h => ⟨hxy, h⟩, And.right⟩, fun k a c hd => ?_⟩
        obtain ⟨hk, ha, hc, hne, htake⟩ := hfirst k a c hd
        obtain ⟨j, rfl⟩ : ∃ j, k = i + 1 + j := ⟨k - (i + 1), by omega⟩
        have hj : i + 1 + j - i = j + 1 := by omega
        have hj' : i + 1 + j - (i + 1) = j := by omega
        rw [hj'] at ha hc htake
        rw [hj]
        exact ⟨by omega, by simpa using ha, by simpa using hc, hne, by rw [List.take_succ_cons, List.take_succ_cons, hxy, htake]⟩
      · rw [if_neg hxy]
        refine ⟨⟨nofun, fun h => absurd (List.cons_eq_cons.1 h).1 hxy⟩, fun k a c hd => ?_⟩
        cases hd
        simp [hxy]

/-- A verdict that is taken (R177). -/
theorem takeVerdict_effects (hb : u.dyc.batch = some b) : u.takeVerdict v = { u with
      lpc := (u.takeVerdict v).lpc
      siu := { u.siu with sfq := [] }
      dyc := { u.dyc with day := .sent, blockTimer := .stopped, batch := some { b with verdict := some v } } } := by
  rw [State.takeVerdict, onBatch_eq hb]
  refine (congrArg (fun w : State => w.onSiu fun u => { u with sfq := [] }) (setDay_blocks .sent)).trans ?_
  rfl

/-- Settles O49: the verdict by the day, the trailer and the totals. -/
theorem verdictIsTaken : Obligations.VerdictIsTaken := by
  unfold Obligations.VerdictIsTaken
  rintro s u h theirs ha rfl
  refine ⟨fun hb => exec_batchVerdict_none ha hb, fun b hb => ⟨fun htrailer hday => ?_, fun v hday hv =>
    exec_batchVerdict_kept ha hb hday hv, fun hd => ?_⟩⟩
  · have hawaits : (awaitsVerdict s.seeFrame.dyc.day && b.trailer) = true := by
      rw [awaitsVerdict_iff.2 hday, htrailer]
      rfl
    have hexec := exec_batchVerdict_taken (theirs := theirs) ha hb hawaits
    have heffects := takeVerdict_effects (v := compareTotals b.totals theirs) hb
    obtain ⟨hagree, hfirst⟩ := firstDifference_spec (i := 1) (xs := totalsList b.totals) (ys := totalsList theirs) rfl
    refine ⟨_, compareTotals b.totals theirs, hexec, ?_, ?_, ?_, ?_, ?_, hagree.trans totalsList_injective, hfirst, ?_⟩
    · rw [heffects]
      rfl
    · rw [heffects]
      rfl
    · rw [heffects]
      rfl
    · rw [heffects]
      rfl
    · rw [heffects]
      rfl
    · rw [heffects]
      rfl
  · refine exec_batchVerdict_wrongState ha hb ?_ ?_
    · rcases hd with ⟨-, hd⟩ | ⟨-, -, hd⟩ <;> exact hd
    · rcases hd with ⟨hd, -⟩ | ⟨h1, h2, -⟩
      · rw [hd, Bool.and_false]
      · rw [Bool.and_eq_false_iff]
        exact .inl (Bool.eq_false_iff.2 fun hc => (awaitsVerdict_iff.1 hc).elim h1 h2)

end Sys2Proof.Machine
end

section
/-! SUPPORT. The end of the day, and the statement O50. -/

namespace Sys2Proof.Machine

variable {s t u : State} {h : FrameHeader} {n k : Nat}

/-! ### The drawers that are rolled (R88) -/

theorem Sums.roll_position (x : Sums) : x.roll.position = x.position := by simp [Sums.roll, Sums.position]

/-- A rolled drawer's home position is its new opening, so cash-high is judged by the old position (R88). -/
theorem Drawer.roll_judged (w : Drawer) : w.roll.judged = { w with
    home := ⟨w.home.position, 0, 0, 0, 0, 0⟩, foreign := ⟨w.foreign.position, 0, 0, 0, 0, 0⟩
    assigned := none, balance := .notDue, declaration := none
    cashHigh := decide ((w.limit : Int) < w.home.position) } := by
  have hhigh : w.roll.judged.cashHigh = decide ((w.limit : Int) < w.home.roll.position) := rfl
  rw [Sums.roll_position] at hhigh
  rw [← hhigh]
  rfl

/-- The drawers rolled, before cash-high is judged again (R88). -/
def State.rolled (u : State) : State :=
  { u with csu := { u.csu with drawers := u.csu.drawers.map Drawer.roll, netHome := 0, netForeign := 0 } }

theorem rollDrawers_eq : u.rollDrawers = (List.range 25).foldl State.judgeCashHigh u.rolled := rfl

/-- Judging every drawer of a whole table judges each of them (R75). -/
theorem foldl_judgeCashHigh_drawers {l : List Nat} (hl : l.Nodup) (hn : u.csu.drawers.map Drawer.number = l) :
    (l.foldl State.judgeCashHigh u).csu.drawers = u.csu.drawers.map Drawer.judged := by
  obtain ⟨-, -, hnumbers, hat⟩ := foldl_judgeCashHigh l u
  have hjudged : (u.csu.drawers.map Drawer.judged).map Drawer.number = u.csu.drawers.map Drawer.number := by
    rw [List.map_map]
    rfl
  refine eq_of_findKey (key := Drawer.number) (by rw [hnumbers, hjudged]) (by rw [hnumbers, hn]; exact hl) fun m =>
    (hat m).trans ?_
  have hgoal : findKey Drawer.number m (u.csu.drawers.map Drawer.judged) = (u.drawerAt m).map Drawer.judged :=
    findKey_map fun _ => rfl
  rw [hgoal]
  cases hd : u.drawerAt m with
  | none => rfl
  | some d =>
    have hin : m ∈ l := by
      rw [← hn, ← drawerAt_number hd]
      exact List.mem_map_of_mem (findKey_mem hd)
    exact congrArg some (if_pos hin)

theorem rollDrawers_effects (hn : u.csu.drawers.map Drawer.number = List.range 25) : u.rollDrawers = { u with
      lpc := u.rollDrawers.lpc
      csu := { u.csu with netHome := 0, netForeign := 0, drawers := u.csu.drawers.map fun w => w.roll.judged } } ∧
    u.rollDrawers.lpc.unmarked = u.lpc.unmarked := by
  have hrolled : u.rolled.csu.drawers.map Drawer.number = List.range 25 := by
    rw [← hn, State.rolled, List.map_map]
    rfl
  have hdrawers := foldl_judgeCashHigh_drawers List.nodup_range hrolled
  rw [rollDrawers_eq]
  generalize List.range 25 = l at hdrawers
  obtain ⟨hblocks, hlpc, -⟩ := foldl_judgeCashHigh l u.rolled
  have hmap : u.rolled.csu.drawers.map Drawer.judged = u.csu.drawers.map fun w => w.roll.judged := by
    rw [State.rolled, List.map_map]
    rfl
  rw [hdrawers, hmap] at hblocks
  exact ⟨hblocks, hlpc⟩

/-! ### The notices (R19) -/

theorem nextNotice_of_unmarked (hu : t.lpc.unmarked = u.lpc.unmarked) (hd : ∀ d ∈ u.lpc.drops, d.nextNotice = 1) :
    ∀ d ∈ t.lpc.drops, d.nextNotice = 1 := by
  intro d hdrop
  have hmem : { d with statusMark := false } ∈ t.lpc.unmarked.drops := List.mem_map.2 ⟨d, hdrop, rfl⟩
  rw [hu] at hmem
  obtain ⟨e, he, heq⟩ := List.mem_map.1 hmem
  have hnext := congrArg Drop.nextNotice heq
  exact hnext.symm.trans (hd e he)

/-- The notice table emptied, before the drops' marks are judged (R179). -/
def State.noticesGone (u : State) : State :=
  u.onLpc fun l => { l with
    notices := [], noticeCounter := 1
    drops := l.drops.map fun d => { d with nextNotice := 1 } }

theorem emptyNotices_effects : u.emptyNotices = { u with lpc := u.emptyNotices.lpc } ∧ u.emptyNotices.lpc.notices = [] ∧
    u.emptyNotices.lpc.noticeCounter = 1 ∧ u.emptyNotices.lpc.unmarked = u.noticesGone.lpc.unmarked :=
  ⟨rfl, rfl, rfl, unmarked_queueUnseen u⟩

/-! ### DAY-END (R179) -/

theorem exec_dayEnd (ha : s.Accepts h) : exec (.dayEnd h) s = .next
    (if s.seeFrame.dyc.day = .sent then s.seeFrame.endDay.nodeStatus h (.noDay s.seeFrame.dyc.date)
      else s.seeFrame.nodeStatus h (.wrongState .dayEnd)) :=
  congrArg Host.Outcome.next (whileRunning_onAnswered_of_accepts ha)

/-- The journal emptied, the drawers rolled and the nets cleared, before the notices go (R179). -/
def State.bookedOut (u : State) : State :=
  u.emptyJournal.rollDrawers.onSiu fun q => { q with sat := q.sat.map fun e => { e with net := 0 } }

theorem endDay_eq : u.endDay = (u.bookedOut.emptyNotices.onDyc fun y => { y with
    batch := none, cutoff := none, date := none, time := none }).setDay .noDay := rfl

theorem bookedOut_blocks (hn : u.csu.drawers.map Drawer.number = List.range 25) : u.bookedOut = { u with
    lpc := u.bookedOut.lpc
    csu := { u.csu with netHome := 0, netForeign := 0, drawers := u.csu.drawers.map fun w => w.roll.judged }
    siu := { u.siu with sat := u.siu.sat.map fun e => { e with net := 0 } }
    jnc := { u.jnc with records := [], counter := 0, postingsClosed := false } } := by
  have hcsu : u.emptyJournal.csu = u.csu := by simp
  obtain ⟨hroll, -⟩ := rollDrawers_effects (u := u.emptyJournal) (by rw [hcsu]; exact hn)
  rw [State.bookedOut]
  generalize u.emptyJournal.rollDrawers = v at hroll ⊢
  rw [hroll, emptyJournal_blocks]
  rfl

/-- What the end of the day leaves (R88, R179). -/
theorem endDay_effects (hn : u.csu.drawers.map Drawer.number = List.range 25) : u.endDay = { u with
      lpc := u.endDay.lpc
      csu := { u.csu with netHome := 0, netForeign := 0, drawers := u.csu.drawers.map fun w => w.roll.judged }
      siu := { u.siu with sat := u.siu.sat.map fun e => { e with net := 0 } }
      jnc := { u.jnc with records := [], counter := 0, postingsClosed := false }
      dyc := { u.dyc with day := .noDay, batch := none, cutoff := none, date := none, time := none } } ∧
    u.endDay.lpc.notices = [] ∧ u.endDay.lpc.noticeCounter = 1 ∧ ∀ d ∈ u.endDay.lpc.drops, d.nextNotice = 1 := by
  have hbooked := bookedOut_blocks hn
  rw [endDay_eq]
  generalize u.bookedOut = v at hbooked
  obtain ⟨hblocks, hnotices, hcounter, hdrops⟩ := emptyNotices_effects (u := v)
  have hlpc : ((v.emptyNotices.onDyc fun y => { y with batch := none, cutoff := none, date := none, time := none }).setDay
      .noDay).lpc.unmarked = v.emptyNotices.lpc.unmarked := unmarked_setDay _
  have hframe := lpc_unmarked hlpc
  refine ⟨?_, ?_, ?_, ?_⟩
  · refine (setDay_blocks .noDay).trans ?_
    rw [hblocks, hbooked]
    rfl
  · rw [hframe]
    exact hnotices
  · rw [hframe]
    exact hcounter
  · refine nextNotice_of_unmarked (u := v.noticesGone) (hlpc.trans hdrops) fun d hd => ?_
    obtain ⟨e, -, rfl⟩ := List.mem_map.1 hd
    rfl

/-- Settles O50: the day ends in SENT, and in any other day the frame is refused. -/
theorem dayEnds : Obligations.DayEnds := by
  unfold Obligations.DayEnds
  rintro s u h ha rfl hn
  rw [exec_dayEnd ha]
  refine ⟨fun hday => congrArg _ (if_neg hday), fun hday => ?_⟩
  obtain ⟨hblocks, hnotices, hcounter, hdrops⟩ := endDay_effects hn
  rw [if_pos hday]
  simp only [Drawer.roll_judged] at hblocks
  generalize s.seeFrame.endDay = v at hblocks hnotices hcounter hdrops
  refine ⟨_, rfl, ?_, ?_, ?_, ?_, hnotices, hcounter, hdrops, ?_, ?_⟩
  · rw [hblocks]
    rfl
  · rw [hblocks]
    rfl
  · rw [hblocks]
    rfl
  · rw [hblocks]
    rfl
  · rw [hblocks]
    rfl
  · rw [hblocks]
    rfl

end Sys2Proof.Machine
end

section
/-! SUPPORT. A drop's record but for its status mark, and what an ANNOUNCE does to it. -/

namespace Sys2Proof.Machine

variable {s t u : State} {a : Nat} {d e : Drop} {f : Drop → Drop} {m : DownMessage} {old now : Bool} {g : Signals}

/-! ### The record of a drop, up to its status mark -/

/-- Drop `a`'s record is `e`, whatever its status mark. -/
def State.Reads (s : State) (a : Nat) (e : Drop) : Prop := ∃ k, s.dropAt a = some { e with statusMark := k }

theorem reads_of (hd : s.dropAt a = some d) : s.Reads a d := ⟨d.statusMark, hd⟩

theorem State.Reads.congr (hr : s.Reads a e) (hl : t.lpc = s.lpc) : t.Reads a e := by
  obtain ⟨k, hk⟩ := hr
  exact ⟨k, (dropAt_congr hl).trans hk⟩

theorem State.Reads.marks (hr : s.Reads a e) (hl : t.lpc.unmarked = s.lpc.unmarked) : t.Reads a e := by
  obtain ⟨k, hk⟩ := hr
  obtain ⟨m, hm⟩ := dropAt_unmarked_some hl hk
  exact ⟨m, hm⟩

/-- A change of the record that does not look at the status mark. -/
theorem State.Reads.modify (hr : s.Reads a e) (hf : ∀ d : Drop, d.addr = a → (f d).addr = a)
    (hm : ∀ k, f { e with statusMark := k } = { f e with statusMark := k }) : (s.modifyDrop a f).Reads a (f e) := by
  obtain ⟨k, hk⟩ := hr
  refine ⟨k, ?_⟩
  rw [dropAt_modifyDrop hf, hk, ← hm]
  exact congrArg some (if_pos rfl)

theorem Drop.take_mark (l : LoopState) (k : Bool) :
    ({ e with statusMark := k } : Drop).take l m = { e.take l m with statusMark := k } := by
  simp only [Drop.take, Drop.canReceive]
  (repeat' split) <;> rfl

theorem State.Reads.handOver (hr : s.Reads a e) (m : DownMessage) : (s.handOver a m).Reads a (e.take s.lpc.loop m) :=
  hr.modify (fun d hd => (Drop.take_addr d _ m).trans hd) fun k => Drop.take_mark _ k

/-- A queued status line leaves a TELLER drop marked. -/
theorem State.Reads.queueStatus (hr : s.Reads a e) : ∃ k, (s.queueStatus a).dropAt a = some { e with statusMark := k } ∧
    (e.kind = .teller → k = true) := by
  obtain ⟨k, hk⟩ := hr
  refine ⟨k || e.kind == .teller, ?_, fun ht => by simp [ht]⟩
  rw [dropAt_queueStatus, hk, Option.map_some, if_pos rfl, Drop.queueStatus_eq]

theorem State.Reads.dropIs {p : Drop → Bool} (hr : s.Reads a e) (hp : ∀ k, p { e with statusMark := k } = p e) :
    s.dropIs a p = p e := by
  obtain ⟨k, hk⟩ := hr
  rw [State.dropIs, hk]
  exact hp k

/-! ### A confirmed change of DRAWER-OPEN (R77) -/

theorem drawerChanged_closed (hr : s.Reads a e) : (s.drawerChanged a false).Reads a { e with alert := false } :=
  hr.modify (fun _ h => h) fun _ => rfl

theorem drawerChanged_quiet (hr : s.Reads a e) (hq : (e.release || e.kind != .teller) = true) :
    s.drawerChanged a true = s.clearRelease a := by
  have his : (s.dropIs a fun d => d.release || d.kind != .teller) = true := by
    rw [hr.dropIs fun _ => rfl]
    exact hq
  rw [State.drawerChanged, if_pos rfl, if_pos his]

theorem drawerChanged_alarm (hr : s.Reads a e) (hq : (e.release || e.kind != .teller) = false) :
    s.drawerChanged a true = ((s.clearRelease a).setAlert a true).writeRecord (s.alertRecord a) := by
  have his : (s.dropIs a fun d => d.release || d.kind != .teller) = false := by
    rw [hr.dropIs fun _ => rfl]
    exact hq
  rw [State.drawerChanged, if_pos rfl, if_neg (by rw [his]; decide)]

/-- The drawer's part of a confirmed change between two readings (R15, R77). -/
def State.passDrawer (s : State) (a : Nat) (old now : Bool) : State := if old = now then s else s.drawerChanged a now

/-- What a drop's alert and release become, and the record asked for, when DRAWER-OPEN goes from `old` to `now`. -/
structure State.DrawerPassed (s t : State) (a : Nat) (e : Drop) (old now alert release : Bool) : Prop where
  reads : t.Reads a { e with alert := alert, release := release }
  same : now = old → alert = e.alert ∧ release = e.release ∧ t.jnc = s.jnc
  closed : now = false → old = true → alert = false ∧ release = e.release ∧ t.jnc = s.jnc
  opened : now = true → old = false → release = false
  quiet : now = true → old = false → (e.release || e.kind != .teller) = true → alert = e.alert ∧ t.jnc = s.jnc
  alarm : now = true → old = false → (e.release || e.kind != .teller) = false → alert = true ∧
    (s.journalTakes (.drawerAlert none) = true → s.Wrote t (s.alertRecord a)) ∧
    (s.journalTakes (.drawerAlert none) = false → t.jnc = s.jnc)

theorem passDrawer_effects (hr : s.Reads a e) (old now : Bool) :
    ∃ alert release, s.DrawerPassed (s.passDrawer a old now) a e old now alert release := by
  by_cases hsame : old = now
  · have hkept : s.passDrawer a old now = s := if_pos hsame
    rw [hkept, hsame]
    exact ⟨e.alert, e.release, hr, fun _ => ⟨rfl, rfl, rfl⟩, fun h1 h2 => by (cases h1.symm.trans h2),
      fun h1 h2 => by (cases h1.symm.trans h2), fun h1 h2 => by (cases h1.symm.trans h2), fun h1 h2 => by cases h1.symm.trans h2⟩
  · have hmoved : s.passDrawer a old now = s.drawerChanged a now := if_neg hsame
    rw [hmoved]
    cases now with
    | false => exact ⟨false, e.release, drawerChanged_closed hr, fun h => absurd h.symm hsame, fun _ _ => ⟨rfl, rfl, rfl⟩,
        nofun, nofun, nofun⟩
    | true =>
      cases hq : e.release || e.kind != .teller with
      | true =>
        rw [drawerChanged_quiet hr hq]
        exact ⟨e.alert, false, hr.modify (fun _ h => h) fun _ => rfl, fun h => absurd h.symm hsame, nofun, fun _ _ => rfl,
          fun _ _ _ => ⟨rfl, rfl⟩, fun _ _ hc => by cases hq.symm.trans hc⟩
      | false =>
        rw [drawerChanged_alarm hr hq]
        have hset : ((s.clearRelease a).setAlert a true).Reads a { e with release := false, alert := true } :=
          (hr.modify (f := fun d => { d with release := false }) (fun _ h => h) fun _ => rfl).modify
            (f := fun d => { d with alert := true }) (fun _ h => h) fun _ => rfl
        have hbody : ((s.clearRelease a).setAlert a true).journalTakes (s.alertRecord a).body =
          s.journalTakes (.drawerAlert none) := rfl
        refine ⟨true, false, hset.marks unmarked_writeRecord, fun h => absurd h.symm hsame, nofun, fun _ _ => rfl,
          fun _ _ hc => by (cases hq.symm.trans hc), fun _ _ _ => ⟨rfl, fun ht => ?_, fun ht => ?_⟩⟩
        · exact wrote_writeRecord rfl (hbody.trans ht)
        · rw [writeRecord_refused (hbody.trans ht)]
          rfl

/-! ### A confirmed change of BOOK-IN (R142, R151) -/

theorem Drop.take_readStripe (e : Drop) (l : LoopState) :
    ∃ out r, e.take l .readStripe = { e with outbound := out, refused := r } := by
  have hfinal : isFinal .readStripe = false := rfl
  simp only [Drop.take, hfinal, Bool.false_eq_true, if_false]
  split
  · exact ⟨e.outbound, e.refused, rfl⟩
  · split
    · exact ⟨e.outbound ++ [.readStripe], e.refused, rfl⟩
    · exact ⟨e.outbound, countUp Config.maxScore e.refused, rfl⟩

theorem startIdentify_eq (hi : (s.sessionOf a).any (fun x => x.state == .idle) = true) : s.startIdentify a =
    (s.modifySession a fun x => { x with state := .identify }).sendCommand a .readStripe .readStripe := if_pos hi

theorem reads_startIdentify (hr : s.Reads a e) :
    ∃ out r, (s.startIdentify a).Reads a { e with outbound := out, refused := r } := by
  cases hi : (s.sessionOf a).any fun x => x.state == .idle with
  | true =>
    obtain ⟨out, r, htake⟩ := Drop.take_readStripe e s.lpc.loop
    rw [startIdentify_eq hi]
    refine ⟨out, r, ?_⟩
    rw [← htake]
    have hsent : ((s.modifySession a fun x => { x with state := .identify }).handOver a .readStripe).Reads a
      (e.take s.lpc.loop .readStripe) := State.Reads.handOver (hr.congr rfl) .readStripe
    exact hsent.congr rfl
  | false =>
    have hkept : s.startIdentify a = s := if_neg (by rw [hi]; decide)
    rw [hkept]
    exact ⟨e.outbound, e.refused, hr⟩

theorem passBook_teller (hr : s.Reads a e) (hk : e.kind = .teller) (on : Bool) : s.passBook a on = s := by
  have his : (s.dropIs a fun d => d.kind == .printer) = false := by
    rw [hr.dropIs fun _ => rfl]
    simp [hk]
  exact if_neg (by rw [his]; decide)

theorem passBook_printer (hr : s.Reads a e) (hk : e.kind = .printer) (on : Bool) : s.passBook a on = s.bookInChanged a on := by
  have his : (s.dropIs a fun d => d.kind == .printer) = true := by
    rw [hr.dropIs fun _ => rfl]
    simp [hk]
  exact if_pos his

theorem reads_passBook (hr : s.Reads a e) (on : Bool) :
    ∃ out r, (s.passBook a on).Reads a { e with outbound := out, refused := r } := by
  by_cases hk : e.kind = .teller
  · rw [passBook_teller hr hk]
    exact ⟨e.outbound, e.refused, hr⟩
  · have hprinter : e.kind = .printer := by cases hq : e.kind <;> simp_all
    rw [passBook_printer hr hprinter]
    cases on with
    | true => exact reads_startIdentify hr
    | false => exact ⟨e.outbound, e.refused, hr.marks unmarked_interruptSession⟩

/-- A book in a printer with an IDLE session is identified (R142). -/
theorem startIdentify_effects (hr : s.Reads a e) (hl : s.lpc.loop = .running) (hc : e.canReceive = true)
    (hn : e.outbound.length < 4) (hi : (s.sessionOf a).any (fun x => x.state == .idle) = true) :
    (s.startIdentify a).sessionState a = .identify ∧
      (s.startIdentify a).Reads a { e with outbound := e.outbound ++ [.readStripe] } := by
  have htake : e.take s.lpc.loop .readStripe = { e with outbound := e.outbound ++ [.readStripe] } := by
    rw [hl]
    exact Drop.take_room hc hn
  rw [startIdentify_eq hi]
  refine ⟨?_, ?_⟩
  · obtain ⟨x, hx⟩ : ∃ x, s.sessionOf a = some x := by
      cases hx : s.sessionOf a with
      | none => rw [hx] at hi; cases hi
      | some x => exact ⟨x, rfl⟩
    have hat : ((s.modifySession a fun x => { x with state := .identify }).sendCommand a .readStripe .readStripe).sessionOf a =
        some { x with state := .identify, command := some .readStripe, timer := .running Config.answerSeconds } := by
      have hfirst : (s.modifySession a fun x => { x with state := .identify }).sessionOf a =
        some { x with state := .identify } := sessionOf_modifySession_same (fun _ => rfl) hx
      have hsent : ((s.modifySession a fun x => { x with state := .identify }).handOver a .readStripe).sessionOf a =
        some { x with state := .identify } := hfirst
      exact sessionOf_modifySession_same (f := fun x => { x with
        command := some .readStripe, timer := .running Config.answerSeconds }) (fun _ => rfl) hsent
    rw [State.sessionState, hat]
    rfl
  · rw [← htake]
    have hsent : ((s.modifySession a fun x => { x with state := .identify }).handOver a .readStripe).Reads a
      (e.take s.lpc.loop .readStripe) := State.Reads.handOver (hr.congr rfl) .readStripe
    exact hsent.congr rfl

end Sys2Proof.Machine
end

section
/-! SUPPORT. ANNOUNCE from an absent drop, from a present one and from one that is not taken, and the statement O9. -/

namespace Sys2Proof.Machine

variable {s t u : State} {a : Nat} {d e : Drop} {kind : DropType} {g : Signals} {r : Record}

/-! ### An absent drop joins (R10) -/

theorem exec_announce (hr : s.isRunning = true) : exec (.announce a kind g) s = .next (s.announce a kind g) :=
  congrArg Host.Outcome.next (whileRunning_of hr)

theorem announce_absent (hl : s.lpc.loop = .running) (hd : s.dropAt a = some d) (hs : d.state = .absent) (hk : d.kind = kind)
    (hslot : (firstSlot s.lpc.slotMap a).isSome = true) : s.announce a kind g = s.announceAbsent a g := by
  have hfilter : (s.dropAt a).filter (fun d => d.kind == kind) = some d := by simp [hd, Option.filter, hk]
  rw [State.announce, if_pos hl]
  simp only [hfilter, hs, hslot, if_true]

/-- An absent drop that has joined, with the signals of its ANNOUNCE (R10). -/
def Drop.announced (d : Drop) (next : Nat) (g : Signals) : Drop := { d.join next with sigs := announcedSigs g }

/-- The joined drop on the loop, before the confirmed changes are passed on (R10). -/
def State.joined (s : State) (a : Nat) (g : Signals) : State :=
  (s.modifyDrop a fun d => d.join (s.oldestNotice.getD s.lpc.noticeCounter)).modifyDrop a fun d => { d with
    sigs := announcedSigs g }

/-- The printer's part of a confirmed change of BOOK-IN (R15). -/
def State.passBookIn (s : State) (a : Nat) (old now : Bool) : State := if old = now then s else s.passBook a now

theorem passChanges_eq (old new : DropSigs) : s.passChanges a old new =
    (s.passDrawer a old.drawerOpen.confirmed new.drawerOpen.confirmed).passBookIn a old.bookIn.confirmed
      new.bookIn.confirmed := rfl

theorem reads_joined (hd : s.dropAt a = some d) :
    (s.joined a g).Reads a (d.announced (s.oldestNotice.getD s.lpc.noticeCounter) g) :=
  ((reads_of hd).modify (f := fun d => d.join (s.oldestNotice.getD s.lpc.noticeCounter)) (fun _ h => h) fun _ => rfl).modify
    (f := fun d => { d with sigs := announcedSigs g }) (fun _ h => h) fun _ => rfl

theorem announceAbsent_eq (hd : s.dropAt a = some d) : s.announceAbsent a g =
    (((s.joined a g).passDrawer a d.sigs.drawerOpen.confirmed g.drawerOpen).passBookIn a d.sigs.bookIn.confirmed
      g.bookIn).queueStatus a := by
  have hjoin : (s.modifyDrop a fun d => d.join (s.oldestNotice.getD s.lpc.noticeCounter)).dropAt a =
      some (d.join (s.oldestNotice.getD s.lpc.noticeCounter)) := by
    rw [dropAt_modifyDrop fun _ h => by exact h, hd]
    exact congrArg some (if_pos rfl)
  rw [State.announceAbsent, State.setSignals]
  simp only [hjoin]
  rw [passChanges_eq]
  rfl

theorem passDrawer_kept {old now : Bool} : (s.passDrawer a old now).lpc.loop = s.lpc.loop ∧
    (s.passDrawer a old now).pbu = s.pbu := by
  unfold State.passDrawer
  split
  · exact ⟨rfl, rfl⟩
  · unfold State.drawerChanged
    split
    · split
      · exact ⟨rfl, rfl⟩
      · refine ⟨?_, by simp [State.clearRelease, State.setAlert]⟩
        rw [lpc_unmarked unmarked_writeRecord]
        rfl
    · exact ⟨rfl, rfl⟩

theorem passBookIn_teller {old now : Bool} (hr : s.Reads a e) (hk : e.kind = .teller) : s.passBookIn a old now = s := by
  unfold State.passBookIn
  split
  · rfl
  · exact passBook_teller hr hk now

theorem reads_passBookIn {old now : Bool} (hr : s.Reads a e) :
    ∃ out r, (s.passBookIn a old now).Reads a { e with outbound := out, refused := r } := by
  unfold State.passBookIn
  split
  · exact ⟨e.outbound, e.refused, hr⟩
  · exact reads_passBook hr now

/-! ### A present drop restarts (R11, R151) -/

theorem announce_present (hl : s.lpc.loop = .running) (hd : s.dropAt a = some d) (hc : d.canReceive = true) (hk : d.kind = kind) :
    s.announce a kind g = s.announceAgain a kind := by
  have hfilter : (s.dropAt a).filter (fun d => d.kind == kind) = some d := by simp [hd, Option.filter, hk]
  rw [State.announce, if_pos hl]
  simp only [hfilter]
  cases hs : d.state with
  | active => rfl
  | degraded => rfl
  | absent => simp [Drop.canReceive, hs] at hc
  | fenced => simp [Drop.canReceive, hs] at hc

/-- The record of a printer drop does not change with a status line (R17). -/
theorem Drop.queueStatus_printer (hk : e.kind = .printer) : e.queueStatus = e :=
  if_neg (by rw [hk]; decide)

theorem dropAt_writeRecord_printer (hd : s.dropAt a = some e) (hk : e.kind = .printer) : (s.writeRecord r).dropAt a = some e := by
  have hall : ∀ v : State, v.dropAt a = some e → v.queueStatusAll.dropAt a = some e := fun v hv => by
    rw [dropAt_queueStatusAll, hv, Option.map_some, Drop.queueStatus_printer hk]
  have hraise : ∀ (v : State) (c : Condition), (v.raise c).dropAt a = v.dropAt a := fun v c => dropAt_congr (by simp)
  have hjudge : ∀ v : State, v.dropAt a = some e → v.judgeThresholds.dropAt a = some e := fun v hv => by
    unfold State.judgeThresholds
    dsimp only
    split
    · exact hall _ ((hraise v _).trans hv)
    · split
      · exact (hraise v _).trans hv
      · split
        · exact (hraise v _).trans hv
        · exact hv
  unfold State.writeRecord
  split
  · exact hjudge _ hd
  · exact hd

theorem dropAt_endSession_printer (hd : s.dropAt a = some e) (hk : e.kind = .printer) : (s.endSession a).dropAt a = some e := by
  unfold State.endSession
  split
  · exact hd
  · split
    · exact hd
    · dsimp only
      split
      · split
        · exact dropAt_writeRecord_printer hd hk
        · exact hd
      · exact hd

/-- An interruption leaves a printer drop's record as it was, and its session IDLE (R151). -/
theorem interruptSession_effects (hd : s.dropAt a = some e) (hk : e.kind = .printer) :
    (s.interruptSession a).dropAt a = some e ∧
      (s.interruptSession a).sessionOf a = (s.sessionOf a).map Session.toIdle := by
  obtain ⟨v, hv, hat, hpbu⟩ : ∃ v : State, s.interruptSession a = v.modifySession a Session.toIdle ∧ v.dropAt a = some e ∧
      v.pbu = s.pbu := by
    have hended : ((s.endSession a).withdrawFetch a).dropAt a = some e := by
      have hlpc : ((s.endSession a).withdrawFetch a).lpc = (s.endSession a).lpc := by
        unfold State.withdrawFetch
        (repeat' split) <;> simp
      exact (dropAt_congr hlpc).trans (dropAt_endSession_printer hd hk)
    have hbooks : ((s.endSession a).withdrawFetch a).pbu = s.pbu := by simp
    unfold State.interruptSession
    cases s.sessionState a with
    | fetching => exact ⟨_, rfl, hended, hbooks⟩
    | printing => exact ⟨_, rfl, hended, hbooks⟩
    | turning => exact ⟨_, rfl, hended, hbooks⟩
    | idle => exact ⟨_, rfl, hd, rfl⟩
    | identify => exact ⟨_, rfl, hd, rfl⟩
    | finished => exact ⟨_, rfl, hd, rfl⟩
    | refused => exact ⟨_, rfl, hd, rfl⟩
  rw [hv]
  refine ⟨hat, ?_⟩
  rw [sessionOf_modifySession (f := Session.toIdle) (fun _ => rfl), sessionOf_congr hpbu]
  simp

theorem dropAt_startIdentify (hi : (s.sessionOf a).any (fun x => x.state == .idle) = true) :
    (s.startIdentify a).dropAt a = (s.dropAt a).map fun d => d.take s.lpc.loop .readStripe := by
  rw [startIdentify_eq hi]
  have hsent : ((s.modifySession a fun x => { x with state := .identify }).sendCommand a .readStripe .readStripe).dropAt a =
      ((s.modifySession a fun x => { x with state := .identify }).handOver a .readStripe).dropAt a := rfl
  rw [hsent, dropAt_handOver]
  cases hd : s.dropAt a <;> simp [State.dropAt, State.modifySession, State.onPbu] at hd ⊢ <;> simp [hd]

end Sys2Proof.Machine
end

section
/-! SUPPORT. The statement O9: an ANNOUNCE joins, restarts or is not taken. -/

namespace Sys2Proof.Machine

variable {s t u : State} {a : Nat} {d e : Drop} {kind : DropType} {g : Signals}

/-! ### Joining (R10) -/

/-- What an absent drop's ANNOUNCE leaves: the drawer's part, the printer's part, and a status line. -/
structure State.Announced (s : State) (a : Nat) (g : Signals) (d : Drop) (v t : State) (e : Drop) (alert release : Bool)
    (out : List DownMessage) (r : Nat) : Prop where
  drawer : (s.joined a g).DrawerPassed v a (d.announced (s.oldestNotice.getD s.lpc.noticeCounter) g)
    d.sigs.drawerOpen.confirmed g.drawerOpen alert release
  record : ∃ k, e = { d.announced (s.oldestNotice.getD s.lpc.noticeCounter) g with
    alert := alert, release := release, outbound := out, refused := r, statusMark := k }
  loop : v.lpc.loop = s.lpc.loop
  sessions : v.pbu = s.pbu
  after : t = (v.passBookIn a d.sigs.bookIn.confirmed g.bookIn).queueStatus a
  here : t.dropAt a = some e
  teller : d.kind = .teller → e.statusMark = true ∧ out = d.outbound ∧ t.jnc = v.jnc

theorem announceAbsent_effects (hd : s.dropAt a = some d) :
    ∃ v e alert release out r, s.Announced a g d v (s.announceAbsent a g) e alert release out r := by
  obtain ⟨alert, release, hdrawer⟩ := passDrawer_effects (reads_joined (g := g) hd) d.sigs.drawerOpen.confirmed g.drawerOpen
  obtain ⟨hloop, hpbu⟩ := passDrawer_kept (s := s.joined a g) (a := a) (old := d.sigs.drawerOpen.confirmed)
    (now := g.drawerOpen)
  rw [announceAbsent_eq hd]
  generalize (s.joined a g).passDrawer a d.sigs.drawerOpen.confirmed g.drawerOpen = v at hdrawer hloop hpbu
  by_cases hk : d.kind = .teller
  · have hkept : v.passBookIn a d.sigs.bookIn.confirmed g.bookIn = v := passBookIn_teller hdrawer.reads hk
    obtain ⟨k, hat, hmark⟩ := hdrawer.reads.queueStatus
    rw [hkept]
    exact ⟨v, _, alert, release, d.outbound, d.refused, hdrawer, ⟨k, rfl⟩, hloop, hpbu, by rw [hkept], hat,
      fun hk => ⟨hmark hk, rfl, rfl⟩⟩
  · obtain ⟨out, r, hreads⟩ := reads_passBookIn (old := d.sigs.bookIn.confirmed) (now := g.bookIn) hdrawer.reads
    obtain ⟨k, hat, -⟩ := hreads.queueStatus
    exact ⟨v, _, alert, release, out, r, hdrawer, ⟨k, rfl⟩, hloop, hpbu, rfl, hat, fun hc => absurd hc hk⟩

/-- A book announced by a printer with an IDLE session is identified (R142). -/
theorem Announced.identified {v : State} {alert release : Bool} {out : List DownMessage} {r : Nat}
    (h : s.Announced a g d v t e alert release out r) (hl : s.lpc.loop = .running) (hk : d.kind = .printer)
    (hb : g.bookIn = true) (hold : d.sigs.bookIn.confirmed = false) (hn : d.outbound.length < 4)
    (hi : (s.sessionOf a).any (fun x => x.state == .idle) = true) :
    t.sessionState a = .identify ∧ e.outbound = d.outbound ++ [.readStripe] := by
  have hidle : (v.sessionOf a).any (fun x => x.state == .idle) = true := by rw [sessionOf_congr h.sessions]; exact hi
  obtain ⟨hstate, hreads⟩ := startIdentify_effects h.drawer.reads (h.loop.trans hl) rfl hn hidle
  have hpassed : v.passBookIn a d.sigs.bookIn.confirmed g.bookIn = v.startIdentify a := by
    have hbook : v.passBookIn a d.sigs.bookIn.confirmed g.bookIn = v.passBook a g.bookIn := if_neg (by rw [hold, hb]; decide)
    rw [hbook, passBook_printer h.drawer.reads hk, hb]
    rfl
  have hafter := h.after
  rw [hpassed] at hafter
  obtain ⟨k, hat, -⟩ := hreads.queueStatus
  rw [← hafter, h.here] at hat
  refine ⟨?_, by rw [Option.some.inj hat]; rfl⟩
  rw [hafter]
  exact hstate

/-! ### A present drop again (R11, R151) -/

theorem abandoned_here (hd : s.dropAt a = some d) : ((s.modifyDrop a Drop.abandon).queueStatus a).dropAt a =
    some d.abandon.queueStatus := by
  rw [dropAt_queueStatus, dropAt_modifyDrop fun _ h => by exact h, hd]
  simp

theorem abandoned_onlyDrop : s.OnlyDrop ((s.modifyDrop a Drop.abandon).queueStatus a) a := by
  refine ⟨rfl, fun b hb => ?_⟩
  rw [dropAt_queueStatus, dropAt_modifyDrop fun _ h => by exact h, Option.map_map]
  cases s.dropAt b <;> simp [hb]

/-- A present printer drop that announces itself: its session is interrupted, and a book in it identified. -/
theorem announceAgain_printer (hl : s.lpc.loop = .running) (hd : s.dropAt a = some d) (hc : d.canReceive = true)
    (hk : d.kind = .printer) (ht : t = s.announceAgain a .printer) :
    ∃ out, t.dropAt a = some { d.abandon with outbound := out } ∧ ((s.sessionOf a).isSome = true →
      if d.sigs.bookIn.confirmed = true then t.sessionState a = .identify ∧ out = [.readStripe]
      else t.sessionState a = .idle ∧ out = []) := by
  have hfirst := abandoned_here hd
  rw [Drop.queueStatus_printer (e := d.abandon) hk] at hfirst
  have hrun : ((s.modifyDrop a Drop.abandon).queueStatus a).lpc.loop = .running := hl
  have hsession : ((s.modifyDrop a Drop.abandon).queueStatus a).sessionOf a = s.sessionOf a := rfl
  have hagain : t = (((s.modifyDrop a Drop.abandon).queueStatus a).interruptSession a).identifyIfBook a := ht
  generalize (s.modifyDrop a Drop.abandon).queueStatus a = v at hfirst hrun hsession hagain
  obtain ⟨hat, hidle⟩ := interruptSession_effects hfirst hk
  have hloop : (v.interruptSession a).lpc.loop = .running := by
    rw [lpc_unmarked unmarked_interruptSession]
    exact hrun
  generalize v.interruptSession a = w at hagain hat hidle hloop
  rw [hsession] at hidle
  have hbook : (w.dropIs a fun d => d.sigs.bookIn.confirmed) = d.sigs.bookIn.confirmed := by rw [State.dropIs, hat]; rfl
  by_cases hb : d.sigs.bookIn.confirmed = true
  · have hstart : t = w.startIdentify a := hagain.trans (if_pos (hbook.trans hb))
    have htake : d.abandon.take w.lpc.loop .readStripe = { d.abandon with outbound := [.readStripe] } := by
      rw [hloop]
      exact Drop.take_room hc (Nat.zero_lt_succ 3)
    cases hx : s.sessionOf a with
    | none =>
      rw [hx] at hidle
      have hnot : w.startIdentify a = w := if_neg (by rw [hidle]; decide)
      rw [hstart, hnot]
      exact ⟨[], hat, nofun⟩
    | some x =>
      rw [hx] at hidle
      have hany : (w.sessionOf a).any (fun x => x.state == .idle) = true := by rw [hidle]; rfl
      refine ⟨[.readStripe], ?_, fun _ => ?_⟩
      · rw [hstart, dropAt_startIdentify hany, hat, Option.map_some, htake]
      · rw [if_pos hb, hstart]
        exact ⟨(startIdentify_effects (reads_of hat) hloop hc (Nat.zero_lt_succ 3) hany).1, rfl⟩
  · have hkept : t = w := hagain.trans (if_neg (by rw [hbook]; exact hb))
    refine ⟨[], ?_, fun hi => ?_⟩
    · rw [hkept]
      exact hat
    · obtain ⟨x, hx⟩ := Option.isSome_iff_exists.1 hi
      rw [if_neg hb, hkept]
      refine ⟨?_, rfl⟩
      rw [State.sessionState, hidle, hx]
      rfl

/-! ### An ANNOUNCE that is not taken (assumption 31) -/

theorem announce_discarded (hd : s.dropAt a = some d) (hn : d.kind ≠ kind ∨ d.state = .fenced ∨
      (d.state = .absent ∧ firstSlot s.lpc.slotMap a = none) ∨ s.lpc.loop = .loopFault) : s.announce a kind g = s := by
  by_cases hl : s.lpc.loop = .running
  · rw [State.announce, if_pos hl]
    by_cases hk : d.kind = kind
    · have hfilter : (s.dropAt a).filter (fun d => d.kind == kind) = some d := by simp [hd, Option.filter, hk]
      simp only [hfilter]
      rcases hn with hn | hn | ⟨hs, hslot⟩ | hn
      · exact absurd hk hn
      · simp only [hn]
      · simp only [hs, hslot]
        rfl
      · cases hl.symm.trans hn
    · have hfilter : (s.dropAt a).filter (fun d => d.kind == kind) = none := by simp [hd, Option.filter, hk]
      simp only [hfilter]
  · exact if_neg hl

/-- Settles O9: an absent drop joins, a present one restarts, and the others are not taken. -/
theorem announceJoinsOrRestarts : Obligations.AnnounceJoinsOrRestarts := by
  unfold Obligations.AnnounceJoinsOrRestarts
  refine ⟨fun s a kind g d hr hl hd hs hk hslot => ?_, fun s a kind g d hr hl hd hc hk => ?_, fun s a kind g d hd hn => ?_⟩
  · obtain ⟨v, e, alert, release, out, r, h⟩ := announceAbsent_effects (g := g) hd
    obtain ⟨k, hrecord⟩ := h.record
    rw [exec_announce hr, announce_absent hl hd hs hk hslot]
    subst hk
    have halert : e.alert = alert := by rw [hrecord]
    have hrelease : e.release = release := by rw [hrecord]
    refine ⟨_, e, rfl, h.here, by rw [hrecord]; rfl, by rw [hrecord]; rfl, by rw [hrecord]; rfl, by rw [hrecord]; rfl,
      by rw [hrecord]; rfl, by rw [hrecord]; rfl, by rw [hrecord]; rfl, fun hk => ?_, fun hk hsame => ?_, fun hk hnow hold => ?_,
      fun hk hnow hold => ?_, fun hk => ⟨fun hnow hold => ?_, fun hnow hold => ?_⟩, fun hk hb hold hn hi => ?_⟩
    · obtain ⟨hmark, hout, -⟩ := h.teller hk
      exact ⟨hmark, by rw [hrecord]; exact hout⟩
    · obtain ⟨h1, h2, h3⟩ := h.drawer.same hsame
      exact ⟨halert.trans h1, hrelease.trans h2, (h.teller hk).2.2.trans h3⟩
    · obtain ⟨h1, -, h3⟩ := h.drawer.closed hnow hold
      exact ⟨halert.trans h1, (h.teller hk).2.2.trans h3⟩
    · refine ⟨hrelease.trans (h.drawer.opened hnow hold), fun hrel => ?_, fun hrel => ?_⟩
      · obtain ⟨h1, h2⟩ := h.drawer.quiet hnow hold (Bool.or_eq_true_iff.2 (.inl hrel))
        exact ⟨halert.trans h1, (h.teller hk).2.2.trans h2⟩
      · have hq : (d.release || d.kind != .teller) = false := by simp [hrel, hk]
        obtain ⟨h1, hwrote, hrefused⟩ := h.drawer.alarm hnow hold hq
        refine ⟨halert.trans h1, fun ht => ?_, fun ht => (h.teller hk).2.2.trans (hrefused ht)⟩
        exact ((hwrote ht).congr (h.teller hk).2.2).trans rfl
    · obtain ⟨h1, h2, -⟩ := h.drawer.closed hnow hold
      exact ⟨halert.trans h1, hrelease.trans h2⟩
    · have hq : (d.release || d.kind != .teller) = true := by simp [hk]
      exact ⟨halert.trans (h.drawer.quiet hnow hold hq).1, hrelease.trans (h.drawer.opened hnow hold)⟩
    · exact Announced.identified h hl hk hb hold hn hi
  · rw [exec_announce hr, announce_present hl hd hc hk]
    subst hk
    by_cases hk : d.kind = .teller
    · have hteller : s.announceAgain a d.kind = (s.modifyDrop a Drop.abandon).queueStatus a := by
        rw [hk]
        rfl
      have hat := abandoned_here hd
      rw [hteller]
      refine ⟨_, _, rfl, hat, ?_, fun _ => ⟨?_, ?_, rfl, abandoned_onlyDrop⟩, fun hc => by cases hk.symm.trans hc⟩
      · rw [Drop.queueStatus_eq]
        rfl
      · rw [Drop.queueStatus_eq]
        rfl
      · rw [Drop.queueStatus_eq]
        have hkind : d.abandon.kind = .teller := hk
        simp [hkind]
    · have hprinter : d.kind = .printer := by cases hq : d.kind <;> simp_all
      obtain ⟨out, hat, hsession⟩ := announceAgain_printer hl hd hc hprinter rfl
      have hagain : s.announceAgain a d.kind = s.announceAgain a .printer := by rw [hprinter]
      rw [hagain]
      refine ⟨_, _, rfl, hat, rfl, fun hc => absurd hc hk, fun _ hi => ⟨rfl, hsession hi⟩⟩
  · cases hr : s.isRunning with
    | true => rw [exec_announce hr, announce_discarded hd hn]
    | false => exact congrArg Host.Outcome.next (whileRunning_stopped hr)

end Sys2Proof.Machine
end

section
/-! PROOFS. The recovery of a kept store (R182 to R184). -/

namespace Sys2Proof.Machine

variable {s t u : State} {a n : Nat}

/-! ### What settling the day at recovery leaves alone -/

/-- Between the two states records with no disposition AWAITING were added, and no others changed. -/
def State.Appends (s t : State) : Prop :=
  ∃ l, t.jnc.records = s.jnc.records ++ l ∧ ∀ r ∈ l, r.disposition ≠ some .awaiting

/-- Between the two states only records were added, and the loop changed in status marks alone; the tellers and work
items, the link, the pins and the straps stay. -/
structure State.Settles (s t : State) : Prop where
  loop : t.lpc.unmarked = s.lpc.unmarked
  rqu : t.rqu = s.rqu
  link : t.tkc.link = s.tkc.link
  records : s.Appends t
  pins : t.supply = s.supply ∧ t.resetLow = s.resetLow ∧ t.straps = s.straps

theorem State.Appends.refl (h : t.jnc.records = s.jnc.records) : s.Appends t :=
  ⟨[], by simp [h], fun _ hr => absurd hr List.not_mem_nil⟩

theorem State.Appends.trans (h : s.Appends t) (g : t.Appends u) : s.Appends u := by
  obtain ⟨l, hl, hd⟩ := h
  obtain ⟨m, hm, hd'⟩ := g
  exact ⟨l ++ m, by rw [hm, hl, List.append_assoc], fun r hr => (List.mem_append.1 hr).elim (hd r) (hd' r)⟩

theorem State.Settles.refl (s : State) : s.Settles s := ⟨rfl, rfl, rfl, .refl rfl, rfl, rfl, rfl⟩

theorem State.Settles.trans (h : s.Settles t) (g : t.Settles u) : s.Settles u where
  loop := g.loop.trans h.loop
  rqu := g.rqu.trans h.rqu
  link := g.link.trans h.link
  records := h.records.trans g.records
  pins := by
    obtain ⟨h1, h2, h3⟩ := h.pins
    obtain ⟨g1, g2, g3⟩ := g.pins
    exact ⟨g1.trans h1, g2.trans h2, g3.trans h3⟩

theorem link_raiseTagged {c : Condition} : (s.raiseTagged n c).tkc.link = s.tkc.link := by rw [tkc_raiseTagged]

theorem settles_writeRecord {r : Record} (hr : r.disposition ≠ some .awaiting) : s.Settles (s.writeRecord r) where
  loop := unmarked_writeRecord
  rqu := by simp
  link := by rw [tkc_writeRecord]
  records := by
    cases ht : s.journalTakes r.body with
    | true => exact ⟨_, by rw [jnc_writeRecord ht], fun x hx => by rw [List.mem_singleton.1 hx]; exact hr⟩
    | false => rw [writeRecord_refused ht]; exact .refl rfl
  pins := by simp

theorem settles_raise {c : Condition} : s.Settles (s.raise c) :=
  ⟨unmarked_congr (by simp), by simp, link_raiseTagged, .refl (by simp), by simp⟩

theorem settles_onDyc {f : Dyc → Dyc} : s.Settles (s.onDyc f) := ⟨rfl, rfl, rfl, .refl rfl, rfl, rfl, rfl⟩

theorem settles_onCsu {f : Csu → Csu} : s.Settles (s.onCsu f) := ⟨rfl, rfl, rfl, .refl rfl, rfl, rfl, rfl⟩

theorem settles_setDay {d : DayState} : s.Settles (s.setDay d) :=
  ⟨unmarked_setDay d, by simp, by simp, .refl (by simp), by simp⟩

theorem settles_stall : s.Settles s.stall := by
  refine State.Settles.trans (t := (s.onDyc fun y => { y with blockTimer := .stopped, resumed := false }).forgetResumption)
    ?_ settles_setDay
  exact ⟨rfl, rfl, rfl, .refl rfl, rfl, rfl, rfl⟩

theorem settles_enterSending : s.Settles s.enterSending := by
  have h1 : s.Settles (((s.onDyc fun y => { y with
      batch := some (newBatch s.jnc.records s.jnc.counter), blockTimer := .stopped, resumed := false }).setDay
      .sending).freezeSfq) :=
    (settles_onDyc.trans settles_setDay).trans ⟨rfl, rfl, rfl, .refl rfl, rfl, rfl, rfl⟩
  have h2 := h1.trans (settles_raise (c := .sending s.jnc.counter ((newBatch s.jnc.records s.jnc.counter).blocks + 1)))
  unfold State.enterSending
  dsimp only
  rw [State.stallUnlessOnline]
  split
  · exact h2
  · exact h2.trans settles_stall

theorem settles_judgeExit : s.Settles s.judgeExit := by
  unfold State.judgeExit
  split
  · exact settles_enterSending
  · exact .refl s

theorem settles_judgeCashHigh : s.Settles (s.judgeCashHigh n) :=
  ⟨unmarked_judgeCashHigh n, by simp, by simp, .refl (by simp), by simp⟩

theorem settles_returnTransit {e : TransitEntry} : s.Settles (s.returnTransit e) := by
  have hfirst : s.Settles (s.addTransferOut e.source e.currency (-(e.amount : Int))) :=
    ⟨rfl, rfl, rfl, .refl rfl, rfl, rfl, rfl⟩
  have h1 : s.Settles ((s.addTransferOut e.source e.currency (-(e.amount : Int))).removeTransit e.number) :=
    hfirst.trans settles_onCsu
  exact (h1.trans settles_judgeCashHigh).trans (settles_writeRecord (by simp [entry]))

theorem settles_settleDrawer : s.Settles (s.settleDrawer n) := by
  unfold State.settleDrawer
  split
  · split
    · exact State.Settles.trans settles_onCsu (settles_writeRecord (by simp [entry]))
    · exact .refl s
  · exact .refl s

theorem settles_foldl {α : Type} {f : State → α → State} (h : ∀ (s : State) x, s.Settles (f s x)) (l : List α) (s : State) :
    s.Settles (l.foldl f s) := by
  induction l generalizing s with
  | nil => exact .refl s
  | cons x l ih => exact (h s x).trans (ih _)

theorem settles_settleBalancing : s.Settles s.settleBalancing :=
  ((settles_foldl (fun _ _ => settles_returnTransit) _ _).trans
    (settles_foldl (fun _ _ => settles_settleDrawer) _ _)).trans settles_judgeExit

theorem settles_captureCutoff : s.Settles s.captureCutoff := ⟨rfl, rfl, rfl, .refl rfl, rfl, rfl, rfl⟩

/-- With nobody signed on no drawer has a holder. -/
theorem holderOf_nobody (h : s.nobodySignedOn = true) (n : Nat) : s.holderOf n = none := by
  simp only [State.nobodySignedOn, List.all_eq_true, Bool.not_eq_true'] at h
  refine List.find?_eq_none.2 fun x hx => ?_
  simp [Teller.heldDrawer, h x hx]

/-- With nobody signed on the drawers that fall due set no release. -/
theorem drawersDue_nobody (h : s.nobodySignedOn = true) : s.drawersDue = s.onCsu fun c =>
    { c with drawers := c.drawers.map fun d => if d.fallsDue then { d with balance := .due } else d } := by
  unfold State.drawersDue
  dsimp only
  have hnone : ((s.csu.drawers.filter Drawer.fallsDue).filterMap fun d => (s.holderOf d.number).bind (·.station)) = [] :=
    List.filterMap_eq_nil_iff.2 fun d _ => by rw [holderOf_nobody h]; rfl
  rw [hnone]
  rfl

theorem nobody_settles (h : s.Settles t) (hn : s.nobodySignedOn = true) : t.nobodySignedOn = true :=
  nobodySignedOn_congr (by rw [h.rqu]) hn

theorem settles_drawersDue (hn : s.nobodySignedOn = true) : s.Settles s.drawersDue := by
  rw [drawersDue_nobody hn]
  exact settles_onCsu

/-- The day of CLOSE-DRAIN found, up to the settling of its drawers. -/
def State.drainRestored (s : State) : State :=
  ((s.captureCutoff.writeRecord (closeMark s.captureCutoff)).setDay .balancing).drawersDue

theorem restoreDrain_eq (s : State) : s.restoreDrain = s.drainRestored.settleBalancing := rfl

theorem settles_drainRestored (hn : s.nobodySignedOn = true) : s.Settles s.drainRestored := by
  have h1 : s.Settles ((s.captureCutoff.writeRecord (closeMark s.captureCutoff)).setDay .balancing) :=
    (settles_captureCutoff.trans (settles_writeRecord (by simp [closeMark, entry]))).trans settles_setDay
  exact h1.trans (settles_drawersDue (nobody_settles h1 hn))

theorem settles_restoreDay (hn : s.nobodySignedOn = true) : s.Settles s.restoreDay := by
  unfold State.restoreDay
  split
  · exact .refl s
  · exact .refl s
  · exact .refl s
  · exact .refl s
  · exact settles_setDay
  · rw [restoreDrain_eq]
    exact (settles_drainRestored hn).trans settles_settleBalancing
  · exact settles_settleBalancing
  · exact settles_setDay
  · exact settles_setDay

/-! ### The day that recovery leaves (R183) -/

theorem returnAll_transit (l : List TransitEntry) (s : State) : (l.foldl State.returnTransit s).csu.transit =
    s.csu.transit.filter fun e => !(l.any fun x => x.number == e.number) := by
  induction l generalizing s with
  | nil => simp
  | cons x l ih =>
    rw [List.foldl_cons, ih, returnTransit_transit, eraseKey, List.filter_filter]
    refine List.filter_congr fun e _ => ?_
    rw [List.any_cons, Bool.not_or, Bool.and_comm, bne, BEq.comm]

theorem transit_returned (s : State) : (s.csu.transit.foldl State.returnTransit s).csu.transit = [] := by
  rw [returnAll_transit, List.filter_eq_nil_iff]
  intro e he
  simpa using ⟨e, he, rfl⟩

/-- Settling leaves the numbers of the drawers and the transit list alone. -/
theorem csu_settleDrawer : (s.settleDrawer n).csu = s.csu ∨ (s.settleDrawer n).csu =
    { s.csu with drawers := modifyKey Drawer.number n (fun y => { y with balance := .balanced }) s.csu.drawers } := by
  unfold State.settleDrawer
  split
  · split
    · exact .inr (by simp [State.modifyDrawer])
    · exact .inl rfl
  · exact .inl rfl

theorem settleDrawer_numbers : (s.settleDrawer n).csu.drawers.map Drawer.number = s.csu.drawers.map Drawer.number := by
  rcases csu_settleDrawer (s := s) (n := n) with h | h
  · rw [h]
  · rw [h]; exact modifyKey_map_key fun _ hx => by exact hx

theorem settleDrawer_transit : (s.settleDrawer n).csu.transit = s.csu.transit := by
  rcases csu_settleDrawer (s := s) (n := n) with h | h <;> rw [h]

/-- A drawer neither DUE nor HELD. -/
def Drawer.AtRest (w : Drawer) : Prop := w.balance ≠ .due ∧ w.balance ≠ .held

/-- A drawer settled is at rest, and the others stay. -/
theorem settleDrawer_atRest (hn : (s.csu.drawers.map Drawer.number).Nodup) {w : Drawer}
    (hw : w ∈ (s.settleDrawer n).csu.drawers) : w.AtRest ∨ w ∈ s.csu.drawers ∧ w.number ≠ n := by
  unfold State.settleDrawer at hw
  cases hx : s.drawerAt n with
  | none =>
    rw [hx] at hw
    exact .inr ⟨hw, findKey_none.1 hx w hw⟩
  | some x =>
    rw [hx] at hw
    dsimp only at hw
    split at hw
    · simp only [State.writeRecord_frame, State.modifyDrawer, State.onCsu_csu, modifyKey, List.mem_map] at hw
      obtain ⟨y, hy, rfl⟩ := hw
      by_cases hnum : y.number = n
      · left
        simp [hnum, Drawer.AtRest]
      · right
        simpa [hnum] using hy
    · next hrest =>
      by_cases hnum : w.number = n
      · obtain rfl : x = w := Option.some.inj (hx.symm.trans (hnum ▸ findKey_of_mem hn hw))
        exact .inl (not_or.1 hrest)
      · exact .inr ⟨hw, hnum⟩

/-- Once the drawers of every number were settled, all are at rest. -/
theorem settleAll_atRest (l : List Nat) (hn : (s.csu.drawers.map Drawer.number).Nodup) {w : Drawer}
    (hw : w ∈ (l.foldl State.settleDrawer s).csu.drawers) : w.AtRest ∨ w ∈ s.csu.drawers ∧ w.number ∉ l := by
  induction l generalizing s with
  | nil => exact .inr ⟨hw, List.not_mem_nil⟩
  | cons k l ih =>
    obtain hrest | ⟨hmem, hnot⟩ := ih (by rw [settleDrawer_numbers]; exact hn) hw
    · exact .inl hrest
    · refine (settleDrawer_atRest hn hmem).imp id fun ⟨hold, hne⟩ => ⟨hold, fun h => ?_⟩
      exact (List.mem_cons.1 h).elim hne hnot

theorem returnTransit_numbers {e : TransitEntry} :
    (s.returnTransit e).csu.drawers.map Drawer.number = s.csu.drawers.map Drawer.number := by
  have hfirst : ((s.addTransferOut e.source e.currency (-(e.amount : Int))).removeTransit e.number).csu.drawers.map
      Drawer.number = s.csu.drawers.map Drawer.number := modifyKey_map_key fun x h => (onSums_number x _ _).trans h
  rw [State.returnTransit, (State.writeRecord_frame _ _).2.2.2.2.2.2.2.1, judgeCashHigh_numbers]
  exact hfirst

theorem dyc_returnTransit {e : TransitEntry} : (s.returnTransit e).dyc = s.dyc := by
  simp [State.returnTransit, State.removeTransit, State.addTransferOut, State.modifyDrawer]

theorem dyc_settleDrawer : (s.settleDrawer n).dyc = s.dyc := by
  unfold State.settleDrawer
  split
  · split
    · simp [State.modifyDrawer]
    · rfl
  · rfl

/-- A day in BALANCING that recovery settles is stalled, for the link is OFFLINE (R166, R175, R183). -/
theorem settleBalancing_day (hday : s.dyc.day = .balancing) (hl : s.tkc.link = .offline) (hnobody : s.nobodySignedOn = true)
    (hn : (s.csu.drawers.map Drawer.number).Nodup) : s.settleBalancing.dyc.day = .sendStalled := by
  unfold State.settleBalancing
  dsimp only
  have hempty := transit_returned s
  have hreturned := settles_foldl (f := State.returnTransit) (fun _ _ => settles_returnTransit) s.csu.transit s
  have hdyc : (s.csu.transit.foldl State.returnTransit s).dyc = s.dyc :=
    foldl_fixed (g := fun s : State => s.dyc) (fun _ _ => dyc_returnTransit) _ _
  have hnum : (s.csu.transit.foldl State.returnTransit s).csu.drawers.map Drawer.number = s.csu.drawers.map Drawer.number :=
    foldl_fixed (g := fun s : State => s.csu.drawers.map Drawer.number) (fun _ _ => returnTransit_numbers) _ _
  generalize s.csu.transit.foldl State.returnTransit s = v at *
  have hsettled := hreturned.trans (settles_foldl (f := State.settleDrawer) (fun _ _ => settles_settleDrawer) (v.csu.drawers.map (·.number)) v)
  have hdyc' : ((v.csu.drawers.map (·.number)).foldl State.settleDrawer v).dyc = v.dyc :=
    foldl_fixed (g := fun s : State => s.dyc) (fun _ _ => dyc_settleDrawer) _ _
  have hempty' : ((v.csu.drawers.map (·.number)).foldl State.settleDrawer v).csu.transit = v.csu.transit :=
    foldl_fixed (g := fun s : State => s.csu.transit) (fun _ _ => settleDrawer_transit) _ _
  have hrest : ((v.csu.drawers.map (·.number)).foldl State.settleDrawer v).allBalanced = true := by
    refine List.all_eq_true.2 fun w hw => ?_
    obtain ⟨hdue, hheld⟩ | ⟨hmem, hnot⟩ := settleAll_atRest _ (by rw [hnum]; exact hn) hw
    · simp [hdue, hheld]
    · exact absurd (List.mem_map_of_mem hmem) hnot
  generalize (v.csu.drawers.map (·.number)).foldl State.settleDrawer v = w at *
  have hexit : w.judgeExit = w.enterSending :=
    if_pos ⟨by rw [hdyc', hdyc, hday], hrest, by rw [hempty', hempty], nobody_settles hsettled hnobody⟩
  rw [hexit, State.enterSending]
  rw [stallUnlessOnline_effects.2.2.2.2, if_neg]
  rw [State.raise, link_raiseTagged]
  have hlink : (((w.onDyc fun y => { y with
      batch := some (newBatch w.jnc.records w.jnc.counter), blockTimer := .stopped, resumed := false }).setDay
      .sending).freezeSfq).tkc.link = w.tkc.link := by simp [State.freezeSfq]
  rw [hlink, hsettled.link, hl]
  decide

end Sys2Proof.Machine
end

section
/-! PROOFS. The work that recovery times out, and what a recovery of a kept store leaves (R182 to R184). -/

namespace Sys2Proof.Machine

variable {s t u : State} {a n q : Nat} {r : Record}

/-! ### The records found AWAITING (R182) -/

/-- Between the two states the work found AWAITING at `l` was timed out: no disposition was lost but those, and the
loop, the work items, the link, the cash and the day stay. -/
structure State.Resolves (s t : State) (l : List Nat) : Prop where
  loop : t.lpc.unmarked = s.lpc.unmarked
  blocks : t.rqu = s.rqu ∧ t.csu = s.csu ∧ t.dyc = s.dyc
  link : t.tkc.link = s.tkc.link
  pins : t.supply = s.supply ∧ t.resetLow = s.resetLow ∧ t.straps = s.straps
  numbered : t.JournalNumbered
  kept : ∀ r ∈ s.jnc.records, r.disposition ≠ some .awaiting → r ∈ t.jnc.records
  awaiting : ∀ r ∈ t.jnc.records, r.disposition = some .awaiting → r ∈ s.jnc.records ∧ r.seq ∉ l

theorem State.Resolves.refl (h : s.JournalNumbered) : s.Resolves s [] :=
  ⟨rfl, ⟨rfl, rfl, rfl⟩, rfl, ⟨rfl, rfl, rfl⟩, h, fun _ hr _ => hr, fun _ hr _ => ⟨hr, List.not_mem_nil⟩⟩

theorem State.Resolves.trans {l m : List Nat} (h : s.Resolves t l) (g : t.Resolves u m) : s.Resolves u (l ++ m) where
  loop := g.loop.trans h.loop
  blocks := by
    obtain ⟨h1, h2, h3⟩ := h.blocks
    obtain ⟨g1, g2, g3⟩ := g.blocks
    exact ⟨g1.trans h1, g2.trans h2, g3.trans h3⟩
  link := g.link.trans h.link
  pins := by
    obtain ⟨h1, h2, h3⟩ := h.pins
    obtain ⟨g1, g2, g3⟩ := g.pins
    exact ⟨g1.trans h1, g2.trans h2, g3.trans h3⟩
  numbered := g.numbered
  kept r hr hd := g.kept r (h.kept r hr hd) hd
  awaiting r hr hd := by
    obtain ⟨hmem, hm⟩ := g.awaiting r hr hd
    obtain ⟨hold, hl⟩ := h.awaiting r hmem hd
    exact ⟨hold, List.not_mem_append hl hm⟩

theorem numbered_timeOut (h : s.JournalNumbered) : (s.timeOut q).JournalNumbered :=
  (Keeps.refl scoreAgrees_condition lostKept_relation id).timeOut.journal h

/-- A numbered journal's record of a sequence is the only one (R128). -/
theorem recordAt_of_mem (h : s.JournalNumbered) (hr : r ∈ s.jnc.records) : s.recordAt r.seq = some r :=
  findKey_of_mem (by rw [h.1]; exact List.nodup_range') hr

/-- The records after a change of an AWAITING one: the others stay, and it is AWAITING no more. -/
theorem mem_changeDisposition {e m : Disposition} {x : Option Nat} (hm : m ≠ .awaiting) :
    (∀ r ∈ s.jnc.records, r.seq ≠ q → r ∈ (s.changeDisposition q e m x).jnc.records) ∧
    ∀ r ∈ (s.changeDisposition q e m x).jnc.records, r.disposition = some .awaiting →
      r ∈ s.jnc.records ∧ (s.holdsDisposition q e = true → r.seq ≠ q) := by
  unfold State.changeDisposition
  split
  · refine ⟨fun r hr hq => List.mem_map.2 ⟨r, hr, if_neg hq⟩, fun r hr hd => ?_⟩
    obtain ⟨y, hy, rfl⟩ := List.mem_map.1 hr
    by_cases hq : y.seq = q
    · rw [if_pos hq] at hd
      exact absurd (Option.some.inj hd) hm
    · rw [if_neg hq]
      exact ⟨hy, fun _ => hq⟩
  · next h => exact ⟨fun r hr _ => hr, fun r hr _ => ⟨hr, fun hh => absurd hh h⟩⟩

theorem resolves_timeOut (hj : s.JournalNumbered) : s.Resolves (s.timeOut q) [q] := by
  cases hfound : (s.recordAt q).filter fun r => r.disposition == some .awaiting with
  | none =>
    have hsame : s.timeOut q = s := by rw [State.timeOut, hfound]
    rw [hsame]
    refine ⟨rfl, ⟨rfl, rfl, rfl⟩, rfl, ⟨rfl, rfl, rfl⟩, hj, fun r hr _ => hr, fun r hr hd => ⟨hr, fun hq => ?_⟩⟩
    obtain rfl := List.mem_singleton.1 hq
    rw [recordAt_of_mem hj hr] at hfound
    simp [hd] at hfound
  | some r =>
    obtain ⟨hr, hd⟩ := Option.filter_eq_some_iff.1 hfound
    have hd : r.disposition = some .awaiting := by simpa using hd
    have hholds := holdsDisposition_of hr hd
    have hkeep : ∀ x ∈ s.jnc.records, x.disposition ≠ some .awaiting → x.seq ≠ q := fun x hx hxd hxq => by
      have hxr := recordAt_of_mem hj hx
      rw [hxq, hr] at hxr
      exact hxd (Option.some.inj hxr ▸ hd)
    obtain ⟨hothers, hwaits⟩ := mem_changeDisposition (s := s) (q := q) (e := .awaiting) (m := .timedOut) (x := none) (by decide)
    have hnum := numbered_timeOut (q := q) hj
    cases hm : s.mayReverse r with
    | true =>
      rw [timeOut_reversed hr hd hm] at hnum ⊢
      obtain ⟨l, hl, hnone⟩ := (settles_writeRecord (s := s.changeDisposition q .awaiting .timedOut) (r := reversalOf r)
        (by simp [reversalOf, entry])).records
      have hrecords : (((s.changeDisposition q .awaiting .timedOut).writeRecord (reversalOf r)).appendSfq s.nextSeq
          .reversal).jnc.records = (s.changeDisposition q .awaiting .timedOut).jnc.records ++ l := hl
      refine ⟨?_, ?_, ?_, ?_, hnum, fun x hx hxd => ?_, fun x hx hxd => ?_⟩
      · exact unmarked_writeRecord.trans (unmarked_congr (by simp))
      · simp [State.appendSfq]
      · rw [State.appendSfq, State.onSiu_tkc, tkc_writeRecord]; simp
      · simp [State.appendSfq]
      · rw [hrecords]
        exact List.mem_append_left _ (hothers x hx (hkeep x hx hxd))
      · rw [hrecords] at hx
        obtain ⟨hmem, hne⟩ := hwaits x ((List.mem_append.1 hx).resolve_right fun hx => hnone x hx hxd) hxd
        exact ⟨hmem, fun h => hne hholds (List.mem_singleton.1 h)⟩
    | false =>
      rw [timeOut_unadvised hr hd hm] at hnum ⊢
      obtain ⟨hothers', hwaits'⟩ := mem_changeDisposition (s := s.changeDisposition q .awaiting .timedOut) (q := q)
        (e := .timedOut) (m := .timedOutUnadvised) (x := none) (by decide)
      refine ⟨unmarked_congr (by simp), by simp, by simp, by simp, hnum, fun x hx hxd => ?_, fun x hx hxd => ?_⟩
      · exact hothers' x (hothers x hx (hkeep x hx hxd)) (hkeep x hx hxd)
      · obtain ⟨hmem, hne⟩ := hwaits x (hwaits' x hx hxd).1 hxd
        exact ⟨hmem, fun h => hne hholds (List.mem_singleton.1 h)⟩

theorem resolves_foldl (l : List Nat) (hj : s.JournalNumbered) : s.Resolves (l.foldl State.timeOut s) l := by
  induction l generalizing s with
  | nil => exact .refl hj
  | cons q l ih =>
    have hfirst := resolves_timeOut (q := q) hj
    exact hfirst.trans (ih hfirst.numbered)

/-- The work of a journal resolved: nothing is AWAITING, and the records that were not stay (R182). -/
theorem resolveWork_effects (cause : Cause) (hj : s.JournalNumbered) : ∃ v, s.Resolves v s.awaitingSeqs ∧
    v.Settles (s.resolveWork cause) ∧ (s.resolveWork cause).csu = s.csu ∧ (s.resolveWork cause).dyc = s.dyc ∧
    ∀ r ∈ (s.resolveWork cause).jnc.records, r.disposition ≠ some .awaiting := by
  have hres := resolves_foldl s.awaitingSeqs hj
  have hset : (s.awaitingSeqs.foldl State.timeOut s).Settles (s.resolveWork cause) :=
    settles_writeRecord (by simp [entry])
  obtain ⟨-, hcsu, hdyc⟩ := hres.blocks
  refine ⟨_, hres, hset, ?_, ?_, fun r hr hd => ?_⟩
  · rw [← hcsu]; simp [State.resolveWork]
  · rw [← hdyc]; simp [State.resolveWork]
  · obtain ⟨l, hl, hnone⟩ := hset.records
    rw [hl] at hr
    obtain ⟨hmem, hnot⟩ := hres.awaiting r ((List.mem_append.1 hr).resolve_right fun hr => hnone r hr hd) hd
    exact hnot (List.mem_map.2 ⟨r, List.mem_filter.2 ⟨hmem, by simp [hd]⟩, rfl⟩)

/-! ### The restored day (R183) -/

theorem restoreDay_drain (hd : s.dyc.day = .closeDrain) : s.restoreDay = s.drainRestored.settleBalancing := by
  rw [← restoreDrain_eq, State.restoreDay, hd]

theorem restoreDay_balancing (hd : s.dyc.day = .balancing) : s.restoreDay = s.settleBalancing := by
  rw [State.restoreDay, hd]

theorem restoreDay_set {x : DayState} (h : s.dyc.day = .closeProposed ∧ x = .opened ∨
    (s.dyc.day = .sending ∨ s.dyc.day = .sendStalled) ∧ x = .sendStalled) : s.restoreDay = s.setDay x := by
  obtain ⟨hd, rfl⟩ | ⟨hd | hd, rfl⟩ := h <;> rw [State.restoreDay, hd]

theorem restoreDay_stays (h : s.dyc.day = .noDay ∨ s.dyc.day = .loading ∨ s.dyc.day = .opened ∨ s.dyc.day = .sent) :
    s.restoreDay = s := by
  obtain hd | hd | hd | hd := h <;> rw [State.restoreDay, hd]

theorem restoreDay_day (hl : s.tkc.link = .offline) (hnobody : s.nobodySignedOn = true)
    (hn : (s.csu.drawers.map Drawer.number).Nodup) : s.restoreDay.dyc.day = restoredDay s.dyc.day := by
  cases hd : s.dyc.day with
  | noDay => rw [restoreDay_stays (by simp [hd]), hd]; rfl
  | loading => rw [restoreDay_stays (by simp [hd]), hd]; rfl
  | opened => rw [restoreDay_stays (by simp [hd]), hd]; rfl
  | sent => rw [restoreDay_stays (by simp [hd]), hd]; rfl
  | closeProposed => rw [restoreDay_set (.inl ⟨hd, rfl⟩), setDay_day]; rfl
  | sending => rw [restoreDay_set (.inr ⟨.inl hd, rfl⟩), setDay_day]; rfl
  | sendStalled => rw [restoreDay_set (.inr ⟨.inr hd, rfl⟩), setDay_day]; rfl
  | balancing => rw [restoreDay_balancing hd]; exact settleBalancing_day hd hl hnobody hn
  | closeDrain =>
    have hset := settles_drainRestored hnobody
    have hw := nobody_settles (settles_captureCutoff.trans (settles_writeRecord (r := closeMark s.captureCutoff)
      (by simp [closeMark, entry])) |>.trans (settles_setDay (d := .balancing))) hnobody
    have hdue : s.drainRestored = ((s.captureCutoff.writeRecord (closeMark s.captureCutoff)).setDay .balancing).onCsu
        fun c => { c with drawers := c.drawers.map fun d => if d.fallsDue then { d with balance := .due } else d } :=
      drawersDue_nobody hw
    rw [restoreDay_drain hd]
    refine settleBalancing_day ?_ (hset.link.trans hl) (nobody_settles hset hnobody) ?_
    · rw [hdue, State.onCsu_dyc, setDay_day]
    · have hcsu : ((s.captureCutoff.writeRecord (closeMark s.captureCutoff)).setDay .balancing).csu = s.csu := by
        simp [State.captureCutoff]
      have hsame : (Drawer.number ∘ fun d : Drawer => if d.fallsDue then { d with balance := .due } else d) =
          Drawer.number := funext fun d => by
        rw [Function.comp_apply]
        split <;> rfl
      rw [hdue, State.onCsu_csu, hcsu, List.map_map, hsame]
      exact hn

end Sys2Proof.Machine
end

section
/-! PROOFS. The statement O5: recovery of a kept store, and a RESTART that waits for the frame's end. -/

namespace Sys2Proof.Machine

variable {s t u : State} {cause : Cause} {pins : Straps} {tag n : Nat} {h : FrameHeader}

/-! ### Recovery of a kept store (R182 to R184) -/

/-- The part with its volatile items cleared and its straps read, before its work is resolved. -/
def State.cleared (s : State) (pins : Straps) : State := { s.clearVolatile with straps := pins }

theorem recover_kept (hv : s.storeValid = true) :
    s.recover cause pins tag = ((s.cleared pins).recoverKept cause tag).sendCycle := by
  rw [State.recover]
  exact congrArg State.sendCycle (if_pos hv)

theorem cleared_nobody : (s.cleared pins).nobodySignedOn = true := by
  refine List.all_eq_true.2 fun x hx => ?_
  obtain ⟨y, -, rfl⟩ := List.mem_map.1 hx
  by_cases hl : y.session = .lockedOut <;> simp [Teller.recover, Teller.signedOn, hl]

/-- A recovery before its report: the work resolved and the day restored. -/
def State.restored (s : State) (cause : Cause) (pins : Straps) : State := ((s.cleared pins).resolveWork cause).restoreDay

theorem recoverKept_lpc (hset : (s.restored cause pins).lpc.unmarked = (s.cleared pins).lpc.unmarked) :
    ((s.cleared pins).recoverKept cause tag).lpc = (s.cleared pins).lpc.unmarked := by
  rw [← hset]
  have hlpc : ∀ c, ((s.restored cause pins).raiseTagged tag c).lpc = (s.restored cause pins).lpc := fun c => by simp
  exact congrArg Lpc.unmarked (hlpc _)

theorem cleared_allAbsent (h : t.lpc = (s.cleared pins).lpc.unmarked) : t.AllAbsent := by
  intro d hd
  rw [h] at hd
  obtain ⟨e, he, rfl⟩ := List.mem_map.1 hd
  have hfresh : e = freshDrop e.addr e.kind e.group := mem_freshDrops he
  rw [hfresh]
  rfl

theorem raiseTagged_reports {c : Condition} :
    ⟨tag, .nodeStatus c⟩ ∈ (s.raiseTagged tag c).tkc.nodeQueue ++ (s.raiseTagged tag c).tkc.waiting.toList := by
  unfold State.raiseTagged
  split <;> simp [State.pushNode]

theorem awaitingSeqs_length (s : State) :
    s.awaitingSeqs.length = s.jnc.records.countP fun r => decide (r.disposition = some .awaiting) := by
  rw [State.awaitingSeqs, List.length_map, List.countP_eq_length_filter]
  refine congrArg List.length (List.filter_congr fun r _ => ?_)
  by_cases hr : r.disposition = some .awaiting <;> simp [hr]

/-- What the recovery of a kept store leaves (R180, R182 to R184). -/
structure State.Recovered (s t : State) (cause : Cause) (pins : Straps) (tag : Nat) : Prop where
  runs : t.isRunning = s.isRunning ∧ t.straps = pins
  day : t.dyc.day = restoredDay s.dyc.day
  resolved : ∀ r ∈ t.jnc.records, r.disposition ≠ some .awaiting
  work : t.rqu.txns = [] ∧ t.rqu.fetches = [] ∧ t.rqu.waitList = [] ∧ t.nobodySignedOn = true
  link : t.tkc.link = .offline
  drops : ∀ d ∈ t.lpc.drops, d.state = .absent
  cycle : ∃ out, t.lpc.cycle = some (.marker :: out) ∧ out.length = 31 ∧
    ∀ n, 1 ≤ n → n ≤ 31 → t.SlotCarries n (out.getD (n - 1) .filler)
  kept : ∀ r ∈ s.jnc.records, r.disposition ≠ some .awaiting → r ∈ t.jnc.records
  started : ⟨tag, .nodeStatus (.started cause true t.dyc.day
      (s.jnc.records.countP fun r => decide (r.disposition = some .awaiting)))⟩ ∈
    t.tkc.nodeQueue ++ t.tkc.waiting.toList

/-- The cycle of a state with every drop ABSENT, and that of the state which has sent it, carry the same. -/
theorem sendCycle_recovered (ha : s.AllAbsent) : ∃ out, s.sendCycle = s.onLpc (fun l => { l with cycle := some (.marker :: out) }) ∧
    out.length = 31 ∧ ∀ n, 1 ≤ n → n ≤ 31 → s.sendCycle.SlotCarries n (out.getD (n - 1) .filler) := by
  obtain ⟨t, out, -, hsend, hlen, hall⟩ := sendCycle_carries s
  have hcycle : s.sendCycle.lpc.cycle = some (.marker :: out) := by rw [hsend]
  rw [sendCycle_allAbsent ha] at hcycle ⊢
  refine ⟨out, ?_, hlen, hall⟩
  rw [show _ = out from List.tail_eq_of_cons_eq (Option.some.inj hcycle)]

theorem recover_recovered (hv : s.storeValid = true) (hj : s.JournalNumbered)
    (hn : s.csu.drawers.map Drawer.number = List.range 25) : s.Recovered (s.recover cause pins tag) cause pins tag := by
  obtain ⟨v, hres, hset, hcsu, hdyc, hnone⟩ := resolveWork_effects (s := s.cleared pins) cause hj
  obtain ⟨hrqu, -, -⟩ := hres.blocks
  have hnobody : ((s.cleared pins).resolveWork cause).nobodySignedOn = true :=
    nobodySignedOn_congr (by rw [hset.rqu, hrqu]) cleared_nobody
  have hlink : ((s.cleared pins).resolveWork cause).tkc.link = .offline := hset.link.trans hres.link
  have hday : (s.restored cause pins).dyc.day = restoredDay s.dyc.day := by
    refine (restoreDay_day hlink hnobody ?_).trans ?_
    · rw [hcsu]
      exact hn ▸ List.nodup_range
    · rw [hdyc]
      rfl
  have hall := hset.trans (settles_restoreDay hnobody)
  have hlpc := recoverKept_lpc (s := s) (cause := cause) (pins := pins) (tag := tag) (hall.loop.trans hres.loop)
  have habs : ((s.cleared pins).recoverKept cause tag).AllAbsent := cleared_allAbsent hlpc
  obtain ⟨out, hcycle, hlen, hcarries⟩ := sendCycle_recovered habs
  have hblocks : ((s.cleared pins).recoverKept cause tag).rqu = (s.cleared pins).rqu ∧
      ((s.cleared pins).recoverKept cause tag).jnc = (s.restored cause pins).jnc ∧
      ((s.cleared pins).recoverKept cause tag).dyc = (s.restored cause pins).dyc ∧
      ((s.cleared pins).recoverKept cause tag).supply = s.supply ∧
      ((s.cleared pins).recoverKept cause tag).resetLow = s.resetLow ∧
      ((s.cleared pins).recoverKept cause tag).straps = pins := by
    obtain ⟨h1, h2, h3⟩ := hall.pins
    obtain ⟨g1, g2, g3⟩ := hres.pins
    have hr := hall.rqu.trans hrqu
    simp only [State.recoverKept, State.clearMarks, State.modifyDrops, State.onLpc_rqu, State.onLpc_jnc, State.onLpc_dyc,
      State.onLpc_supply, State.onLpc_resetLow, State.onLpc_straps, State.raiseTagged_frame]
    exact ⟨hr, rfl, rfl, h1.trans g1, h2.trans g2, h3.trans g3⟩
  obtain ⟨hrqu', hjnc', hdyc', hsupply, hreset, hstraps⟩ := hblocks
  obtain ⟨l, hl, hnew⟩ := (settles_restoreDay hnobody).records
  obtain ⟨m, hm, -⟩ := hset.records
  have htkc : ((s.cleared pins).recoverKept cause tag).tkc.link = .offline ∧
      ⟨tag, .nodeStatus (.started cause true (s.restored cause pins).dyc.day (s.cleared pins).awaitingSeqs.length)⟩ ∈
        ((s.cleared pins).recoverKept cause tag).tkc.nodeQueue ++ ((s.cleared pins).recoverKept cause tag).tkc.waiting.toList :=
    ⟨link_raiseTagged.trans ((settles_restoreDay hnobody).link.trans hlink), raiseTagged_reports⟩
  rw [awaitingSeqs_length] at htkc
  have hrecover : s.recover cause pins tag = ((s.cleared pins).recoverKept cause tag).sendCycle := recover_kept hv
  have hdrops : (s.recover cause pins tag).AllAbsent := by
    rw [hrecover, hcycle]
    exact habs
  have hout : (s.recover cause pins tag).lpc.cycle = some (.marker :: out) := by rw [hrecover, hcycle]; rfl
  rw [← hrecover] at hcarries hcycle
  generalize (s.cleared pins).recoverKept cause tag = z at *
  have hsame : (s.recover cause pins tag).rqu = z.rqu ∧ (s.recover cause pins tag).jnc = z.jnc ∧
      (s.recover cause pins tag).dyc = z.dyc ∧ (s.recover cause pins tag).tkc = z.tkc ∧
      (s.recover cause pins tag).supply = z.supply ∧ (s.recover cause pins tag).resetLow = z.resetLow ∧
      (s.recover cause pins tag).straps = z.straps := by
    rw [hcycle]
    exact ⟨rfl, rfl, rfl, rfl, rfl, rfl, rfl⟩
  obtain ⟨e1, e2, e3, e4, e5, e6, e7⟩ := hsame
  generalize s.recover cause pins tag = t at *
  refine ⟨⟨?_, e7.trans hstraps⟩, ?_, fun r hr => ?_, ⟨?_, ?_, ?_, ?_⟩, ?_, hdrops, ⟨out, hout, hlen, hcarries⟩,
    fun r hr hd => ?_, ?_⟩
  · rw [State.isRunning, e5, e6, hsupply, hreset, State.isRunning]
  · rw [e3, hdyc', hday]
  · rw [e2, hjnc', State.restored, hl] at hr
    exact (List.mem_append.1 hr).elim (hnone r) (hnew r)
  · rw [e1, hrqu']; rfl
  · rw [e1, hrqu']; rfl
  · rw [e1, hrqu']; rfl
  · exact nobodySignedOn_congr (by rw [e1, hrqu']) (cleared_nobody (s := s) (pins := pins))
  · rw [e4]; exact htkc.1
  · rw [e2, hjnc', State.restored, hl, hm]
    exact List.mem_append_left _ (List.mem_append_left _ (hres.kept r hr hd))
  · rw [e3, e4, hdyc']
    exact htkc.2

/-! ### The commands that begin it (R180, R184) -/

/-- Supervision's sight of a frame leaves the journal and the cash alone. -/
theorem seeFrame_jnc_csu : s.seeFrame.jnc = s.jnc ∧ s.seeFrame.csu = s.csu := by
  cases hl : s.tkc.link with
  | online => simp [seeFrame_online hl, State.restartSupervision]
  | offline => simp [seeFrame_away (.inl hl)]
  | resync => simp [seeFrame_away (.inr hl)]
  | suspect =>
    rw [seeFrame_suspect hl]
    simp [State.restartSupervision, State.reportOnline]

theorem restoredDay_seeFrame : restoredDay s.seeFrame.dyc.day = restoredDay s.dyc.day := by
  obtain h | ⟨h, g⟩ := seeFrame_day (s := s)
  · rw [h]
  · rw [h, g]; rfl

theorem exec_restart (hr : s.Receives h) (hn : s.restarting = none) : exec (.restart h pins) s = .next
    (if s.tkc.transmitter.isSome then { s.seeFrame with restarting := some (h.tag, pins) }
     else s.seeFrame.recover .restart pins h.tag) := by
  obtain ⟨-, -, -, hrestarting, -, htrans, -⟩ := seeFrame_pins (s := s)
  have hexec : exec (.restart h pins) s = .next (s.whileRunning fun s => s.onFrame h fun s => s.restart h pins) := rfl
  rw [hexec, whileRunning_onFrame_of_receives hr, State.restart, hrestarting, hn, htrans]
  rfl

/-- A recovery begins from a state with the journal, the cash and the day of `s`, for what recovery makes of them. -/
theorem exec_beginsRecovery {c : Instr} (hb : s.BeginsRecovery c cause pins tag) : ∃ u : State, exec c s = .next (u.recover cause pins tag) ∧
    u.storeValid = true ∧ u.isRunning = true ∧ u.jnc = s.jnc ∧ u.csu = s.csu ∧
    restoredDay u.dyc.day = restoredDay s.dyc.day := by
  obtain ⟨hv, ⟨rfl, hs, hl, rfl, rfl⟩ | ⟨rfl, hs, hl, rfl, rfl⟩ | ⟨h, rfl, hr, hn, ht, rfl, rfl⟩⟩ := hb
  · refine ⟨{ s with supply := true, storeValid := s.storeValid && true }, ?_, by simpa using hv, by simp [State.isRunning, hl],
      rfl, rfl, rfl⟩
    have hexec : exec (.powerOn pins true) s = .next (s.powerOn pins true) := rfl
    rw [hexec, State.powerOn, if_neg (by rw [hs]; decide)]
    exact congrArg _ (if_neg (by rw [hl]; decide))
  · refine ⟨{ s with resetLow := false }, ?_, hv, by simp [State.isRunning, hs], rfl, rfl, rfl⟩
    have hexec : exec (.resetPinRelease pins) s = .next (s.resetRelease pins) := rfl
    rw [hexec, State.resetRelease, if_pos hl]
    exact congrArg _ (if_pos hs)
  · obtain ⟨-, -, -, -, hvalid, -, -⟩ := seeFrame_pins (s := s)
    obtain ⟨hjnc, hcsu⟩ := seeFrame_jnc_csu (s := s)
    refine ⟨s.seeFrame, ?_, hvalid.trans hv, seeFrame_isRunning.trans hr.1, hjnc, hcsu, restoredDay_seeFrame⟩
    rw [exec_restart hr hn, ht]
    rfl

/-! ### A RESTART that waited for the frame's end -/

/-- A record that the journal takes below every threshold enters, and nothing is reported (R128, R130). -/
theorem writeRecord_quiet {r : Record} (ht : s.journalTakes r.body = true) (hc : s.jnc.counter < Config.nearFull - 1) :
    s.writeRecord r = s.onJnc fun j => { j with
      records := j.records ++ [{ r with seq := j.counter + 1, stamp := j.clock }], counter := j.counter + 1 } := by
  have hlt : s.jnc.counter + 1 < Config.nearFull := Nat.add_lt_of_lt_sub hc
  have h1 : s.jnc.counter + 1 ≠ Config.nearFull := Nat.ne_of_lt hlt
  have h2 : s.jnc.counter + 1 ≠ Config.ordinaryLimit := Nat.ne_of_lt (hlt.trans (by decide))
  have h3 : s.jnc.counter + 1 ≠ Config.reserveLimit := Nat.ne_of_lt (hlt.trans (by decide))
  rw [State.writeRecord, if_pos ht, State.appendRecord, State.judgeThresholds]
  exact (if_neg h1).trans ((if_neg h2).trans (if_neg h3))

/-- The recovery of an open day with nothing AWAITING, the journal below its thresholds (R182, R183). -/
theorem recover_opened (hv : s.storeValid = true) (hday : s.dyc.day = .opened) (hw : s.awaitingSeqs = [])
    (hc : s.jnc.counter < Config.nearFull - 1) :
    (s.recover cause pins tag).dyc.day = .opened ∧ (s.recover cause pins tag).restarting = none ∧
    (s.recover cause pins tag).straps = pins ∧
    (s.recover cause pins tag).jnc = { s.jnc with
      clock := s.jnc.clockKept, counter := s.jnc.counter + 1
      records := s.jnc.records ++ [{ entry (.recoveryMark cause .opened 0) with
        seq := s.jnc.counter + 1, stamp := s.jnc.clockKept }] } ∧
    (s.recover cause pins tag).tkc = { freshTkc with nodeQueue := [⟨tag, .nodeStatus (.started cause true .opened 0)⟩] } := by
  have hseqs : (s.cleared pins).awaitingSeqs = [] := hw
  have hopen : (s.cleared pins).dyc.day = .opened := hday
  have htakes : (s.cleared pins).journalTakes (.recoveryMark cause .opened 0) = true := by
    have hlt : (s.cleared pins).jnc.counter < Config.reserveLimit := hc.trans (by decide)
    simp [State.journalTakes, hopen, postingKind, ordinaryKind, hlt]
  have hresolve : (s.cleared pins).resolveWork cause = (s.cleared pins).onJnc fun j => { j with
      records := j.records ++ [{ entry (.recoveryMark cause .opened 0) with seq := j.counter + 1, stamp := j.clock }]
      counter := j.counter + 1 } := by
    rw [State.resolveWork, hseqs, hopen]
    exact writeRecord_quiet htakes hc
  have hrestore : ((s.cleared pins).resolveWork cause).restoreDay = (s.cleared pins).resolveWork cause := by
    have hd : ((s.cleared pins).resolveWork cause).dyc.day = .opened := by rw [hresolve]; exact hday
    rw [State.restoreDay, hd]
  have hkept : (s.cleared pins).recoverKept cause tag = (((s.cleared pins).resolveWork cause).raiseTagged tag
      (.started cause true .opened 0)).clearMarks := by
    rw [State.recoverKept, hrestore, hseqs]
    have hd : ((s.cleared pins).resolveWork cause).dyc.day = .opened := by rw [hresolve]; exact hday
    rw [hd]
    rfl
  have habs : ((s.cleared pins).recoverKept cause tag).AllAbsent := by
    refine cleared_allAbsent (s := s) (pins := pins) ?_
    rw [hkept, hresolve]
    rfl
  rw [recover_kept hv, sendCycle_allAbsent habs, hkept, hresolve]
  exact ⟨hday, rfl, rfl, rfl, rfl⟩

/-- The end of a frame touches the trunk and the block timer alone. -/
theorem frameEnd_keeps : s.frameEnd.jnc = s.jnc ∧ s.frameEnd.dyc.day = s.dyc.day ∧ s.frameEnd.storeValid = s.storeValid := by
  have hblock : ∀ (v : State) (k : Nat) (x : Bool), (v.blockEnd k x).jnc = v.jnc ∧ (v.blockEnd k x).dyc.day = v.dyc.day ∧
      (v.blockEnd k x).storeValid = v.storeValid := fun v k x => by
    unfold State.blockEnd
    split <;> exact ⟨rfl, rfl, rfl⟩
  unfold State.frameEnd
  split
  · exact ⟨rfl, rfl, rfl⟩
  · split
    · exact ⟨rfl, rfl, rfl⟩
    · exact ⟨rfl, rfl, rfl⟩
    · exact ⟨rfl, rfl, rfl⟩
    · exact ⟨rfl, rfl, rfl⟩
    · exact hblock _ _ _
    · exact hblock _ _ _

/-- Settles O5: a recovery leaves what `recover_recovered` says, and a RESTART during a frame waits for its end. -/
theorem keptStoreIsRecovered : Obligations.KeptStoreIsRecovered := by
  unfold Obligations.KeptStoreIsRecovered
  refine ⟨fun c s cause pins tag hb hj hn => ?_, fun s h pins hr hn ht => ?_, fun s tag pins hr hn ht hv hday hw hc => ?_⟩
  · obtain ⟨u, hexec, hv, hrun, hjnc, hcsu, hday⟩ := exec_beginsRecovery hb
    obtain ⟨⟨hruns, hstraps⟩, hd, hnone, ⟨h1, h2, h3, h4⟩, hl, hdrops, hcycle, hkept, hstarted⟩ :=
      recover_recovered (cause := cause) (pins := pins) (tag := tag) hv (journal_congr (by rw [hjnc]) (by rw [hjnc]) hj)
        (by rw [hcsu]; exact hn)
    rw [hjnc] at hkept hstarted
    exact ⟨_, hexec, hruns.trans hrun, hstraps, hd.trans hday, hnone, h1, h2, h3, h4, hl, hdrops, hcycle, hkept, hstarted⟩
  · rw [exec_restart hr hn, if_pos ht]
  · obtain ⟨hjnc, hd, hvalid⟩ := frameEnd_keeps (s := s)
    have hexec : exec .trunkFrameEnd s = .next (s.frameEnd.recover .restart pins tag) := by
      have hrun : exec .trunkFrameEnd s = .next (s.whileRunning State.frameEndOrRestart) := rfl
      rw [hrun, whileRunning_of hr, State.frameEndOrRestart, if_pos ht, hn]
    obtain ⟨e1, e2, e3, e4, e5⟩ := recover_opened (s := s.frameEnd) (cause := .restart) (pins := pins) (tag := tag)
      (hvalid.trans hv) (hd.trans hday) (by rw [State.awaitingSeqs, hjnc]; exact hw) (by rw [hjnc]; exact hc)
    rw [hjnc] at e4
    exact ⟨_, hexec, e1, e2, e3, e4, e5⟩

end Sys2Proof.Machine
end

section
/-! SUPPORT. What the requests of other drops leave of one drop: the relation `Stays`, with its rules for the shared
operations (R4 to R7). -/

namespace Sys2Proof.Machine

variable {w : Prop} {a b n : Nat} {r s t u : State} {d e : Drop}

/-! ### The relation -/

/-- What the loop scores and judges of a drop: all but its messages, its indications and its counts. -/
def Drop.core (d : Drop) : Drop :=
  { d with
    release := false, alert := false, outbound := [], held := none, begun := [], statusMark := false, nextNotice := 0
    refused := 0 }

/-- Of the loop only drop records changed, and none its address. -/
def State.SameRing (s t : State) : Prop :=
  { t.lpc with drops := [] } = { s.lpc with drops := [] } ∧ t.lpc.drops.map Drop.addr = s.lpc.drops.map Drop.addr

theorem State.SameRing.trans (h : s.SameRing t) (g : t.SameRing u) : s.SameRing u := ⟨g.1.trans h.1, g.2.trans h.2⟩

theorem sameRing_of_lpc (h : t.lpc = s.lpc) : s.SameRing t := by rw [State.SameRing, h]; exact ⟨rfl, rfl⟩

theorem sameRing_modifyDrop {f : Drop → Drop} (hf : ∀ d, d.addr = b → (f d).addr = b) : s.SameRing (s.modifyDrop b f) :=
  ⟨rfl, modifyKey_map_key hf⟩

theorem sameRing_modifyDrops {f : Drop → Drop} (hf : ∀ d, (f d).addr = d.addr) : s.SameRing (s.modifyDrops f) :=
  ⟨rfl, (List.map_map ..).trans (List.map_congr_left fun d _ => hf d)⟩

/-- Between the two states a drop that is present keeps what the loop judges of it and a status line due. Where `w`
says so, it keeps the messages in transmission unless its work item has ended, and takes up no work item. -/
structure Stays (w : Prop) (a : Nat) (s t : State) : Prop where
  present : ∀ d, s.dropAt a = some d → d.state ≠ .absent
  ring : s.SameRing t
  core : (t.dropAt a).map Drop.core = (s.dropAt a).map Drop.core
  mark : ∀ d e, s.dropAt a = some d → t.dropAt a = some e → d.statusMark = true → e.statusMark = true
  begun : w → (t.dropAt a).map Drop.begun = (s.dropAt a).map Drop.begun ∨ t.txnAt a = none
  work : w → s.txnAt a = none → t.txnAt a = none

theorem Stays.refl (h : ∀ d, s.dropAt a = some d → d.state ≠ .absent) : Stays w a s s :=
  ⟨h, sameRing_of_lpc rfl, rfl, fun d e hd he hm => by cases hd.symm.trans he; exact hm, fun _ => .inl rfl, fun _ => id⟩

/-- The drop is found in the second state as in the first. -/
theorem Stays.dropAt (h : Stays w a s t) (hd : s.dropAt a = some d) : ∃ e, t.dropAt a = some e ∧ e.core = d.core := by
  have hc := h.core
  rw [hd] at hc
  exact Option.map_eq_some_iff.1 hc

theorem Stays.trans (h : Stays w a s t) (g : Stays w a t u) : Stays w a s u where
  present := h.present
  ring := h.ring.trans g.ring
  core := g.core.trans h.core
  mark d e hd he hm := by
    obtain ⟨x, hx, -⟩ := h.dropAt hd
    exact g.mark x e hx he (h.mark d x hd hx hm)
  begun hw := (h.begun hw).elim (fun heq => (g.begun hw).imp (fun x => x.trans heq) id) fun hnone => .inr (g.work hw hnone)
  work hw hnone := g.work hw (h.work hw hnone)

theorem Stays.still (h : Stays w a s t) (hd : t.dropAt a = some d) : d.state ≠ .absent := by
  have hc := h.core
  rw [hd] at hc
  obtain ⟨x, hx, hxc⟩ := Option.map_eq_some_iff.1 hc.symm
  have hstate : x.state = d.state := congrArg (a₁ := x.core) (a₂ := d.core) Drop.state hxc
  exact hstate ▸ h.present x hx

/-- One more step, of which the drop at `a` keeps what it must. -/
theorem Stays.step (h : Stays w a r s) (g : (∀ d, s.dropAt a = some d → d.state ≠ .absent) → Stays w a s t) : Stays w a r t :=
  h.trans (g fun _ hd => h.still hd)

/-! ### The block updates -/

/-- A change that leaves the drop and its transaction alone. -/
theorem Stays.other_at (h : Stays w a r s) (hl : s.SameRing t) (hd : t.dropAt a = s.dropAt a) (ht : t.txnAt a = s.txnAt a) :
    Stays w a r t :=
  h.step fun hp => by
    refine ⟨hp, hl, by rw [hd], fun d e h1 h2 hm => ?_, fun _ => .inl (by rw [hd]), fun _ => by rw [ht]; exact id⟩
    rw [hd, h1] at h2
    cases h2
    exact hm

/-- A change that leaves the loop and the transactions alone. -/
theorem Stays.other (h : Stays w a r s) (hl : t.lpc = s.lpc) (hr : t.rqu.txns = s.rqu.txns) : Stays w a r t :=
  h.other_at (sameRing_of_lpc hl) (dropAt_congr hl) (by rw [State.txnAt, hr, State.txnAt])

theorem Stays.onCsu {f : Csu → Csu} (h : Stays w a r s) : Stays w a r (s.onCsu f) := h.other rfl rfl
theorem Stays.onTkc {f : Tkc → Tkc} (h : Stays w a r s) : Stays w a r (s.onTkc f) := h.other rfl rfl
theorem Stays.onSiu {f : Siu → Siu} (h : Stays w a r s) : Stays w a r (s.onSiu f) := h.other rfl rfl
theorem Stays.onJnc {f : Jnc → Jnc} (h : Stays w a r s) : Stays w a r (s.onJnc f) := h.other rfl rfl
theorem Stays.onPbu {f : Pbu → Pbu} (h : Stays w a r s) : Stays w a r (s.onPbu f) := h.other rfl rfl
theorem Stays.onDyc {f : Dyc → Dyc} (h : Stays w a r s) : Stays w a r (s.onDyc f) := h.other rfl rfl

theorem Stays.onRqu {f : Rqu → Rqu} (h : Stays w a r s) (hf : (f s.rqu).txns = s.rqu.txns) : Stays w a r (s.onRqu f) :=
  h.other rfl hf

theorem Stays.modifyDrawer {f : Drawer → Drawer} (h : Stays w a r s) : Stays w a r (s.modifyDrawer n f) := h.onCsu
theorem Stays.modifySat {f : SatEntry → SatEntry} (h : Stays w a r s) : Stays w a r (s.modifySat n f) := h.onSiu
theorem Stays.modifyBook {f : Passbook → Passbook} (h : Stays w a r s) : Stays w a r (s.modifyBook n f) := h.modifySat
theorem Stays.modifySession {f : Session → Session} (h : Stays w a r s) : Stays w a r (s.modifySession n f) := h.onPbu
theorem Stays.modifyTeller {f : Teller → Teller} (h : Stays w a r s) : Stays w a r (s.modifyTeller n f) := h.onRqu rfl
theorem Stays.modifyFetch {f : Fetch → Fetch} (h : Stays w a r s) : Stays w a r (s.modifyFetch n f) := h.onRqu rfl
theorem Stays.putFetch {f : Fetch} (h : Stays w a r s) : Stays w a r (s.putFetch f) := h.onRqu rfl
theorem Stays.endFetch (h : Stays w a r s) : Stays w a r (s.endFetch n) := h.onRqu rfl
theorem Stays.leaveWaitList (h : Stays w a r s) : Stays w a r (s.leaveWaitList n) := h.onRqu rfl

/-- A change of a drop that its core, its messages in transmission and a status line due outlast. -/
def Mild (d e : Drop) : Prop := e.core = d.core ∧ e.begun = d.begun ∧ (d.statusMark = true → e.statusMark = true)

theorem Mild.refl (d : Drop) : Mild d d := ⟨rfl, rfl, id⟩

theorem core_state (h : e.core = d.core) : e.state = d.state := congrArg (a₁ := e.core) (a₂ := d.core) Drop.state h

theorem Mild.addr (h : Mild d e) : e.addr = d.addr := congrArg (a₁ := e.core) (a₂ := d.core) Drop.addr h.1

/-- The drop at `a` changes mildly, and the work items stay. -/
theorem Stays.change {f : Drop → Drop} (h : Stays w a r s) (hl : s.SameRing t) (hd : t.dropAt a = (s.dropAt a).map f)
    (hf : ∀ d, s.dropAt a = some d → Mild d (f d)) (ht : t.rqu.txns = s.rqu.txns) : Stays w a r t :=
  h.step fun hp => by
    have hwork : t.txnAt a = s.txnAt a := by rw [State.txnAt, ht, State.txnAt]
    cases hs : s.dropAt a with
    | none =>
      rw [hs] at hd
      refine ⟨hp, hl, by rw [hs, hd]; rfl, fun d e h1 => ?_, fun _ => .inl (by rw [hs, hd]; rfl), fun _ => by rw [hwork]; exact id⟩
      rw [hs] at h1
      cases h1
    | some d =>
      rw [hs] at hd
      obtain ⟨hcore, hbegun, hmark⟩ := hf d hs
      refine ⟨hp, hl, by rw [hs, hd]; exact congrArg some hcore, fun x y h1 h2 hm => ?_,
        fun _ => .inl (by rw [hs, hd]; exact congrArg some hbegun), fun _ => by rw [hwork]; exact id⟩
      cases hs.symm.trans h1
      cases hd.symm.trans h2
      exact hmark hm

/-- A change of the drop of an address, mild when it is drop `a`. -/
theorem Stays.modifyDrop {f : Drop → Drop} (h : Stays w a r s) (ha : ∀ d, d.addr = b → (f d).addr = b)
    (hf : b = a → ∀ d, s.dropAt a = some d → Mild d (f d)) : Stays w a r (s.modifyDrop b f) := by
  refine h.change (sameRing_modifyDrop ha) (dropAt_modifyDrop ha) (fun d hd => ?_) rfl
  split
  · next hab => exact hf hab.symm d hd
  · exact .refl d

/-- A change of a drop that is mild whichever the drop. -/
theorem Stays.mildly {f : Drop → Drop} (h : Stays w a r s) (hf : ∀ d, Mild d (f d)) : Stays w a r (s.modifyDrop b f) :=
  h.modifyDrop (fun d hd => (hf d).addr.trans hd) fun _ d _ => hf d

theorem Stays.modifyDrops {f : Drop → Drop} (h : Stays w a r s) (hf : ∀ d, Mild d (f d)) : Stays w a r (s.modifyDrops f) :=
  h.change (sameRing_modifyDrops fun d => (hf d).addr) (dropAt_modifyDrops fun d => (hf d).addr) (fun d _ => hf d) rfl

/-! ### Work items -/

/-- A transaction in hand of drop `a` is one that the drop has. -/
def State.Owns (w : Prop) (a : Nat) (s : State) (b : Nat) : Prop := w → b = a → s.txnAt a ≠ none

theorem State.Owns.congr (h : s.Owns w a b) (ht : t.rqu.txns = s.rqu.txns) : t.Owns w a b := fun hw hb => by
  rw [State.txnAt, ht]
  exact h hw hb

theorem owns_of_txnAt {y : Txn} (h : s.txnAt n = some y) : s.Owns w a y.drop := fun _ hb => by
  rw [← hb, findKey_key h, h]
  exact Option.some_ne_none y

theorem Stays.putTxn {x : Txn} (h : Stays w a r s) (hx : s.Owns w a x.drop) : Stays w a r (s.putTxn x) :=
  h.step fun hp => ⟨hp, sameRing_of_lpc rfl, rfl, fun d e h1 h2 hm => by cases h1.symm.trans h2; exact hm, fun _ => .inl rfl, fun hw hnone => by
    rw [txnAt_putTxn, if_neg fun hb => hx hw hb hnone]
    exact hnone⟩

theorem owns_putTxn {x : Txn} : (s.putTxn x).Owns w a x.drop := fun _ hb => by
  rw [txnAt_putTxn, if_pos hb]
  exact Option.some_ne_none x

theorem txnAt_modifyTxn_none {f : Txn → Txn} (hf : ∀ x, x.drop = b → (f x).drop = b) (h : s.txnAt a = none) :
    (s.modifyTxn b f).txnAt a = none := by rw [txnAt_modifyTxn hf, h]; rfl

theorem Stays.modifyTxn {f : Txn → Txn} (h : Stays w a r s) (hf : ∀ x, x.drop = b → (f x).drop = b) :
    Stays w a r (s.modifyTxn b f) :=
  h.step fun hp => ⟨hp, sameRing_of_lpc rfl, rfl, fun d e h1 h2 hm => by cases h1.symm.trans h2; exact hm, fun _ => .inl rfl,
    fun _ => txnAt_modifyTxn_none hf⟩

theorem Stays.endTxn (h : Stays w a r s) : Stays w a r (s.endTxn b) :=
  h.step fun hp => ⟨hp, sameRing_of_lpc rfl, rfl, fun d e h1 h2 hm => by cases h1.symm.trans h2; exact hm, fun _ => .inl rfl, fun _ hnone => by
    rw [txnAt_endTxn, hnone]; split <;> rfl⟩

theorem Stays.foldl {α : Type} {f : State → α → State} (hf : ∀ s x, Stays w a r s → Stays w a r (f s x)) (l : List α)
    (h : Stays w a r s) : Stays w a r (l.foldl f s) := by
  induction l generalizing s with
  | nil => exact h
  | cons x xs ih => exact ih (hf s x h)

/-! ### Messages, marks and indications -/

theorem Drop.take_mild (d : Drop) (l : LoopState) (m : DownMessage) : Mild d (d.take l m) := by
  unfold Drop.take
  split
  · split <;> exact .refl _
  · split
    · exact .refl _
    · split <;> exact .refl _

theorem Drop.queueStatus_mild (d : Drop) : Mild d d.queueStatus := by
  unfold Drop.queueStatus
  split
  · exact ⟨rfl, rfl, fun _ => rfl⟩
  · exact .refl d

theorem Stays.handOver {m : DownMessage} (h : Stays w a r s) : Stays w a r (s.handOver b m) := h.mildly fun d => d.take_mild _ _

theorem Stays.answer {x : Result} (h : Stays w a r s) : Stays w a r (s.answer b x) := h.handOver

theorem Stays.queueStatus (h : Stays w a r s) : Stays w a r (s.queueStatus b) := h.mildly Drop.queueStatus_mild

theorem Stays.queueStatusAll (h : Stays w a r s) : Stays w a r s.queueStatusAll := h.modifyDrops Drop.queueStatus_mild

theorem Stays.queueStatusFor {l : List Nat} (h : Stays w a r s) : Stays w a r (s.queueStatusFor l) :=
  h.foldl (fun _ _ g => g.queueStatus) l

theorem Stays.queueHolder (h : Stays w a r s) : Stays w a r (s.queueHolder n) := h.queueStatusFor

theorem Stays.queueSupervisors (h : Stays w a r s) : Stays w a r s.queueSupervisors := h.queueStatusFor

theorem Stays.queueUnseen {before : State} (h : Stays w a r s) : Stays w a r (s.queueUnseen before) := by
  refine h.modifyDrops fun d => ?_
  split
  · split
    · exact .refl d
    · exact d.queueStatus_mild
  · exact .refl d

theorem Stays.setRelease (h : Stays w a r s) : Stays w a r (s.setRelease b) := h.mildly fun _ => ⟨rfl, rfl, id⟩

theorem Stays.clearRelease (h : Stays w a r s) : Stays w a r (s.clearRelease b) := h.mildly fun _ => ⟨rfl, rfl, id⟩

theorem Stays.setAlert {on : Bool} (h : Stays w a r s) : Stays w a r (s.setAlert b on) := h.mildly fun _ => ⟨rfl, rfl, id⟩

theorem Stays.admitted {f : State → State} (h : Stays w a r s) (hf : Stays w a r (f s)) : Stays w a r (s.admitted b f) := by
  unfold State.admitted
  split
  · exact hf
  · exact h.mildly fun _ => ⟨rfl, rfl, id⟩

theorem Stays.fromTeller {f : State → State} (h : Stays w a r s) (hf : Stays w a r (f s)) : Stays w a r (s.fromTeller b f) := by
  unfold State.fromTeller
  split
  · exact h.admitted hf
  · exact h

theorem Stays.fromPrinter {f : State → State} (h : Stays w a r s) (hf : Stays w a r (f s)) :
    Stays w a r (s.fromPrinter b f) := by
  unfold State.fromPrinter
  split
  · exact h.admitted hf
  · exact h

/-! ### Reports, the journal and the day -/

theorem Stays.raiseTagged {tag : Nat} {c : Condition} (h : Stays w a r s) : Stays w a r (s.raiseTagged tag c) := by
  unfold State.raiseTagged
  split
  · exact h.onTkc
  · exact h.onTkc

theorem Stays.raise {c : Condition} (h : Stays w a r s) : Stays w a r (s.raise c) := h.raiseTagged

theorem Stays.judgeThresholds (h : Stays w a r s) : Stays w a r s.judgeThresholds := by
  simp only [State.judgeThresholds]
  split
  · exact h.raise.queueStatusAll
  · split
    · exact h.raise
    · split
      · exact h.raise
      · exact h

theorem Stays.writeRecord {x : Record} (h : Stays w a r s) : Stays w a r (s.writeRecord x) := by
  unfold State.writeRecord
  split
  · exact Stays.judgeThresholds h.onJnc
  · exact h

theorem Stays.setDay {x : DayState} (h : Stays w a r s) : Stays w a r (s.setDay x) := by
  simp only [State.setDay]
  split
  · exact h.onDyc
  · exact Stays.queueStatusAll h.onDyc

theorem Stays.stall (h : Stays w a r s) : Stays w a r s.stall := by
  have h1 : Stays w a r (s.onDyc fun y => { y with blockTimer := .stopped, resumed := false }) := h.onDyc
  exact Stays.setDay (s := (s.onDyc fun y => { y with blockTimer := .stopped, resumed := false }).forgetResumption) h1.onTkc

theorem Stays.enterSending (h : Stays w a r s) : Stays w a r s.enterSending := by
  have hready : Stays w a r (((s.onDyc fun y => { y with
      batch := some (newBatch s.jnc.records s.jnc.counter), blockTimer := .stopped, resumed := false }).setDay
      .sending).freezeSfq) := Stays.onTkc (Stays.setDay h.onDyc)
  unfold State.enterSending
  dsimp only
  rw [State.stallUnlessOnline]
  split
  · exact hready.raise
  · exact hready.raise.stall

theorem Stays.judgeExit (h : Stays w a r s) : Stays w a r s.judgeExit := by
  unfold State.judgeExit
  split
  · exact h.enterSending
  · exact h

theorem Stays.drawersDue (h : Stays w a r s) : Stays w a r s.drawersDue :=
  Stays.foldl (fun _ _ g => g.setRelease) _ h.onCsu

theorem Stays.endDrain (h : Stays w a r s) : Stays w a r s.endDrain := by
  have hcut : Stays w a r s.captureCutoff := Stays.onJnc h.onDyc
  exact Stays.judgeExit (Stays.drawersDue (Stays.setDay (Stays.onDyc hcut.writeRecord)))

theorem Stays.judgeDrain (h : Stays w a r s) : Stays w a r s.judgeDrain := by
  unfold State.judgeDrain
  split
  · exact h.endDrain
  · exact h

theorem Stays.judgeCashHigh (h : Stays w a r s) : Stays w a r (s.judgeCashHigh n) := by
  unfold State.judgeCashHigh
  split
  · split
    · exact h
    · exact Stays.queueHolder h.onCsu
  · exact h

theorem Stays.applyCash {x : Txn} (h : Stays w a r s) : Stays w a r (s.applyCash x) := by
  unfold State.applyCash
  split
  · split
    · exact Stays.judgeCashHigh (Stays.setRelease h.onCsu)
    · exact h
  · exact h

theorem Stays.takeDifferences {home foreign : Int} (h : Stays w a r s) : Stays w a r (s.takeDifferences n home foreign) :=
  Stays.judgeCashHigh (Stays.onCsu h.modifyDrawer)

theorem Stays.appendLine {l : Line} (h : Stays w a r s) : Stays w a r (s.appendLine n l) := by
  unfold State.appendLine
  split
  · exact h
  · split
    · exact h.modifyBook
    · exact h.raise

/-! ### Slots and the wait list -/

theorem Stays.setStage {g : Stage} {i : Option Nat} (h : Stays w a r s) : Stays w a r (s.setStage b g i) :=
  Stays.modifyFetch (h.modifyTxn fun _ hx => by exact hx)

theorem Stays.forward (h : Stays w a r s) : Stays w a r (s.forward b) := by
  unfold State.forward
  split
  · exact Stays.setStage h.onTkc
  · exact Stays.setStage (h.onRqu rfl)

theorem Stays.freeSlotAt (h : Stays w a r s) : Stays w a r (s.freeSlotAt n) := h.other rfl rfl

theorem Stays.serveOne (h : Stays w a r s) : Stays w a r s.serveOne := by
  unfold State.serveOne
  split
  · split
    · exact Stays.setStage (Stays.onTkc (h.onRqu rfl))
    · exact h
  · exact h

theorem Stays.serveWaitList (h : Stays w a r s) : Stays w a r s.serveWaitList :=
  h.serveOne.serveOne.serveOne.serveOne.serveOne.serveOne

theorem Stays.freeAndOffer (h : Stays w a r s) : Stays w a r (s.freeAndOffer n) := h.freeSlotAt.serveWaitList

end Sys2Proof.Machine
end

section
/-! SUPPORT. What the printers' sessions and the transaction path leave of a drop: the rules of `Stays` for the
messages of PRINTER drops and for a transaction's decision (R45 to R57, R142 to R152). -/

namespace Sys2Proof.Machine

variable {w : Prop} {a b n : Nat} {r s t u : State} {x : Txn}

/-! ### Printer sessions -/

theorem Stays.sendCommand {c : PrinterCommand} {m : DownMessage} (h : Stays w a r s) :
    Stays w a r (s.sendCommand b c m) := (h.handOver (b := b)).modifySession

theorem Stays.startIdentify (h : Stays w a r s) : Stays w a r (s.startIdentify b) := by
  unfold State.startIdentify
  split
  · exact Stays.sendCommand h.modifySession
  · exact h

theorem Stays.endSession (h : Stays w a r s) : Stays w a r (s.endSession b) := by
  unfold State.endSession
  split
  · exact h
  · split
    · exact h
    · dsimp only
      split
      · split
        · exact Stays.writeRecord h.modifyBook
        · exact h.modifyBook
      · exact h.modifyBook

theorem Stays.finishSession {y : Option BookReason} (h : Stays w a r s) : Stays w a r (s.finishSession b y) :=
  Stays.endSession (h.handOver (b := b)).modifySession

theorem Stays.withdrawFetch (h : Stays w a r s) : Stays w a r (s.withdrawFetch b) := by
  unfold State.withdrawFetch
  split
  · split
    · exact Stays.endFetch h.leaveWaitList
    · exact Stays.freeAndOffer h.endFetch
    · exact h
  · exact h

theorem Stays.faultSession (h : Stays w a r s) : Stays w a r (s.faultSession b) := Stays.withdrawFetch h.finishSession

theorem Stays.refuseBook {m : Option Nat} {p : Option BookPos} {y : BookReason} (h : Stays w a r s) :
    Stays w a r (s.refuseBook b m p y) := Stays.writeRecord (Stays.handOver h.modifySession)

theorem Stays.printerFaultAt (h : Stays w a r s) : Stays w a r (s.printerFaultAt b) := by
  unfold State.printerFaultAt
  split
  · exact h.refuseBook
  · exact h.faultSession
  · exact h.faultSession
  · exact h.faultSession
  · exact h
  · exact h
  · exact h

theorem Stays.interruptSession (h : Stays w a r s) : Stays w a r (s.interruptSession b) := by
  unfold State.interruptSession
  refine Stays.modifySession ?_
  split
  · exact Stays.withdrawFetch h.endSession
  · exact Stays.withdrawFetch h.endSession
  · exact Stays.withdrawFetch h.endSession
  · exact h
  · exact h
  · exact h
  · exact h

theorem Stays.bookInChanged {on : Bool} (h : Stays w a r s) : Stays w a r (s.bookInChanged b on) := by
  unfold State.bookInChanged
  split
  · exact h.startIdentify
  · exact h.interruptSession

theorem Stays.printLine {p : Passbook} {l : Line} {y : MarkerSource} (h : Stays w a r s) :
    Stays w a r (s.printLine b n p l y) := by
  unfold State.printLine
  split
  · exact Stays.sendCommand h.modifyBook
  · exact h.finishSession

theorem Stays.chooseLine (h : Stays w a r s) : Stays w a r (s.chooseLine b n) := by
  have hroom : Stays w a r (s.modifyBook n fun p => p.convertIfRoom s.poolFree) := h.modifyBook
  unfold State.chooseLine
  simp only
  split
  · exact hroom.finishSession
  · split
    · exact hroom.printLine
    · split
      · exact hroom.printLine
      · exact hroom.finishSession

theorem Stays.startPrinting (h : Stays w a r s) : Stays w a r (s.startPrinting b n) := Stays.chooseLine h.modifySession

theorem Stays.resumeFetching (h : Stays w a r s) : Stays w a r (s.resumeFetching b) := by
  unfold State.resumeFetching
  split
  · split
    · exact h.startPrinting
    · exact h
  · exact h

theorem Stays.fetchOutcome {f : Fetch} {l : List FetchLine} (h : Stays w a r s) : Stays w a r (s.fetchOutcome f l) :=
  Stays.resumeFetching (Stays.foldl (fun _ _ g => g.appendLine) _ h.endFetch)

theorem Stays.requestFetch (h : Stays w a r s) : Stays w a r (s.requestFetch b n) := by
  unfold State.requestFetch
  split
  · exact h.startPrinting
  · exact Stays.modifySession (Stays.forward h.putFetch)

theorem Stays.proceedSession {k : Nat} (h : Stays w a r s) : Stays w a r (s.proceedSession b n k) := by
  have hopen : Stays w a r ((s.modifyBook n fun p => { p.convertIfRoom s.poolFree with session := some b }).modifySession
      b fun z => { z with account := some n, printed := k, command := none, timer := .stopped }) :=
    Stays.modifySession h.modifyBook
  unfold State.proceedSession
  simp only
  split
  · exact hopen.finishSession
  · exact hopen.requestFetch

theorem Stays.reconcile {p : BookPos} {q : Passbook} (h : Stays w a r s) : Stays w a r (s.reconcile b n p q) := by
  unfold State.reconcile
  split
  · exact h.refuseBook
  · split
    · exact Stays.proceedSession h.modifyBook
    · split
      · exact Stays.proceedSession h.modifyBook
      · split <;> exact h.refuseBook

theorem Stays.checkBook {y : Stripe} (h : Stays w a r s) : Stays w a r (s.checkBook b y) := by
  unfold State.checkBook
  split
  · exact h.refuseBook
  · split
    · exact h.refuseBook
    · split
      · exact h.refuseBook
      · split
        · exact h.refuseBook
        · exact h.reconcile

theorem Stays.bookPresent {y : Stripe} (h : Stays w a r s) : Stays w a r (s.bookPresent b y) := by
  unfold State.bookPresent
  split
  · exact Stays.checkBook h.modifySession
  · exact h.printerFaultAt

theorem Stays.pageEnd {p : Nat} (h : Stays w a r s) : Stays w a r (s.pageEnd b n p) := by
  unfold State.pageEnd
  split
  · exact h.finishSession
  · split
    · exact Stays.sendCommand h.modifySession
    · exact h.finishSession

theorem Stays.lineConfirmed {p l : Nat} (h : Stays w a r s) : Stays w a r (s.lineConfirmed b n p l) := by
  have hconf : Stays w a r ((s.modifyBook n Passbook.confirmMarked).modifySession b fun z =>
      { z with printed := z.printed + 1, command := none, timer := .stopped }) := Stays.modifySession h.modifyBook
  unfold State.lineConfirmed
  simp only
  split
  · exact hconf.chooseLine
  · exact hconf.pageEnd

theorem Stays.lineDone {p l : Nat} (h : Stays w a r s) : Stays w a r (s.lineDone b p l) := by
  unfold State.lineDone
  split
  · split
    · split
      · exact h.lineConfirmed
      · exact h.printerFaultAt
    · exact h.printerFaultAt
  · exact h

theorem Stays.pageReady (h : Stays w a r s) : Stays w a r (s.pageReady b) := by
  unfold State.pageReady
  split
  · split
    · exact h.startPrinting
    · exact h.printerFaultAt
  · exact h

/-! ### A transaction's decision -/

theorem Stays.reachOutcome {y : FinalReply} (h : Stays w a r s) (hx : s.Owns w a x.drop) : Stays w a r (s.reachOutcome x y) :=
  Stays.judgeDrain (Stays.putTxn (Stays.handOver h.modifyTeller) (hx.congr rfl))

theorem Stays.refuse {y : Result} {m : Option LegNote} (h : Stays w a r s) (hx : s.Owns w a x.drop) :
    Stays w a r (s.refuse x y m) := h.reachOutcome hx

theorem Stays.trainingOk {y : TrainingRoute} (h : Stays w a r s) (hx : s.Owns w a x.drop) :
    Stays w a r (s.trainingOk x y) := h.reachOutcome hx

theorem State.Owns.same (h : s.Owns w a b) (ht : t.rqu = s.rqu) : t.Owns w a b := h.congr (by rw [ht])

theorem Stays.postLocal (h : Stays w a r s) (hx : s.Owns w a x.drop) : Stays w a r (s.postLocal x) := by
  simp only [State.postLocal]
  split
  · exact Stays.reachOutcome (Stays.applyCash h.writeRecord) (hx.same (by simp))
  · exact h.refuse hx

theorem Stays.completeLocal {d : Definition} (h : Stays w a r s) (hx : s.Owns w a x.drop) :
    Stays w a r (s.completeLocal x d) := by
  unfold State.completeLocal
  split
  · exact h.trainingOk hx
  · split
    · dsimp only
      split
      · exact h.refuse hx
      · exact Stays.postLocal h.modifyBook (hx.congr rfl)
    · exact h.postLocal hx

theorem Stays.appendTxnLine {d : Definition} {o : Origin} (h : Stays w a r s) : Stays w a r (s.appendTxnLine x d o n) := by
  unfold State.appendTxnLine
  split
  · split
    · exact h.appendLine
    · exact h
  · exact h

theorem Stays.postStandIn {d : Definition} {g : Leg} (h : Stays w a r s) (hx : s.Owns w a x.drop) :
    Stays w a r (s.postStandIn x d n g) := by
  have hsfq : Stays w a r ((s.writeRecord (x.record .standIn .advicePending)).appendSfq s.nextSeq .posting) :=
    Stays.onSiu h.writeRecord
  exact Stays.reachOutcome (Stays.appendTxnLine (Stays.applyCash hsfq.modifySat)) (hx.same (by simp [State.modifySat, State.appendSfq]))

theorem Stays.standIn {d : Definition} (h : Stays w a r s) (hx : s.Owns w a x.drop) : Stays w a r (s.standIn x d) := by
  unfold State.standIn
  split
  · split
    · exact h.refuse hx
    · split
      · exact h.trainingOk hx
      · split
        · exact h.postStandIn hx
        · exact h.refuse hx
  · exact h.completeLocal hx

theorem Stays.joinWaitList (h : Stays w a r s) : Stays w a r (s.joinWaitList b) := Stays.setStage (h.onRqu rfl)

theorem Stays.route {d : Definition} (h : Stays w a r s) (hx : s.Owns w a x.drop) : Stays w a r (s.route x d) := by
  unfold State.route
  split
  · exact h.completeLocal hx
  · split
    · exact h.trainingOk hx
    · exact Stays.forward (h.putTxn hx)
  · split
    · exact h.trainingOk hx
    · exact Stays.joinWaitList (h.putTxn hx)
  · exact h.refuse hx
  · exact h.standIn hx

theorem Stays.fromDrawer {d : Definition} (h : Stays w a r s) (hx : s.Owns w a x.drop) : Stays w a r (s.fromDrawer x d) := by
  unfold State.fromDrawer
  split
  · exact h.route hx
  · split
    · dsimp only
      split
      · exact h.refuse hx
      · split
        · exact h.route hx
        · exact h.refuse hx
    · split
      · exact h.route hx
      · exact h.refuse hx

theorem Stays.holdTxn {y : HoldReason} (h : Stays w a r s) (hx : s.Owns w a x.drop) : Stays w a r (s.holdTxn x y) :=
  Stays.queueSupervisors (Stays.handOver (h.putTxn hx))

theorem Stays.fromOverride {d : Definition} (h : Stays w a r s) (hx : s.Owns w a x.drop) :
    Stays w a r (s.fromOverride x d) := by
  unfold State.fromOverride
  dsimp only
  split
  · split
    · exact h.fromDrawer hx
    · exact h.holdTxn hx
  · exact h.fromDrawer hx

theorem Stays.fromRoute {d : Definition} (h : Stays w a r s) (hx : s.Owns w a x.drop) : Stays w a r (s.fromRoute x d) := by
  unfold State.fromRoute
  split
  · split
    · exact h.refuse hx
    · split
      · exact h.refuse hx
      · exact h.fromOverride hx
  · exact h.fromOverride hx

theorem Stays.fromMask {d : Definition} (h : Stays w a r s) (hx : s.Owns w a x.drop) : Stays w a r (s.fromMask x d) := by
  unfold State.fromMask
  split
  · exact h.refuse hx
  · split
    · exact h.refuse hx
    · split
      · exact h.refuse hx
      · exact h.fromRoute hx

theorem Stays.endHold (h : Stays w a r s) (hx : s.Owns w a x.drop) : Stays w a r (s.endHold x) :=
  Stays.queueSupervisors (h.putTxn hx)

theorem owns_endHold : (s.endHold x).Owns w a x.drop :=
  (owns_putTxn (s := s) (x := { x with stage := .checking, holdTimer := .stopped })).same (by simp [State.endHold])

theorem Stays.endHoldWith {y : Result} (h : Stays w a r s) (hx : s.Owns w a x.drop) : Stays w a r (s.endHoldWith x y) :=
  Stays.refuse (h.endHold hx) owns_endHold

end Sys2Proof.Machine
end

section
/-! SUPPORT. What the requests of other drops leave of a drop: the rules of `Stays` for the messages of TELLER drops, the
signals and ANNOUNCE (R6, R10, R11, R15). -/

namespace Sys2Proof.Machine

variable {w : Prop} {a b c n : Nat} {r s t u : State} {x : Txn}

/-! ### Requests of a teller -/

theorem Stays.asTeller {f : Teller → State} (h : Stays w a r s) (hf : ∀ y, Stays w a r (f y)) :
    Stays w a r (s.asTeller b f) := by
  unfold State.asTeller
  split
  · split
    · exact hf _
    · exact h.answer
  · exact h.answer

theorem Stays.asSupervisor {f : Teller → State} (h : Stays w a r s) (hf : ∀ y, Stays w a r (f y)) :
    Stays w a r (s.asSupervisor b f) := by
  refine h.asTeller fun y => ?_
  split
  · exact h.answer
  · split
    · exact h.answer
    · exact hf y

theorem Stays.asCashier {f : Teller → State} (h : Stays w a r s) (hf : ∀ y, Stays w a r (f y)) :
    Stays w a r (s.asCashier b f) := by
  refine h.asTeller fun y => ?_
  split
  · exact h.answer
  · split
    · exact h.answer
    · split
      · exact h.answer
      · exact hf y

theorem Stays.asHolder {f : Teller → Drawer → State} (h : Stays w a r s) (hf : ∀ y z, Stays w a r (f y z)) :
    Stays w a r (s.asHolder b f) := by
  refine h.asCashier fun y => ?_
  split
  · exact hf _ _
  · exact h.answer

theorem Stays.checkRequest (h : Stays w a r s) (hx : s.Owns w a x.drop) : Stays w a r (s.checkRequest x) := by
  unfold State.checkRequest
  split
  · exact h.refuse hx
  · split
    · exact h.refuse hx
    · dsimp only
      split
      · exact h.refuse hx
      · exact h.fromMask hx

theorem Stays.takeRequest {f : TxnFields} (h : Stays w a r s) (hb : w → b ≠ a) : Stays w a r (s.takeRequest b f) := by
  refine h.asTeller fun y => ?_
  split
  · exact h.answer
  · split
    · exact h.answer
    · exact h.checkRequest fun hw hba => absurd hba (hb hw)

theorem State.Owns.setStage {g : Stage} {i : Option Nat} (h : s.Owns w a b) : (s.setStage c g i).Owns w a b := fun hw hb => by
  have htxn : (s.setStage c g i).txnAt a = (s.txnAt a).map fun y => if a = c then { y with stage := g, slot := i } else y :=
    txnAt_modifyTxn fun _ hy => by exact hy
  obtain ⟨y, hy⟩ := Option.ne_none_iff_exists'.1 (h hw hb)
  rw [htxn, hy]
  exact Option.some_ne_none _

theorem State.Owns.serveOne (h : s.Owns w a b) : s.serveOne.Owns w a b := by
  unfold State.serveOne
  split
  · split
    · exact State.Owns.setStage (h.congr rfl)
    · exact h
  · exact h

theorem State.Owns.freeAndOffer (h : s.Owns w a b) : (s.freeAndOffer n).Owns w a b :=
  (h.congr (t := s.freeSlotAt n) rfl).serveOne.serveOne.serveOne.serveOne.serveOne.serveOne

theorem Stays.cancel (h : Stays w a r s) : Stays w a r (s.cancel b) := by
  refine h.asTeller fun _ => ?_
  split
  · exact h.answer
  · next y hy =>
    have hx : s.Owns w a y.drop := owns_of_txnAt hy
    split
    · exact h.endHoldWith hx
    · exact Stays.refuse h.leaveWaitList (hx.congr rfl)
    · exact Stays.refuse h.freeAndOffer hx.freeAndOffer
    · exact h.answer

theorem Stays.onHold {y : Teller} {f : Txn → State} (h : Stays w a r s)
    (hf : ∀ z, s.Owns w a z.drop → Stays w a r (f z)) : Stays w a r (s.onHold b c y f) := by
  unfold State.onHold
  split
  · exact h.answer
  · split
    · exact h.answer
    · next z hz =>
      split
      · exact h.answer
      · exact hf z (owns_of_txnAt (Option.filter_eq_some_iff.1 hz).1)

theorem Stays.acceptGrant {y : Teller} (h : Stays w a r s) (hx : s.Owns w a x.drop) : Stays w a r (s.acceptGrant b y x) := by
  unfold State.acceptGrant
  split
  · exact h
  · exact Stays.fromMask (Stays.putTxn (Stays.answer (Stays.modifyTeller (h.endHold hx))) (State.Owns.congr (owns_endHold (s := s) (x := x)) rfl))
      owns_putTxn

theorem Stays.overrideGrant (h : Stays w a r s) : Stays w a r (s.overrideGrant b c) := by
  refine h.asSupervisor fun y => h.onHold fun z hz => ?_
  split
  · exact h.answer
  · exact h.acceptGrant hz

theorem Stays.overrideDeny (h : Stays w a r s) : Stays w a r (s.overrideDeny b c) :=
  h.asSupervisor fun _ => h.onHold fun _ hz => Stays.answer (h.endHoldWith hz)

/-! ### Transfers, counting and sessions -/

theorem Stays.transferOut {k : Nat} {q : Option Currency} (h : Stays w a r s) : Stays w a r (s.transferOut b k q n) := by
  refine h.asHolder fun y z => ?_
  split
  · exact h.answer
  · exact Stays.handOver (Stays.queueHolder (Stays.judgeCashHigh (Stays.setRelease (Stays.writeRecord (Stays.onCsu h.modifyDrawer)))))
  · exact h.answer

theorem Stays.transferAccept (h : Stays w a r s) : Stays w a r (s.transferAccept b n) := by
  refine h.asHolder fun y z => ?_
  split
  · exact h.answer
  · split
    · exact h.answer
    · split
      · exact h.answer
      · exact Stays.judgeExit (Stays.answer (Stays.queueHolder (Stays.judgeCashHigh (Stays.setRelease
          (Stays.writeRecord (Stays.onCsu h.modifyDrawer))))))

theorem Stays.transferRecall (h : Stays w a r s) : Stays w a r (s.transferRecall b n) := by
  refine h.asCashier fun y => ?_
  split
  · exact h.answer
  · split
    · exact h.answer
    · split
      · exact h.answer
      · refine Stays.judgeExit (Stays.answer (Stays.queueHolder (Stays.judgeCashHigh ?_)))
        split
        · exact Stays.setRelease (Stays.writeRecord (Stays.onCsu h.modifyDrawer))
        · exact Stays.writeRecord (Stays.onCsu h.modifyDrawer)

theorem Stays.countDeclare {y : Counts} (h : Stays w a r s) : Stays w a r (s.countDeclare b y) := by
  refine h.asHolder fun _ z => ?_
  split
  · exact h.answer
  · unfold State.acceptCount
    dsimp only
    split
    · exact Stays.judgeExit (Stays.handOver (Stays.writeRecord (Stays.takeDifferences h.modifyDrawer)))
    · exact Stays.handOver (Stays.modifyDrawer h.modifyDrawer)

theorem Stays.acceptDifference (h : Stays w a r s) : Stays w a r (s.acceptDifference b n) := by
  refine h.asSupervisor fun _ => ?_
  split
  · exact h.answer
  · split
    · exact h.answer
    · split
      · exact h.answer
      · split
        · exact h.answer
        · exact Stays.judgeExit (Stays.answer (Stays.writeRecord h.takeDifferences))

theorem Stays.forceBalance (h : Stays w a r s) : Stays w a r (s.forceBalance b n) := by
  refine h.asSupervisor fun _ => ?_
  split
  · exact h.answer
  · exact Stays.judgeExit (Stays.answer (Stays.writeRecord h.modifyDrawer))

theorem Stays.sessionRecord {y : Teller} {q : RecordBody} {k : Option Nat} (h : Stays w a r s) :
    Stays w a r (s.sessionRecord y q b k) := by
  unfold State.sessionRecord
  split
  · exact h
  · exact h.writeRecord

theorem Stays.assignDrawer {y : Teller} (h : Stays w a r s) : Stays w a r (s.assignDrawer y) := by
  unfold State.assignDrawer
  split
  · exact h
  · split
    · exact h.modifyDrawer
    · exact h

theorem Stays.signOn {k : Nat} (h : Stays w a r s) : Stays w a r (s.signOn b n k) := by
  unfold State.signOn
  split
  · exact h.answer
  · split
    · exact h.answer
    · split
      · exact h.answer
      · split
        · exact h.answer
        · unfold State.checkSignOn
          split
          · exact h.answer
          · split
            · exact h.answer
            · split
              · exact Stays.answer h.modifyTeller
              · split
                · exact h.answer
                · split
                  · exact Stays.handOver (Stays.queueStatus (Stays.assignDrawer (Stays.sessionRecord h.modifyTeller)))
                  · exact h.answer

theorem Stays.endTellerSession {y : Teller} {k : Option Nat} (h : Stays w a r s) :
    Stays w a r (s.endTellerSession b y k) :=
  Stays.queueStatus (Stays.clearRelease (Stays.modifyTeller h.sessionRecord))

theorem Stays.signOff (h : Stays w a r s) : Stays w a r (s.signOff b) := by
  refine h.asTeller fun _ => ?_
  split
  · exact h.answer
  · split
    · exact h.answer
    · split
      · exact Stays.judgeExit (Stays.answer h.endTellerSession)
      · exact h.answer

theorem Stays.unlock (h : Stays w a r s) : Stays w a r (s.unlock b n) := by
  refine h.asSupervisor fun _ => ?_
  split
  · exact Stays.answer h.modifyTeller
  · exact h.answer

/-- A discarded reply takes with it the work item it was for (R29). -/
theorem Stays.discardReply (h : Stays w a r s) : Stays w a r (s.discardReply b) := by
  unfold State.discardReply
  split
  · refine h.step fun hp => ?_
    have hdrop : ((s.modifyDrop b Drop.discardFinal).endTxn b).dropAt a =
        (s.dropAt a).map fun d => if a = b then d.discardFinal else d := dropAt_modifyDrop fun _ hd => by exact hd
    have htxn : ((s.modifyDrop b Drop.discardFinal).endTxn b).txnAt a = if a = b then none else s.txnAt a := txnAt_endTxn
    by_cases hab : a = b
    · simp only [if_pos hab] at hdrop htxn
      refine ⟨hp, sameRing_modifyDrop fun _ hd => by exact hd, ?_, fun d e hd he hm => ?_, fun _ => .inr htxn, fun _ _ => htxn⟩
      · rw [hdrop, Option.map_map]
        rfl
      · rw [hdrop, hd] at he
        cases he
        exact hm
    · simp only [if_neg hab, Option.map_id_fun', id_eq] at hdrop htxn
      exact (Stays.refl hp).other_at (sameRing_modifyDrop fun _ hd => by exact hd) hdrop htxn
  · exact h

theorem Stays.forceSignOff (h : Stays w a r s) : Stays w a r (s.forceSignOff b n) := by
  refine h.asSupervisor fun _ => ?_
  split
  · exact h.answer
  · dsimp only
    split
    · exact h.answer
    · split
      · exact h.answer
      · split
        · exact Stays.judgeExit (Stays.answer (Stays.endTellerSession h.discardReply))
        · exact h.answer

theorem Stays.onSessionsAt {f : Teller → Teller} (h : Stays w a r s) : Stays w a r (s.onSessionsAt b f) := h.onRqu rfl

/-! ### The close -/

theorem Stays.abandonClose (h : Stays w a r s) : Stays w a r s.abandonClose := Stays.setDay h.onDyc

theorem Stays.drainHold (h : Stays w a r s) : Stays w a r (s.drainHold b) := by
  unfold State.drainHold
  split
  · next y hy => exact h.endHoldWith (owns_of_txnAt (Option.filter_eq_some_iff.1 hy).1)
  · exact h

theorem Stays.enterDrain (h : Stays w a r s) : Stays w a r (s.enterDrain n) :=
  Stays.judgeDrain (Stays.foldl (fun _ _ g => g.drainHold) _ (Stays.setDay h.onDyc))

theorem Stays.closePropose (h : Stays w a r s) : Stays w a r (s.closePropose b) := by
  refine h.asSupervisor fun _ => ?_
  split
  · exact Stays.answer (Stays.setDay h.onDyc)
  · exact h.answer

theorem Stays.closeConfirm (h : Stays w a r s) : Stays w a r (s.closeConfirm b) := by
  refine h.asSupervisor fun _ => ?_
  split
  · exact h.answer
  · split
    · exact Stays.answer h.abandonClose
    · exact Stays.enterDrain h.answer

theorem Stays.closeWithdraw (h : Stays w a r s) : Stays w a r (s.closeWithdraw b) := by
  refine h.asSupervisor fun _ => ?_
  split
  · exact Stays.answer h.abandonClose
  · exact h.answer

/-! ### Signals, notices and ANNOUNCE -/

theorem Stays.drawerChanged {on : Bool} (h : Stays w a r s) : Stays w a r (s.drawerChanged b on) := by
  unfold State.drawerChanged
  split
  · split
    · exact h.clearRelease
    · exact Stays.writeRecord (Stays.setAlert h.clearRelease)
  · exact h.setAlert

theorem Stays.passBook {on : Bool} (h : Stays w a r s) : Stays w a r (s.passBook b on) := by
  unfold State.passBook
  split
  · exact h.bookInChanged
  · exact h

theorem Stays.passChanges {y z : DropSigs} (h : Stays w a r s) : Stays w a r (s.passChanges b y z) := by
  have hdrawer : Stays w a r (if y.drawerOpen.confirmed = z.drawerOpen.confirmed then s
      else s.drawerChanged b z.drawerOpen.confirmed) := by
    split
    · exact h
    · exact h.drawerChanged
  unfold State.passChanges
  dsimp only
  split
  · exact hdrawer
  · exact hdrawer.passBook

/-- The signals of another drop. -/
theorem Stays.setSignals {z : DropSigs} (h : Stays w a r s) (hb : b ≠ a) : Stays w a r (s.setSignals b z) := by
  unfold State.setSignals
  split
  · exact Stays.passChanges (h.modifyDrop (fun _ hd => by exact hd) fun hab => absurd hab hb)
  · exact h

theorem Stays.noticeNext (h : Stays w a r s) : Stays w a r (s.noticeNext b) := by
  unfold State.noticeNext
  split
  · exact h
  · exact Stays.queueUnseen (Stays.handOver (h.mildly fun _ => ⟨rfl, rfl, id⟩))

theorem Stays.identifyIfBook (h : Stays w a r s) : Stays w a r (s.identifyIfBook b) := by
  unfold State.identifyIfBook
  split
  · exact h.startIdentify
  · exact h

/-- A drop that is present announces itself again; where `w` says so it is another. -/
theorem Stays.abandon (h : Stays w a r s) (hb : w → b ≠ a) : Stays w a r (s.modifyDrop b Drop.abandon) := by
  have hdrop : (s.modifyDrop b Drop.abandon).dropAt a = (s.dropAt a).map fun d => if a = b then d.abandon else d :=
    dropAt_modifyDrop fun _ hd => by exact hd
  refine h.step fun hp => ⟨hp, sameRing_modifyDrop fun _ hd => by exact hd, ?_, fun d e hd he hm => ?_, fun hw => .inl ?_,
    fun _ => id⟩
  · rw [hdrop, Option.map_map]
    refine congrArg (fun f => (s.dropAt a).map f) (funext fun d => ?_)
    rw [Function.comp_apply]
    split <;> rfl
  · rw [hdrop, hd, Option.map_some] at he
    cases he
    split <;> exact hm
  · have hab : a ≠ b := fun hab => hb hw hab.symm
    simp only [if_neg hab, Option.map_id_fun', id_eq] at hdrop
    rw [hdrop]

theorem Stays.announceAgain {k : DropType} (h : Stays w a r s) (hb : w → b ≠ a) : Stays w a r (s.announceAgain b k) := by
  have hagain := (h.abandon hb).queueStatus (b := b)
  unfold State.announceAgain
  cases k with
  | teller => exact hagain
  | printer => exact hagain.interruptSession.identifyIfBook

theorem Stays.announce {k : DropType} {g : Signals} (h : Stays w a r s) (hb : w → b ≠ a) : Stays w a r (s.announce b k g) := by
  unfold State.announce
  split
  · split
    · exact h
    · next d hd =>
      have hfound := Option.eq_some_of_filter_eq_some hd
      split
      · next habs =>
        have hother : b ≠ a := fun hba => h.still (hba ▸ hfound) habs
        split
        · exact Stays.queueStatus (Stays.setSignals (h.modifyDrop (fun _ hd => by exact hd) fun hba => absurd hba hother) hother)
        · exact h
      · exact h.announceAgain hb
      · exact h.announceAgain hb
      · exact h
  · exact h

/-! ### A complete message (R6) -/

theorem Stays.misdirected (h : Stays w a r s) : Stays w a r (s.misdirected b) := by
  unfold State.misdirected
  split
  · exact h.admitted h
  · exact h

theorem Stays.takeFromTeller (m : UpMessage) (h : Stays w a r s) (hb : w → b ≠ a) : Stays w a r (s.takeFromTeller b m) := by
  cases m with
  | announce => exact h.announce hb
  | noticeNext => exact h.fromTeller h.noticeNext
  | txnRequest => exact h.fromTeller (h.takeRequest hb)
  | cancel => exact h.fromTeller h.cancel
  | signOn => exact h.fromTeller h.signOn
  | signOff => exact h.fromTeller h.signOff
  | unlock => exact h.fromTeller h.unlock
  | forceSignOff => exact h.fromTeller h.forceSignOff
  | overrideGrant => exact h.fromTeller h.overrideGrant
  | overrideDeny => exact h.fromTeller h.overrideDeny
  | transferOut => exact h.fromTeller h.transferOut
  | transferAccept => exact h.fromTeller h.transferAccept
  | transferRecall => exact h.fromTeller h.transferRecall
  | countDeclare => exact h.fromTeller h.countDeclare
  | acceptDifference => exact h.fromTeller h.acceptDifference
  | forceBalance => exact h.fromTeller h.forceBalance
  | closePropose => exact h.fromTeller h.closePropose
  | closeConfirm => exact h.fromTeller h.closeConfirm
  | closeWithdraw => exact h.fromTeller h.closeWithdraw
  | bookPresent => exact h.misdirected
  | lineDone => exact h.misdirected
  | pageReady => exact h.misdirected
  | printerFault => exact h.misdirected
  | other => exact h.misdirected

theorem Stays.takeFromPrinter (m : UpMessage) (h : Stays w a r s) (hb : w → b ≠ a) : Stays w a r (s.takeFromPrinter b m) := by
  unfold State.takeFromPrinter
  split
  · exact h.announce hb
  · exact h
  · exact h.fromPrinter h.bookPresent
  · exact h.fromPrinter h.lineDone
  · exact h.fromPrinter h.pageReady
  · exact h.fromPrinter h.printerFaultAt
  · exact h.misdirected

theorem Stays.takeMessage {l : List Byte} (h : Stays w a r s) (hb : w → b ≠ a) : Stays w a r (s.takeMessage b l) := by
  unfold State.takeMessage
  split
  · exact h.takeFromTeller _ hb
  · exact h.takeFromPrinter _ hb
  · exact h

end Sys2Proof.Machine
end

section
/-! SUPPORT. What a good cycle makes of one drop: its halves in slot order, its evaluation and its completions (R3, R5 to
R9, R14). -/

namespace Sys2Proof.Machine

variable {w : Prop} {a b m n : Nat} {r s t u before : State} {c d e z old : Drop} {h : List Byte} {first : Bool}

/-! ### One half, for what the loop judges -/

/-- A drop after one upstream half, judged, assembled and scored (R5, R6). -/
def Drop.takeHalf (d : Drop) (n : Nat) (h : List Byte) : Drop :=
  let x : Assembled := if cleanHalf n h then d.assemble (upFirst h) (upLast h) (upBytes h) else ⟨true, d, none⟩
  { x.drop with score := if x.error then min 255 (d.score + 8) else d.score - 1 }

/-- The message that a half completes (R6). -/
def Drop.completed (d : Drop) (n : Nat) (h : List Byte) : Option (List Byte) :=
  if cleanHalf n h then (d.assemble (upFirst h) (upLast h) (upBytes h)).message else none

/-- A drop with its signals sampled from its first slot's half (R14). -/
def Drop.firstSample (d : Drop) (n : Nat) (h : List Byte) : Drop :=
  { d with sigs := if cleanHalf n h then d.sigs.sample (upSignals h) else d.sigs.skip }

/-- A drop after the half of a scored slot. -/
def Drop.handled (d : Drop) (n : Nat) (first : Bool) (h : List Byte) : Drop :=
  if first then (d.takeHalf n h).firstSample n h else d.takeHalf n h

/-- A drop after a probe reply (R9, R14). -/
def Drop.probed (d : Drop) (n : Nat) (h : List Byte) : Drop :=
  if cleanHalf n h then { d with probeRun := min 32 (d.probeRun + 1), sigs := d.sigs.sampleFault (upSignals h).selfFault }
  else { d with probeRun := 0, sigs := d.sigs.skip }

theorem takeHalves_cons (d : Drop) (halves : List (List Byte)) (l : List Nat) :
    d.takeHalves halves (n :: l) = (d.takeHalf n (halves.getD (n - 1) [])).takeHalves halves l := rfl

/-- Assembling changes the assembly buffer and the out-of-step mark alone (R6). -/
theorem assemble_eq (d : Drop) (first last : Bool) (l : List Byte) : (d.assemble first last l).drop = { d with
    assembly := (d.assemble first last l).drop.assembly, outOfStep := (d.assemble first last l).drop.outOfStep } := by
  unfold Drop.assemble
  dsimp only
  split_ifs <;> rfl

/-- Assembling reads the assembly buffer and the out-of-step mark alone (R6). -/
theorem assemble_congr (ha : e.assembly = d.assembly) (ho : e.outOfStep = d.outOfStep) (first last : Bool) (l : List Byte) :
    (e.assemble first last l).error = (d.assemble first last l).error ∧
      (e.assemble first last l).message = (d.assemble first last l).message ∧
      (e.assemble first last l).drop.assembly = (d.assemble first last l).drop.assembly ∧
      (e.assemble first last l).drop.outOfStep = (d.assemble first last l).drop.outOfStep := by
  unfold Drop.assemble
  dsimp only
  rw [ha, ho]
  split_ifs <;> exact ⟨rfl, rfl, by simp only [ha], by simp only [ho]⟩

/-- A half leaves of a drop all but the assembly buffer, the out-of-step mark and the score. -/
theorem takeHalf_eq (d : Drop) (n : Nat) (h : List Byte) : d.takeHalf n h = { d with
    assembly := (d.takeHalf n h).assembly, outOfStep := (d.takeHalf n h).outOfStep, score := (d.takeHalf n h).score } := by
  unfold Drop.takeHalf
  split
  · dsimp only
    rw [assemble_eq]
  · rfl

/-- What a half makes of a drop is read from its score, its assembly buffer and its out-of-step mark. -/
theorem takeHalf_congr (ha : e.assembly = d.assembly) (ho : e.outOfStep = d.outOfStep) (hs : e.score = d.score) (n : Nat)
    (h : List Byte) : (e.takeHalf n h).assembly = (d.takeHalf n h).assembly ∧
      (e.takeHalf n h).outOfStep = (d.takeHalf n h).outOfStep ∧ (e.takeHalf n h).score = (d.takeHalf n h).score ∧
      e.completed n h = d.completed n h := by
  obtain ⟨h1, h2, h3, h4⟩ := assemble_congr ha ho (upFirst h) (upLast h) (upBytes h)
  unfold Drop.takeHalf Drop.completed
  split
  · exact ⟨h3, h4, by simp only [h1, hs], h2⟩
  · exact ⟨ha, ho, by simp only [hs], rfl⟩

theorem core_takeHalf (hc : e.core = c) (n : Nat) (h : List Byte) : (e.takeHalf n h).core = c.takeHalf n h := by
  obtain ⟨h1, h2, h3, -⟩ := takeHalf_congr (e := e.core) (d := e) rfl rfl rfl n h
  rw [← hc, takeHalf_eq e, takeHalf_eq e.core, h1, h2, h3]
  rfl

theorem completed_core (hc : e.core = c) (n : Nat) (h : List Byte) : c.completed n h = e.completed n h :=
  hc ▸ (takeHalf_congr (e := e.core) (d := e) rfl rfl rfl n h).2.2.2

theorem takeHalf_state (d : Drop) (n : Nat) (h : List Byte) : (d.takeHalf n h).state = d.state ∧
    (d.takeHalf n h).addr = d.addr ∧ (d.takeHalf n h).sigs = d.sigs ∧ (d.takeHalf n h).begun = d.begun ∧
    (d.takeHalf n h).statusMark = d.statusMark := by
  rw [takeHalf_eq]
  exact ⟨rfl, rfl, rfl, rfl, rfl⟩

/-- Sampled signals and taken halves do not meet. -/
theorem takeHalf_sigs (d : Drop) (g : DropSigs) (n : Nat) (h : List Byte) :
    ({ d with sigs := g } : Drop).takeHalf n h = { d.takeHalf n h with sigs := g } := by
  obtain ⟨h1, h2, h3, -⟩ := takeHalf_congr (e := { d with sigs := g }) (d := d) rfl rfl rfl n h
  rw [takeHalf_eq { d with sigs := g }, takeHalf_eq d, h1, h2, h3]

theorem takeHalves_sigs (l : List Nat) (d : Drop) (g : DropSigs) (halves : List (List Byte)) :
    ({ d with sigs := g } : Drop).takeHalves halves l = { d.takeHalves halves l with sigs := g } := by
  induction l generalizing d with
  | nil => rfl
  | cons n l ih => rw [takeHalves_cons, takeHalves_cons, takeHalf_sigs, ih]

theorem takeHalves_core (l : List Nat) (d : Drop) (halves : List (List Byte)) :
    (d.takeHalves halves l).core = d.core.takeHalves halves l := by
  induction l generalizing d with
  | nil => rfl
  | cons n l ih => rw [takeHalves_cons, takeHalves_cons, ih, core_takeHalf rfl]

/-! ### What becomes of a drop -/

theorem Stays.weaken {w' : Prop} (g : Stays w a s t) (hw : w' → w) : Stays w' a s t :=
  { g with begun := fun h => g.begun (hw h), work := fun h => g.work (hw h) }

/-- Between the two states the loop came to judge the drop at `a` as `c`. Where `w` says so, the drop keeps the messages
in transmission unless its work item has ended, and takes up no work item. -/
structure Went (w : Prop) (a : Nat) (s t : State) (c : Drop) : Prop where
  ring : s.SameRing t
  core : (t.dropAt a).map Drop.core = some c
  present : c.state ≠ .absent
  mark : ∀ d e, s.dropAt a = some d → t.dropAt a = some e → d.statusMark = true → e.statusMark = true
  begun : w → (t.dropAt a).map Drop.begun = (s.dropAt a).map Drop.begun ∨ t.txnAt a = none
  work : w → s.txnAt a = none → t.txnAt a = none

theorem Went.refl (hd : s.dropAt a = some d) (hp : d.state ≠ .absent) : Went w a s s d.core :=
  ⟨sameRing_of_lpc rfl, by rw [hd]; rfl, hp, fun x y hx hy hm => by cases hx.symm.trans hy; exact hm, fun _ => .inl rfl, fun _ => id⟩

theorem Went.dropAt (h : Went w a s t c) : ∃ e, t.dropAt a = some e ∧ e.core = c := Option.map_eq_some_iff.1 h.core

theorem Went.trans (h : Went w a s t c) (g : Went w a t u d) : Went w a s u d where
  ring := h.ring.trans g.ring
  core := g.core
  present := g.present
  mark d e hd he hm := by
    obtain ⟨x, hx, -⟩ := h.dropAt
    exact g.mark x e hx he (h.mark d x hd hx hm)
  begun hw := (h.begun hw).elim (fun heq => (g.begun hw).imp (fun x => x.trans heq) id) fun hnone => .inr (g.work hw hnone)
  work hw hnone := g.work hw (h.work hw hnone)

/-- A drop that stays went nowhere. -/
theorem Stays.went (h : Stays w a s t) (hd : s.dropAt a = some d) : Went w a s t d.core :=
  ⟨h.ring, by rw [h.core, hd]; rfl, h.present d hd, h.mark, h.begun, h.work⟩

theorem Went.still (h : Went w a r s c) : ∀ d, s.dropAt a = some d → d.state ≠ .absent := by
  obtain ⟨e, he, hc⟩ := h.dropAt
  intro d hd
  cases he.symm.trans hd
  have hs : e.core.state = c.state := by rw [hc]
  exact hs ▸ h.present

theorem Went.stays (h : Went w a r s c) (g : (∀ d, s.dropAt a = some d → d.state ≠ .absent) → Stays w a s t) :
    Went w a r t c := by
  obtain ⟨e, he, hc⟩ := h.dropAt
  exact h.trans (hc ▸ (g h.still).went he)

/-- The drop at `a` is replaced by one that keeps the messages in transmission and a status line due. -/
theorem went_modifyDrop {f : Drop → Drop} (hf : ∀ d, d.addr = a → (f d).addr = a) (hd : s.dropAt a = some d)
    (hp : (f d).state ≠ .absent) (hb : w → (f d).begun = d.begun) (hm : d.statusMark = true → (f d).statusMark = true) :
    Went w a s (s.modifyDrop a f) (f d).core := by
  have hdrop : (s.modifyDrop a f).dropAt a = some (f d) := by rw [dropAt_modifyDrop hf, hd, Option.map_some, if_pos rfl]
  refine ⟨sameRing_modifyDrop hf, by rw [hdrop]; rfl, hp, fun x y hx hy => ?_, fun hw => .inl ?_, fun _ => id⟩
  · cases hd.symm.trans hx
    cases hdrop.symm.trans hy
    exact hm
  · rw [hdrop, hd]
    exact congrArg some (hb hw)

/-! ### The halves of a cycle -/

theorem went_setSignals {g : DropSigs} (hd : s.dropAt a = some d) (hp : d.state ≠ .absent) :
    Went w a s (s.setSignals a g) ({ d with sigs := g } : Drop).core := by
  unfold State.setSignals
  rw [hd]
  have hset := went_modifyDrop (w := w) (f := fun d => { d with sigs := g }) (fun _ hd => by exact hd) hd hp (fun _ => rfl) id
  exact hset.stays fun hstill => Stays.passChanges (.refl hstill)

theorem went_scoreSlot (hd : s.dropAt a = some d) (hp : d.state ≠ .absent) (hw : w → d.completed n h = none) :
    Went w a s (s.scoreSlot d n first h) (d.handled n first h).core := by
  obtain ⟨hstate, haddr, hsigs, hbegun, hmark⟩ := takeHalf_state d n h
  have had := dropAt_addr hd
  subst had
  have hscored : Went w d.addr s (s.modifyDrop d.addr fun _ => d.takeHalf n h) (d.takeHalf n h).core :=
    went_modifyDrop (fun _ _ => haddr) hd (by rw [hstate]; exact hp) (fun _ => hbegun) (by rw [hmark]; exact id)
  have hfirst : Went w d.addr s (if first then (s.modifyDrop d.addr fun _ => d.takeHalf n h).sampleFirst d.addr n h
      else s.modifyDrop d.addr fun _ => d.takeHalf n h) (d.handled n first h).core := by
    unfold Drop.handled
    split
    · have hat : (s.modifyDrop d.addr fun _ => d.takeHalf n h).dropAt d.addr = some (d.takeHalf n h) := by
        rw [dropAt_modifyDrop fun _ _ => haddr, hd, Option.map_some, if_pos rfl]
      unfold State.sampleFirst
      rw [hat]
      exact hscored.trans (went_setSignals hat (by rw [hstate]; exact hp))
    · exact hscored
  have hslot : s.scoreSlot d n first h = match d.completed n h with
      | some l => (if first then (s.modifyDrop d.addr fun _ => d.takeHalf n h).sampleFirst d.addr n h
          else s.modifyDrop d.addr fun _ => d.takeHalf n h).takeMessage d.addr l
      | none => if first then (s.modifyDrop d.addr fun _ => d.takeHalf n h).sampleFirst d.addr n h
          else s.modifyDrop d.addr fun _ => d.takeHalf n h := by
    unfold State.scoreSlot Drop.completed Drop.takeHalf
    by_cases hc : cleanHalf n h = true
    · simp only [if_pos hc]; rfl
    · simp only [if_neg hc]; rfl
  rw [hslot]
  cases hc : d.completed n h with
  | none => exact hfirst
  | some l => exact hfirst.stays fun hstill => Stays.takeMessage (.refl hstill) fun h => absurd (hc.symm.trans (hw h)) nofun

theorem went_probeSlot (hd : s.dropAt a = some d) (hp : d.state ≠ .absent) :
    Went w a s (s.probeSlot d n h) (d.probed n h).core := by
  have had := dropAt_addr hd
  subst had
  have hrun : ∀ f : Drop → Drop, (∀ x, f x = { x with probeRun := (f x).probeRun }) → ∀ g,
      Went w d.addr s ((s.modifyDrop d.addr f).setSignals d.addr g) ({ f d with sigs := g } : Drop).core := fun f hf g => by
    have haddr : ∀ x : Drop, x.addr = d.addr → (f x).addr = d.addr := fun x hx => by rw [hf]; exact hx
    have hat : (s.modifyDrop d.addr f).dropAt d.addr = some (f d) := by
      rw [dropAt_modifyDrop haddr, hd, Option.map_some, if_pos rfl]
    have hstate : (f d).state = d.state := by rw [hf]
    have hfirst : Went w d.addr s (s.modifyDrop d.addr f) (f d).core :=
      went_modifyDrop haddr hd (by rw [hstate]; exact hp) (fun _ => by rw [hf]) (by rw [hf]; exact id)
    exact hfirst.trans (went_setSignals hat (by rw [hstate]; exact hp))
  unfold State.probeSlot Drop.probed
  split
  · exact hrun _ (fun _ => rfl) _
  · exact hrun _ (fun _ => rfl) _

end Sys2Proof.Machine
end

section
/-! SUPPORT. A good cycle as one drop sees it: the slots in order, the turns of the evaluation and of the completions
(R1, R4, R7 to R9). -/

namespace Sys2Proof.Machine

variable {w : Prop} {a b m n : Nat} {r s t u before : State} {c d e z old : Drop} {h : List Byte} {first : Bool}

/-! ### The slots of other drops -/

theorem Stays.sampleFirst (g : Stays w a r s) (hb : b ≠ a) : Stays w a r (s.sampleFirst b n h) := by
  unfold State.sampleFirst
  split
  · exact g.setSignals hb
  · exact g

theorem Stays.scoreSlot (g : Stays w a r s) (hb : d.addr ≠ a) : Stays w a r (s.scoreSlot d n first h) := by
  have hscored : ∀ x : Assembled, x.drop.addr = d.addr → Stays w a r
      (s.modifyDrop d.addr fun _ => { x.drop with score := scored x.error d.score }) := fun x hx =>
    g.modifyDrop (fun _ _ => hx) fun hab => absurd hab hb
  have hsame : (if cleanHalf n h then d.assemble (upFirst h) (upLast h) (upBytes h) else ⟨true, d, none⟩ : Assembled).drop.addr
      = d.addr := by
    split
    · rw [assemble_eq]
    · rfl
  unfold State.scoreSlot
  dsimp only
  generalize (if cleanHalf n h then d.assemble (upFirst h) (upLast h) (upBytes h) else ⟨true, d, none⟩ : Assembled) = x at *
  have hsampled : Stays w a r (if first then (s.modifyDrop d.addr fun _ =>
      { x.drop with score := scored x.error d.score }).sampleFirst d.addr n h
      else s.modifyDrop d.addr fun _ => { x.drop with score := scored x.error d.score }) := by
    split
    · exact (hscored x hsame).sampleFirst hb
    · exact hscored x hsame
  split
  · exact hsampled.takeMessage fun _ => hb
  · exact hsampled

theorem Stays.probeSlot (g : Stays w a r s) (hb : d.addr ≠ a) : Stays w a r (s.probeSlot d n h) := by
  unfold State.probeSlot
  split
  · exact Stays.setSignals (g.modifyDrop (fun _ hd => by exact hd) fun hab => absurd hab hb) hb
  · exact Stays.setSignals (g.modifyDrop (fun _ hd => by exact hd) fun hab => absurd hab hb) hb

theorem Stays.offerSlot (g : Stays w a r s) (hb : b ≠ a) : Stays w a r (s.offerSlot b n h) := by
  unfold State.offerSlot
  split
  · split
    · exact g.announce fun _ => hb
    · exact g
  · exact g

/-- A slot that belongs to no drop, or to another. -/
theorem Stays.handleSlot (g : Stays w a r s) (ho : slotOwner before.lpc.slotMap n ≠ some a) :
    Stays w a r (before.handleSlot s n h) := by
  unfold State.handleSlot
  split
  · exact g
  · next old d hfound =>
    obtain ⟨b, hb, hrest⟩ := Option.bind_eq_some_iff.1 hfound
    obtain ⟨x, -, hx⟩ := Option.bind_eq_some_iff.1 hrest
    obtain ⟨y, hy, hpair⟩ := Option.map_eq_some_iff.1 hx
    obtain ⟨-, rfl⟩ := Prod.mk.inj hpair
    have haddr : y.addr ≠ a := fun hya => ho (by rw [hb, ← dropAt_addr hy, hya])
    dsimp only
    split
    · exact g.scoreSlot haddr
    · split
      · exact g.scoreSlot haddr
      · exact g
    · split
      · exact g.probeSlot haddr
      · exact g
    · split
      · exact g.offerSlot haddr
      · exact g

/-! ### The slots of the drop -/

/-- What the half of a slot of its own makes of a drop that is judged as `c` and stood in a state as the cycle
returned. -/
def Drop.ownHalf (c : Drop) (state : DropState) (first : Bool) (n : Nat) (h : List Byte) : Drop :=
  match state with
  | .active => c.handled n first h
  | .degraded => if first then c.handled n true h else c
  | .fenced => if first then c.probed n h else c
  | .absent => c

theorem core_handled (hc : e.core = c) : (e.handled n first h).core = c.handled n first h := by
  have hsigs : e.core.sigs = e.sigs := rfl
  unfold Drop.handled Drop.firstSample
  rw [← core_takeHalf hc]
  split
  · rw [(takeHalf_state e n h).2.2.1, show (e.takeHalf n h).core.sigs = e.sigs from (takeHalf_state e n h).2.2.1]
    rfl
  · rfl

theorem core_probed (hc : e.core = c) : (e.probed n h).core = c.probed n h := by
  rw [← hc]
  unfold Drop.probed
  split <;> rfl

theorem handled_state (d : Drop) : (d.handled n first h).state = d.state := by
  unfold Drop.handled Drop.firstSample
  split <;> exact (takeHalf_state d n h).1

theorem Went.handleOwn (g : Went w a r s c) (ho : slotOwner before.lpc.slotMap n = some a) (hold : before.dropAt a = some old)
    (hp : old.state ≠ .absent) (hw : w → c.completed n h = none) : Went w a r (before.handleSlot s n h)
      (c.ownHalf old.state (firstSlot before.lpc.slotMap a == some n) n h) := by
  obtain ⟨e, he, hc⟩ := g.dropAt
  have hstill := g.still e he
  have haddr := dropAt_addr he
  have hhandled : ∀ first, Went w a r (s.scoreSlot e n first h) (c.handled n first h) := fun first =>
    g.trans (core_handled hc ▸ went_scoreSlot he hstill fun hww => (completed_core hc n h).symm.trans (hw hww))
  have hslot : before.handleSlot s n h = match old.state with
      | .active => s.scoreSlot e n (firstSlot before.lpc.slotMap a == some n) h
      | .degraded => if firstSlot before.lpc.slotMap a == some n then s.scoreSlot e n true h else s
      | .fenced => if firstSlot before.lpc.slotMap a == some n then s.probeSlot e n h else s
      | .absent => if firstSlot before.lpc.slotMap a == some n then s.offerSlot e.addr n h else s := by
    unfold State.handleSlot
    rw [ho, Option.bind_some, hold, Option.bind_some, he, Option.map_some]
    simp only [haddr] <;> rfl
  rw [hslot]
  unfold Drop.ownHalf
  cases hs : old.state with
  | active => exact hhandled _
  | degraded =>
    dsimp only
    split
    · exact hhandled true
    · exact g
  | fenced =>
    dsimp only
    split
    · exact g.trans (core_probed hc ▸ went_probeSlot he hstill)
    · exact g
  | absent => exact absurd hs hp

/-- The slots of a list in order: those of the drop act on it one after another. -/
theorem Went.handleSlots (halves : List (List Byte)) (hold : before.dropAt a = some old) (hp : old.state ≠ .absent)
    (l : List Nat) (g : Went w a r s c) (hw : w → ∀ n ∈ l, slotOwner before.lpc.slotMap n = some a → ∀ c : Drop,
      c.completed n (halves.getD (n - 1) []) = none) :
    Went w a r (l.foldl (fun x n => before.handleSlot x n (halves.getD (n - 1) [])) s)
      ((l.filter fun n => slotOwner before.lpc.slotMap n == some a).foldl (fun c n =>
        c.ownHalf old.state (firstSlot before.lpc.slotMap a == some n) n (halves.getD (n - 1) [])) c) := by
  induction l generalizing s c with
  | nil => exact g
  | cons n l ih =>
    have hrest : w → ∀ k ∈ l, slotOwner before.lpc.slotMap k = some a → ∀ c : Drop,
        c.completed k (halves.getD (k - 1) []) = none := fun hww k hk => hw hww k (List.mem_cons_of_mem _ hk)
    by_cases ho : slotOwner before.lpc.slotMap n = some a
    · rw [List.filter_cons_of_pos (by simp [ho])]
      exact ih (g.handleOwn ho hold hp fun hww => hw hww n List.mem_cons_self ho c) hrest
    · rw [List.filter_cons_of_neg (by simp [ho])]
      exact ih (g.stays fun hstill => (Stays.refl hstill).handleSlot ho) hrest

/-! ### The turn of one drop among others -/

/-- Turns over addresses other than the drop's leave it alone. -/
theorem stays_others {f : State → Nat → State} (hf : ∀ s b, b ≠ a → ∀ r, Stays w a r s → Stays w a r (f s b)) {l : List Nat}
    (hl : a ∉ l) (hp : ∀ d, s.dropAt a = some d → d.state ≠ .absent) : Stays w a s (l.foldl f s) := by
  induction l generalizing s with
  | nil => exact .refl hp
  | cons b l ih =>
    have hfirst := hf s b (fun hba => hl (hba ▸ List.mem_cons_self)) s (.refl hp)
    exact hfirst.trans (ih (fun h => hl (List.mem_cons_of_mem _ h)) fun _ hd => hfirst.still hd)

/-- An address that stands once has its turn between turns of others. -/
theorem turns_split {l : List Nat} (ha : a ∈ l) (hn : l.Nodup) : ∃ l₁ l₂ : List Nat, a ∉ l₁ ∧ a ∉ l₂ ∧
    ∀ (f : State → Nat → State) (s : State), l.foldl f s = l₂.foldl f (f (l₁.foldl f s) a) := by
  obtain ⟨l₁, l₂, rfl⟩ := List.append_of_mem ha
  obtain ⟨-, hcons, hdisj⟩ := List.nodup_append.1 hn
  exact ⟨l₁, l₂, fun h => hdisj a h a List.mem_cons_self rfl, (List.nodup_cons.1 hcons).1, fun f s => by
    rw [List.foldl_append, List.foldl_cons]⟩

/-! ### The evaluation and the completions -/

theorem Stays.tellFenced (g : Stays w a r s) : Stays w a r (s.tellFenced d) := by
  unfold State.tellFenced
  split
  · exact g.onSessionsAt
  · exact g.interruptSession

theorem Stays.tellRecovered (g : Stays w a r s) : Stays w a r (s.tellRecovered d) := by
  unfold State.tellRecovered
  split
  · exact Stays.queueStatus g.onSessionsAt
  · exact g.identifyIfBook

theorem Stays.evaluate (hb : b ≠ a) (g : Stays w a r s) : Stays w a r (s.evaluate b) := by
  have hother : ∀ {f : Drop → Drop}, (∀ d, (f d).addr = d.addr) → Stays w a r (s.modifyDrop b f) := fun hf =>
    g.modifyDrop (fun d hd => (hf d).trans hd) fun hab => absurd hab hb
  unfold State.evaluate
  split
  · exact g
  · next d hd =>
    have haddr := dropAt_addr hd
    have hnew : ∀ new : DropState, Stays w a r (if new = d.state then s.modifyDrop b fun d => { d with state := new }
        else (s.modifyDrop b fun d => { d with state := new }).queueStatus b) := fun new => by
      split
      · exact hother fun _ => rfl
      · exact Stays.queueStatus (hother fun _ => rfl)
    have hused : Stays w a r (s.evaluateUsed d) := by
      unfold State.evaluateUsed
      rw [haddr]
      split
      · exact Stays.tellFenced (hother fun _ => rfl)
      · exact hnew _
    split
    · exact hused
    · exact hused
    · unfold State.evaluateFenced
      rw [haddr]
      split
      · exact Stays.tellRecovered (hother fun _ => rfl)
      · exact g
    · exact g

theorem Stays.deliver (hb : b ≠ a) (g : Stays w a r s) : Stays w a r (s.deliver b) := by
  have hother : Stays w a r (s.modifyDrop b Drop.settleBegun) :=
    g.modifyDrop (fun _ hd => by exact hd) fun hab => absurd hab hb
  unfold State.deliver
  split
  · exact g
  · dsimp only
    split
    · exact hother.endTxn
    · exact hother

/-- A completed drop is judged as before; where a final reply of its messages is complete, its work item has ended. -/
theorem deliver_own (hd : s.dropAt a = some d) (hp : d.state ≠ .absent) : Went False a s (s.deliver a) d.core ∧
    (s.txnAt a = none → (s.deliver a).txnAt a = none) ∧
    (d.begun.any (fun b => b.complete && isFinal b.msg) = true → (s.deliver a).txnAt a = none) := by
  have hsettled : Went False a s (s.modifyDrop a Drop.settleBegun) d.core :=
    went_modifyDrop (f := Drop.settleBegun) (fun _ hd => by exact hd) hd hp nofun id
  unfold State.deliver
  rw [hd]
  dsimp only
  split
  · have hend : ((s.modifyDrop a Drop.settleBegun).endTxn a).txnAt a = none := by rw [txnAt_endTxn, if_pos rfl]
    exact ⟨hsettled.stays fun hstill => Stays.endTxn (.refl hstill), fun _ => hend, fun _ => hend⟩
  · next hno => exact ⟨hsettled, id, fun hyes => absurd hyes hno⟩

/-- What the evaluation makes of an ACTIVE or DEGRADED drop (R7). -/
def Drop.judged (d : Drop) : Drop :=
  if d.sigs.selfFault.confirmed || decide (Config.fencedScore ≤ d.score) then
    { d with state := .fenced, score := max d.score Config.fencedScore, assembly := [] }
  else { d with state := if Config.degradedScore ≤ d.score then .degraded else .active }

theorem went_evaluateUsed (hd : s.dropAt a = some d) (hs : d.state = .active ∨ d.state = .degraded)
    (hw : w → d.judged.state ≠ .fenced) : Went w a s (s.evaluate a) d.judged.core ∧
      (d.judged.state ≠ .fenced → d.judged.state ≠ d.state → d.kind = .teller →
        ∀ e, (s.evaluate a).dropAt a = some e → e.statusMark = true) := by
  have had := dropAt_addr hd
  subst had
  have heval : s.evaluate d.addr = s.evaluateUsed d := by
    rcases hs with hs | hs <;> simp only [State.evaluate, hd, hs]
  rw [heval]
  unfold State.evaluateUsed
  by_cases hf : (d.sigs.selfFault.confirmed || decide (Config.fencedScore ≤ d.score)) = true
  · rw [if_pos hf]
    have hj : d.judged = { d with state := .fenced, score := max d.score Config.fencedScore, assembly := [] } := if_pos hf
    have hfenced : d.judged.state = .fenced := by rw [hj]
    refine ⟨?_, fun hn => absurd hfenced hn⟩
    have hgone : Went w d.addr s (s.modifyDrop d.addr Drop.fence) d.fence.core :=
      went_modifyDrop (fun _ hd => by exact hd) hd (by rw [show d.fence.state = .fenced from rfl]; decide)
        (fun hww => absurd hfenced (hw hww)) id
    rw [hj]
    exact hgone.stays fun hstill => Stays.tellFenced (.refl hstill)
  · rw [if_neg hf]
    have hj : d.judged = { d with state := if Config.degradedScore ≤ d.score then .degraded else .active } := if_neg hf
    have hgone : Went w d.addr s (s.modifyDrop d.addr fun x =>
        { x with state := if Config.degradedScore ≤ d.score then .degraded else .active }) d.judged.core := by
      rw [hj]
      refine went_modifyDrop (f := fun x => { x with state := if Config.degradedScore ≤ d.score then .degraded else .active })
        (fun _ hd => by exact hd) hd ?_ (fun _ => rfl) id
      dsimp only
      split <;> decide
    have hnew : d.judged.state = if Config.degradedScore ≤ d.score then .degraded else .active := by rw [hj]
    dsimp only
    rw [← hnew] at hgone ⊢
    split
    · next hsame => exact ⟨hgone, fun _ hne => absurd hsame hne⟩
    · refine ⟨hgone.stays fun hstill => Stays.queueStatus (.refl hstill), fun _ _ hk e he => ?_⟩
      have hat : ((s.modifyDrop d.addr fun x => { x with state := d.judged.state }).queueStatus d.addr).dropAt d.addr =
          some ({ d with state := d.judged.state } : Drop).queueStatus := by
        rw [State.queueStatus, dropAt_modifyDrop fun x hx => ?_, dropAt_modifyDrop fun _ hx => by exact hx, hd,
          Option.map_some, Option.map_some, if_pos rfl, if_pos rfl]
        exact x.queueStatus_mild.addr.trans hx
      cases hat.symm.trans he
      rw [Drop.queueStatus, if_pos hk]

end Sys2Proof.Machine
end

section
/-! SUPPORT. A good cycle from its first half to its last completion, as one drop sees it (R1, R4 to R9). -/

namespace Sys2Proof.Machine

variable {w : Prop} {a b m n : Nat} {r s t u v : State} {c d e z : Drop} {h : List Byte} {halves : List (List Byte)}

/-! ### The halves of the drop's slots -/

/-- What the halves of its slots make of a drop that stood in a state as the cycle returned, its first slot being `n`. -/
def Drop.ownHalves (c : Drop) (state : DropState) (n : Nat) (halves : List (List Byte)) (l : List Nat) : Drop :=
  l.foldl (fun c m => c.ownHalf state (some n == some m) m (halves.getD (m - 1) [])) c

/-- The slots after the first are scored while the drop is ACTIVE. -/
theorem ownHalves_rest (l : List Nat) (hn : n ∉ l) (c : Drop) {state : DropState} :
    c.ownHalves state n halves l = if state = .active then c.takeHalves halves l else c := by
  induction l generalizing c with
  | nil => cases state <;> rfl
  | cons m l ih =>
    have hne : (some n == some m) = false := by
      have : n ≠ m := fun h => hn (h ▸ List.mem_cons_self)
      simpa using this
    have hrest := ih fun h => hn (List.mem_cons_of_mem _ h)
    rw [Drop.ownHalves, List.foldl_cons, ← Drop.ownHalves, hrest, hne]
    cases state <;> rfl

theorem ownHalves_cons (l : List Nat) (c : Drop) {state : DropState} :
    c.ownHalves state n halves (n :: l) = (c.ownHalf state true n (halves.getD (n - 1) [])).ownHalves state n halves l := by
  have hsame : (some n == some n) = true := by simp
  rw [Drop.ownHalves, List.foldl_cons, hsame, ← Drop.ownHalves]

/-- The first slot samples the signals, whatever the halves of the others. -/
theorem ownHalves_active (l : List Nat) (hn : n ∉ l) (c : Drop) : c.ownHalves .active n halves (n :: l) =
    { c.takeHalves halves (n :: l) with sigs := (c.firstSample n (halves.getD (n - 1) [])).sigs } := by
  rw [ownHalves_cons l, ownHalves_rest l hn, if_pos rfl, takeHalves_cons, ← takeHalves_sigs]
  have hsigs := (takeHalf_state c n (halves.getD (n - 1) [])).2.2.1
  simp only [Drop.ownHalf, Drop.handled, Drop.firstSample, if_true, hsigs]

theorem ownHalves_degraded (l : List Nat) (hn : n ∉ l) (c : Drop) : c.ownHalves .degraded n halves (n :: l) =
    { c.takeHalves halves [n] with sigs := (c.firstSample n (halves.getD (n - 1) [])).sigs } := by
  rw [ownHalves_cons l, ownHalves_rest l hn, if_neg (by decide), takeHalves_cons]
  have hsigs := (takeHalf_state c n (halves.getD (n - 1) [])).2.2.1
  simp only [Drop.ownHalf, Drop.handled, Drop.firstSample, if_true, hsigs]
  rfl

theorem ownHalves_fenced (l : List Nat) (hn : n ∉ l) (c : Drop) :
    c.ownHalves .fenced n halves (n :: l) = c.probed n (halves.getD (n - 1) []) := by
  rw [ownHalves_cons l, ownHalves_rest l hn, if_neg (by decide)]
  rfl

/-! ### The cycle -/

/-- The state in which the halves of a good cycle are taken (R1, R12, R14). -/
def State.returned (s : State) : State :=
  s.clearCycle.onLpc fun l => { l with slipRun := 0, drops := l.drops.map Drop.unsampled }

theorem returned_dropAt (hd : s.dropAt a = some d) (hp : d.state ≠ .absent) : s.returned.dropAt a = some d := by
  have haddr : ∀ x : Drop, x.unsampled.addr = x.addr := fun x => by
    unfold Drop.unsampled
    split <;> rfl
  have hmap : s.returned.dropAt a = (s.dropAt a).map Drop.unsampled := findKey_map haddr
  rw [hmap, hd, Option.map_some, Drop.unsampled, if_neg hp]

theorem returned_addrs : s.returned.lpc.drops.map Drop.addr = s.lpc.drops.map Drop.addr := by
  have hmap : s.returned.lpc.drops.map Drop.addr = (s.lpc.drops.map Drop.unsampled).map Drop.addr := rfl
  rw [hmap, List.map_map]
  refine List.map_congr_left fun x _ => ?_
  rw [Function.comp_apply]
  unfold Drop.unsampled
  split <;> rfl

/-- The end of a good cycle from the state after its halves on. -/
def State.completedCycle (s : State) : State :=
  (s.addresses.foldl State.evaluate s).addresses.foldl State.deliver (s.addresses.foldl State.evaluate s)

theorem goodCycle_eq : s.clearCycle.goodCycle halves = (s.returned.handleSlots halves).completedCycle := rfl

/-- What a good cycle does to a drop: the halves of its slots, its evaluation, and its completions, with the rest of the
cycle in between (R1). -/
theorem goodCycle_went {c₂ : Drop} (ha : s.lpc.drops.map Drop.addr = List.range' 1 28) (hd : s.dropAt a = some d)
    (hp : d.state ≠ .absent) {l : List Nat} (hm : mappedSlots s.lpc.slotMap a = n :: l)
    (hw : w → ∀ k ∈ n :: l, ∀ c : Drop, c.completed k (halves.getD (k - 1) []) = none)
    (hev : ∀ u e, u.dropAt a = some e → e.core = d.core.ownHalves d.state n halves (n :: l) → e.state ≠ .absent →
      Went w a u (u.evaluate a) c₂) :
    ∃ (u v : State) (l₁ l₂ : List Nat), (a ∉ l₁ ∧ u = l₁.foldl State.evaluate (s.returned.handleSlots halves)) ∧
      (a ∉ l₂ ∧ s.clearCycle.goodCycle halves =
        (List.range' 1 28).foldl State.deliver (l₂.foldl State.evaluate (u.evaluate a))) ∧
      Went w a s.returned u (d.core.ownHalves d.state n halves (n :: l)) ∧ Stays w a (u.evaluate a) v ∧
      Went w a s.returned v c₂ ∧ Went False a v (s.clearCycle.goodCycle halves) c₂ ∧
      (w → ∀ y, v.dropAt a = some y → v.txnAt a = none ∨ y.begun.any (fun b => b.complete && isFinal b.msg) = true →
        (s.clearCycle.goodCycle halves).txnAt a = none) := by
  have hin : a ∈ List.range' 1 28 := ha ▸ dropAt_addr hd ▸ List.mem_map_of_mem (mem_of_dropAt hd)
  have hslotMap : s.returned.lpc.slotMap = s.lpc.slotMap := rfl
  have hhalves : Went w a s.returned (s.returned.handleSlots halves) (d.core.ownHalves d.state n halves (n :: l)) := by
    have hslots := (Went.refl (w := w) (returned_dropAt hd hp) hp).handleSlots halves (returned_dropAt hd hp) hp (List.range' 1 31)
      fun hww k hk ho => hw hww k (by rw [← hm]; exact List.mem_filter.2 ⟨hk, by simpa [hslotMap] using ho⟩)
    rw [hslotMap, firstSlot, hm] at hslots
    rw [Drop.ownHalves, ← hm]
    exact hslots
  have haddr : (s.returned.handleSlots halves).addresses = List.range' 1 28 :=
    hhalves.ring.2.trans (returned_addrs.trans ha)
  rw [goodCycle_eq]
  generalize s.returned.handleSlots halves = q at *
  obtain ⟨l₁, l₂, h₁, h₂, hsplit⟩ := turns_split hin List.nodup_range'
  have hu := hhalves.stays fun hstill => stays_others (fun _ _ hb _ => Stays.evaluate hb) h₁ hstill
  obtain ⟨u, hueq⟩ : ∃ u, u = l₁.foldl State.evaluate q := ⟨_, rfl⟩
  rw [← hueq] at hu
  obtain ⟨e, he, hec⟩ := hu.dropAt
  have hjudged := hev u e he hec (hu.still e he)
  have hstays : Stays w a (u.evaluate a) ((List.range' 1 28).foldl State.evaluate q) := by
    rw [hsplit, ← hueq]
    exact stays_others (fun _ _ hb _ => Stays.evaluate hb) h₂ hjudged.still
  have hturn : (List.range' 1 28).foldl State.evaluate q = l₂.foldl State.evaluate (u.evaluate a) := by rw [hsplit, ← hueq]
  have hto : Went w a s.returned ((List.range' 1 28).foldl State.evaluate q) c₂ := (hu.trans hjudged).stays fun _ => hstays
  have haddr' : ((List.range' 1 28).foldl State.evaluate q).addresses = List.range' 1 28 :=
    hto.ring.2.trans (returned_addrs.trans ha)
  unfold State.completedCycle
  rw [haddr, haddr']
  generalize (List.range' 1 28).foldl State.evaluate q = p at *
  have hwait := stays_others (w := w) (fun _ _ hb _ => Stays.deliver hb) h₁ hto.still
  have hv := hto.stays fun _ => hwait
  have hends := hsplit State.deliver p
  rw [hends]
  generalize l₁.foldl State.deliver p = v at *
  obtain ⟨y, hy, hyc⟩ := hv.dropAt
  obtain ⟨hown, hnone, hfinal⟩ := deliver_own hy (hv.still y hy)
  have hend : Stays w a (v.deliver a) (l₂.foldl State.deliver (v.deliver a)) :=
    stays_others (fun _ _ hb _ => Stays.deliver hb) h₂ hown.still
  refine ⟨u, v, l₁, l₂, ⟨h₁, hueq⟩, ⟨h₂, by rw [← hturn, hends]⟩, hu, hstays.trans hwait, hv, hyc ▸ hown.stays fun _ => hend.weaken nofun, fun hww z hz hor => ?_⟩
  cases hy.symm.trans hz
  exact hend.work hww (hor.elim hnone hfinal)

end Sys2Proof.Machine
end

section
/-! PROOFS. The scores of a good cycle: the first two parts of the statement O8 (R4 to R7). -/

namespace Sys2Proof.Machine

variable {w : Prop} {a n : Nat} {s t u v : State} {c d e z : Drop} {h : List Byte} {x : ReturnedCycle}

/-- What the loop judges of a drop can be read from its core. -/
theorem core_fields (hc : e.core = c) : e.sigs = c.sigs ∧ e.outOfStep = c.outOfStep ∧ e.state = c.state ∧ e.score = c.score ∧
    e.assembly = c.assembly ∧ e.probeRun = c.probeRun ∧ e.kind = c.kind := by
  subst hc
  exact ⟨rfl, rfl, rfl, rfl, rfl, rfl, rfl⟩

theorem core_judged (hc : e.core = c) : e.judged.core = c.judged := by
  rw [← hc]
  have hsame : (e.core.sigs.selfFault.confirmed || decide (Config.fencedScore ≤ e.core.score)) =
      (e.sigs.selfFault.confirmed || decide (Config.fencedScore ≤ e.score)) := rfl
  unfold Drop.judged
  rw [hsame]
  split <;> rfl

/-- A drop that is judged: FENCED by a confirmed SELF-FAULT or its score, else as its score says (R7). -/
theorem judged_fenced (hf : d.sigs.selfFault.confirmed = true ∨ 192 ≤ d.score) :
    d.judged = { d with state := .fenced, score := max d.score 192, assembly := [] } := by
  refine if_pos ?_
  rw [Bool.or_eq_true, decide_eq_true_iff]
  exact hf

theorem judged_used (hf : ¬(d.sigs.selfFault.confirmed = true ∨ 192 ≤ d.score)) :
    d.judged = { d with state := if 96 ≤ d.score then .degraded else .active } := by
  refine if_neg ?_
  rw [Bool.or_eq_true, decide_eq_true_iff]
  exact hf

theorem judged_state_ne (hf : ¬(d.sigs.selfFault.confirmed = true ∨ 192 ≤ d.score)) : d.judged.state ≠ .fenced := by
  rw [judged_used hf]
  dsimp only
  split <;> decide

theorem exec_scores (hs : s.Scores x a d) : exec (.cycleReturn x) s = .next (s.clearCycle.goodCycle x.halves) := by
  obtain ⟨hr, hcy, hl, hm, hi, -, -⟩ := hs
  rw [exec_goodReturn hr hcy hm hi, hl]

/-- The slots of a drop after its first are others. -/
theorem mappedSlots_rest {m : List (Option Nat)} {l : List Nat} (hm : mappedSlots m a = n :: l) : n ∉ l := by
  have hnodup : (mappedSlots m a).Nodup := List.Nodup.filter _ List.nodup_range'
  rw [hm] at hnodup
  exact (List.nodup_cons.1 hnodup).1

/-- What the cycle makes of an ACTIVE or DEGRADED drop, of which the halves make `c` (R5 to R7). -/
theorem used_drop {l : List Nat} (hs : s.Scores x a d) (hst : d.state = .active ∨ d.state = .degraded)
    (hm : mappedSlots s.lpc.slotMap a = n :: l) (hc : c = d.core.ownHalves d.state n x.halves (n :: l))
    (hw : w → ∀ k ∈ n :: l, ∀ c : Drop, c.completed k (x.halves.getD (k - 1) []) = none) (hstate : c.state = d.state)
    (hkind : c.kind = d.kind) (hf : w → c.judged.state ≠ .fenced) :
    ∃ t e, exec (.cycleReturn x) s = .next t ∧ t.dropAt a = some e ∧ e.core = c.judged ∧ s.returned.SameRing t ∧
      (c.judged.state ≠ .fenced → c.judged.state ≠ d.state → d.kind = .teller → e.statusMark = true) ∧
      (w → d.begun.any (fun b => b.complete && isFinal b.msg) = true → t.txnAt a = none) := by
  have hexec := exec_scores hs
  obtain ⟨-, -, -, -, -, haddr, hd⟩ := hs
  have hp : d.state ≠ .absent := by rcases hst with h | h <;> rw [h] <;> decide
  have hjudge : ∀ (u : State) (e : Drop), u.dropAt a = some e → e.core = c → Went w a u (u.evaluate a) c.judged ∧
      (c.judged.state ≠ .fenced → c.judged.state ≠ d.state → d.kind = .teller → ∀ y, (u.evaluate a).dropAt a = some y →
        y.statusMark = true) := fun u e he hec => by
    have hes : e.state = d.state := (congrArg Drop.state hec).trans hstate
    have hek : e.kind = d.kind := (congrArg Drop.kind hec).trans hkind
    have hcj := core_judged hec
    have hjs : e.judged.state = c.judged.state := (core_fields hcj).2.2.1
    obtain ⟨hwent, hmark⟩ := went_evaluateUsed (w := w) he (by rw [hes]; exact hst) (by rw [hjs]; exact hf)
    rw [hcj, hjs, hes, hek] at *
    exact ⟨hwent, hmark⟩
  obtain ⟨u, v, _, _, -, -, hu, hrest, hv, hlast, hdone⟩ := goodCycle_went (c₂ := c.judged) haddr hd hp hm hw
    fun u e he hec _ => (hjudge u e he (hec.trans hc.symm)).1
  rw [← hc] at hu
  obtain ⟨e, he, hec⟩ := hlast.dropAt
  refine ⟨_, e, hexec, he, hec, hv.ring.trans hlast.ring, fun hn hne hk => ?_, fun hww hbegun => ?_⟩
  · obtain ⟨y, hy, hyc⟩ := hu.dropAt
    obtain ⟨hwent, hmark⟩ := hjudge u y hy hyc
    obtain ⟨z, hz, -⟩ := hwent.dropAt
    obtain ⟨q, hq, -⟩ := hrest.dropAt hz
    exact hlast.mark q e hq he (hrest.mark z q hz hq (hmark hn hne hk z hz))
  · obtain ⟨y, hy, -⟩ := hv.dropAt
    refine hdone hww y hy ((hv.begun hww).symm.imp id fun hsame => ?_)
    rw [hy, returned_dropAt hd hp] at hsame
    rw [Option.some.inj hsame]
    exact hbegun

/-- A half that is missing, fails its check, echoes another slot or is empty completes no message (R6). -/
theorem completed_none (hc : cleanHalf n h = false ∨ upEmpty h = true) (d : Drop) : d.completed n h = none := by
  unfold Drop.completed
  split
  · next hclean =>
    have hempty := hc.resolve_left (by rw [hclean]; decide)
    simp only [upEmpty, Bool.and_eq_true, Bool.not_eq_true'] at hempty
    obtain ⟨⟨hfirst, hlast⟩, hbytes⟩ := hempty
    rw [hfirst, hlast, Drop.assemble, if_neg (by decide), if_pos (by simp [hbytes])]
  · rfl

/-- The score after a half that is in error, and after a clean empty one (R5). -/
theorem takeHalf_score_bad (hc : cleanHalf n h = false) (d : Drop) : (d.takeHalf n h).score = min 255 (d.score + 8) := by
  unfold Drop.takeHalf
  rw [hc]
  rfl

theorem takeHalf_score_empty (hc : cleanHalf n h = true) (he : upEmpty h = true) (d : Drop) :
    (d.takeHalf n h).score = d.score - 1 := by
  simp only [upEmpty, Bool.and_eq_true, Bool.not_eq_true'] at he
  obtain ⟨⟨hfirst, hlast⟩, hbytes⟩ := he
  unfold Drop.takeHalf
  rw [hc, hfirst, hlast, Drop.assemble, if_pos rfl, if_neg (by decide), if_pos (by simp [hbytes])]
  rfl

/-- The first part of O8: a drop with one slot whose half completes nothing. -/
theorem goodCycle_scores_one {score : Nat} {sigs : DropSigs} (hs : s.Scores x a d) (hst : d.state = .active)
    (hm : mappedSlots s.lpc.slotMap a = [n]) (hh : h = x.halves.getD (n - 1) [])
    (hcase : (cleanHalf n h = false ∧ score = min 255 (d.score + 8) ∧ sigs = d.sigs.skip) ∨
      (cleanHalf n h = true ∧ upEmpty h = true ∧ score = d.score - 1 ∧ sigs = d.sigs.sample (upSignals h))) :
    ∃ t e, exec (.cycleReturn x) s = .next t ∧ t.dropAt a = some e ∧ t.lpc.cycle = none ∧ t.lpc.slipRun = 0 ∧
      e.sigs = sigs ∧
      (if sigs.selfFault.confirmed = true ∨ 192 ≤ score then e.state = .fenced ∧ e.score = max score 192
       else e.score = score ∧ e.state = (if 96 ≤ score then .degraded else .active) ∧
         (d.begun.any (fun b => b.complete && isFinal b.msg) = true → t.txnAt a = none)) := by
  have hnone : ∀ c : Drop, c.completed n h = none := completed_none (hcase.imp (fun g => g.1) fun g => g.2.1)
  have hscore : (d.core.takeHalf n h).score = score := by
    obtain ⟨hc, rfl, -⟩ | ⟨hc, he, rfl, -⟩ := hcase
    · exact takeHalf_score_bad hc _
    · exact takeHalf_score_empty hc he _
  have hsigs : (d.core.firstSample n h).sigs = sigs := by
    obtain ⟨hc, -, rfl⟩ | ⟨hc, -, -, rfl⟩ := hcase
    · exact if_neg (by rw [hc]; decide)
    · exact if_pos hc
  obtain ⟨hstate, -, -, -, -⟩ := takeHalf_state d.core n h
  have hkind : (d.core.takeHalf n h).kind = d.kind := by rw [takeHalf_eq]; rfl
  have hown : d.core.ownHalves d.state n x.halves [n] = { d.core.takeHalf n h with sigs := sigs } := by
    rw [hst, ownHalves_active [] List.not_mem_nil, ← hh, hsigs, takeHalves_cons, ← hh]
    rfl
  by_cases hf : sigs.selfFault.confirmed = true ∨ 192 ≤ score
  · obtain ⟨t, e, hexec, he, hec, hring, -, -⟩ := used_drop (w := False) hs (.inl hst) hm hown.symm nofun hstate hkind nofun
    rw [judged_fenced (by simpa only [hscore] using hf)] at hec
    refine ⟨t, e, hexec, he, congrArg Lpc.cycle hring.1, congrArg Lpc.slipRun hring.1, congrArg Drop.sigs hec, ?_⟩
    rw [if_pos hf]
    exact ⟨congrArg Drop.state hec, (congrArg Drop.score hec).trans (by simp only [hscore])⟩
  · have hf' : ¬(({ d.core.takeHalf n h with sigs := sigs } : Drop).sigs.selfFault.confirmed = true ∨
        192 ≤ ({ d.core.takeHalf n h with sigs := sigs } : Drop).score) := by simpa only [hscore] using hf
    obtain ⟨t, e, hexec, he, hec, hring, -, hdone⟩ := used_drop (w := True) hs (.inl hst) hm hown.symm
      (fun _ k hk c => by rw [List.mem_singleton.1 hk, ← hh]; exact hnone c) hstate hkind fun _ => judged_state_ne hf'
    rw [judged_used hf'] at hec
    refine ⟨t, e, hexec, he, congrArg Lpc.cycle hring.1, congrArg Lpc.slipRun hring.1, congrArg Drop.sigs hec, ?_⟩
    rw [if_neg hf]
    exact ⟨(congrArg Drop.score hec).trans hscore, (congrArg Drop.state hec).trans (by simp only [hscore]), hdone trivial⟩

/-- The second part of O8: the halves of all slots of an ACTIVE drop, and of the first slot of a DEGRADED one. -/
theorem goodCycle_scores_all {rest : List Nat} {sigs : DropSigs} (hs : s.Scores x a d)
    (hm : mappedSlots s.lpc.slotMap a = n :: rest) (hh : h = x.halves.getD (n - 1) [])
    (hz : (d.state = .active ∧ z = d.takeHalves x.halves (n :: rest)) ∨
      (d.state = .degraded ∧ z = d.takeHalves x.halves [n]))
    (hsigs : sigs = (if cleanHalf n h then d.sigs.sample (upSignals h) else d.sigs.skip)) :
    ∃ t e, exec (.cycleReturn x) s = .next t ∧ t.dropAt a = some e ∧ e.sigs = sigs ∧ e.outOfStep = z.outOfStep ∧
      (if sigs.selfFault.confirmed = true ∨ 192 ≤ z.score then
         e.state = .fenced ∧ e.score = max z.score 192 ∧ e.assembly = []
       else e.score = z.score ∧ e.assembly = z.assembly ∧
         e.state = (if 96 ≤ z.score then .degraded else .active) ∧
         (e.state ≠ d.state → d.kind = .teller → e.statusMark = true)) := by
  have hrest := mappedSlots_rest hm
  have hkept : ∀ l : List Nat, (d.takeHalves x.halves l).state = d.state ∧ (d.takeHalves x.halves l).kind = d.kind := fun l => by
    have hgen : ∀ y : Drop, (y.takeHalves x.halves l).state = y.state ∧ (y.takeHalves x.halves l).kind = y.kind := by
      induction l with
      | nil => exact fun _ => ⟨rfl, rfl⟩
      | cons k l ih =>
        intro y
        rw [takeHalves_cons, (ih _).1, (ih _).2, takeHalf_eq]
        exact ⟨rfl, rfl⟩
    exact hgen d
  have hsame : (d.core.firstSample n (x.halves.getD (n - 1) [])).sigs = sigs := by
    rw [hsigs, hh]
    rfl
  have hown : d.core.ownHalves d.state n x.halves (n :: rest) = ({ z with sigs := sigs } : Drop).core := by
    obtain ⟨hst, rfl⟩ | ⟨hst, rfl⟩ := hz
    · rw [hst, ownHalves_active rest hrest, hsame, ← takeHalves_core]
      rfl
    · rw [hst, ownHalves_degraded rest hrest, hsame, ← takeHalves_core]
      rfl
  have hstate : z.state = d.state ∧ z.kind = d.kind := by
    obtain ⟨-, rfl⟩ | ⟨-, rfl⟩ := hz <;> exact hkept _
  obtain ⟨t, e, hexec, he, hec, -, hmark, -⟩ := used_drop (w := False) hs (hz.imp (fun g => g.1) fun g => g.1) hm
    hown.symm nofun hstate.1 hstate.2 nofun
  rw [← core_judged (e := { z with sigs := sigs }) rfl] at hec hmark
  refine ⟨t, e, hexec, he, ?_⟩
  by_cases hf : sigs.selfFault.confirmed = true ∨ 192 ≤ z.score
  · rw [if_pos hf]
    rw [judged_fenced (d := { z with sigs := sigs }) hf] at hec
    obtain ⟨h1, h2, h3, h4, h5, -, -⟩ := core_fields hec
    exact ⟨h1, h2, h3, h4, h5⟩
  · rw [if_neg hf]
    have hne := judged_state_ne (d := { z with sigs := sigs }) hf
    have hes : e.state = ({ z with sigs := sigs } : Drop).judged.core.state := (core_fields hec).2.2.1
    rw [← hes] at hmark
    replace hne : e.state ≠ .fenced := hes ▸ hne
    rw [judged_used (d := { z with sigs := sigs }) hf] at hec
    obtain ⟨h1, h2, h3, h4, h5, -, -⟩ := core_fields hec
    refine ⟨h1, h2, h4, h5, h3, fun hd hk => ?_⟩
    exact hmark hne hd hk

end Sys2Proof.Machine
end

section
/-! SUPPORT. What a good cycle without other messages leaves of a TELLER drop: its held reply, and the tellers signed on
there (R9, R30). -/

namespace Sys2Proof.Machine

variable {a b n k : Nat} {r s t u before : State} {c d e : Drop} {h : List Byte} {first : Bool}

/-! ### The tellers at a drop, and its held reply -/

/-- Between the two states the tellers keep their numbers and stations, and those at drop `a` change in nothing. -/
def State.StaffRests (a : Nat) (s t : State) : Prop :=
  ∃ f : Teller → Teller, t.rqu.tellers = s.rqu.tellers.map f ∧
    ∀ y, (f y).number = y.number ∧ (f y).station = y.station ∧ (y.station = some a → f y = y)

theorem staffRests_of_tellers (h : t.rqu.tellers = s.rqu.tellers) : s.StaffRests a t :=
  ⟨id, by rw [h, List.map_id], fun _ => ⟨rfl, rfl, fun _ => rfl⟩⟩

theorem State.StaffRests.trans (h : s.StaffRests a t) (g : t.StaffRests a u) : s.StaffRests a u := by
  obtain ⟨f, hf, hkeep⟩ := h
  obtain ⟨f', hf', hkeep'⟩ := g
  refine ⟨f' ∘ f, by rw [hf', hf, List.map_map], fun y => ?_⟩
  obtain ⟨h1, h2, h3⟩ := hkeep y
  obtain ⟨g1, g2, g3⟩ := hkeep' (f y)
  refine ⟨g1.trans h1, g2.trans h2, fun hy => ?_⟩
  rw [Function.comp_apply, g3 (h2.trans hy), h3 hy]

theorem State.StaffRests.tellerOf (h : s.StaffRests a t) {y : Teller} (hy : s.tellerOf k = some y) (ha : y.station = some a) :
    t.tellerOf k = some y := by
  obtain ⟨f, hf, hkeep⟩ := h
  have hmap : t.tellerOf k = (s.tellerOf k).map f := by
    rw [State.tellerOf, hf]
    exact findKey_map fun x => (hkeep x).1
  rw [hmap, hy, Option.map_some, (hkeep y).2.2 ha]

theorem State.StaffRests.mem (h : s.StaffRests a t) {y : Teller} (hy : y ∈ t.rqu.tellers) (ha : y.station = some a) :
    y ∈ s.rqu.tellers := by
  obtain ⟨f, hf, hkeep⟩ := h
  rw [hf] at hy
  obtain ⟨x, hx, rfl⟩ := List.mem_map.1 hy
  rw [(hkeep x).2.2 ((hkeep x).2.1 ▸ ha)]
  exact hx

theorem staffRests_onSessionsAt {f : Teller → Teller} (hb : b ≠ a) (hf : ∀ y, (f y).number = y.number ∧ (f y).station = y.station) :
    s.StaffRests a (s.onSessionsAt b f) := by
  refine ⟨fun y => if y.station = some b then f y else y, rfl, fun y => ?_⟩
  by_cases hy : y.station = some b
  · simp only [if_pos hy]
    exact ⟨(hf y).1, (hf y).2, fun ha => absurd (Option.some.inj (hy.symm.trans ha)) hb⟩
  · simp only [if_neg hy]
    exact ⟨trivial, trivial, fun _ => trivial⟩

/-- Between the two states the tellers at drop `a` change in nothing, and its held reply stays. -/
structure Rests (a : Nat) (s t : State) : Prop where
  staff : s.StaffRests a t
  held : (t.dropAt a).map Drop.held = (s.dropAt a).map Drop.held

theorem Rests.refl (s : State) : Rests a s s := ⟨staffRests_of_tellers rfl, rfl⟩

theorem Rests.trans (h : Rests a s t) (g : Rests a t u) : Rests a s u := ⟨h.staff.trans g.staff, g.held.trans h.held⟩

/-- A change of the loop that is of status marks alone. -/
theorem Rests.marks (h : Rests a r s) (hl : t.lpc.unmarked = s.lpc.unmarked) (ht : t.rqu.tellers = s.rqu.tellers) :
    Rests a r t := by
  refine h.trans ⟨staffRests_of_tellers ht, ?_⟩
  obtain ⟨m, hm⟩ := dropAt_unmarked hl a
  rw [hm, Option.map_map]
  rfl

theorem Rests.modifyDrop {f : Drop → Drop} (h : Rests a r s) (ha : ∀ d, d.addr = b → (f d).addr = b)
    (hf : b = a → ∀ d, s.dropAt a = some d → (f d).held = d.held) : Rests a r (s.modifyDrop b f) := by
  refine h.trans ⟨staffRests_of_tellers rfl, ?_⟩
  rw [dropAt_modifyDrop ha]
  cases hs : s.dropAt a with
  | none => rfl
  | some d =>
    refine congrArg some ?_
    dsimp only
    split
    · next hab => exact hf hab.symm d hs
    · rfl

theorem Rests.other (h : Rests a r s) (hb : b ≠ a) {f : Drop → Drop} (ha : ∀ d, d.addr = b → (f d).addr = b) :
    Rests a r (s.modifyDrop b f) := h.modifyDrop ha fun hba => absurd hba hb

/-! ### Halves that complete nothing, and the evaluation of other drops -/

theorem rests_startIdentify (hb : b ≠ a) (h : Rests a r s) : Rests a r (s.startIdentify b) := by
  unfold State.startIdentify
  split
  · have hnext : Rests a r (s.modifySession b fun x => { x with state := .identify }) :=
      h.trans ⟨staffRests_of_tellers rfl, rfl⟩
    have htold : Rests a r ((s.modifySession b fun x => { x with state := .identify }).handOver b .readStripe) :=
      hnext.other hb fun d hd => (d.take_mild _ _).addr.trans hd
    exact htold.trans ⟨staffRests_of_tellers rfl, rfl⟩
  · exact h

theorem tellers_withdrawFetch : (s.withdrawFetch b).rqu.tellers = s.rqu.tellers := by
  have hserve : ∀ u : State, u.serveOne.rqu.tellers = u.rqu.tellers := fun u => by
    unfold State.serveOne
    split
    · split <;> rfl
    · rfl
  have hoffer : ∀ (u : State) i, (u.freeAndOffer i).rqu.tellers = u.rqu.tellers := fun u i => by
    rw [State.freeAndOffer, State.serveWaitList]
    simp only [hserve]
    rfl
  unfold State.withdrawFetch
  split
  · split
    · rfl
    · exact hoffer _ _
    · rfl
  · rfl

theorem tellers_interruptSession : (s.interruptSession b).rqu.tellers = s.rqu.tellers := by
  have hend : ∀ u : State, (u.endSession b).rqu = u.rqu := fun u => by simp
  have hended : ((s.endSession b).withdrawFetch b).rqu.tellers = s.rqu.tellers := by
    rw [tellers_withdrawFetch, hend]
  unfold State.interruptSession
  cases s.sessionState b with
  | fetching => exact hended
  | printing => exact hended
  | turning => exact hended
  | idle => rfl
  | identify => rfl
  | finished => rfl
  | refused => rfl

theorem rests_bookInChanged {on : Bool} (hb : b ≠ a) (h : Rests a r s) : Rests a r (s.bookInChanged b on) := by
  unfold State.bookInChanged
  split
  · exact rests_startIdentify hb h
  · exact h.marks unmarked_interruptSession tellers_interruptSession

theorem rests_passBook {on : Bool} (hb : b ≠ a) (h : Rests a r s) : Rests a r (s.passBook b on) := by
  unfold State.passBook
  split
  · exact rests_bookInChanged hb h
  · exact h

theorem rests_drawerChanged {on : Bool} (hb : b ≠ a) (h : Rests a r s) : Rests a r (s.drawerChanged b on) := by
  have hclear : Rests a r (s.clearRelease b) := h.other hb fun _ hd => by exact hd
  unfold State.drawerChanged
  split
  · split
    · exact hclear
    · exact Rests.marks (hclear.other hb (f := fun d => { d with alert := true }) fun _ hd => by exact hd) unmarked_writeRecord
        (by simp [State.setAlert, State.modifyDrop])
  · exact h.other hb fun _ hd => by exact hd

theorem rests_setSignals {g : DropSigs} (hb : b ≠ a) (h : Rests a r s) : Rests a r (s.setSignals b g) := by
  unfold State.setSignals
  split
  · next d _ =>
    have hset : Rests a r (s.modifyDrop b fun d => { d with sigs := g }) := h.other hb fun _ hd => by exact hd
    have hdrawer : Rests a r (if d.sigs.drawerOpen.confirmed = g.drawerOpen.confirmed then
        s.modifyDrop b fun d => { d with sigs := g }
        else (s.modifyDrop b fun d => { d with sigs := g }).drawerChanged b g.drawerOpen.confirmed) := by
      split
      · exact hset
      · exact rests_drawerChanged hb hset
    unfold State.passChanges
    dsimp only
    split
    · exact hdrawer
    · exact rests_passBook hb hdrawer
  · exact h

/-- A probe reply samples SELF-FAULT alone, which is passed on to nobody (R14, R15). -/
theorem probeSlot_passes (hd : s.dropAt a = some d) : ∃ f : Drop → Drop, s.probeSlot d n h = s.modifyDrop a f ∧
    ∀ x, (f x).addr = x.addr ∧ (f x).held = x.held := by
  have had := dropAt_addr hd
  subst had
  have hset : ∀ (f : Drop → Drop) (g : DropSigs), (∀ x, f x = { x with probeRun := (f x).probeRun }) →
      g.drawerOpen.confirmed = d.sigs.drawerOpen.confirmed → g.bookIn.confirmed = d.sigs.bookIn.confirmed →
      (s.modifyDrop d.addr f).setSignals d.addr g = s.modifyDrop d.addr fun x => { f x with sigs := g } := fun f g hf h1 h2 => by
    have haddr : ∀ x : Drop, x.addr = d.addr → (f x).addr = d.addr := fun x hx => by rw [hf]; exact hx
    have hat : (s.modifyDrop d.addr f).dropAt d.addr = some (f d) := by
      rw [dropAt_modifyDrop haddr, hd, Option.map_some, if_pos rfl]
    have hsigs : (f d).sigs = d.sigs := by rw [hf]
    have hpass : ∀ u : State, u.passChanges d.addr (f d).sigs g = u := fun u => by
      unfold State.passChanges
      rw [hsigs]
      dsimp only
      rw [if_pos h1.symm, if_pos h2.symm]
    unfold State.setSignals
    rw [hat]
    dsimp only
    rw [hpass]
    have htwice : ∀ l : List Drop, modifyKey Drop.addr d.addr (fun x => { x with sigs := g }) (modifyKey Drop.addr d.addr f l) =
        modifyKey Drop.addr d.addr (fun x => { f x with sigs := g }) l := fun l => by
      rw [modifyKey, modifyKey, modifyKey, List.map_map]
      refine List.map_congr_left fun x _ => ?_
      by_cases hx : x.addr = d.addr
      · simp [hx, haddr x hx]
      · simp [hx]
    simp only [State.modifyDrop, State.onLpc, htwice]
  unfold State.probeSlot
  split
  · refine ⟨_, hset _ _ (fun _ => rfl) rfl rfl, fun _ => ⟨rfl, rfl⟩⟩
  · refine ⟨_, hset _ _ (fun _ => rfl) rfl rfl, fun _ => ⟨rfl, rfl⟩⟩

theorem rests_sampleFirst (hb : b ≠ a) (h : Rests a r s) {l : List Byte} : Rests a r (s.sampleFirst b n l) := by
  unfold State.sampleFirst
  split
  · exact rests_setSignals hb h
  · exact h

theorem scoreSlot_unclean (hc : cleanHalf n h = false) : s.scoreSlot d n first h =
    if first then (s.modifyDrop d.addr fun _ => { d with score := scored true d.score }).sampleFirst d.addr n h
    else s.modifyDrop d.addr fun _ => { d with score := scored true d.score } := by
  simp [State.scoreSlot, hc]

/-- A slot of another drop whose half is missing, fails its check or echoes another slot. -/
theorem rests_handleSlot (ho : slotOwner before.lpc.slotMap n ≠ some a) (hc : cleanHalf n h = false) (g : Rests a r s) :
    Rests a r (before.handleSlot s n h) := by
  unfold State.handleSlot
  split
  · exact g
  · next old d hfound =>
    obtain ⟨b, hb, hrest⟩ := Option.bind_eq_some_iff.1 hfound
    obtain ⟨x, -, hx⟩ := Option.bind_eq_some_iff.1 hrest
    obtain ⟨y, hy, hpair⟩ := Option.map_eq_some_iff.1 hx
    obtain ⟨-, rfl⟩ := Prod.mk.inj hpair
    have haddr : y.addr ≠ a := fun hya => ho (by rw [hb, ← dropAt_addr hy, hya])
    have hscore : ∀ first, Rests a r (s.scoreSlot y n first h) := fun first => by
      have hscored : Rests a r (s.modifyDrop y.addr fun _ => { y with score := scored true y.score }) :=
        g.other haddr fun _ _ => rfl
      rw [scoreSlot_unclean hc]
      split
      · exact rests_sampleFirst haddr hscored
      · exact hscored
    dsimp only
    split
    · exact hscore _
    · split
      · exact hscore _
      · exact g
    · split
      · obtain ⟨f, hf, hkeep⟩ := probeSlot_passes (n := n) (h := h) hy
        have hfy : s.probeSlot y n h = s.modifyDrop b f := hf
        rw [hfy, ← dropAt_addr hy]
        exact g.other haddr fun d hd => (hkeep d).1.trans hd
      · exact g
    · unfold State.offerSlot
      rw [hc]
      split <;> exact g

theorem rests_evaluate (hb : b ≠ a) (h : Rests a r s) : Rests a r (s.evaluate b) := by
  unfold State.evaluate
  split
  · exact h
  · next d hd =>
    have haddr := dropAt_addr hd
    have hnew : ∀ new : DropState, Rests a r (if new = d.state then s.modifyDrop b fun d => { d with state := new }
        else (s.modifyDrop b fun d => { d with state := new }).queueStatus b) := fun new => by
      have hset : Rests a r (s.modifyDrop b fun d => { d with state := new }) := h.other hb fun _ hd => by exact hd
      split
      · exact hset
      · exact hset.other hb fun x hx => x.queueStatus_mild.addr.trans hx
    have hused : Rests a r (s.evaluateUsed d) := by
      have hfence : Rests a r (s.modifyDrop b Drop.fence) := h.other hb fun _ hd => by exact hd
      unfold State.evaluateUsed State.tellFenced
      rw [haddr]
      split
      · split
        · exact hfence.trans ⟨staffRests_onSessionsAt hb fun y => by split <;> exact ⟨rfl, rfl⟩, rfl⟩
        · exact hfence.marks unmarked_interruptSession tellers_interruptSession
      · exact hnew _
    split
    · exact hused
    · exact hused
    · unfold State.evaluateFenced State.tellRecovered State.identifyIfBook
      rw [haddr]
      split
      · have hjoin : Rests a r (s.modifyDrop b fun d =>
            { d with state := .active, score := 0, probeRun := 0, outOfStep := true }) := h.other hb fun _ hd => by exact hd
        split
        · have hresumed : Rests a r ((s.modifyDrop b fun d =>
              { d with state := .active, score := 0, probeRun := 0, outOfStep := true }).resumeAt b) :=
            hjoin.trans ⟨staffRests_onSessionsAt hb fun y => by split <;> exact ⟨rfl, rfl⟩, rfl⟩
          exact hresumed.other hb fun x hx => x.queueStatus_mild.addr.trans hx
        · split
          · exact rests_startIdentify hb hjoin
          · exact hjoin
      · exact h
    · exact h

theorem rests_deliver (h : Rests a r s) : Rests a r (s.deliver b) := by
  have hsettled : Rests a r (s.modifyDrop b Drop.settleBegun) := h.modifyDrop (fun _ hd => by exact hd) fun _ _ _ => rfl
  unfold State.deliver
  split
  · exact h
  · dsimp only
    split
    · exact hsettled.trans ⟨staffRests_of_tellers rfl, rfl⟩
    · exact hsettled

end Sys2Proof.Machine
end

section
/-! PROOFS. A FENCED drop in a good cycle, and the held reply in the next one: the statement O8 (R4, R8, R9, R30). -/

namespace Sys2Proof.Machine

variable {a b n k : Nat} {r s t u v before : State} {c d e old : Drop} {h : List Byte} {x : ReturnedCycle}

/-! ### The recovery of a FENCED drop (R9, R30) -/

/-- What the evaluation makes of a FENCED drop (R9). -/
def Drop.recovered (d : Drop) : Drop :=
  if d.probeRun = 32 ∧ d.sigs.selfFault.confirmed = false then
    { d with state := .active, score := 0, probeRun := 0, outOfStep := true }
  else d

theorem core_recovered (hc : e.core = c) : e.recovered.core = c.recovered := by
  subst hc
  unfold Drop.recovered
  by_cases hr : e.probeRun = 32 ∧ e.sigs.selfFault.confirmed = false
  · rw [if_pos hr, if_pos (show e.core.probeRun = 32 ∧ e.core.sigs.selfFault.confirmed = false from hr)]
    rfl
  · rw [if_neg hr, if_neg (show ¬(e.core.probeRun = 32 ∧ e.core.sigs.selfFault.confirmed = false) from hr)]

/-- A TELLER drop that has recovered has its status line queued, and the session SUSPENDED there is ACTIVE again. -/
theorem evaluate_recovers (hd : s.dropAt a = some d) (hs : d.state = .fenced)
    (hr : d.probeRun = 32 ∧ d.sigs.selfFault.confirmed = false) : s.evaluate a = (s.modifyDrop a fun d =>
      { d with state := .active, score := 0, probeRun := 0, outOfStep := true }).tellRecovered d := by
  have heval : s.evaluate a = s.evaluateFenced d := by simp only [State.evaluate, hd, hs]
  rw [heval, State.evaluateFenced, if_pos hr, dropAt_addr hd]

theorem evaluate_still_fenced (hd : s.dropAt a = some d) (hs : d.state = .fenced)
    (hr : ¬(d.probeRun = 32 ∧ d.sigs.selfFault.confirmed = false)) : s.evaluate a = s := by
  have heval : s.evaluate a = s.evaluateFenced d := by simp only [State.evaluate, hd, hs]
  rw [heval, State.evaluateFenced, if_neg hr]

theorem went_evaluateFenced (hd : s.dropAt a = some d) (hs : d.state = .fenced) :
    Went False a s (s.evaluate a) d.recovered.core := by
  by_cases hr : d.probeRun = 32 ∧ d.sigs.selfFault.confirmed = false
  · rw [evaluate_recovers hd hs hr, Drop.recovered, if_pos hr]
    have hgone := went_modifyDrop (w := False) (f := fun d : Drop =>
      { d with state := .active, score := 0, probeRun := 0, outOfStep := true }) (fun _ hd => by exact hd) hd (show DropState.active ≠ .absent by decide) nofun id
    exact hgone.stays fun hstill => Stays.tellRecovered (.refl hstill)
  · rw [evaluate_still_fenced hd hs hr, Drop.recovered, if_neg hr]
    exact .refl hd (by rw [hs]; decide)

/-- The recovery of a TELLER drop: its status line, its held reply and the tellers there. -/
theorem evaluate_teller (hd : s.dropAt a = some d) (hs : d.state = .fenced)
    (hr : d.probeRun = 32 ∧ d.sigs.selfFault.confirmed = false) (hk : d.kind = .teller) :
    (∃ e, (s.evaluate a).dropAt a = some e ∧ e.statusMark = true ∧ e.held = d.held) ∧
      (s.evaluate a).rqu.tellers = s.rqu.tellers.map fun y =>
        if y.station = some a then (if y.session = .suspended then { y with session := .active } else y) else y := by
  rw [evaluate_recovers hd hs hr, State.tellRecovered, hk, dropAt_addr hd]
  refine ⟨⟨({ d with state := .active, score := 0, probeRun := 0, outOfStep := true } : Drop).queueStatus, ?_, ?_, ?_⟩, rfl⟩
  · have hat : ∀ u : State, u.dropAt a = some { d with state := .active, score := 0, probeRun := 0, outOfStep := true } →
        (u.queueStatus a).dropAt a = some ({ d with state := .active, score := 0, probeRun := 0, outOfStep := true } : Drop).queueStatus :=
      fun u hu => by
        rw [State.queueStatus, dropAt_modifyDrop fun x hx => x.queueStatus_mild.addr.trans hx, hu, Option.map_some, if_pos rfl]
    refine hat _ ?_
    have hset : (s.modifyDrop a fun d => { d with state := .active, score := 0, probeRun := 0, outOfStep := true }).dropAt a =
        some { d with state := .active, score := 0, probeRun := 0, outOfStep := true } := by
      rw [dropAt_modifyDrop fun _ hx => by exact hx, hd, Option.map_some, if_pos rfl]
    exact hset
  · rw [Drop.queueStatus, if_pos hk]
  · rw [Drop.queueStatus, if_pos hk]

/-! ### The rest of the cycle without other messages -/

theorem rests_ownSlot (ho : slotOwner before.lpc.slotMap n = some a) (hold : before.dropAt a = some old)
    (hs : old.state = .fenced) (g : Rests a r s) : Rests a r (before.handleSlot s n h) := by
  cases hd : s.dropAt a with
  | none =>
    have hslot : before.handleSlot s n h = s := by
      unfold State.handleSlot
      rw [ho, Option.bind_some, hold, Option.bind_some, hd]
      rfl
    rw [hslot]
    exact g
  | some e =>
    have hslot : before.handleSlot s n h =
        if firstSlot before.lpc.slotMap e.addr == some n then s.probeSlot e n h else s := by
      unfold State.handleSlot
      rw [ho, Option.bind_some, hold, Option.bind_some, hd, Option.map_some]
      simp only [hs]
    rw [hslot]
    split
    · obtain ⟨f, hf, hkeep⟩ := probeSlot_passes (n := n) (h := h) hd
      rw [hf]
      exact g.modifyDrop (fun x hx => (hkeep x).1.trans hx) fun _ x _ => (hkeep x).2
    · exact g

theorem rests_handleSlots {halves : List (List Byte)} (l : List Nat) (hold : before.dropAt a = some old)
    (hs : old.state = .fenced) (hc : ∀ m ∈ l, slotOwner before.lpc.slotMap m ≠ some a →
      cleanHalf m (halves.getD (m - 1) []) = false) (g : Rests a r s) :
    Rests a r (l.foldl (fun x n => before.handleSlot x n (halves.getD (n - 1) [])) s) := by
  induction l generalizing s with
  | nil => exact g
  | cons m l ih =>
    refine ih (fun i hi => hc i (List.mem_cons_of_mem _ hi)) ?_
    by_cases ho : slotOwner before.lpc.slotMap m = some a
    · exact rests_ownSlot ho hold hs g
    · exact rests_handleSlot ho (hc m List.mem_cons_self ho) g

theorem rests_evaluates {l : List Nat} (hl : a ∉ l) (g : Rests a r s) : Rests a r (l.foldl State.evaluate s) := by
  induction l generalizing s with
  | nil => exact g
  | cons b l ih =>
    exact ih (fun h => hl (List.mem_cons_of_mem _ h)) (rests_evaluate (fun hba => hl (hba ▸ List.mem_cons_self)) g)

theorem rests_delivers (l : List Nat) (g : Rests a r s) : Rests a r (l.foldl State.deliver s) := by
  induction l generalizing s with
  | nil => exact g
  | cons b l ih => exact ih (rests_deliver g)

/-- The third part of O8: the probe reply of a FENCED drop. -/
theorem goodCycle_probes {run : Nat} {rest : List Nat} {fault : Sig} (hs : s.Scores x a d) (hst : d.state = .fenced)
    (hm : mappedSlots s.lpc.slotMap a = n :: rest) (hh : h = x.halves.getD (n - 1) [])
    (hrun : run = (if cleanHalf n h then min 32 (d.probeRun + 1) else 0))
    (hfault : fault = (if cleanHalf n h then d.sigs.selfFault.sample (upSignals h).selfFault else d.sigs.selfFault.skip)) :
    ∃ t e, exec (.cycleReturn x) s = .next t ∧ t.dropAt a = some e ∧
      e.sigs = ⟨d.sigs.drawerOpen.skip, d.sigs.keyOperate.skip, d.sigs.bookIn.skip, fault⟩ ∧
      (run < 32 ∨ fault.confirmed = true →
        e.state = .fenced ∧ e.score = d.score ∧ e.probeRun = run ∧ e.outOfStep = d.outOfStep) ∧
      (run = 32 → fault.confirmed = false →
        e.state = .active ∧ e.score = 0 ∧ e.probeRun = 0 ∧ e.outOfStep = true ∧
        (d.kind = .teller → e.statusMark = true ∧
          (∀ y ∈ t.rqu.tellers, y.station = some a → y.session ≠ .suspended) ∧
          ((∀ m, m ≠ n → cleanHalf m (x.halves.getD (m - 1) []) = false) → e.held = d.held ∧
            ∀ k y, s.tellerOf k = some y → y.station = some a → y.session = .suspended →
              t.tellerOf k = some { y with session := .active }))) := by
  have hexec := exec_scores hs
  obtain ⟨-, -, -, -, -, haddr, hd⟩ := hs
  have hp : d.state ≠ .absent := by rw [hst]; decide
  have hown : d.core.ownHalves d.state n x.halves (n :: rest) = d.core.probed n h := by
    rw [hst, ownHalves_fenced rest (mappedSlots_rest hm), ← hh]
  obtain ⟨p, hprobed⟩ : ∃ p, p = d.core.probed n h := ⟨_, rfl⟩
  have hfields : p.probeRun = run ∧ p.sigs = ⟨d.sigs.drawerOpen.skip, d.sigs.keyOperate.skip, d.sigs.bookIn.skip, fault⟩ ∧
      p.state = .fenced ∧ p.score = d.score ∧ p.outOfStep = d.outOfStep ∧ p.kind = d.kind := by
    rw [hprobed, hrun, hfault]
    unfold Drop.probed
    split <;> exact ⟨rfl, rfl, hst, rfl, rfl, rfl⟩
  rw [← hprobed] at hown
  obtain ⟨hprun, hpsigs, hpstate, hpscore, hpstep, hpkind⟩ := hfields
  obtain ⟨u, v, l₁, l₂, ⟨h₁, hu⟩, ⟨h₂, hend⟩, hgone, hrest, -, hlast, -⟩ := goodCycle_went (w := False) (c₂ := p.recovered)
    haddr hd hp hm nofun fun u e he hec _ => by
      have hes : e.state = .fenced := (core_fields (hec.trans hown)).2.2.1.trans hpstate
      exact core_recovered (hec.trans hown) ▸ went_evaluateFenced he hes
  rw [hown] at hgone
  obtain ⟨q, hq, hqc⟩ := hgone.dropAt
  obtain ⟨e, he, hec⟩ := hlast.dropAt
  obtain ⟨-, -, hqstate, -, -, hqrun, hqkind⟩ := core_fields hqc
  have hqsigs := (core_fields hqc).1
  refine ⟨_, e, hexec, he, ?_, fun hor => ?_, fun h32 hconf => ?_⟩
  · rw [(core_fields hec).1, Drop.recovered, ← hpsigs]
    split <;> rfl
  · have hstill : p.recovered = p := if_neg fun hand => by
      rw [hprun, hpsigs] at hand
      obtain ⟨hand32, handf⟩ := hand
      rcases hor with hlt | hconf
      · omega
      · rw [show (_ : Sig).confirmed = fault.confirmed from rfl, hconf] at handf
        cases handf
    rw [hstill] at hec
    obtain ⟨-, g2, g3, g4, -, g6, -⟩ := core_fields hec
    exact ⟨g3.trans hpstate, g4.trans hpscore, g6.trans hprun, g2.trans hpstep⟩
  · have hcond : p.probeRun = 32 ∧ p.sigs.selfFault.confirmed = false := by
      rw [hprun, hpsigs]
      exact ⟨h32, hconf⟩
    rw [Drop.recovered, if_pos hcond] at hec
    obtain ⟨-, g2, g3, g4, -, g6, -⟩ := core_fields hec
    refine ⟨g3, g4, g6, g2, fun hk => ?_⟩
    have hqcond : q.probeRun = 32 ∧ q.sigs.selfFault.confirmed = false := by
      rw [hqrun, hqsigs]
      exact hcond
    obtain ⟨⟨z, hz, hzmark, hzheld⟩, hstaff⟩ :=
      evaluate_teller hq (hqstate.trans hpstate) hqcond (hqkind.trans (hpkind.trans hk))
    have hquiet : Rests a (u.evaluate a) (s.clearCycle.goodCycle x.halves) := by
      rw [hend]
      exact rests_delivers _ (rests_evaluates h₂ (.refl _))
    obtain ⟨y, hy, -⟩ := hrest.dropAt hz
    refine ⟨hlast.mark y e hy he (hrest.mark z y hz hy hzmark), fun y hy ha => ?_, fun hclean => ⟨?_, fun k y hy ha hsus => ?_⟩⟩
    · have hmem := hquiet.staff.mem hy ha
      rw [hstaff] at hmem
      obtain ⟨x, -, rfl⟩ := List.mem_map.1 hmem
      split
      · split
        · exact show SessionState.active ≠ .suspended by decide
        · next hne => exact hne
      · next hno => rw [if_neg hno] at ha; exact absurd ha hno
    all_goals
      have hbefore : Rests a s.returned u := by
        rw [hu]
        refine rests_evaluates h₁ (rests_handleSlots (List.range' 1 31) (returned_dropAt hd hp) hst (fun m _ ho => ?_) (.refl _))
        refine hclean m fun hmn => ho ?_
        have hin : n ∈ mappedSlots s.lpc.slotMap a := hm ▸ List.mem_cons_self
        rw [hmn]
        show slotOwner s.lpc.slotMap n = some a
        simpa using (List.mem_filter.1 hin).2
    · have hheld := hquiet.held
      rw [he, hz] at hheld
      have hbheld := hbefore.held
      rw [hq, returned_dropAt hd hp] at hbheld
      exact (Option.some.inj hheld).trans (hzheld.trans (Option.some.inj hbheld))
    · have huy : u.tellerOf k = some y := hbefore.staff.tellerOf hy ha
      refine hquiet.staff.tellerOf ?_ ha
      have hmap : (u.evaluate a).tellerOf k = (u.tellerOf k).map fun y =>
          if y.station = some a then (if y.session = .suspended then { y with session := .active } else y) else y := by
        rw [State.tellerOf, hstaff]
        refine findKey_map fun z => ?_
        split
        · split <;> rfl
        · rfl
      rw [hmap, huy, Option.map_some, if_pos ha, if_pos hsus]

end Sys2Proof.Machine
end

section
/-! PROOFS. The held reply goes first, and the statement O8 whole (R4, R8, R9). -/

namespace Sys2Proof.Machine

variable {s t : State} {a n : Nat} {d e : Drop} {m : DownMessage}

/-! ### The held reply leaves its place (R4, R8) -/

theorem nextMessage_held (h : s.nextMessage d = some (m, e)) : e.held = none := by
  unfold State.nextMessage at h
  split at h
  · cases h; rfl
  · next hheld _ => cases h; exact hheld
  · next hheld _ _ => cases h; exact hheld
  · next hheld _ _ =>
    split at h
    · cases h; exact hheld
    · cases h

/-- A drop with no reply held, or with no message in transmission, holds none once a segment has gone out. -/
theorem afterSegment_held (h : d.held = none ∨ d.begun.any Begun.unsent = false) : (s.afterSegment d).held = none := by
  have hstill : (s.afterSegment d).held = (s.withMessage d).held := rfl
  rw [hstill, State.withMessage]
  split
  · next hany =>
    rcases h with h | h
    · exact h
    · rw [h] at hany; cases hany
  · split
    · next m e he => exact (nextMessage_held he :)
    · next hnone =>
      cases hd : d.held with
      | none => rfl
      | some m => simp [State.nextMessage, hd] at hnone

theorem composeSlots_held (l : List Nat) (hrun : s.lpc.loop = .running) (hd : s.dropAt a = some d)
    (hc : d.canReceive = true)
    (h : d.held = none ∨ (d.begun.any Begun.unsent = false ∧ ∃ k ∈ l, d.uses s.lpc.slotMap k = true))
    (he : (State.composeSlots l s).2.dropAt a = some e) : e.held = none := by
  induction l generalizing s d with
  | nil =>
    obtain rfl : d = e := Option.some.inj (hd.symm.trans he)
    rcases h with h | ⟨-, k, hk, -⟩
    · exact h
    · cases hk
  | cons k l ih =>
    have hslot := composeSlot_uses (n := k) hrun hd hc
    have hsend := (composeSlot_carries (State.Sending.refl s) k).2
    have hrun' : (s.composeSlot k).2.lpc.loop = .running := hsend.loopState.trans hrun
    by_cases hu : d.uses s.lpc.slotMap k = true
    · rw [if_pos hu] at hslot
      have hd' : (s.composeSlot k).2.dropAt a = some (s.afterSegment d) := by
        rw [hslot, dropAt_sendSegment hd, if_pos rfl]
      exact ih hrun' hd' ((afterSegment_sentFrom s d).canReceive.trans hc)
        (.inl (afterSegment_held (h.imp_right fun g => g.1))) he
    · rw [if_neg hu] at hslot
      refine ih hrun' hslot hc (h.imp_right fun ⟨g, j, hj, hju⟩ => ⟨g, j, ?_, hsend.slotMap ▸ hju⟩) he
      rcases List.mem_cons.1 hj with rfl | hj
      · exact absurd hju hu
      · exact hj

/-- The first segment of a message: its last one too when the message is of 16 bytes or fewer. -/
theorem segmentsFrom_first (m : DownMessage) : ∃ l, segmentsFrom m 0 =
    (true, decide ((messageBytes m).length ≤ 16), (messageBytes m).take 16) :: l := by
  refine ⟨segmentsFrom m 1, ?_⟩
  have hpos : 0 < (messageBytes m).length := by
    simp only [messageBytes, List.length_cons]
    omega
  have hone : (0 + 1 == segmentCount m) = decide ((messageBytes m).length ≤ 16) := by
    rw [Bool.beq_eq_decide_eq, segmentCount, decide_eq_decide]
    omega
  rw [segmentsFrom_cons (segmentCount_pos m), hone]
  rfl

/-- The fourth part of O8: the held reply of a drop that can receive. -/
theorem cycleStart_sends_held {rest : List Nat} (hr : s.isRunning = true) (hc : s.lpc.cycle = none)
    (htab : s.tablesChanged = false) (hrun : s.lpc.loop = .running) (hd : s.dropAt a = some d) (hcan : d.canReceive = true)
    (hm : mappedSlots s.lpc.slotMap a = n :: rest) (hb : d.begun.any Begun.unsent = false) (hh : d.held = some m) :
    ∃ t out o e, exec .cycleStart s = .next t ∧ t.lpc.cycle = some (.marker :: out) ∧
      out.getD (n - 1) .filler = .half o ∧ o.first = true ∧ o.last = decide ((messageBytes m).length ≤ 16) ∧
      o.bytes = (messageBytes m).take 16 ∧ t.dropAt a = some e ∧ e.held = none := by
  obtain ⟨e, he, -, hall⟩ := composeSlots_due (List.range' 1 31) hrun hd hcan
  have hslots : ∃ l, (List.range' 1 31).filter (d.uses s.lpc.slotMap) = n :: l := by
    rw [filter_uses, State.usableSlots, dropAt_addr hd, hm]
    split
    · exact ⟨[], rfl⟩
    · exact ⟨rest, rfl⟩
  obtain ⟨l, hslots⟩ := hslots
  have hfirst : (s.segmentsDue d).getD 0 (false, false, []) =
      (true, decide ((messageBytes m).length ≤ 16), (messageBytes m).take 16) := by
    have hnone : d.begun.find? Begun.unsent = none :=
      List.find?_eq_none.2 fun b hin hu => by
        rw [List.any_eq_true.2 ⟨b, hin, hu⟩] at hb
        cases hb
    obtain ⟨l, hl⟩ := segmentsFrom_first m
    rw [segmentsDue_eq, (begunDue_sent hnone).1, State.toBegin, hh]
    simp [hl]
  obtain ⟨o, hmem, hval⟩ := hall 0 n (by rw [hslots]; rfl)
  rw [hfirst, Prod.mk.injEq, Prod.mk.injEq] at hval
  obtain ⟨hof, hol, hob⟩ := hval
  have hused : ∃ k ∈ List.range' 1 31, d.uses s.lpc.slotMap k = true :=
    ⟨n, List.mem_filter.1 (hslots ▸ List.mem_cons_self)⟩
  exact ⟨_, _, o, e, exec_cycleStart_same hr hc htab, by rw [sendCycle_lpc], slot_of_mem_zip hmem, hof, hol, hob,
    (dropAt_sendCycle s a).trans he, composeSlots_held _ hrun hd hcan (.inr ⟨hb, hused⟩) he⟩

/-- Settles O8: the scores of one and of several slots, the probes of a FENCED drop, and the held reply. -/
theorem goodCycleScores : Obligations.GoodCycleScores := by
  unfold Obligations.GoodCycleScores
  exact ⟨fun _ _ _ _ _ _ _ _ hs hst hm hh hcase => goodCycle_scores_one hs hst hm hh hcase,
    fun _ _ _ _ _ _ _ _ _ hs hm hh hz hsigs => goodCycle_scores_all hs hm hh hz hsigs,
    fun _ _ _ _ _ _ _ _ _ hs hst hm hh hrun hfault => goodCycle_probes hs hst hm hh hrun hfault,
    fun _ _ _ _ _ _ hr hc htab hrun _ hd hcan hm hb hh => cycleStart_sends_held hr hc htab hrun hd hcan hm hb hh⟩

end Sys2Proof.Machine
end

section
/-! SUPPORT. The relation `Alike`: what the second halves of O56 and O57 read of a state stands as it did, the
unconfirmed nets apart, which still agree with the journal. Its rules for the block updates and shared operations. -/

namespace Sys2Proof.Machine

variable {r s t : State} {a n : Nat}

/-! ### What is read of a teller, a drawer and a drop -/

/-- What the work items read of a teller: the number, whether and where signed on, and the drawer held. -/
def Teller.duty (x : Teller) : Nat × Bool × Option Nat × Option Nat := (x.number, x.signedOn, x.station, x.heldDrawer)

/-- A drawer's number, figures and balance, with its last declaration. -/
def Drawer.cash (w : Drawer) : Nat × Sums × Sums × BalanceState × Option Declaration :=
  (w.number, w.home, w.foreign, w.balance, w.declaration)

/-- The final replies that the drop at an address has still to be sent. -/
def State.finalsAt (s : State) (a : Nat) : Nat := ((s.dropAt a).map Drop.finals).getD 0

/-- The journal is numbered, and every unconfirmed net agrees with it. -/
def State.NetsSettled (s : State) : Prop := s.JournalNumbered ∧ s.NetsAgree

/-- Nothing has happened between two states to the tellers' duties, the work items, the online slots, the cash or the
day; no drop has more final replies to be sent, and the unconfirmed nets agree with the journal where they did. -/
structure State.Alike (s t : State) : Prop where
  staff : t.rqu.tellers.map Teller.duty = s.rqu.tellers.map Teller.duty
  txns : t.rqu.txns = s.rqu.txns
  fetches : t.rqu.fetches = s.rqu.fetches
  waitList : t.rqu.waitList = s.rqu.waitList
  slots : t.tkc.slots = s.tkc.slots
  addrs : t.lpc.drops.map Drop.addr = s.lpc.drops.map Drop.addr
  finals : ∀ a, t.finalsAt a ≤ s.finalsAt a
  cash : t.csu.drawers.map Drawer.cash = s.csu.drawers.map Drawer.cash
  transit : t.csu.transit = s.csu.transit
  day : t.dyc.day = s.dyc.day
  timer : t.dyc.blockTimer = s.dyc.blockTimer
  nets : s.NetsSettled → t.NetsSettled

theorem State.Alike.refl (s : State) : s.Alike s :=
  ⟨rfl, rfl, rfl, rfl, rfl, rfl, fun _ => le_rfl, rfl, rfl, rfl, rfl, id⟩

theorem State.Alike.trans (h : r.Alike s) (g : s.Alike t) : r.Alike t where
  staff := g.staff.trans h.staff
  txns := g.txns.trans h.txns
  fetches := g.fetches.trans h.fetches
  waitList := g.waitList.trans h.waitList
  slots := g.slots.trans h.slots
  addrs := g.addrs.trans h.addrs
  finals a := (g.finals a).trans (h.finals a)
  cash := g.cash.trans h.cash
  transit := g.transit.trans h.transit
  day := g.day.trans h.day
  timer := g.timer.trans h.timer
  nets x := g.nets (h.nets x)

/-! ### The unconfirmed nets -/

theorem pendingNet_congr (h : t.jnc.records = s.jnc.records) (n : Nat) : t.pendingNet n = s.pendingNet n := by
  unfold State.pendingNet
  rw [h]

/-- The journal, the accounts' nets and the day give the agreement of the nets. -/
theorem nets_congr (hj : t.jnc.records = s.jnc.records) (hc : t.jnc.counter = s.jnc.counter)
    (hs : t.siu.sat.map (fun e => (e.account, e.net)) = s.siu.sat.map fun e => (e.account, e.net))
    (hd : t.dyc.day = s.dyc.day) (x : s.NetsSettled) : t.NetsSettled := by
  obtain ⟨hnum, hsorted, hnets, hnone⟩ := x
  have hsame : t.siu.sat.map SatEntry.account = s.siu.sat.map SatEntry.account := by
    have := congrArg (List.map Prod.fst) hs
    simpa only [List.map_map, Function.comp_def] using this
  refine ⟨journal_congr (by rw [hj]) hc hnum, hsame ▸ hsorted, fun e he => ?_, by rw [hd, hj]; exact hnone⟩
  have hin : (e.account, e.net) ∈ s.siu.sat.map fun e => (e.account, e.net) := hs ▸ List.mem_map.2 ⟨e, he, rfl⟩
  obtain ⟨x, hx, heq⟩ := List.mem_map.1 hin
  obtain ⟨hacc, hnet⟩ := Prod.mk.injEq .. ▸ heq
  rw [pendingNet_congr hj, ← hacc, ← hnet]
  exact hnets x hx

/-! ### The block updates -/

/-- Two states of which the one has the loop changed, and no drop more final replies. -/
theorem State.Alike.onLpc {f : Lpc → Lpc} (h : r.Alike s) (ha : (f s.lpc).drops.map Drop.addr = s.lpc.drops.map Drop.addr)
    (hf : ∀ a, (s.onLpc f).finalsAt a ≤ s.finalsAt a) : r.Alike (s.onLpc f) :=
  h.trans ⟨rfl, rfl, rfl, rfl, rfl, ha, hf, rfl, rfl, rfl, rfl, nets_congr rfl rfl rfl rfl⟩

theorem finalsAt_congr (h : t.lpc.drops = s.lpc.drops) (a : Nat) : t.finalsAt a = s.finalsAt a := by
  unfold State.finalsAt State.dropAt
  rw [h]

/-- A change of the loop that leaves the drops alone. -/
theorem State.Alike.onRing {f : Lpc → Lpc} (h : r.Alike s) (hf : (f s.lpc).drops = s.lpc.drops) : r.Alike (s.onLpc f) :=
  h.onLpc (by rw [hf]) fun a => (finalsAt_congr hf a).le

/-- A drop that has kept its address and gained no final reply. -/
def Drop.Lessens (d e : Drop) : Prop := e.addr = d.addr ∧ e.finals ≤ d.finals

/-- A change of the loop that maps the drops, of which none gains a final reply. -/
theorem State.Alike.onDrops {f : Lpc → Lpc} {g : Drop → Drop} (h : r.Alike s) (hf : (f s.lpc).drops = s.lpc.drops.map g)
    (hg : ∀ d : Drop, d.Lessens (g d)) : r.Alike (s.onLpc f) := by
  refine h.onLpc (by rw [hf, List.map_map]; exact List.map_congr_left fun d _ => (hg d).1) fun a => ?_
  have hat : (s.onLpc f).dropAt a = (s.dropAt a).map g := by
    rw [State.dropAt, State.onLpc_lpc, hf]
    exact findKey_map fun d => (hg d).1
  unfold State.finalsAt
  rw [hat, Option.map_map]
  cases s.dropAt a with
  | none => exact le_rfl
  | some d => exact (hg d).2

theorem State.Alike.modifyDrop {f : Drop → Drop} (h : r.Alike s) (hf : ∀ d : Drop, d.Lessens (f d)) : r.Alike (s.modifyDrop a f) :=
  h.onDrops rfl fun d => by
    split
    · exact hf d
    · exact ⟨rfl, le_rfl⟩

/-- The drop at an address is replaced by one that has gained no final reply. -/
theorem State.Alike.putDrop {d e : Drop} (h : r.Alike s) (hd : s.dropAt a = some d) (ha : e.addr = a) (hf : e.finals ≤ d.finals) :
    r.Alike (s.modifyDrop a fun _ => e) := by
  refine h.onLpc (modifyKey_map_key fun _ _ => ha) fun b => ?_
  have hat : (s.modifyDrop a fun _ => e).dropAt b = (s.dropAt b).map fun x => if b = a then e else x :=
    dropAt_modifyDrop fun _ _ => ha
  have hfinals : ∀ u : State, u.dropAt b = ((s.dropAt b).map fun x => if b = a then e else x) →
      u.finalsAt b ≤ s.finalsAt b := fun u hu => by
    unfold State.finalsAt
    rw [hu]
    by_cases hb : b = a
    · rw [hb, hd]; simpa using hf
    · simp [hb]
  exact hfinals _ hat

theorem State.Alike.modifyDrops {f : Drop → Drop} (h : r.Alike s) (hf : ∀ d : Drop, d.Lessens (f d)) : r.Alike (s.modifyDrops f) :=
  h.onDrops rfl hf

/-- A change of the tellers that leaves their duties alone, with nothing else of the RQU changed that is read. -/
theorem State.Alike.onRqu {f : Rqu → Rqu} (h : r.Alike s)
    (hs : (f s.rqu).tellers.map Teller.duty = s.rqu.tellers.map Teller.duty) (hx : (f s.rqu).txns = s.rqu.txns)
    (hf : (f s.rqu).fetches = s.rqu.fetches) (hw : (f s.rqu).waitList = s.rqu.waitList) : r.Alike (s.onRqu f) :=
  h.trans ⟨hs, hx, hf, hw, rfl, rfl, fun _ => le_rfl, rfl, rfl, rfl, rfl, nets_congr rfl rfl rfl rfl⟩

theorem State.Alike.modifyTeller {f : Teller → Teller} (h : r.Alike s) (hf : ∀ x, (f x).duty = x.duty) :
    r.Alike (s.modifyTeller n f) := by
  refine h.onRqu ?_ rfl rfl rfl
  show (modifyKey Teller.number n f s.rqu.tellers).map Teller.duty = _
  rw [modifyKey, List.map_map]
  refine List.map_congr_left fun x _ => ?_
  by_cases hx : x.number = n <;> simp [hx, hf]

theorem State.Alike.onCsu {f : Csu → Csu} (h : r.Alike s) (hc : (f s.csu).drawers.map Drawer.cash = s.csu.drawers.map Drawer.cash)
    (ht : (f s.csu).transit = s.csu.transit) : r.Alike (s.onCsu f) :=
  h.trans ⟨rfl, rfl, rfl, rfl, rfl, rfl, fun _ => le_rfl, hc, ht, rfl, rfl, nets_congr rfl rfl rfl rfl⟩

theorem State.Alike.modifyDrawer {f : Drawer → Drawer} (h : r.Alike s) (hf : ∀ w, (f w).cash = w.cash) :
    r.Alike (s.modifyDrawer n f) := by
  refine h.onCsu ?_ rfl
  rw [modifyKey, List.map_map]
  refine List.map_congr_left fun w _ => ?_
  by_cases hw : w.number = n <;> simp [hw, hf]

/-- A change of the trunk that leaves the online slots alone. -/
theorem State.Alike.onTkc {f : Tkc → Tkc} (h : r.Alike s) (hf : (f s.tkc).slots = s.tkc.slots) : r.Alike (s.onTkc f) :=
  h.trans ⟨rfl, rfl, rfl, rfl, hf, rfl, fun _ => le_rfl, rfl, rfl, rfl, rfl, nets_congr rfl rfl rfl rfl⟩

/-- A change of the accounts after which the nets still agree with the journal. -/
theorem State.Alike.onSat {f : Siu → Siu} (h : r.Alike s) (hf : s.NetsSettled → (s.onSiu f).NetsSettled) : r.Alike (s.onSiu f) :=
  h.trans ⟨rfl, rfl, rfl, rfl, rfl, rfl, fun _ => le_rfl, rfl, rfl, rfl, rfl, hf⟩

theorem State.Alike.onSiu {f : Siu → Siu} (h : r.Alike s)
    (hf : (f s.siu).sat.map (fun e => (e.account, e.net)) = s.siu.sat.map fun e => (e.account, e.net)) : r.Alike (s.onSiu f) :=
  h.onSat (nets_congr rfl rfl hf rfl)

theorem State.Alike.modifySat {f : SatEntry → SatEntry} (h : r.Alike s) (ha : ∀ e, (f e).account = e.account)
    (hn : ∀ e, (f e).net = e.net) : r.Alike (s.modifySat n f) := by
  refine h.onSiu ?_
  rw [modifyKey, List.map_map]
  refine List.map_congr_left fun e _ => ?_
  by_cases he : e.account = n <;> simp [he, ha, hn]

theorem State.Alike.modifyBook {f : Passbook → Passbook} (h : r.Alike s) : r.Alike (s.modifyBook n f) :=
  h.modifySat (fun _ => rfl) fun _ => rfl

/-- A change of the journal after which the nets still agree with it. -/
theorem State.Alike.onJnc {f : Jnc → Jnc} (h : r.Alike s) (hf : s.NetsSettled → (s.onJnc f).NetsSettled) : r.Alike (s.onJnc f) :=
  h.trans ⟨rfl, rfl, rfl, rfl, rfl, rfl, fun _ => le_rfl, rfl, rfl, rfl, rfl, hf⟩

theorem State.Alike.onPbu {f : Pbu → Pbu} (h : r.Alike s) : r.Alike (s.onPbu f) :=
  h.trans ⟨rfl, rfl, rfl, rfl, rfl, rfl, fun _ => le_rfl, rfl, rfl, rfl, rfl, nets_congr rfl rfl rfl rfl⟩

/-- A change of Day Control that leaves the day and the block timer alone. -/
theorem State.Alike.onDyc {f : Dyc → Dyc} (h : r.Alike s) (hd : (f s.dyc).day = s.dyc.day)
    (hb : (f s.dyc).blockTimer = s.dyc.blockTimer) : r.Alike (s.onDyc f) :=
  h.trans ⟨rfl, rfl, rfl, rfl, rfl, rfl, fun _ => le_rfl, rfl, rfl, hd, hb, nets_congr rfl rfl rfl hd⟩

/-- What each step of a fold leaves alike, the fold leaves alike. -/
theorem State.Alike.foldl {α : Type} {f : State → α → State} (hf : ∀ s x, r.Alike s → r.Alike (f s x)) (l : List α)
    (h : r.Alike s) : r.Alike (l.foldl f s) := by
  induction l generalizing s with
  | nil => exact h
  | cons x xs ih => exact ih (hf s x h)

/-! ### Messages, marks and indications -/

theorem Drop.lessens_of_same {d e : Drop} (ha : e.addr = d.addr) (hh : e.held = d.held) (hb : e.begun = d.begun)
    (ho : e.outbound = d.outbound) : d.Lessens e := ⟨ha, by unfold Drop.finals; rw [hh, hb, ho]⟩

theorem Drop.take_lessens {m : DownMessage} (hm : isFinal m = false) (d : Drop) (l : LoopState) : d.Lessens (d.take l m) := by
  unfold Drop.take
  rw [hm]
  split
  · exact ⟨rfl, le_rfl⟩
  · split
    · exact ⟨rfl, by simp [Drop.finals, hm]⟩
    · exact Drop.lessens_of_same rfl rfl rfl rfl

/-- A message that is no final reply. -/
theorem State.Alike.handOver {m : DownMessage} (h : r.Alike s) (hm : isFinal m = false) : r.Alike (s.handOver a m) :=
  h.modifyDrop fun d => d.take_lessens hm _

theorem State.Alike.answer {x : Result} (h : r.Alike s) : r.Alike (s.answer a x) := h.handOver rfl

theorem Drop.queueStatus_lessens (d : Drop) : d.Lessens d.queueStatus := by
  rw [Drop.queueStatus_eq]
  exact Drop.lessens_of_same rfl rfl rfl rfl

theorem State.Alike.queueStatus (h : r.Alike s) : r.Alike (s.queueStatus a) := h.modifyDrop Drop.queueStatus_lessens
theorem State.Alike.queueStatusAll (h : r.Alike s) : r.Alike s.queueStatusAll := h.modifyDrops Drop.queueStatus_lessens

theorem State.Alike.queueStatusFor {l : List Nat} (h : r.Alike s) : r.Alike (s.queueStatusFor l) :=
  h.foldl (fun _ _ g => g.queueStatus) l

theorem State.Alike.queueHolder (h : r.Alike s) : r.Alike (s.queueHolder n) := h.queueStatusFor
theorem State.Alike.queueSupervisors (h : r.Alike s) : r.Alike s.queueSupervisors := h.queueStatusFor

theorem State.Alike.queueUnseen {before : State} (h : r.Alike s) : r.Alike (s.queueUnseen before) := by
  refine h.modifyDrops fun d => ?_
  split
  · split
    · exact ⟨rfl, le_rfl⟩
    · exact d.queueStatus_lessens
  · exact ⟨rfl, le_rfl⟩

theorem State.Alike.setRelease (h : r.Alike s) : r.Alike (s.setRelease a) := h.modifyDrop fun _ => ⟨rfl, le_rfl⟩
theorem State.Alike.clearRelease (h : r.Alike s) : r.Alike (s.clearRelease a) := h.modifyDrop fun _ => ⟨rfl, le_rfl⟩
theorem State.Alike.setAlert {on : Bool} (h : r.Alike s) : r.Alike (s.setAlert a on) := h.modifyDrop fun _ => ⟨rfl, le_rfl⟩

/-! ### Reports and the journal -/

theorem State.Alike.pushNode {e : NodeEntry} (h : r.Alike s) : r.Alike (s.pushNode e) := h.onTkc rfl
theorem State.Alike.nodeStatus {k : FrameHeader} {c : Condition} (h : r.Alike s) : r.Alike (s.nodeStatus k c) := h.pushNode

theorem State.Alike.raiseTagged {c : Condition} (h : r.Alike s) : r.Alike (s.raiseTagged n c) := by
  unfold State.raiseTagged; split
  · exact h.pushNode
  · exact h.onTkc rfl

theorem State.Alike.raise {c : Condition} (h : r.Alike s) : r.Alike (s.raise c) := h.raiseTagged

theorem State.Alike.joinWaiting (h : r.Alike s) : r.Alike s.joinWaiting := by
  unfold State.joinWaiting
  split
  · split
    · exact h.pushNode.onTkc rfl
    · exact h
  · exact h

theorem State.Alike.onStats {f : LinkStats → LinkStats} (h : r.Alike s) : r.Alike (s.onStats f) := h.onTkc rfl

theorem State.Alike.judgeThresholds (h : r.Alike s) : r.Alike s.judgeThresholds := by
  simp only [State.judgeThresholds]
  split
  · exact h.raise.queueStatusAll
  · split
    · exact h.raise
    · split
      · exact h.raise
      · exact h

/-- What a record adds to an account's pending postings (R117). -/
def pendingOf (x : Record) (account : Nat) : Int :=
  match postingOf x.body with
  | some p => if x.disposition = some .advicePending ∧ p.account = some account then signedAccount p.legs else 0
  | none => 0

theorem pendingNet_eq (s : State) (n : Nat) : s.pendingNet n = sumOf (fun x => pendingOf x n) s.jnc.records := rfl

theorem pendingOf_other {x : Record} (h : x.disposition ≠ some .advicePending) (n : Nat) : pendingOf x n = 0 := by
  unfold pendingOf
  split
  · exact if_neg fun hand => h hand.1
  · rfl

/-- The journal with a record at its tail. -/
def Jnc.append (x : Record) (j : Jnc) : Jnc :=
  { j with records := j.records ++ [{ x with seq := j.counter + 1, stamp := j.clock }], counter := j.counter + 1 }

/-- A record at the tail adds what it adds to the pending postings. -/
theorem pendingNet_append (x : Record) (n : Nat) : (s.onJnc (Jnc.append x)).pendingNet n = s.pendingNet n + pendingOf x n := by
  rw [pendingNet_eq, State.onJnc_jnc, Jnc.append, sumOf_append, ← pendingNet_eq, sumOf_cons, sumOf_nil, Int.add_zero]
  rfl

theorem journal_append {x : Record} (h : s.JournalNumbered) (hc : s.jnc.counter < Config.reserveLimit) :
    (s.onJnc (Jnc.append x)).JournalNumbered := by
  obtain ⟨hr, -⟩ := h
  refine ⟨?_, hc⟩
  simp only [State.onJnc_jnc, Jnc.append, List.map_append, List.map_cons, List.map_nil, hr, List.range'_concat]
  simp [Nat.add_comm]

/-- A record that is no stand-in posting to be advised leaves the nets in agreement. -/
theorem nets_append {x : Record} (hx : x.disposition ≠ some .advicePending) (hc : s.jnc.counter < Config.reserveLimit)
    (h : s.NetsSettled) : (s.onJnc (Jnc.append x)).NetsSettled := by
  obtain ⟨hj, hsorted, hnets, hnone⟩ := h
  refine ⟨journal_append hj hc, hsorted, fun e he => ?_, fun hd y hy => ?_⟩
  · rw [pendingNet_append, pendingOf_other hx, Int.add_zero]
    exact hnets e he
  · rcases List.mem_append.1 hy with hy | hy
    · exact hnone hd y hy
    · rw [List.mem_singleton.1 hy]; exact hx

theorem State.Alike.writeRecord {x : Record} (h : r.Alike s) (hx : x.disposition ≠ some .advicePending) :
    r.Alike (s.writeRecord x) := by
  unfold State.writeRecord
  split
  · next ht => exact State.Alike.judgeThresholds (h.onJnc (nets_append hx (journalTakes_counter ht)))
  · exact h

/-- A changed disposition changes what its record adds to the pending postings (R133). -/
theorem pendingNet_modify {new : Disposition} {o : Option Nat} {x : Record} (hj : s.JournalNumbered)
    (hx : s.recordAt n = some x) (m : Nat) : (s.onJnc fun j => { j with
      records := modifyKey Record.seq n (fun y => { y with disposition := some new, reference := o <|> y.reference })
        j.records }).pendingNet m = s.pendingNet m + (pendingOf { x with disposition := some new } m - pendingOf x m) := by
  have hnodup : (s.jnc.records.map Record.seq).Nodup := hj.1 ▸ List.nodup_range'
  have hfind : findKey Record.seq n s.jnc.records = some x := hx
  rw [pendingNet_eq, State.onJnc_jnc, sumOf_modifyKey hnodup, hfind, ← pendingNet_eq]
  rfl

theorem holdsDisposition_iff {e : Disposition} :
    s.holdsDisposition n e = true ↔ ∃ x, s.recordAt n = some x ∧ x.disposition = some e := by
  unfold State.holdsDisposition
  cases s.recordAt n with
  | none => simp
  | some x => simp

/-- A disposition that is not ADVICE-PENDING becomes another one that is not. -/
theorem State.Alike.changeDisposition {e new : Disposition} {o : Option Nat} (h : r.Alike s) (he : e ≠ .advicePending)
    (hn : new ≠ .advicePending) : r.Alike (s.changeDisposition n e new o) := by
  unfold State.changeDisposition
  split
  · next hold =>
    refine h.onJnc fun ⟨hj, hsorted, hnets, hnone⟩ => ?_
    obtain ⟨x, hx, hd⟩ := holdsDisposition_iff.1 hold
    have hother : ∀ y : Record, y.disposition = some new → y.disposition ≠ some .advicePending := fun y hy => by
      rw [hy]; exact fun h => hn (Option.some.inj h)
    refine ⟨journal_congr (modifyKey_map_key fun _ hq => hq) rfl hj, hsorted, fun z hz => ?_, fun hd y hy => ?_⟩
    · rw [pendingNet_modify hj hx, pendingOf_other (hother _ rfl), pendingOf_other, Int.sub_zero, Int.add_zero]
      · exact hnets z hz
      · rw [hd]; exact fun h => he (Option.some.inj h)
    · obtain ⟨x, hx, rfl⟩ := List.mem_map.1 hy
      by_cases hk : x.seq = n
      · rw [if_pos hk]; exact hother _ rfl
      · rw [if_neg hk]; exact hnone hd x hx
  · exact h

end Sys2Proof.Machine
end

section
/-! SUPPORT. What is `Alike` after the drawers' marks, the passbooks and the printer sessions, but for the fetches and
their slots. -/

namespace Sys2Proof.Machine

variable {r s t : State} {a n k : Nat}

theorem State.Alike.judgeCashHigh (h : r.Alike s) : r.Alike (s.judgeCashHigh n) := by
  unfold State.judgeCashHigh
  split
  · split
    · exact h
    · exact State.Alike.queueHolder (h.modifyDrawer fun _ => rfl)
  · exact h

theorem Teller.restore_duty (x : Teller) : x.restore.duty = x.duty := by
  unfold Teller.restore
  split <;> rfl

theorem State.Alike.restore (h : r.Alike s) : r.Alike (s.modifyTeller n Teller.restore) :=
  h.modifyTeller Teller.restore_duty

theorem State.Alike.restartSupervision (h : r.Alike s) : r.Alike s.restartSupervision := h.onTkc rfl

theorem State.Alike.modifySession {f : Session → Session} (h : r.Alike s) : r.Alike (s.modifySession a f) := h.onPbu

theorem State.Alike.setRun {o : Option Nat} (h : r.Alike s) : r.Alike (s.setRun o k) := h.onTkc rfl

theorem State.Alike.appendSfq {x : AdviceKind} (h : r.Alike s) : r.Alike (s.appendSfq n x) := h.onSiu rfl

theorem State.Alike.countBad (h : r.Alike s) : r.Alike s.countBad := h.onStats
theorem State.Alike.countOverrun (h : r.Alike s) : r.Alike s.countOverrun := h.onStats
theorem State.Alike.countLateReply (h : r.Alike s) : r.Alike s.countLateReply := h.onStats

/-! ### Passbooks and printer sessions -/

theorem State.Alike.appendLine {l : Line} (h : r.Alike s) : r.Alike (s.appendLine n l) := by
  unfold State.appendLine
  split
  · exact h
  · split
    · exact h.modifyBook
    · exact h.raise

theorem State.Alike.appendTxnLine {y : Txn} {d : Definition} {o : Origin} (h : r.Alike s) :
    r.Alike (s.appendTxnLine y d o n) := by
  unfold State.appendTxnLine
  split
  · split
    · exact h.appendLine
    · exact h
  · exact h

theorem State.Alike.sendCommand {c : PrinterCommand} {m : DownMessage} (h : r.Alike s) (hm : isFinal m = false) :
    r.Alike (s.sendCommand a c m) := (h.handOver hm).modifySession

theorem State.Alike.startIdentify (h : r.Alike s) : r.Alike (s.startIdentify a) := by
  unfold State.startIdentify
  split
  · exact State.Alike.sendCommand h.modifySession rfl
  · exact h

theorem State.Alike.endSession (h : r.Alike s) : r.Alike (s.endSession a) := by
  unfold State.endSession
  split
  · exact h
  · split
    · exact h
    · dsimp only
      split
      · split
        · exact h.modifyBook.writeRecord nofun
        · exact h.modifyBook
      · exact h.modifyBook

theorem State.Alike.finishSession {x : Option BookReason} (h : r.Alike s) : r.Alike (s.finishSession a x) :=
  State.Alike.endSession (State.Alike.modifySession (h.handOver rfl))

theorem State.Alike.refuseBook {o : Option Nat} {p : Option BookPos} {x : BookReason} (h : r.Alike s) :
    r.Alike (s.refuseBook a o p x) := State.Alike.writeRecord (State.Alike.handOver h.modifySession rfl) nofun

theorem State.Alike.printLine {b : Passbook} {l : Line} {x : MarkerSource} (h : r.Alike s) :
    r.Alike (s.printLine a n b l x) := by
  unfold State.printLine
  split
  · exact h.modifyBook.sendCommand rfl
  · exact h.finishSession

theorem State.Alike.chooseLine (h : r.Alike s) : r.Alike (s.chooseLine a n) := by
  unfold State.chooseLine
  dsimp only
  split
  · exact h.modifyBook.finishSession
  · split
    · exact h.modifyBook.printLine
    · split
      · exact h.modifyBook.printLine
      · exact h.modifyBook.finishSession

theorem State.Alike.startPrinting (h : r.Alike s) : r.Alike (s.startPrinting a n) :=
  State.Alike.chooseLine h.modifySession

theorem State.Alike.resumeFetching (h : r.Alike s) : r.Alike (s.resumeFetching a) := by
  unfold State.resumeFetching
  split
  · split
    · exact h.startPrinting
    · exact h
  · exact h

theorem State.Alike.pageEnd {p : Nat} (h : r.Alike s) : r.Alike (s.pageEnd a n p) := by
  unfold State.pageEnd
  split
  · exact h.finishSession
  · split
    · exact State.Alike.sendCommand h.modifySession rfl
    · exact h.finishSession

theorem State.Alike.lineConfirmed {p l : Nat} (h : r.Alike s) : r.Alike (s.lineConfirmed a n p l) := by
  unfold State.lineConfirmed
  dsimp only
  split
  · exact h.modifyBook.modifySession.chooseLine
  · exact h.modifyBook.modifySession.pageEnd

/-! ### The frames of the trunk that carry no work item -/

theorem State.Alike.send {b : FrameBody} {x : Bool} (h : r.Alike s) : r.Alike (s.send a n b x) := by
  unfold State.send
  exact h.onTkc rfl

theorem State.Alike.adviceStart (h : r.Alike s) : r.Alike s.adviceStart := by
  unfold State.adviceStart
  split
  · exact State.Alike.send (h.onTkc rfl)
  · exact h

theorem State.Alike.answerStart (h : r.Alike s) : r.Alike s.answerStart := by
  unfold State.answerStart
  split
  · exact State.Alike.joinWaiting (State.Alike.send (h.onTkc rfl))
  · exact h

theorem State.Alike.blockStart (h : r.Alike s) : r.Alike s.blockStart := by
  unfold State.blockStart
  split
  · exact State.Alike.onDyc h.send rfl rfl
  · exact h

theorem State.Alike.forgetResumption (h : r.Alike s) : r.Alike s.forgetResumption := h.onTkc rfl
theorem State.Alike.freezeSfq (h : r.Alike s) : r.Alike s.freezeSfq := h.onTkc rfl

theorem State.Alike.adviceExpiry (h : r.Alike s) : r.Alike s.adviceExpiry := by
  unfold State.adviceExpiry
  split
  · exact h
  · exact State.Alike.onTkc h.onStats rfl

theorem State.Alike.reportLost (h : r.Alike s) : r.Alike s.reportLost := by
  unfold State.reportLost
  split
  · refine State.Alike.trans (s := s.raise .retainedLost) h.raise ?_
    exact ⟨rfl, rfl, rfl, rfl, rfl, rfl, fun _ => le_rfl, rfl, rfl, rfl, rfl, nets_congr rfl rfl rfl rfl⟩
  · exact h

/-! ### The records of a transaction, but for its outcome -/

theorem State.Alike.refreshSnapshot {o : Option Nat} {b : ReplyBalance} (h : r.Alike s) : r.Alike (s.refreshSnapshot o b) := by
  unfold State.refreshSnapshot
  split
  · split
    · split
      · exact h.modifySat (fun _ => rfl) fun _ => rfl
      · exact h
    · exact h
  · exact h

theorem State.Alike.approvedLine {y : Txn} (h : r.Alike s) : r.Alike (s.approvedLine y n) := by
  unfold State.approvedLine
  split
  · exact h.appendTxnLine
  · exact h

theorem State.Alike.timeOut (h : r.Alike s) : r.Alike (s.timeOut n) := by
  unfold State.timeOut
  split
  · exact h
  · split
    · exact State.Alike.appendSfq (State.Alike.writeRecord (h.changeDisposition nofun nofun) nofun)
    · exact State.Alike.changeDisposition (h.changeDisposition nofun nofun) nofun nofun

/-! ### A posting advice is answered (R117, R120, R121) -/

theorem signedAccount_release {p : Posting} {x : Record} (hp : postingOf x.body = some p)
    (hd : x.disposition = some .advicePending) (m : Nat) :
    pendingOf x m = if p.account = some m then signedAccount p.legs else 0 := by
  simp [pendingOf, hp, hd]

theorem nets_settlePosting {new : Disposition} {o : Option Nat} (hn : new ≠ .advicePending) (h : s.NetsSettled) :
    (s.settlePosting n new o).NetsSettled := by
  unfold State.settlePosting
  split
  · next hold =>
    obtain ⟨x, hx, hd⟩ := holdsDisposition_iff.1 hold
    obtain ⟨hj, hsorted, hnets, hnone⟩ := h
    have hother : ∀ y : Record, y.disposition = some new → y.disposition ≠ some .advicePending := fun y hy => by
      rw [hy]; exact fun h => hn (Option.some.inj h)
    have hchange : s.changeDisposition n .advicePending new o = s.onJnc fun j => { j with
        records := modifyKey Record.seq n (fun y => { y with disposition := some new, reference := o <|> y.reference })
          j.records } := if_pos hold
    have hj' : (s.changeDisposition n .advicePending new o).JournalNumbered := by
      rw [hchange]
      exact journal_congr (modifyKey_map_key fun _ hq => hq) rfl hj
    have hpending : ∀ m, (s.changeDisposition n .advicePending new o).pendingNet m = s.pendingNet m - pendingOf x m :=
      fun m => by rw [hchange, pendingNet_modify hj hx, pendingOf_other (hother _ rfl)]; omega
    have hnone' : s.dyc.day = .noDay ∨ s.dyc.day = .loading →
        ∀ y ∈ (s.changeDisposition n .advicePending new o).jnc.records, y.disposition ≠ some .advicePending := by
      rw [hchange]
      intro hday y hy
      obtain ⟨z, hz, rfl⟩ := List.mem_map.1 hy
      by_cases hk : z.seq = n
      · rw [if_pos hk]; exact hother _ rfl
      · rw [if_neg hk]; exact hnone hday z hz
    have hsiu : (s.changeDisposition n .advicePending new o).siu = s.siu := by simp
    have hdyc : (s.changeDisposition n .advicePending new o).dyc = s.dyc := by simp
    dsimp only
    rw [hx, Option.bind_some]
    generalize s.changeDisposition n .advicePending new o = u at hj' hpending hnone' hsiu hdyc ⊢
    have hsame : (∀ m, pendingOf x m = 0) → u.NetsSettled := fun hzero =>
      ⟨hj', hsiu ▸ hsorted, fun e he => by rw [hpending, hzero, Int.sub_zero]; exact hnets e (hsiu ▸ he),
        hdyc ▸ hnone'⟩
    cases hp : postingOf x.body with
    | none => exact hsame fun m => by simp [pendingOf, hp]
    | some p =>
      dsimp only
      unfold State.releaseNet
      split
      · next account ha =>
        refine ⟨hj', ?_, fun e he => ?_, hdyc ▸ hnone'⟩
        · show ((modifyKey SatEntry.account account _ u.siu.sat).map SatEntry.account).Pairwise (· < ·)
          rw [modifyKey_map_key fun _ he => by exact he, hsiu]
          exact hsorted
        · obtain ⟨z, hz, rfl⟩ := List.mem_map.1 he
          have hnet := hnets z (hsiu ▸ hz)
          have hrel := signedAccount_release hp hd z.account
          rw [ha] at hrel
          have hpend : (u.modifySat account fun e => { e with net := e.net - signedAccount p.legs }).pendingNet z.account =
              u.pendingNet z.account := pendingNet_congr rfl _
          by_cases hk : z.account = account
          · rw [if_pos hk]
            show z.net - signedAccount p.legs = (u.modifySat account _).pendingNet z.account
            rw [hpend, hpending, hrel, if_pos (by rw [hk]), hnet]
          · rw [if_neg hk, hpend, hpending, hrel, if_neg fun h => hk (Option.some.inj h).symm, hnet, Int.sub_zero]
      · next ha =>
        exact hsame fun m => by rw [signedAccount_release hp hd m, ha]; exact if_neg nofun
  · exact h

end Sys2Proof.Machine
end

section
/-! SUPPORT. The invariants of the second halves of O56 and O57, read through the lookups of the state: work items with
their tellers and places, and covered cash; and their agreement with the statements' own predicates. -/

namespace Sys2Proof.Machine

variable {p q : Prop} {r s t : State} {a b n : Nat} {y : Txn} {e : Option Nat}

/-! ### The relations -/

/-- A transaction's teller is signed on at its drop (R23). -/
def State.Attended (s : State) (y : Txn) : Prop :=
  ∃ x ∈ s.rqu.tellers, x.number = y.teller ∧ x.signedOn = true ∧ x.station = some y.drop

/-- An online slot is FREE with its timer stopped, or carries the item that names it (R99, R101). -/
def State.SlotCarried (s : State) (x : OnlineSlot) : Prop :=
  (x.state = .free → x.timer = .stopped) ∧
    (x.state = .queued → s.standsAt x.kind x.drop .queued (some x.number) = true) ∧
    (x.state = .sending ∨ x.state = .await → s.standsAt x.kind x.drop .onTrunk (some x.number) = true)

/-- A drop's transaction is ANSWERED. -/
def State.answeredAt (s : State) (a : Nat) : Bool := (s.txnAt a).any fun y => y.stage == .answered

/-- The work items stand where their stages say, drop by drop. -/
structure State.Placed (s : State) : Prop where
  fetches : (s.rqu.fetches.map Fetch.drop).Pairwise (· < ·)
  addrs : s.lpc.drops.map Drop.addr = List.range' 1 28
  slots : s.tkc.slots.map OnlineSlot.number = List.range 6
  once : s.rqu.waitList.Nodup
  alone : ∀ a y, s.txnAt a = some y → s.fetchAt a = none
  listed : ∀ a ∈ s.rqu.waitList, s.standsAt (s.workKind a) a .waitListed none = true
  carried : ∀ x ∈ s.tkc.slots, s.SlotCarried x
  replied : ∀ a, s.finalsAt a ≤ 1 ∧ (s.finalsAt a = 1 → s.answeredAt a = true)

/-- The sum of a transaction's cash-out legs of a currency. -/
def Txn.owed (y : Txn) (c : Currency) : Int :=
  sumOf (fun l : Leg => if l.currency = c ∧ l.kind = .cashOut then (l.amount : Int) else 0) y.legs

/-- A transaction's cash-out legs are within the positions of its drawer, which its teller holds. -/
def State.Funds (s : State) (y : Txn) : Prop :=
  ∀ n, y.drawer = some n → (s.tellerOf y.teller).bind Teller.heldDrawer = some n ∧
    ∀ w, s.drawerAt n = some w → ∀ c, y.owed c ≤ (w.sums c).position

/-- A HELD drawer stands as its declaration found it. -/
def State.Declared (s : State) (w : Drawer) : Prop :=
  w.balance = .held → s.dyc.day = .balancing ∧ s.transitNames w.number = false ∧
    ∀ z, w.declaration = some z → w.home.position + z.diffHome = z.declaredHome ∧
      w.foreign.position + z.diffForeign = z.declaredForeign

/-- The cash of every drawer is covered, but for the transaction of drop `e`. -/
structure State.Covered (s : State) (e : Option Nat) : Prop where
  drawers : s.csu.drawers.map Drawer.number = List.range 25
  solvent : ∀ w ∈ s.csu.drawers, 0 ≤ w.home.position ∧ 0 ≤ w.foreign.position
  holders : ∀ x ∈ s.rqu.tellers, ∀ y ∈ s.rqu.tellers, x.heldDrawer.isSome = true → x.heldDrawer = y.heldDrawer →
    x.number = y.number
  drained : drainedDay s.dyc.day = true → ∀ a y, s.txnAt a = some y → y.stage = .answered
  funded : ∀ a y, some a ≠ e → s.txnAt a = some y → y.waits = true → s.Funds y
  declared : ∀ w ∈ s.csu.drawers, s.Declared w

/-- The invariants that hold between the commands: the work attended; where `p` the nets settled, and where `q` the
work placed and the cash covered. -/
structure State.Orderly (p q : Prop) (s : State) : Prop where
  attended : s.WorkAttended
  nets : p → s.NetsSettled
  placed : q → s.Placed
  covered : q → s.Covered none

/-- No wait list entry and no slot names a drop. -/
def State.Idle (s : State) (a : Nat) : Prop :=
  a ∉ s.rqu.waitList ∧ ∀ x ∈ s.tkc.slots, x.state ≠ .free → x.drop ≠ a

/-- Between the commands but for one transaction, which is being decided: its teller is signed on, and nothing else
knows of it but the table, where it may stand as it was. -/
structure State.InHand (p q : Prop) (y : Txn) (s : State) : Prop where
  attended : s.WorkAttended
  keeper : s.Attended y
  nets : p → s.NetsSettled
  placed : q → s.Placed
  idle : q → s.Idle y.drop
  alone : q → s.fetchAt y.drop = none
  unreplied : q → s.finalsAt y.drop = 0
  covered : q → s.Covered (some y.drop)

/-! ### Agreement with the statements' predicates -/

theorem txns_sorted (h : s.WorkAttended) : (s.rqu.txns.map Txn.drop).Pairwise (· < ·) := h.2.1

theorem txnAt_iff (h : s.WorkAttended) : s.txnAt a = some y ↔ y ∈ s.rqu.txns ∧ y.drop = a :=
  ⟨fun hy => ⟨findKey_mem hy, txnAt_drop hy⟩, fun ⟨hy, ha⟩ =>
    ha ▸ findKey_of_mem (pairwise_lt_nodup (txns_sorted h)) hy⟩

/-- The drops of a state that has them all, found by their addresses. -/
theorem dropAt_of_addrs (h : s.lpc.drops.map Drop.addr = List.range' 1 28) {d : Drop} (hd : d ∈ s.lpc.drops) :
    s.dropAt d.addr = some d := findKey_of_mem (h ▸ List.nodup_range') hd

theorem replied_iff (h : s.lpc.drops.map Drop.addr = List.range' 1 28) :
    (∀ d ∈ s.lpc.drops, d.finals ≤ 1 ∧ (d.finals = 1 → (s.txnAt d.addr).any (fun y => y.stage == .answered) = true)) ↔
      ∀ a, s.finalsAt a ≤ 1 ∧ (s.finalsAt a = 1 → s.answeredAt a = true) := by
  refine ⟨fun hall a => ?_, fun hall d hd => ?_⟩
  · unfold State.finalsAt
    cases hd : s.dropAt a with
    | none => exact ⟨Nat.zero_le _, nofun⟩
    | some d =>
      have := hall d (findKey_mem hd)
      rwa [dropAt_addr hd] at this
  · have := hall d.addr
    unfold State.finalsAt at this
    rwa [dropAt_of_addrs h hd] at this

theorem placed_iff (hw : s.WorkAttended) : s.WorkPlaced ↔ s.Placed := by
  refine ⟨fun ⟨h1, h2, h3, h4, h5, h6, h7, h8⟩ => ?_, fun h => ?_⟩
  · refine ⟨h1, h2, h3, h4, fun a y hy => ?_, h6, h7, (replied_iff h2).1 h8⟩
    obtain ⟨hm, rfl⟩ := (txnAt_iff hw).1 hy
    exact h5 y hm
  · exact ⟨h.fetches, h.addrs, h.slots, h.once, fun y hy => h.alone _ y ((txnAt_iff hw).2 ⟨hy, rfl⟩), h.listed, h.carried,
      (replied_iff h.addrs).2 h.replied⟩

theorem covered_iff (hw : s.WorkAttended) : s.CashCovered ↔ s.Covered none := by
  refine ⟨fun ⟨h1, h2, h3, h4, h5, h6⟩ => ?_, fun h => ?_⟩
  · exact ⟨h1, h2, h3, fun hd a y hy => h4 hd y (findKey_mem hy), fun a y _ hy hwait => h5 y (findKey_mem hy) hwait, h6⟩
  · have hat : ∀ y ∈ s.rqu.txns, s.txnAt y.drop = some y := fun y hy => (txnAt_iff hw).2 ⟨hy, rfl⟩
    exact ⟨h.drawers, h.solvent, h.holders, fun hd y hy => h.drained hd _ y (hat y hy), fun y hy hwait =>
      h.funded y.drop y (by simp) (hat y hy) hwait, h.declared⟩

/-! ### What is alike keeps them -/

/-- A lookup by key sees of a list what a map with the key shows. -/
theorem findKey_map_view {α β : Type} {key : α → Nat} {f : α → β} {k : β → Nat} (hk : ∀ x, k (f x) = key x) (l : List α) :
    (findKey key n l).map f = findKey k n (l.map f) := by
  induction l with
  | nil => rfl
  | cons x xs ih =>
    rw [List.map_cons, findKey_cons, findKey_cons, hk]
    split
    · rfl
    · exact ih

theorem mem_of_view {α β : Type} {f : α → β} {l m : List α} (h : l.map f = m.map f) {x : α} (hx : x ∈ l) :
    ∃ z ∈ m, f z = f x := List.mem_map.1 (h ▸ List.mem_map.2 ⟨x, hx, rfl⟩)

theorem State.Alike.teller (h : s.Alike t) {x : Teller} (hx : x ∈ t.rqu.tellers) :
    ∃ z ∈ s.rqu.tellers, z.number = x.number ∧ z.signedOn = x.signedOn ∧ z.station = x.station ∧
      z.heldDrawer = x.heldDrawer := by
  obtain ⟨z, hz, heq⟩ := mem_of_view h.staff hx
  simp only [Teller.duty, Prod.mk.injEq] at heq
  exact ⟨z, hz, heq⟩

theorem State.Alike.drawer (h : s.Alike t) {x : Drawer} (hx : x ∈ t.csu.drawers) :
    ∃ z ∈ s.csu.drawers, z.number = x.number ∧ z.home = x.home ∧ z.foreign = x.foreign ∧ z.balance = x.balance ∧
      z.declaration = x.declaration := by
  obtain ⟨z, hz, heq⟩ := mem_of_view h.cash hx
  simp only [Drawer.cash, Prod.mk.injEq] at heq
  exact ⟨z, hz, heq⟩

theorem attended_of_staff (h : t.rqu.tellers.map Teller.duty = s.rqu.tellers.map Teller.duty) (hy : s.Attended y) :
    t.Attended y := by
  obtain ⟨x, hx, h1, h2, h3⟩ := hy
  obtain ⟨z, hz, heq⟩ := mem_of_view h.symm hx
  simp only [Teller.duty, Prod.mk.injEq] at heq
  obtain ⟨g1, g2, g3, -⟩ := heq
  exact ⟨z, hz, g1.trans h1, g2.trans h2, g3.trans h3⟩

theorem nobody_of_staff (h : t.rqu.tellers.map Teller.duty = s.rqu.tellers.map Teller.duty) (hn : s.nobodySignedOn = true) :
    t.nobodySignedOn = true := by
  simp only [State.nobodySignedOn, List.all_eq_true, Bool.not_eq_true'] at hn ⊢
  intro x hx
  obtain ⟨z, hz, heq⟩ := mem_of_view h hx
  simp only [Teller.duty, Prod.mk.injEq] at heq
  exact heq.2.1 ▸ hn z hz

theorem numbers_of_staff (h : t.rqu.tellers.map Teller.duty = s.rqu.tellers.map Teller.duty) :
    t.rqu.tellers.map Teller.number = s.rqu.tellers.map Teller.number := by
  have := congrArg (List.map fun d : Nat × Bool × Option Nat × Option Nat => d.1) h
  rw [List.map_map, List.map_map] at this
  exact this

theorem State.Alike.workAttended (h : s.Alike t) (hw : s.WorkAttended) : t.WorkAttended := by
  obtain ⟨h1, h2, h3, h4, h5⟩ := hw
  refine ⟨numbers_of_staff h.staff ▸ h1, h.txns ▸ h2, fun y hy => ?_, fun hd => ?_, fun hb => ?_⟩
  · exact attended_of_staff h.staff (h3 y (h.txns ▸ hy))
  · exact nobody_of_staff h.staff (h4 (h.day ▸ hd))
  · exact h.day.trans (h5 (h.timer ▸ hb))

theorem State.Alike.txnAt (h : s.Alike t) (a : Nat) : t.txnAt a = s.txnAt a := by rw [State.txnAt, h.txns]; rfl
theorem State.Alike.fetchAt (h : s.Alike t) (a : Nat) : t.fetchAt a = s.fetchAt a := by rw [State.fetchAt, h.fetches]; rfl

/-- What a place of a work item reads: the transaction and the fetch of its drop. -/
theorem standsAt_congr (hx : t.txnAt a = s.txnAt a) (hf : t.fetchAt a = s.fetchAt a) (k : OnlineKind) (g : Stage) :
    t.standsAt k a g e = s.standsAt k a g e := by
  unfold State.standsAt
  rw [hx, hf]

theorem workKind_congr (hx : t.txnAt a = s.txnAt a) : t.workKind a = s.workKind a := by
  unfold State.workKind
  rw [hx]

theorem slotCarried_congr {x : OnlineSlot} (hx : t.txnAt x.drop = s.txnAt x.drop) (hf : t.fetchAt x.drop = s.fetchAt x.drop)
    (h : s.SlotCarried x) : t.SlotCarried x := by
  unfold State.SlotCarried
  rw [standsAt_congr hx hf, standsAt_congr hx hf]
  exact h

theorem answeredAt_congr (hx : t.txnAt a = s.txnAt a) : t.answeredAt a = s.answeredAt a := by
  unfold State.answeredAt
  rw [hx]

theorem State.Alike.placedAs (h : s.Alike t) (hp : s.Placed) : t.Placed where
  fetches := h.fetches ▸ hp.fetches
  addrs := h.addrs.trans hp.addrs
  slots := h.slots ▸ hp.slots
  once := h.waitList ▸ hp.once
  alone a y hy := (h.fetchAt a).trans (hp.alone a y ((h.txnAt a).symm.trans hy))
  listed a ha := by
    rw [workKind_congr (h.txnAt a), standsAt_congr (h.txnAt a) (h.fetchAt a)]
    exact hp.listed a (h.waitList ▸ ha)
  carried x hx := slotCarried_congr (h.txnAt _) (h.fetchAt _) (hp.carried x (h.slots ▸ hx))
  replied a := by
    have hle := h.finals a
    obtain ⟨h1, h2⟩ := hp.replied a
    refine ⟨hle.trans h1, fun h3 => ?_⟩
    rw [answeredAt_congr (h.txnAt a)]
    exact h2 (by omega)

theorem heldBy_of_staff (h : t.rqu.tellers.map Teller.duty = s.rqu.tellers.map Teller.duty) (n : Nat) :
    (t.tellerOf n).bind Teller.heldDrawer = (s.tellerOf n).bind Teller.heldDrawer := by
  have hview : (t.tellerOf n).map Teller.duty = (s.tellerOf n).map Teller.duty := by
    have hk : ∀ x : Teller, x.duty.1 = x.number := fun _ => rfl
    rw [State.tellerOf, State.tellerOf, findKey_map_view hk, findKey_map_view hk, h]
  have hbind : ∀ o : Option Teller, o.bind Teller.heldDrawer = (o.map Teller.duty).bind fun d => d.2.2.2 := fun o => by
    cases o <;> rfl
  rw [hbind, hbind, hview]

theorem funds_congr (hs : t.rqu.tellers.map Teller.duty = s.rqu.tellers.map Teller.duty)
    (hc : t.csu.drawers.map Drawer.cash = s.csu.drawers.map Drawer.cash) (h : s.Funds y) : t.Funds y := by
  intro n hn
  obtain ⟨hheld, hpos⟩ := h n hn
  refine ⟨(heldBy_of_staff hs _).trans hheld, fun w hw c => ?_⟩
  have hk : ∀ x : Drawer, x.cash.1 = x.number := fun _ => rfl
  have hview : (t.drawerAt n).map Drawer.cash = (s.drawerAt n).map Drawer.cash := by
    rw [State.drawerAt, State.drawerAt, findKey_map_view hk, findKey_map_view hk, hc]
  rw [hw, Option.map_some] at hview
  obtain ⟨v, hv, heq⟩ := Option.map_eq_some_iff.1 hview.symm
  have hle := hpos v hv c
  simp only [Drawer.cash, Prod.mk.injEq] at heq
  obtain ⟨-, hh, hf, -⟩ := heq
  cases c with
  | home => exact hle.trans (by rw [Drawer.sums, Drawer.sums, hh])
  | foreign => exact hle.trans (by rw [Drawer.sums, Drawer.sums, hf])

theorem State.Alike.coveredAs (h : s.Alike t) (hc : s.Covered e) : t.Covered e where
  drawers := by
    have := congrArg (List.map fun d : Nat × Sums × Sums × BalanceState × Option Declaration => d.1) h.cash
    simp only [List.map_map, Function.comp_def] at this
    exact this.trans hc.drawers
  solvent w hw := by
    obtain ⟨z, hz, -, hh, hf, -⟩ := h.drawer hw
    exact hh ▸ hf ▸ hc.solvent z hz
  holders x hx y hy hs heq := by
    obtain ⟨u, hu, h1, -, -, h2⟩ := h.teller hx
    obtain ⟨v, hv, h3, -, -, h4⟩ := h.teller hy
    exact h1 ▸ h3 ▸ hc.holders u hu v hv (h2 ▸ hs) (h2.trans (heq.trans h4.symm))
  drained hd a y hy := hc.drained (h.day ▸ hd) a y ((h.txnAt a).symm.trans hy)
  funded a y ha hy hw := funds_congr h.staff h.cash (hc.funded a y ha ((h.txnAt a).symm.trans hy) hw)
  declared w hw hb := by
    obtain ⟨z, hz, hn, hh, hf, hbal, hdec⟩ := h.drawer hw
    obtain ⟨h1, h2, h3⟩ := hc.declared z hz (hbal.trans hb)
    refine ⟨h.day.trans h1, ?_, fun x hx => hh ▸ hf ▸ h3 x (hdec.trans hx)⟩
    unfold State.transitNames at h2 ⊢
    rw [h.transit, ← hn]
    exact h2

theorem State.Orderly.alike (h : s.Orderly p q) (g : s.Alike t) : t.Orderly p q :=
  ⟨g.workAttended h.attended, fun hp => g.nets (h.nets hp), fun hq => g.placedAs (h.placed hq),
    fun hq => g.coveredAs (h.covered hq)⟩

theorem State.Idle.alike (h : s.Idle a) (g : s.Alike t) : t.Idle a := by
  unfold State.Idle
  rw [g.waitList, g.slots]
  exact h

theorem State.InHand.alike (h : s.InHand p q y) (g : s.Alike t) : t.InHand p q y where
  attended := g.workAttended h.attended
  keeper := attended_of_staff g.staff h.keeper
  nets hp := g.nets (h.nets hp)
  placed hq := g.placedAs (h.placed hq)
  idle hq := (h.idle hq).alike g
  alone hq := (g.fetchAt _).trans (h.alone hq)
  unreplied hq := Nat.le_zero.1 ((g.finals _).trans (h.unreplied hq).le)
  covered hq := g.coveredAs (h.covered hq)

/-- The transaction in hand is taken on under other particulars. -/
theorem State.InHand.as {z : Txn} (h : s.InHand p q y) (hd : z.drop = y.drop) (ht : z.teller = y.teller) : s.InHand p q z := by
  have hk : s.Attended z := by
    unfold State.Attended
    rw [hd, ht]
    exact h.keeper
  exact ⟨h.attended, hk, h.nets, h.placed, hd ▸ h.idle, hd ▸ h.alone, hd ▸ h.unreplied, hd ▸ h.covered⟩

end Sys2Proof.Machine
end

section
/-! SUPPORT. The rules of the work-item invariants for the block updates: the table of transactions, the wait list, the
online slots, the drawers and the day. -/

namespace Sys2Proof.Machine

variable {p q : Prop} {r s t : State} {a b n i : Nat} {y z : Txn} {e : Option Nat} {x : OnlineSlot}

/-! ### Attended work -/

theorem State.WorkAttended.onRqu {f : Rqu → Rqu} (h : s.WorkAttended)
    (ht : (f s.rqu).tellers.map Teller.duty = s.rqu.tellers.map Teller.duty)
    (hs : ((f s.rqu).txns.map Txn.drop).Pairwise (· < ·)) (hk : ∀ y ∈ (f s.rqu).txns, s.Attended y) :
    (s.onRqu f).WorkAttended := by
  obtain ⟨h1, -, -, h4, h5⟩ := h
  exact ⟨(numbers_of_staff (t := s.onRqu f) ht).symm ▸ h1, hs, fun y hy => attended_of_staff (t := s.onRqu f) ht (hk y hy),
    fun hd => nobody_of_staff (t := s.onRqu f) ht (h4 hd), h5⟩

theorem State.WorkAttended.keeper (h : s.WorkAttended) (hy : s.txnAt a = some y) : s.Attended y := h.2.2.1 y (findKey_mem hy)

theorem State.WorkAttended.putTxn (h : s.WorkAttended) (hy : s.Attended y) : (s.putTxn y).WorkAttended :=
  h.onRqu rfl (putKey_sorted (txns_sorted h)) fun z hz => by
    rcases mem_putKey hz with rfl | hz
    · exact hy
    · exact h.2.2.1 z hz

theorem State.WorkAttended.modifyTxn {f : Txn → Txn} (h : s.WorkAttended)
    (hf : ∀ y, (f y).drop = y.drop ∧ (f y).teller = y.teller) : (s.modifyTxn a f).WorkAttended := by
  refine h.onRqu rfl ?_ fun z hz => ?_
  · show ((modifyKey Txn.drop a f s.rqu.txns).map Txn.drop).Pairwise _
    rw [modifyKey_map_key fun y hy => (hf y).1.trans hy]
    exact txns_sorted h
  · obtain ⟨y, hy, rfl⟩ := List.mem_map.1 hz
    have hk := h.2.2.1 y hy
    by_cases hd : y.drop = a
    · rw [if_pos hd]
      unfold State.Attended
      rw [(hf y).1, (hf y).2]
      exact hk
    · rw [if_neg hd]
      exact hk

theorem State.WorkAttended.endTxn (h : s.WorkAttended) : (s.endTxn a).WorkAttended :=
  h.onRqu rfl (eraseKey_sorted (txns_sorted h)) fun y hy => h.2.2.1 y (List.mem_of_mem_filter hy)

/-- With nobody signed on there is no transaction. -/
theorem txnAt_of_nobody (h : s.WorkAttended) (hn : s.nobodySignedOn = true) (a : Nat) : s.txnAt a = none := by
  by_contra hne
  obtain ⟨y, hy⟩ := Option.ne_none_iff_exists'.1 hne
  obtain ⟨x, hx, -, hon, -⟩ := h.keeper hy
  simp only [State.nobodySignedOn, List.all_eq_true, Bool.not_eq_true'] at hn
  rw [hn x hx] at hon
  cases hon

/-- A transaction that is attended is not decided in a closed day. -/
theorem open_of_attended (h : s.WorkAttended) (hy : s.Attended y) : closedDay s.dyc.day = false := by
  obtain ⟨x, hx, -, hon, -⟩ := hy
  by_contra hc
  have hn := h.2.2.2.1 (by simpa using hc)
  simp only [State.nobodySignedOn, List.all_eq_true, Bool.not_eq_true'] at hn
  rw [hn x hx] at hon
  cases hon

/-! ### A drop's transaction changes while nothing names it -/

/-- What happens at an idle drop alone leaves the work placed, when its final reply is that of an ANSWERED item. -/
theorem State.Placed.atDrop (h : s.Placed) (hi : s.Idle a) (hn : s.fetchAt a = none) (hf : t.rqu.fetches = s.rqu.fetches)
    (hw : t.rqu.waitList = s.rqu.waitList) (hs : t.tkc.slots = s.tkc.slots)
    (ha : t.lpc.drops.map Drop.addr = s.lpc.drops.map Drop.addr) (hx : ∀ b, b ≠ a → t.txnAt b = s.txnAt b)
    (hl : ∀ b, b ≠ a → t.finalsAt b ≤ s.finalsAt b)
    (hone : t.finalsAt a ≤ 1 ∧ (t.finalsAt a = 1 → t.answeredAt a = true)) : t.Placed := by
  have hfetch : ∀ b, t.fetchAt b = s.fetchAt b := fun b => by rw [State.fetchAt, hf]; rfl
  refine ⟨hf ▸ h.fetches, ha.trans h.addrs, hs ▸ h.slots, hw ▸ h.once, fun b y hy => ?_, fun b hb => ?_, fun x hx' => ?_,
    fun b => ?_⟩
  · rw [hfetch]
    by_cases hb : b = a
    · rw [hb]; exact hn
    · exact h.alone b y ((hx b hb).symm.trans hy)
  · rw [hw] at hb
    have hne : b ≠ a := fun he => hi.1 (he ▸ hb)
    rw [workKind_congr (hx b hne), standsAt_congr (hx b hne) (hfetch b)]
    exact h.listed b hb
  · rw [hs] at hx'
    by_cases hd : x.drop = a
    · have hfree : x.state = .free := by
        by_contra hne
        exact hi.2 x hx' hne hd
      refine ⟨(h.carried x hx').1, fun hst => ?_, fun hst => ?_⟩
      · rw [hfree] at hst; cases hst
      · rw [hfree] at hst; rcases hst with hst | hst <;> cases hst
    · exact slotCarried_congr (hx _ hd) (hfetch _) (h.carried x hx')
  · by_cases hb : b = a
    · rw [hb]; exact hone
    · obtain ⟨h1, h2⟩ := h.replied b
      have hle := hl b hb
      refine ⟨hle.trans h1, fun h3 => ?_⟩
      rw [answeredAt_congr (hx b hb)]
      exact h2 (by omega)

theorem State.Covered.opened (h : s.Covered none) (a : Nat) : s.Covered (some a) :=
  ⟨h.drawers, h.solvent, h.holders, h.drained, fun b y _ hy hw => h.funded b y nofun hy hw, h.declared⟩

/-- The transaction of the drop apart is funded where it waits. -/
theorem State.Covered.closed (h : s.Covered (some a)) (hy : ∀ y, s.txnAt a = some y → y.waits = true → s.Funds y) :
    s.Covered none := by
  refine ⟨h.drawers, h.solvent, h.holders, h.drained, fun b z _ hz hw => ?_, h.declared⟩
  by_cases hb : b = a
  · exact hy z (hb ▸ hz) hw
  · exact h.funded b z (fun he => hb (Option.some.inj he)) hz hw

/-- The transaction of the drop apart changes, in a day that lets it. -/
theorem State.Covered.atDrop {f : Rqu → Rqu} (h : s.Covered (some a)) (ht : (f s.rqu).tellers = s.rqu.tellers)
    (hx : ∀ b, b ≠ a → (s.onRqu f).txnAt b = s.txnAt b)
    (hd : drainedDay s.dyc.day = true → ∀ y, (s.onRqu f).txnAt a = some y → y.stage = .answered) :
    (s.onRqu f).Covered (some a) := by
  refine ⟨h.drawers, h.solvent, ?_, fun hday b y hy => ?_, fun b y hb hy hw => ?_, h.declared⟩
  · rw [State.onRqu_rqu, ht]
    exact h.holders
  · by_cases hb : b = a
    · exact hd hday y (hb ▸ hy)
    · exact h.drained hday b y ((hx b hb).symm.trans hy)
  · have hne : b ≠ a := fun he => hb (congrArg some he)
    have hstaff : (s.onRqu f).rqu.tellers.map Teller.duty = s.rqu.tellers.map Teller.duty := congrArg _ ht
    exact funds_congr hstaff rfl (h.funded b y hb ((hx b hne).symm.trans hy) hw)

theorem txnAt_putTxn_other (hb : b ≠ z.drop) : (s.putTxn z).txnAt b = s.txnAt b := by
  rw [txnAt_putTxn, if_neg fun he => hb he.symm]

/-- The transaction in hand is written to the table, ANSWERED or in a day that lets it. -/
theorem State.InHand.putTxn (h : s.InHand p q y) (hd : z.drop = y.drop) (ht : z.teller = y.teller)
    (ho : q → z.stage = .answered ∨ drainedDay s.dyc.day = false) : (s.putTxn z).InHand p q z := by
  have g := h.as hd ht
  have hat : (s.putTxn z).txnAt z.drop = some z := by rw [txnAt_putTxn, if_pos rfl]
  refine ⟨g.attended.putTxn g.keeper, g.keeper, g.nets, fun hq => ?_, g.idle, g.alone, g.unreplied, fun hq => ?_⟩
  · refine (g.placed hq).atDrop (g.idle hq) (g.alone hq) rfl rfl rfl rfl (fun b hb => txnAt_putTxn_other hb)
      (fun b _ => le_rfl) ?_
    have hzero : (s.putTxn z).finalsAt z.drop = 0 := g.unreplied hq
    rw [hzero]
    exact ⟨Nat.zero_le _, nofun⟩
  · refine (g.covered hq).atDrop rfl (fun b hb => txnAt_putTxn_other hb) fun hday x hx => ?_
    obtain rfl : z = x := Option.some.inj (hat.symm.trans hx)
    rcases ho hq with hst | hno
    · exact hst
    · rw [hday] at hno; cases hno

/-- A transaction of the table that nothing names and no final reply answers comes into hand. -/
theorem State.Orderly.take (h : s.Orderly p q) (hy : s.txnAt a = some y) (hi : q → s.Idle a)
    (hst : q → y.stage ≠ .answered) : s.InHand p q y := by
  have hd := txnAt_drop hy
  refine ⟨h.attended, h.attended.keeper hy, h.nets, h.placed, hd.symm ▸ hi, fun hq => hd.symm ▸ (h.placed hq).alone a y hy,
    fun hq => ?_, fun hq => hd.symm ▸ (h.covered hq).opened a⟩
  obtain ⟨hle, hone⟩ := (h.placed hq).replied a
  rw [hd]
  by_contra hne
  have hans := hone (by omega)
  rw [State.answeredAt, hy] at hans
  exact hst hq (by simpa using hans)

/-- A transaction in hand that stands in the table as it is, held or still to be checked, is let go. -/
theorem State.InHand.rest (h : s.InHand p q y) (hy : s.txnAt y.drop = some y) (hw : q → y.waits = false) : s.Orderly p q :=
  ⟨h.attended, h.nets, h.placed, fun hq => (h.covered hq).closed fun z hz hwait => by
    obtain rfl : y = z := Option.some.inj (hy.symm.trans hz)
    rw [hw hq] at hwait
    cases hwait⟩

theorem finalsAt_handOver_other {m : DownMessage} (hb : b ≠ a) : (s.handOver a m).finalsAt b = s.finalsAt b := by
  unfold State.finalsAt
  rw [dropAt_handOver]
  cases s.dropAt b with
  | none => rfl
  | some d => simp [hb]

theorem Drop.take_finals (d : Drop) (l : LoopState) (m : DownMessage) : (d.take l m).finals ≤ d.finals + 1 := by
  have hm : ∀ o : Option DownMessage, (some m).toList.countP isFinal ≤ o.toList.countP isFinal + 1 := fun o =>
    (List.countP_le_length).trans (by simp)
  have hadd : ∀ l : List DownMessage, (l ++ [m]).countP isFinal ≤ l.countP isFinal + 1 := fun l => by
    rw [List.countP_append]
    exact Nat.add_le_add_left List.countP_le_length _
  have hlast : ∀ l : List DownMessage, l.dropLast.countP isFinal ≤ l.countP isFinal := fun l =>
    List.Sublist.countP_le (List.dropLast_sublist l)
  unfold Drop.take Drop.finals
  split
  · split
    · have := hm d.held
      simp only
      omega
    · exact Nat.le_add_right _ _
  · split
    · have := hadd d.outbound
      simp only
      omega
    · split
      · have := (hadd d.outbound.dropLast).trans (Nat.add_le_add_right (hlast d.outbound) 1)
        simp only
        omega
      · exact Nat.le_add_right _ _

theorem finalsAt_handOver_le {m : DownMessage} : (s.handOver a m).finalsAt a ≤ s.finalsAt a + 1 := by
  unfold State.finalsAt
  rw [dropAt_handOver]
  cases s.dropAt a with
  | none => exact Nat.zero_le _
  | some d => simpa using d.take_finals s.lpc.loop m

/-- The final reply is handed over and the transaction is ANSWERED (R44, R57). -/
theorem State.InHand.answered {m : DownMessage} (h : s.InHand p q y) (hd : z.drop = y.drop) (ht : z.teller = y.teller)
    (hz : z.stage = .answered) : ((s.handOver y.drop m).putTxn z).Orderly p q := by
  have g := h.putTxn hd ht fun _ => .inl hz
  have hat : ((s.handOver y.drop m).putTxn z).txnAt z.drop = some z := by rw [txnAt_putTxn, if_pos rfl]
  refine ⟨g.attended, g.nets, fun hq => ?_, fun hq => ?_⟩
  · refine (h.placed hq).atDrop (h.idle hq) (h.alone hq) rfl rfl rfl ?_ (fun b hb => ?_) (fun b hb => ?_) ?_
    · exact modifyKey_map_key fun d hd => (d.take_addr _ _).trans hd
    · exact txnAt_putTxn_other (hd.symm ▸ hb)
    · exact (finalsAt_congr (s := s.handOver y.drop m) rfl b).trans_le (finalsAt_handOver_other hb).le
    · have hle := (finalsAt_congr (t := (s.handOver y.drop m).putTxn z) (s := s.handOver y.drop m) rfl y.drop).trans_le
        finalsAt_handOver_le
      rw [h.unreplied hq] at hle
      refine ⟨hle, fun _ => ?_⟩
      rw [hd] at hat
      rw [State.answeredAt, hat]
      simp [hz]
  · refine State.Covered.closed (a := z.drop) ?_ fun x hx hw => ?_
    · obtain ⟨h1, h2, h3, h4, h5, h6⟩ := g.covered hq
      exact ⟨h1, h2, h3, h4, h5, h6⟩
    · obtain rfl : z = x := Option.some.inj (hat.symm.trans hx)
      simp [Txn.waits, hz] at hw

end Sys2Proof.Machine
end

section
/-! SUPPORT. The places of work items: the wait list and the online slots (R48, R49, R99, R101), as the invariants of the
second half of O57 see them. -/

namespace Sys2Proof.Machine

variable {p q : Prop} {r s t : State} {a b n i : Nat} {y z : Txn} {x : OnlineSlot} {f : Fetch} {k : OnlineKind}
  {g : Stage} {o : Option Nat}

/-! ### The place of a drop's work item -/

/-- The stage of a drop's work item with its slot, of either kind. -/
def State.placeOf (s : State) (a : Nat) : Option (Stage × Option Nat) :=
  ((s.txnAt a).map fun y => (y.stage, y.slot)) <|> ((s.fetchAt a).map fun f => (f.stage, f.slot))

theorem placeOf_txn (h : s.txnAt a = some y) : s.placeOf a = some (y.stage, y.slot) := by rw [State.placeOf, h]; rfl

theorem placeOf_fetch (hx : s.txnAt a = none) (h : s.fetchAt a = some f) : s.placeOf a = some (f.stage, f.slot) := by
  rw [State.placeOf, hx, h]; rfl

theorem workKind_txn (h : s.txnAt a = some y) : s.workKind a = .txnForward := by rw [State.workKind, h]; rfl
theorem workKind_fetch (h : s.txnAt a = none) : s.workKind a = .passbookFetch := by rw [State.workKind, h]; rfl

/-- An item stands at a place as its drop's kind of work says. -/
theorem stands_of_placeOf (h : s.placeOf a = some (g, o)) : s.standsAt (s.workKind a) a g o = true := by
  cases hy : s.txnAt a with
  | some y =>
    rw [placeOf_txn hy, Option.some.injEq, Prod.mk.injEq] at h
    simp [workKind_txn hy, State.standsAt, hy, h]
  | none =>
    cases hf : s.fetchAt a with
    | some f =>
      rw [placeOf_fetch hy hf, Option.some.injEq, Prod.mk.injEq] at h
      simp [workKind_fetch hy, State.standsAt, hf, h]
    | none =>
      rw [State.placeOf, hy, hf] at h
      cases h

theorem State.Placed.place (h : s.Placed) (hs : s.standsAt k a g o = true) : s.placeOf a = some (g, o) ∧ k = s.workKind a := by
  cases k with
  | txnForward =>
    cases hy : s.txnAt a with
    | some y =>
      simp only [State.standsAt, hy, Option.any_some, Bool.and_eq_true, beq_iff_eq] at hs
      exact ⟨by rw [placeOf_txn hy, hs.1, hs.2], (workKind_txn hy).symm⟩
    | none => simp [State.standsAt, hy] at hs
  | passbookFetch =>
    cases hf : s.fetchAt a with
    | some f =>
      have hy : s.txnAt a = none := by
        by_contra hne
        obtain ⟨y, hy⟩ := Option.ne_none_iff_exists'.1 hne
        rw [h.alone a y hy] at hf
        cases hf
      simp only [State.standsAt, hf, Option.any_some, Bool.and_eq_true, beq_iff_eq] at hs
      exact ⟨by rw [placeOf_fetch hy hf, hs.1, hs.2], (workKind_fetch hy).symm⟩
    | none => simp [State.standsAt, hf] at hs

theorem State.Placed.listed_place (h : s.Placed) (ha : a ∈ s.rqu.waitList) : s.placeOf a = some (.waitListed, none) :=
  (h.place (h.listed a ha)).1

/-- An item on a slot that is not FREE is QUEUED or ON-TRUNK there. -/
theorem State.Placed.slot_place (h : s.Placed) (hx : x ∈ s.tkc.slots) (hn : x.state ≠ .free) :
    (s.placeOf x.drop = some (.queued, some x.number) ∨ s.placeOf x.drop = some (.onTrunk, some x.number)) ∧
      x.kind = s.workKind x.drop := by
  obtain ⟨-, hq, ht⟩ := h.carried x hx
  cases hst : x.state with
  | free => exact absurd hst hn
  | queued => exact ⟨.inl (h.place (hq hst)).1, (h.place (hq hst)).2⟩
  | sending => exact ⟨.inr (h.place (ht (.inl hst))).1, (h.place (ht (.inl hst))).2⟩
  | await => exact ⟨.inr (h.place (ht (.inr hst))).1, (h.place (ht (.inr hst))).2⟩

/-- A drop whose work item is neither listed, QUEUED nor ON-TRUNK is idle. -/
theorem State.Placed.idle_of (h : s.Placed) (hw : ∀ o, s.placeOf a ≠ some (.waitListed, o))
    (hq : ∀ o, s.placeOf a ≠ some (.queued, o)) (ht : ∀ o, s.placeOf a ≠ some (.onTrunk, o)) : s.Idle a := by
  refine ⟨fun ha => hw _ (h.listed_place ha), fun x hx hn hd => ?_⟩
  obtain ⟨hpl | hpl, -⟩ := h.slot_place hx hn
  · exact hq _ (hd ▸ hpl)
  · exact ht _ (hd ▸ hpl)

theorem State.Placed.idle_txn (h : s.Placed) (hy : s.txnAt a = some y) (hw : y.waits = false) : s.Idle a := by
  have hstage : ∀ g o, s.placeOf a = some (g, o) → y.stage = g := fun g o hpl => by
    rw [placeOf_txn hy] at hpl
    exact congrArg Prod.fst (Option.some.inj hpl)
  have hno : ∀ g : Stage, (g = .waitListed ∨ g = .queued ∨ g = .onTrunk) → ∀ o, s.placeOf a ≠ some (g, o) := fun g hg o hpl => by
    rw [Txn.waits, hstage g o hpl] at hw
    rcases hg with rfl | rfl | rfl <;> cases hw
  exact h.idle_of (hno _ (.inl rfl)) (hno _ (.inr (.inl rfl))) (hno _ (.inr (.inr rfl)))

theorem State.Placed.idle_none (h : s.Placed) (hn : s.placeOf a = none) : s.Idle a :=
  h.idle_of (by simp [hn]) (by simp [hn]) (by simp [hn])

theorem placeOf_none (h : s.hasWork a = false) : s.placeOf a = none := by
  simp only [State.hasWork, Bool.or_eq_false_iff, Option.isSome_eq_false_iff, Option.isNone_iff_eq_none] at h
  rw [State.placeOf, h.1, h.2]; rfl

/-! ### Leaving the wait list and the slots -/

/-- The wait list loses entries, and nothing else changes of the work. -/
theorem State.Placed.shorten {l : List Nat} (h : s.Placed) (hl : l.Sublist s.rqu.waitList) :
    (s.onRqu fun r => { r with waitList := l }).Placed :=
  ⟨h.fetches, h.addrs, h.slots, h.once.sublist hl, h.alone, fun a ha => h.listed a (hl.subset ha), h.carried, h.replied⟩

theorem State.Covered.onQueue {f : Rqu → Rqu} {e : Option Nat} (h : s.Covered e) (ht : (f s.rqu).tellers = s.rqu.tellers)
    (hx : (f s.rqu).txns = s.rqu.txns) : (s.onRqu f).Covered e := by
  have hat : ∀ b, (s.onRqu f).txnAt b = s.txnAt b := fun b => by rw [State.txnAt, State.onRqu_rqu, hx]; rfl
  have hstaff : (s.onRqu f).rqu.tellers.map Teller.duty = s.rqu.tellers.map Teller.duty := congrArg _ ht
  refine ⟨h.drawers, h.solvent, ?_, fun hd a y hy => h.drained hd a y ((hat a).symm.trans hy), fun a y ha hy hw =>
    funds_congr hstaff rfl (h.funded a y ha ((hat a).symm.trans hy) hw), h.declared⟩
  rw [State.onRqu_rqu, ht]
  exact h.holders

theorem State.WorkAttended.onQueue {f : Rqu → Rqu} (h : s.WorkAttended) (ht : (f s.rqu).tellers = s.rqu.tellers)
    (hx : (f s.rqu).txns = s.rqu.txns) : (s.onRqu f).WorkAttended :=
  h.onRqu (congrArg _ ht) (hx.symm ▸ txns_sorted h) fun y hy => h.2.2.1 y (hx ▸ hy)

theorem State.Orderly.shorten {l : List Nat} (h : s.Orderly p q) (hl : l.Sublist s.rqu.waitList) :
    (s.onRqu fun r => { r with waitList := l }).Orderly p q :=
  ⟨h.attended.onQueue rfl rfl, h.nets, fun hq => (h.placed hq).shorten hl, fun hq => (h.covered hq).onQueue rfl rfl⟩

theorem State.Orderly.leaveWaitList (h : s.Orderly p q) : (s.leaveWaitList a).Orderly p q := h.shorten List.filter_sublist

/-- A WAIT-LISTED item that has left the list is named by nothing. -/
theorem State.Placed.idle_left (h : s.Placed) (hp : s.placeOf a = some (.waitListed, o)) : (s.leaveWaitList a).Idle a := by
  refine ⟨fun ha => ?_, fun x hx hn hd => ?_⟩
  · have hne := (List.mem_filter.1 ha).2
    simp at hne
  · obtain ⟨hpl | hpl, -⟩ := h.slot_place hx hn
    · rw [hd, hp] at hpl; cases hpl
    · rw [hd, hp] at hpl; cases hpl

theorem State.Placed.freeSlotAt (h : s.Placed) : (s.freeSlotAt i).Placed := by
  refine ⟨h.fetches, h.addrs, ?_, h.once, h.alone, h.listed, fun x hx => ?_, h.replied⟩
  · show (modifyKey OnlineSlot.number i _ s.tkc.slots).map OnlineSlot.number = _
    rw [modifyKey_map_key fun x hx => by exact hx]
    exact h.slots
  · obtain ⟨z, hz, rfl⟩ := List.mem_map.1 hx
    by_cases hn : z.number = i
    · rw [if_pos hn]
      exact ⟨fun _ => rfl, nofun, by rintro (hst | hst) <;> cases hst⟩
    · rw [if_neg hn]
      exact h.carried z hz

theorem State.Orderly.onSlots {f : Tkc → Tkc} (h : s.Orderly p q) (hf : q → s.Placed → (s.onTkc f).Placed) :
    (s.onTkc f).Orderly p q :=
  ⟨h.attended, h.nets, fun hq => hf hq (h.placed hq), fun hq => by
    obtain ⟨h1, h2, h3, h4, h5, h6⟩ := h.covered hq
    exact ⟨h1, h2, h3, h4, h5, h6⟩⟩

theorem State.Orderly.freeSlotAt (h : s.Orderly p q) : (s.freeSlotAt i).Orderly p q :=
  h.onSlots (f := fun k => { k with slots := modifyKey OnlineSlot.number i (fun x => freeSlot x.number) k.slots })
    fun _ hp => hp.freeSlotAt (i := i)

/-- The item of a slot that has been freed is named by nothing. -/
theorem State.Placed.idle_freed (h : s.Placed) (hp : s.placeOf a = some (.queued, some i) ∨ s.placeOf a = some (.onTrunk, some i)) :
    (s.freeSlotAt i).Idle a := by
  refine ⟨fun ha => ?_, fun x hx hn hd => ?_⟩
  · have hpl := h.listed_place ha
    rcases hp with hp | hp <;> rw [hp] at hpl <;> cases hpl
  · obtain ⟨z, hz, rfl⟩ := List.mem_map.1 hx
    by_cases hi : z.number = i
    · rw [if_pos hi] at hn
      exact hn rfl
    · rw [if_neg hi] at hn hd
      obtain ⟨hpl | hpl, -⟩ := h.slot_place hz hn
      all_goals
        rw [hd] at hpl
        rcases hp with hp | hp
        all_goals
          rw [hp] at hpl
          cases hpl <;> exact hi rfl

/-! ### Taking a slot or a place of the wait list -/

/-- A drop whose work item nothing names, and which may wait: it has one, undecided, with the cash for it. -/
structure State.Ready (p q : Prop) (a : Nat) (s : State) : Prop where
  attended : s.WorkAttended
  nets : p → s.NetsSettled
  placed : q → s.Placed
  idle : q → s.Idle a
  work : q → s.hasWork a = true
  unanswered : q → s.answeredAt a = false
  covered : q → s.Covered (some a)
  funded : q → ∀ y, s.txnAt a = some y → s.Funds y ∧ drainedDay s.dyc.day = false

theorem txnAt_staged : (s.setStage a g o).txnAt b =
    (s.txnAt b).map fun y => if b = a then { y with stage := g, slot := o } else y :=
  txnAt_modifyTxn (s := s) fun _ h => h

theorem fetchAt_staged : (s.setStage a g o).fetchAt b =
    (s.fetchAt b).map fun f => if b = a then { f with stage := g, slot := o } else f :=
  fetchAt_modifyFetch (s := s.modifyTxn a fun y => { y with stage := g, slot := o }) fun _ h => h

theorem txnAt_staged_other (hb : b ≠ a) : (s.setStage a g o).txnAt b = s.txnAt b := by
  rw [txnAt_staged]
  cases s.txnAt b <;> simp [hb]

theorem fetchAt_staged_other (hb : b ≠ a) : (s.setStage a g o).fetchAt b = s.fetchAt b := by
  rw [fetchAt_staged]
  cases s.fetchAt b <;> simp [hb]

theorem workKind_staged : (s.setStage a g o).workKind b = s.workKind b := by
  unfold State.workKind
  rw [txnAt_staged, Option.isSome_map]

/-- An item takes the stage and the slot that it is given. -/
theorem placeOf_staged (hw : s.hasWork a = true) : (s.setStage a g o).placeOf a = some (g, o) := by
  unfold State.placeOf
  rw [txnAt_staged, fetchAt_staged]
  cases hy : s.txnAt a with
  | some y => simp
  | none =>
    cases hf : s.fetchAt a with
    | some f => simp
    | none => simp [State.hasWork, hy, hf] at hw

theorem State.WorkAttended.setStage (h : s.WorkAttended) : (s.setStage a g o).WorkAttended :=
  State.WorkAttended.onQueue (h.modifyTxn fun _ => ⟨rfl, rfl⟩) rfl rfl

/-- The item of the drop apart takes a stage in which it waits. -/
theorem State.Covered.setStage (h : s.Covered (some a))
    (hf : ∀ y, s.txnAt a = some y → s.Funds y ∧ drainedDay s.dyc.day = false) : (s.setStage a g o).Covered none := by
  have hfund : ∀ b y, (s.setStage a g o).txnAt b = some y → b = a → ∃ z, s.txnAt a = some z ∧ y = { z with stage := g, slot := o } := by
    rintro b y hy rfl
    rw [txnAt_staged] at hy
    obtain ⟨z, hz, rfl⟩ := Option.map_eq_some_iff.1 hy
    exact ⟨z, hz, if_pos rfl⟩
  refine ⟨h.drawers, h.solvent, h.holders, fun hd b y hy => ?_, fun b y _ hy hw => ?_, h.declared⟩
  · by_cases hb : b = a
    · obtain ⟨z, hz, -⟩ := hfund b y hy hb
      have hno := (hf z hz).2
      have hyes : drainedDay s.dyc.day = true := hd
      rw [hno] at hyes
      cases hyes
    · exact h.drained hd b y ((txnAt_staged_other hb).symm.trans hy)
  · by_cases hb : b = a
    · obtain ⟨z, hz, rfl⟩ := hfund b y hy hb
      exact (hf z hz).1
    · exact h.funded b y (fun he => hb (Option.some.inj he)) ((txnAt_staged_other hb).symm.trans hy) hw

/-- An item stands on a slot of its own, with its stage: QUEUED as the slot is, or ON-TRUNK while it is SENDING. -/
theorem State.Placed.occupy {f : OnlineSlot → OnlineSlot} (h : s.Placed) (hw : s.hasWork a = true)
    (hu : s.answeredAt a = false) (hl : a ∉ s.rqu.waitList)
    (ho : ∀ x ∈ s.tkc.slots, x.number ≠ i → x.state ≠ .free → x.drop ≠ a)
    (hf : ∀ x ∈ s.tkc.slots, x.number = i → (f x).number = i ∧ (f x).drop = a ∧ (f x).kind = s.workKind a ∧
      (((f x).state = .queued ∧ g = .queued) ∨ ((f x).state = .sending ∧ g = .onTrunk))) :
    ((s.modifySlot i f).setStage a g (some i)).Placed := by
  have hplace : ((s.modifySlot i f).setStage a g (some i)).placeOf a = some (g, some i) :=
    placeOf_staged (s := s.modifySlot i f) hw
  have hkind : ∀ b, ((s.modifySlot i f).setStage a g (some i)).workKind b = s.workKind b := fun b =>
    workKind_staged (s := s.modifySlot i f)
  have hother : ∀ b, b ≠ a → ((s.modifySlot i f).setStage a g (some i)).txnAt b = s.txnAt b ∧
      ((s.modifySlot i f).setStage a g (some i)).fetchAt b = s.fetchAt b := fun b hb =>
    ⟨txnAt_staged_other (s := s.modifySlot i f) hb, fetchAt_staged_other (s := s.modifySlot i f) hb⟩
  have hstands := hkind a ▸ stands_of_placeOf hplace
  refine ⟨?_, h.addrs, ?_, h.once, fun b y hy => ?_, fun b hb => ?_, fun x hx => ?_, fun b => ?_⟩
  · show ((modifyKey Fetch.drop a _ s.rqu.fetches).map Fetch.drop).Pairwise _
    rw [modifyKey_map_key fun x hx => by exact hx]
    exact h.fetches
  · show (s.tkc.slots.map fun x => if x.number = i then f x else x).map OnlineSlot.number = _
    rw [← h.slots, List.map_map]
    refine List.map_congr_left fun x hx => ?_
    by_cases hn : x.number = i
    · simp [hn, (hf x hx hn).1]
    · simp [hn]
  · have hat : ((s.modifySlot i f).setStage a g (some i)).txnAt b =
        (s.txnAt b).map fun y => if b = a then { y with stage := g, slot := some i } else y :=
      txnAt_staged (s := s.modifySlot i f)
    have hfetch : ((s.modifySlot i f).setStage a g (some i)).fetchAt b =
        (s.fetchAt b).map fun f => if b = a then { f with stage := g, slot := some i } else f :=
      fetchAt_staged (s := s.modifySlot i f)
    rw [hat] at hy
    obtain ⟨z, hz, -⟩ := Option.map_eq_some_iff.1 hy
    rw [hfetch, h.alone b z hz]
    rfl
  · have hne : b ≠ a := fun he => hl (he ▸ hb)
    rw [hkind, standsAt_congr (hother b hne).1 (hother b hne).2]
    exact h.listed b hb
  · obtain ⟨z, hz, rfl⟩ := List.mem_map.1 hx
    by_cases hn : z.number = i
    · rw [if_pos hn]
      obtain ⟨h1, h2, h3, h4⟩ := hf z hz hn
      unfold State.SlotCarried
      rw [h1, h2, h3]
      rcases h4 with ⟨h4, rfl⟩ | ⟨h4, rfl⟩
      · rw [h4]
        exact ⟨nofun, fun _ => hstands, by rintro (hst | hst) <;> cases hst⟩
      · rw [h4]
        exact ⟨nofun, nofun, fun _ => hstands⟩
    · rw [if_neg hn]
      by_cases hd : z.drop = a
      · have hfree : z.state = .free := by
          by_contra hne
          exact ho z hz hn hne hd
        refine ⟨(h.carried z hz).1, fun hst => ?_, fun hst => ?_⟩
        · rw [hfree] at hst; cases hst
        · rw [hfree] at hst; rcases hst with hst | hst <;> cases hst
      · exact slotCarried_congr (hother _ hd).1 (hother _ hd).2 (h.carried z hz)
  · obtain ⟨h1, h2⟩ := h.replied b
    refine ⟨h1, fun h3 => ?_⟩
    have hans := h2 h3
    by_cases hb : b = a
    · rw [hb, hu] at hans; cases hans
    · rw [answeredAt_congr (hother b hb).1]
      exact hans

theorem State.Ready.takeSlot (h : s.Ready p q a) : (s.takeSlot a i).Orderly p q := by
  refine ⟨State.WorkAttended.setStage (s := s.modifySlot i _) h.attended, h.nets, fun hq => ?_, fun hq => ?_⟩
  · exact (h.placed hq).occupy (h.work hq) (h.unanswered hq) (h.idle hq).1 (fun x hx _ => (h.idle hq).2 x hx) fun x _ hn =>
      ⟨hn, rfl, rfl, .inl ⟨rfl, rfl⟩⟩
  · refine State.Covered.setStage (s := s.modifySlot i _) ?_ (h.funded hq)
    obtain ⟨h1, h2, h3, h4, h5, h6⟩ := h.covered hq
    exact ⟨h1, h2, h3, h4, h5, h6⟩

theorem State.Ready.joinWaitList (h : s.Ready p q a) : (s.joinWaitList a).Orderly p q := by
  obtain ⟨u, hu⟩ : ∃ u : State, u = s.onRqu fun r => { r with waitList := r.waitList ++ [a] } := ⟨_, rfl⟩
  have hat : ∀ b, u.txnAt b = s.txnAt b ∧ u.fetchAt b = s.fetchAt b ∧ u.workKind b = s.workKind b := fun b => by
    rw [hu]; exact ⟨rfl, rfl, rfl⟩
  have hjoin : s.joinWaitList a = u.setStage a .waitListed none := by rw [hu]; rfl
  refine hjoin ▸ ⟨State.WorkAttended.setStage (hu ▸ h.attended.onQueue rfl rfl), hu ▸ h.nets, fun hq => ?_, fun hq => ?_⟩
  · have hp := h.placed hq
    have hstands := stands_of_placeOf (placeOf_staged (g := .waitListed) (o := none) (s := u) (by rw [hu]; exact h.work hq))
    refine ⟨?_, hu ▸ hp.addrs, hu ▸ hp.slots, ?_, fun b y hy => ?_, fun b hb => ?_, fun x hx => ?_, fun b => ?_⟩
    · show ((modifyKey Fetch.drop a _ u.rqu.fetches).map Fetch.drop).Pairwise _
      rw [modifyKey_map_key fun x hx => by exact hx, hu]
      exact hp.fetches
    · have hlist : (u.setStage a .waitListed none).rqu.waitList = s.rqu.waitList ++ [a] := by rw [hu]; rfl
      rw [hlist]
      exact List.nodup_append.2 ⟨hp.once, List.nodup_singleton _, fun b hb c hc hbc =>
        (h.idle hq).1 (by rw [← List.mem_singleton.1 hc, ← hbc]; exact hb)⟩
    · rw [txnAt_staged, (hat b).1] at hy
      obtain ⟨z, hz, -⟩ := Option.map_eq_some_iff.1 hy
      rw [fetchAt_staged, (hat b).2.1, hp.alone b z hz]
      rfl
    · by_cases hne : b = a
      · rw [hne]; exact hstands
      · have hin : b ∈ s.rqu.waitList := by
          have hlist : (u.setStage a .waitListed none).rqu.waitList = s.rqu.waitList ++ [a] := by rw [hu]; rfl
          rw [hlist, List.mem_append, List.mem_singleton] at hb
          exact hb.resolve_right hne
        rw [workKind_staged, standsAt_congr (txnAt_staged_other hne) (fetchAt_staged_other hne), (hat b).2.2,
          standsAt_congr (hat b).1 (hat b).2.1]
        exact hp.listed b hin
    · have hin : x ∈ s.tkc.slots := by rw [hu] at hx; exact hx
      by_cases hd : x.drop = a
      · have hfree : x.state = .free := by
          by_contra hne
          exact (h.idle hq).2 x hin hne hd
        refine ⟨(hp.carried x hin).1, fun hst => ?_, fun hst => ?_⟩
        · rw [hfree] at hst; cases hst
        · rw [hfree] at hst; rcases hst with hst | hst <;> cases hst
      · exact slotCarried_congr ((txnAt_staged_other hd).trans (hat _).1) ((fetchAt_staged_other hd).trans (hat _).2.1)
          (hp.carried x hin)
    · obtain ⟨h1, h2⟩ := hp.replied b
      have hfin : (u.setStage a .waitListed none).finalsAt b = s.finalsAt b := by rw [hu]; rfl
      rw [hfin]
      refine ⟨h1, fun h3 => ?_⟩
      have hans := h2 h3
      by_cases hb : b = a
      · rw [hb, h.unanswered hq] at hans; cases hans
      · rw [answeredAt_congr ((txnAt_staged_other hb).trans (hat b).1)]
        exact hans
  · refine State.Covered.setStage (hu ▸ (h.covered hq).onQueue rfl rfl) fun y hy => ?_
    rw [hu] at hy ⊢
    exact h.funded hq y hy

theorem State.Ready.forward (h : s.Ready p q a) : (s.forward a).Orderly p q := by
  unfold State.forward
  split
  · exact h.takeSlot
  · exact h.joinWaitList

/-- The transaction in hand, which stands in the table, may wait. -/
theorem State.InHand.ready (h : s.InHand p q y) (hy : s.txnAt y.drop = some y) (hn : q → y.stage ≠ .answered)
    (hf : q → s.Funds y) (ho : q → drainedDay s.dyc.day = false) : s.Ready p q y.drop where
  attended := h.attended
  nets := h.nets
  placed := h.placed
  idle := h.idle
  work _ := by rw [State.hasWork, hy]; rfl
  unanswered hq := by
    rw [State.answeredAt, hy]
    simpa using hn hq
  covered := h.covered
  funded hq z hz := by
    obtain rfl : y = z := Option.some.inj (hy.symm.trans hz)
    exact ⟨hf hq, ho hq⟩

/-! ### Serving the wait list (R49) -/

theorem State.Orderly.serveOne (h : s.Orderly p q) : s.serveOne.Orderly p q := by
  unfold State.serveOne
  split
  · split
    · next a rest i hl _ =>
      have hsub : rest.Sublist s.rqu.waitList := hl ▸ List.sublist_cons_self a rest
      have g := h.shorten hsub
      have hin : a ∈ s.rqu.waitList := hl ▸ List.mem_cons_self
      refine State.Ready.takeSlot ⟨g.attended, g.nets, g.placed, fun hq => ?_, fun hq => ?_, fun hq => ?_, fun hq =>
        (g.covered hq).opened a, fun hq y hy => ?_⟩
      · have hplace := (h.placed hq).listed_place hin
        refine ⟨(List.nodup_cons.1 (hl ▸ (h.placed hq).once)).1, fun x hx hn hd => ?_⟩
        obtain ⟨hpl | hpl, -⟩ := (h.placed hq).slot_place hx hn
        · rw [hd, hplace] at hpl; cases hpl
        · rw [hd, hplace] at hpl; cases hpl
      · have hplace := (h.placed hq).listed_place hin
        show s.hasWork a = true
        by_contra hno
        have hnone : s.placeOf a = none := placeOf_none (by simpa using hno)
        rw [hnone] at hplace
        cases hplace
      · have hplace := (h.placed hq).listed_place hin
        show s.answeredAt a = false
        unfold State.answeredAt
        cases hy : s.txnAt a with
        | none => rfl
        | some y =>
          rw [placeOf_txn hy, Option.some.injEq, Prod.mk.injEq] at hplace
          simp [hplace.1]
      · have hplace := (h.placed hq).listed_place hin
        have hy' : s.txnAt a = some y := hy
        rw [placeOf_txn hy', Option.some.injEq, Prod.mk.injEq] at hplace
        refine ⟨(h.covered hq).funded a y nofun hy' (by simp [Txn.waits, hplace.1]), ?_⟩
        by_contra hd
        have hans := (h.covered hq).drained (by simpa using hd) a y hy'
        rw [hplace.1] at hans
        cases hans
    · exact h
  · exact h

theorem State.Orderly.serveWaitList (h : s.Orderly p q) : s.serveWaitList.Orderly p q :=
  h.serveOne.serveOne.serveOne.serveOne.serveOne.serveOne

theorem State.Orderly.freeAndOffer (h : s.Orderly p q) : (s.freeAndOffer i).Orderly p q := h.freeSlotAt.serveWaitList

end Sys2Proof.Machine
end

section
/-! SUPPORT. The rules of the work-item invariants for the day, its block timer and the drawers (R83, R164 to R167, R171,
R175). -/

namespace Sys2Proof.Machine

variable {p q : Prop} {r s t : State} {a n : Nat} {e : Option Nat} {d : DayState} {w : Drawer}

/-! ### The day and the block timer -/

/-- The records hold no stand-in posting to be advised. -/
def State.NothingPending (s : State) : Prop := ∀ r ∈ s.jnc.records, r.disposition ≠ some .advicePending

theorem State.Orderly.onDyc {f : Dyc → Dyc} (h : s.Orderly p q)
    (hclosed : closedDay (f s.dyc).day = true → s.nobodySignedOn = true)
    (hb : (f s.dyc).blockTimer ≠ .stopped → (f s.dyc).day = .sending)
    (hnone : p → (f s.dyc).day = .noDay ∨ (f s.dyc).day = .loading → s.NothingPending)
    (hdrained : q → (f s.dyc).day = .balancing → ∀ a y, s.txnAt a = some y → y.stage = .answered)
    (hheld : q → (f s.dyc).day ≠ .balancing → ∀ w ∈ s.csu.drawers, w.balance ≠ .held) : (s.onDyc f).Orderly p q := by
  have hw : (s.onDyc f).WorkAttended := by
    obtain ⟨h1, h2, h3, -, -⟩ := h.attended
    exact ⟨h1, h2, h3, hclosed, hb⟩
  refine ⟨hw, fun hp => ?_, fun hq => ?_, fun hq => ?_⟩
  · obtain ⟨hj, hs, hn, -⟩ := h.nets hp
    exact ⟨hj, hs, hn, hnone hp⟩
  · obtain ⟨h1, h2, h3, h4, h5, h6, h7, h8⟩ := h.placed hq
    exact ⟨h1, h2, h3, h4, h5, h6, h7, h8⟩
  · obtain ⟨h1, h2, h3, -, h5, h6⟩ := h.covered hq
    refine ⟨h1, h2, h3, fun hd a y hy => ?_, h5, fun w hw' hbal => ?_⟩
    · have hy' : s.txnAt a = some y := hy
      rcases Bool.or_eq_true _ _ ▸ hd with hd | hd
      · exact hdrained hq (by simpa using hd) a y hy'
      · rw [txnAt_of_nobody h.attended (hclosed hd) a] at hy'
        cases hy'
    · have hday : (f s.dyc).day = .balancing := by
        by_contra hne
        exact hheld hq hne w hw' hbal
      obtain ⟨-, h7, h8⟩ := h6 w hw' hbal
      exact ⟨hday, h7, h8⟩

theorem no_held (h : s.Covered e) (hd : s.dyc.day ≠ .balancing) : ∀ w ∈ s.csu.drawers, w.balance ≠ .held :=
  fun w hw hb => hd (h.declared w hw hb).1

theorem nobody_of_closed (h : s.WorkAttended) (hd : closedDay s.dyc.day = true) : s.nobodySignedOn = true := h.2.2.2.1 hd
theorem timer_stopped (h : s.WorkAttended) (hd : s.dyc.day ≠ .sending) : s.dyc.blockTimer = .stopped := by
  by_contra hne
  exact hd (h.2.2.2.2 hne)

/-- A change of Day Control that leaves the day, and runs the block timer only in SENDING. -/
theorem State.Orderly.onTimer {f : Dyc → Dyc} (h : s.Orderly p q) (hd : (f s.dyc).day = s.dyc.day)
    (hb : (f s.dyc).blockTimer = .stopped ∨ s.dyc.day = .sending) : (s.onDyc f).Orderly p q := by
  refine h.onDyc (fun hc => nobody_of_closed h.attended (hd ▸ hc)) (fun hne => ?_) (fun hp hday => ?_) (fun hq hday a y hy => ?_)
    fun hq hne => no_held (h.covered hq) (hd ▸ hne)
  · exact hd.trans (hb.resolve_left hne)
  · exact (h.nets hp).2.2.2 (hd ▸ hday)
  · exact (h.covered hq).drained (by rw [← hd, hday]; rfl) a y hy

/-- The day changes. -/
theorem State.Orderly.setDay (h : s.Orderly p q) (hclosed : closedDay d = true → s.nobodySignedOn = true)
    (hb : s.dyc.blockTimer ≠ .stopped → d = .sending) (hnone : p → d = .noDay ∨ d = .loading → s.NothingPending)
    (hdrained : q → d = .balancing → ∀ a y, s.txnAt a = some y → y.stage = .answered)
    (hheld : q → d ≠ .balancing → ∀ w ∈ s.csu.drawers, w.balance ≠ .held) : (s.setDay d).Orderly p q := by
  have g : (s.onDyc fun y => { y with day := d }).Orderly p q := h.onDyc hclosed hb hnone hdrained hheld
  simp only [State.setDay]
  split
  · exact g
  · exact g.alike (.queueStatusAll (.refl _))

/-- A day in which tellers may be signed on follows one that is not BALANCING. -/
theorem State.Orderly.setOpenDay (h : s.Orderly p q) (hd : s.dyc.day ≠ .balancing ∧ s.dyc.day ≠ .sending)
    (ho : drainedDay d = false) : (s.setDay d).Orderly p q := by
  have hnot : closedDay d = false ∧ d ≠ .balancing ∧ d ≠ .noDay ∧ d ≠ .loading := by
    revert ho
    cases d <;> simp [drainedDay, closedDay]
  obtain ⟨hc, hnb, hnn, hnl⟩ := hnot
  refine h.setDay (fun hcd => ?_) (fun hne => absurd (timer_stopped h.attended hd.2) hne) (fun _ hday => ?_)
    (fun _ hday => absurd hday hnb) fun hq _ => no_held (h.covered hq) hd.1
  · rw [hc] at hcd; cases hcd
  · rcases hday with hday | hday
    · exact absurd hday hnn
    · exact absurd hday hnl

/-- One closed day follows another. -/
theorem State.Orderly.setClosedDay (h : s.Orderly p q) (hc : closedDay s.dyc.day = true) (hd : closedDay d = true)
    (hb : s.dyc.blockTimer = .stopped ∨ d = .sending) (hnone : p → d = .noDay ∨ d = .loading → s.NothingPending) :
    (s.setDay d).Orderly p q := by
  have hbal : ∀ x : DayState, closedDay x = true → x ≠ .balancing := fun x => by cases x <;> simp [closedDay]
  exact h.setDay (fun _ => nobody_of_closed h.attended hc) (fun hne => hb.resolve_left hne) hnone
    (fun _ hday => absurd hday (hbal d hd)) fun hq _ => no_held (h.covered hq) (hbal _ hc)

theorem State.Orderly.stall (h : s.Orderly p q) (hc : closedDay s.dyc.day = true) : s.stall.Orderly p q := by
  have hstopped : (s.onDyc fun y => { y with blockTimer := .stopped, resumed := false }).Orderly p q :=
    h.onTimer rfl (.inl rfl)
  exact State.Orderly.setClosedDay (hstopped.alike (.forgetResumption (.refl _))) hc rfl (.inl rfl)
    fun _ hday => by rcases hday with hday | hday <;> cases hday

theorem State.Orderly.stallUnlessOnline (h : s.Orderly p q) (hc : closedDay s.dyc.day = true) :
    s.stallUnlessOnline.Orderly p q := by
  unfold State.stallUnlessOnline
  split
  · exact h
  · exact h.stall hc

theorem State.Orderly.enterSending (h : s.Orderly p q) (hn : s.nobodySignedOn = true) (hb : s.allBalanced = true) :
    s.enterSending.Orderly p q := by
  have hheld : ∀ w ∈ s.csu.drawers, w.balance ≠ .held := fun w hw hbal => by
    have := List.all_eq_true.1 hb w hw
    simp [hbal] at this
  have hstopped : (s.onDyc fun y => { y with
      batch := some (newBatch s.jnc.records s.jnc.counter), blockTimer := .stopped, resumed := false }).Orderly p q :=
    h.onTimer rfl (.inl rfl)
  have hsending := hstopped.setDay (d := .sending) (fun _ => hn) (fun _ => rfl)
    (fun _ hday => by rcases hday with hday | hday <;> cases hday) nofun fun _ _ => hheld
  refine State.Orderly.stallUnlessOnline (hsending.alike (.raise (.freezeSfq (.refl _)))) ?_
  simp [State.freezeSfq, setDay_day, closedDay]

theorem State.Orderly.judgeExit (h : s.Orderly p q) : s.judgeExit.Orderly p q := by
  unfold State.judgeExit
  split
  · next hx =>
    obtain ⟨-, hb, -, hn⟩ := hx
    exact h.enterSending hn hb
  · exact h

/-! ### The drawers -/

theorem State.Orderly.onCsu {f : Csu → Csu} (h : s.Orderly p q) (hc : q → s.Covered none → (s.onCsu f).Covered none) :
    (s.onCsu f).Orderly p q :=
  ⟨h.attended, h.nets, fun hq => by
    obtain ⟨h1, h2, h3, h4, h5, h6, h7, h8⟩ := h.placed hq
    exact ⟨h1, h2, h3, h4, h5, h6, h7, h8⟩, fun hq => hc hq (h.covered hq)⟩

theorem drawerAt_onCsu {f : Csu → Csu} {g : Drawer → Drawer} (hf : (f s.csu).drawers = s.csu.drawers.map g)
    (hn : ∀ w, (g w).number = w.number) (n : Nat) : (s.onCsu f).drawerAt n = (s.drawerAt n).map g := by
  rw [State.drawerAt, State.onCsu_csu, hf]
  exact findKey_map hn

/-- The drawers change one by one, with no position lowered. -/
theorem State.Covered.onDrawers {f : Csu → Csu} {g : Drawer → Drawer} (h : s.Covered e)
    (hf : (f s.csu).drawers = s.csu.drawers.map g) (hn : ∀ w, (g w).number = w.number)
    (hpos : ∀ w ∈ s.csu.drawers, ∀ c, (w.sums c).position ≤ ((g w).sums c).position)
    (hd : ∀ w ∈ s.csu.drawers, s.Declared w → (s.onCsu f).Declared (g w)) : (s.onCsu f).Covered e := by
  refine ⟨?_, fun w hw => ?_, h.holders, h.drained, fun a y ha hy hwait m hm => ?_, fun w hw => ?_⟩
  · rw [State.onCsu_csu, hf, List.map_map, ← h.drawers]
    exact List.map_congr_left fun w _ => hn w
  · rw [State.onCsu_csu, hf] at hw
    obtain ⟨z, hz, rfl⟩ := List.mem_map.1 hw
    obtain ⟨h1, h2⟩ := h.solvent z hz
    exact ⟨h1.trans (hpos z hz .home), h2.trans (hpos z hz .foreign)⟩
  · obtain ⟨h1, h2⟩ := h.funded a y ha hy hwait m hm
    refine ⟨h1, fun w hw c => ?_⟩
    rw [drawerAt_onCsu hf hn] at hw
    obtain ⟨z, hz, rfl⟩ := Option.map_eq_some_iff.1 hw
    exact (h2 z hz c).trans (hpos z (findKey_mem hz) c)
  · rw [State.onCsu_csu, hf] at hw
    obtain ⟨z, hz, rfl⟩ := List.mem_map.1 hw
    exact hd z hz (h.declared z hz)

/-- One drawer changes, with no position lowered. -/
theorem State.Covered.modifyDrawer {f : Drawer → Drawer} (h : s.Covered e) (hn : ∀ w, (f w).number = w.number)
    (hpos : ∀ w, s.drawerAt n = some w → ∀ c, (w.sums c).position ≤ ((f w).sums c).position)
    (hd : ∀ w, s.drawerAt n = some w → s.Declared w → s.Declared (f w)) : (s.modifyDrawer n f).Covered e := by
  have hat : ∀ w ∈ s.csu.drawers, w.number = n → s.drawerAt n = some w := fun w hw hwn =>
    hwn ▸ findKey_of_mem (drawers_nodup h.drawers) hw
  refine h.onDrawers rfl (fun w => ?_) (fun w hw c => ?_) fun w hw hdec => ?_
  · split
    · exact hn w
    · rfl
  · split
    · next hwn => exact hpos w (hat w hw hwn) c
    · exact le_rfl
  · split
    · next hwn => exact hd w (hat w hw hwn) hdec
    · exact hdec

theorem State.Orderly.drawersDue (h : s.Orderly p q) : s.drawersDue.Orderly p q := by
  have hdue : (s.onCsu fun c => { c with
      drawers := c.drawers.map fun d => if d.fallsDue then { d with balance := .due } else d }).Orderly p q := by
    refine h.onCsu fun _ hc => hc.onDrawers rfl (fun w => ?_) (fun w _ c => ?_) fun w _ hdec => ?_
    · split <;> rfl
    · split
      · cases c <;> exact le_rfl
      · exact le_rfl
    · split
      · exact nofun
      · exact hdec
  exact hdue.alike (.foldl (fun _ _ g => g.setRelease) _ (.refl _))

theorem State.Alike.captureCutoff (h : r.Alike s) : r.Alike s.captureCutoff :=
  State.Alike.onJnc (h.onDyc rfl rfl) (nets_congr rfl rfl rfl rfl)

theorem State.Orderly.endDrain (h : s.Orderly p q) (hd : s.dyc.day = .closeDrain) (hu : s.noneUndecided = true) :
    s.endDrain.Orderly p q := by
  have hmark : ∀ u : State, s.Alike u → s.Alike ((u.writeRecord (closeMark u)).onDyc fun y => { y with proposal := none }) :=
    fun u hu => State.Alike.onDyc (hu.writeRecord nofun) rfl rfl
  have halike := hmark _ (State.Alike.captureCutoff (.refl s))
  have g := h.alike halike
  unfold State.endDrain
  dsimp only
  refine State.Orderly.judgeExit (State.Orderly.drawersDue (g.setDay nofun (fun hne => ?_) ?_ (fun _ _ a y hy => ?_) ?_))
  · exact absurd (timer_stopped g.attended (by rw [halike.day, hd]; decide)) hne
  · exact fun _ hday => by rcases hday with hday | hday <;> cases hday
  · have := List.all_eq_true.1 hu y (findKey_mem ((halike.txnAt a).symm.trans hy))
    simpa using this
  · exact fun _ hne => absurd rfl hne

theorem State.Orderly.judgeDrain (h : s.Orderly p q) : s.judgeDrain.Orderly p q := by
  unfold State.judgeDrain
  split
  · next hx => exact h.endDrain hx.1 hx.2
  · exact h

/-- A transaction in hand reaches its final outcome (R44, R57). -/
theorem State.InHand.reachOutcome {y z : Txn} {x : FinalReply} (h : s.InHand p q y) (hd : z.drop = y.drop)
    (ht : z.teller = y.teller) : (s.reachOutcome z x).Orderly p q := by
  have g := (h.as hd ht).alike (.restore (n := z.teller) (.refl s))
  exact State.Orderly.judgeDrain (g.answered rfl rfl rfl)

theorem State.InHand.refuse {y z : Txn} {x : Result} {o : Option LegNote} (h : s.InHand p q y) (hd : z.drop = y.drop)
    (ht : z.teller = y.teller) : (s.refuse z x o).Orderly p q := h.reachOutcome hd ht

theorem State.InHand.trainingOk {y z : Txn} {x : TrainingRoute} (h : s.InHand p q y) (hd : z.drop = y.drop)
    (ht : z.teller = y.teller) : (s.trainingOk z x).Orderly p q := h.reachOutcome hd ht

end Sys2Proof.Machine
end

section
/-! SUPPORT. What the cash legs and the stand-in posting of a transaction in hand keep (R46, R68, R74, R114). -/

namespace Sys2Proof.Machine

variable {p q : Prop} {r s t : State} {a b n : Nat} {y z : Txn} {e : Option Nat} {w : Drawer} {c : Currency}

/-! ### The cash legs -/

theorem owed_eq (y : Txn) (c : Currency) : y.owed c = legSum c .cashOut y.legs := rfl

/-- The cash-in legs raise no position by less than nothing. -/
theorem legSum_nonneg (c : Currency) (k : LegKind) (l : List Leg) : 0 ≤ legSum c k l := by
  induction l with
  | nil => exact le_rfl
  | cons g gs ih =>
    have hcons : legSum c k (g :: gs) = (if g.currency = c ∧ g.kind = k then (g.amount : Int) else 0) + legSum c k gs := rfl
    rw [hcons]
    split <;> omega

theorem applied_position (l : List Leg) (w : Drawer) (c : Currency) : ((l.foldl Drawer.applyLeg w).sums c).position =
    (w.sums c).position + legSum c .cashIn l - legSum c .cashOut l := by
  rw [foldl_applyLeg]
  cases c <;> simp only [Drawer.sums, Sums.position] <;> omega

/-- At most one leg pays out each currency (R41). -/
def LegsApart (l : List Leg) : Prop := ∀ c, l.countP (fun g => g.currency == c && g.kind == .cashOut) ≤ 1

/-- What a transaction pays out of a currency is one leg's amount, or nothing. -/
theorem legSum_apart {l : List Leg} (h : l.countP (fun g => g.currency == c && g.kind == .cashOut) ≤ 1) :
    legSum c .cashOut l = 0 ∨ ∃ g ∈ l, g.currency = c ∧ g.kind = .cashOut ∧ legSum c .cashOut l = g.amount := by
  induction l with
  | nil => exact .inl rfl
  | cons g gs ih =>
    have hcons : legSum c .cashOut (g :: gs) =
        (if g.currency = c ∧ g.kind = .cashOut then (g.amount : Int) else 0) + legSum c .cashOut gs := rfl
    rw [List.countP_cons] at h
    rw [hcons]
    by_cases hg : g.currency = c ∧ g.kind = .cashOut
    · have hnone : gs.countP (fun g => g.currency == c && g.kind == .cashOut) = 0 := by
        simp [hg] at h
        simpa using h
      have hzero : legSum c .cashOut gs = 0 := by
        refine (ih (by omega)).resolve_right fun ⟨x, hx, h1, h2, _⟩ => ?_
        have := List.countP_eq_zero.1 hnone x hx
        simp [h1, h2] at this
      exact .inr ⟨g, List.mem_cons_self, hg.1, hg.2, by rw [if_pos hg, hzero, Int.add_zero]⟩
    · rw [if_neg hg, Int.zero_add]
      refine (ih (by omega)).imp_right fun ⟨x, hx, h1⟩ => ⟨x, List.mem_cons_of_mem _ hx, h1⟩

theorem homeKinds_apart (d : Definition) (f : LegKind → Nat) :
    LegsApart ((homeKinds d).map fun k => ⟨.home, k, f k⟩) := by
  intro c
  cases hc : d.cash <;> cases ha : d.account <;> cases c <;>
    simp [homeKinds, cashLegKind, accountLegKind, hc, ha]

theorem exchange_apart (d : Definition) (f : LegKind → Nat) (k : LegKind) (i : Nat) :
    LegsApart (⟨.foreign, k, i⟩ :: (homeKinds d).map fun k => ⟨.home, k, f k⟩) := by
  intro c
  rw [List.countP_cons]
  cases c with
  | home => simpa using homeKinds_apart d f .home
  | foreign =>
    have hnone : ((homeKinds d).map fun k => (⟨.home, k, f k⟩ : Leg)).countP
        (fun g => g.currency == .foreign && g.kind == .cashOut) = 0 :=
      List.countP_eq_zero.2 fun g hg => by
        obtain ⟨k, -, rfl⟩ := List.mem_map.1 hg
        simp
    rw [hnone]
    split <;> omega

theorem convert_apart {d : Definition} {r : RateLoad} {x : RateName} {k : LegKind} {m i : Nat} {l : List Leg}
    {o : Option Exchange} (h : convert d r x k m i = .legs l o) : LegsApart l := by
  simp only [convert] at h
  split at h
  · cases h
  · simp only [AmountResult.legs.injEq] at h
    obtain ⟨rfl, -⟩ := h
    exact exchange_apart d _ k i

/-- The legs of a request pay out each currency at most once (R41, R60, R63, R64). -/
theorem amounts_apart {d : Definition} {f : TxnFields} {o : Option RateRecord} {l : List Leg} {x : Option Exchange}
    (h : amounts d f o = .legs l x) : LegsApart l := by
  unfold amounts at h
  split at h
  · unfold homeAmounts at h
    split at h
    · simp only [AmountResult.legs.injEq] at h
      obtain ⟨rfl, -⟩ := h
      exact fun _ => Nat.zero_le _
    · next k ks hk =>
      split at h
      · next m _ =>
        simp only [AmountResult.legs.injEq] at h
        obtain ⟨rfl, -⟩ := h
        exact hk ▸ homeKinds_apart d fun _ => m
      · cases h
  · unfold buyAmounts at h
    split at h
    · cases h
    · split at h
      · exact convert_apart h
      · cases h
  · unfold sellAmounts at h
    split at h
    · cases h
    · dsimp only at h
      split at h
      · cases h
      · exact convert_apart h
  · cases h

/-- A transaction that passes the drawer tests is covered by the drawer its teller holds (R46, R68). -/
theorem funds_of_tests {d : Definition} (hl : LegsApart z.legs) (hs : ∀ w ∈ s.csu.drawers, 0 ≤ w.home.position ∧ 0 ≤ w.foreign.position)
    (h : s.drawerRefusal z (s.targetDrawer z d) = none) : s.Funds { z with drawer := s.targetDrawer z d } := by
  intro n hn
  have hn' : s.targetDrawer z d = some n := hn
  refine ⟨(Option.filter_eq_some_iff.1 hn').1, fun w hw c => ?_⟩
  rw [hn', State.drawerRefusal, Option.bind_some, hw] at h
  dsimp only at h
  split at h
  · cases h
  · split at h
    · cases h
    · next hnone =>
      have hpos : 0 ≤ (w.sums c).position := by
        obtain ⟨h1, h2⟩ := hs w (findKey_mem hw)
        cases c
        · exact h1
        · exact h2
      rcases legSum_apart (hl c) with hzero | ⟨g, hg, hcur, hk, heq⟩
      · rw [owed_eq, hzero]
        exact hpos
      · have hfits := List.find?_eq_none.1 hnone g hg
        simp only [cashShort, hk, hcur, beq_self_eq_true, Bool.true_and, decide_eq_true_eq, not_lt] at hfits
        rw [owed_eq, heq]
        exact hfits

theorem State.InHand.onCsu {f : Csu → Csu} (h : s.InHand p q y)
    (hc : q → s.Covered (some y.drop) → (s.onCsu f).Covered (some y.drop)) : (s.onCsu f).InHand p q y :=
  ⟨h.attended, h.keeper, h.nets, fun hq => by
    obtain ⟨h1, h2, h3, h4, h5, h6, h7, h8⟩ := h.placed hq
    exact ⟨h1, h2, h3, h4, h5, h6, h7, h8⟩, h.idle, h.alone, h.unreplied, fun hq => hc hq (h.covered hq)⟩

/-- Two attended transactions whose tellers hold one drawer are at one drop. -/
theorem drop_of_holder (hw : s.WorkAttended) (h : s.Covered e) (hy : s.Attended y) (hz : s.Attended z)
    (ny : (s.tellerOf y.teller).bind Teller.heldDrawer = some n)
    (nz : (s.tellerOf z.teller).bind Teller.heldDrawer = some n) : y.drop = z.drop := by
  obtain ⟨x, hx, hxn, -, hxs⟩ := hy
  obtain ⟨v, hv, hvn, -, hvs⟩ := hz
  have hof : ∀ u ∈ s.rqu.tellers, s.tellerOf u.number = some u := fun u hu =>
    findKey_of_mem (pairwise_lt_nodup hw.1) hu
  rw [← hxn, hof x hx, Option.bind_some] at ny
  rw [← hvn, hof v hv, Option.bind_some] at nz
  have hnum := h.holders x hx v hv (by rw [ny]; rfl) (ny.trans nz.symm)
  have hsame := Option.some.inj ((hnum ▸ hof x hx).symm.trans (hof v hv))
  rw [hsame, hvs] at hxs
  exact (Option.some.inj hxs).symm

/-- The cash legs of a transaction in hand that is covered leave every other one covered (R74). -/
theorem State.InHand.applyCash (h : s.InHand p q y) (hf : q → s.Funds y) (ho : q → drainedDay s.dyc.day = false) :
    (s.applyCash y).InHand p q y := by
  unfold State.applyCash
  split
  · next n hn =>
    split
    · refine State.InHand.alike (?_ : (s.modifyDrawer n fun x => y.legs.foldl Drawer.applyLeg x).InHand p q y)
        (State.Alike.judgeCashHigh (State.Alike.setRelease (.refl _)))
      refine h.onCsu fun hq hc => ?_
      obtain ⟨hheld, hpos⟩ := hf hq n hn
      have hat : ∀ w ∈ s.csu.drawers, w.number = n → s.drawerAt n = some w := fun w hw hwn =>
        hwn ▸ findKey_of_mem (drawers_nodup hc.drawers) hw
      have hkeep : ∀ w : Drawer, (y.legs.foldl Drawer.applyLeg w).number = w.number := fun w => by rw [foldl_applyLeg]
      have hlook : ∀ m, (s.modifyDrawer n fun x => y.legs.foldl Drawer.applyLeg x).drawerAt m =
          (s.drawerAt m).map fun w => if m = n then y.legs.foldl Drawer.applyLeg w else w := fun m =>
        drawerAt_modifyDrawer fun w hw => (hkeep w).trans hw
      refine ⟨?_, fun w hw => ?_, hc.holders, hc.drained, fun b x hb hx hwait m hm => ?_, fun w hw hheld => ?_⟩
      · exact (modifyKey_map_key fun w hw => (hkeep w).trans hw).trans hc.drawers
      · obtain ⟨v, hv, rfl⟩ := List.mem_map.1 hw
        obtain ⟨h1, h2⟩ := hc.solvent v hv
        by_cases hvn : v.number = n
        · rw [if_pos hvn]
          have hafter : ∀ c, 0 ≤ ((y.legs.foldl Drawer.applyLeg v).sums c).position := fun c => by
            have := hpos v (hat v hv hvn) c
            rw [owed_eq] at this
            rw [applied_position]
            have := legSum_nonneg c .cashIn y.legs
            omega
          exact ⟨hafter .home, hafter .foreign⟩
        · rw [if_neg hvn]
          exact ⟨h1, h2⟩
      · have hx' : s.txnAt b = some x := hx
        obtain ⟨hxheld, hxpos⟩ := hc.funded b x hb hx' hwait m hm
        refine ⟨hxheld, fun w hw c => ?_⟩
        obtain ⟨v, hv, rfl⟩ := Option.map_eq_some_iff.1 ((hlook m).symm.trans hw)
        by_cases hmn : m = n
        · have hsame := drop_of_holder h.attended hc (h.attended.keeper hx') h.keeper hxheld (hmn ▸ hheld)
          exact absurd (congrArg some ((txnAt_drop hx').symm.trans hsame)) hb
        · rw [if_neg hmn]
          exact hxpos v hv c
      · obtain ⟨v, hv, rfl⟩ := List.mem_map.1 hw
        have hbal : v.balance = .held := by
          by_cases hvn : v.number = n
          · rw [if_pos hvn] at hheld
            exact (by rw [foldl_applyLeg] : (y.legs.foldl Drawer.applyLeg v).balance = v.balance).symm.trans hheld
          · rw [if_neg hvn] at hheld
            exact hheld
        have hday := (hc.declared v hv hbal).1
        have hno := ho hq
        rw [hday] at hno
        cases hno
    · exact h
  · exact h

/-! ### The stand-in posting (R114) -/

theorem SatEntry.post_net (x : SatEntry) {g : Leg} (hg : g.kind = .accountDebit ∨ g.kind = .accountCredit) :
    (x.post g).net = x.net + signedAmount g := by
  unfold SatEntry.post signedAmount
  rcases hg with hg | hg
  · rw [hg]; simp [Int.sub_eq_add_neg]
  · rw [hg]; simp

theorem accountLeg_kind {l : List Leg} {g : Leg} (h : accountLeg l = some g) :
    g.kind = .accountDebit ∨ g.kind = .accountCredit := by
  have := List.find?_some h
  simpa [or_comm] using this

/-- The record of a stand-in posting, with its advice and its account's entry, keeps the nets in agreement. -/
theorem State.Alike.postedStandIn {g : Leg} {x : Txn} (ht : s.journalTakes (x.record .standIn .advicePending).body = true)
    (ho : closedDay s.dyc.day = false) (ha : x.account = some n) (hg : accountLeg x.legs = some g) :
    s.Alike (((s.writeRecord (x.record .standIn .advicePending)).appendSfq s.nextSeq .posting).modifySat n
      fun e => e.post g) := by
  have hwrite : s.writeRecord (x.record .standIn .advicePending) =
      (s.onJnc (Jnc.append (x.record .standIn .advicePending))).judgeThresholds := if_pos ht
  rw [hwrite]
  have g1 : (s.onJnc (Jnc.append (x.record .standIn .advicePending))).Alike
      ((s.onJnc (Jnc.append (x.record .standIn .advicePending))).judgeThresholds.appendSfq s.nextSeq .posting) :=
    State.Alike.appendSfq (State.Alike.judgeThresholds (.refl _))
  refine ⟨g1.staff, g1.txns, g1.fetches, g1.waitList, g1.slots, g1.addrs, g1.finals, g1.cash, g1.transit, g1.day,
    g1.timer, fun ⟨hj, hsorted, hnets, hnone⟩ => ?_⟩
  have hjnc : ((s.onJnc (Jnc.append (x.record .standIn .advicePending))).judgeThresholds.appendSfq s.nextSeq .posting).jnc =
      (s.onJnc (Jnc.append (x.record .standIn .advicePending))).jnc := by simp
  have hsat : ((s.onJnc (Jnc.append (x.record .standIn .advicePending))).judgeThresholds.appendSfq s.nextSeq .posting).siu.sat =
      s.siu.sat := by simp [State.appendSfq]
  have hday := g1.day
  generalize (s.onJnc (Jnc.append (x.record .standIn .advicePending))).judgeThresholds.appendSfq s.nextSeq .posting = u
    at hjnc hsat hday ⊢
  have hnum : (s.onJnc (Jnc.append (x.record .standIn .advicePending))).JournalNumbered :=
    journal_append hj (journalTakes_counter ht)
  have hpend : ∀ m, pendingOf (x.record .standIn .advicePending) m = if n = m then signedAmount g else 0 := fun m => by
    simp [pendingOf, Txn.record, entry, Txn.posting, postingOf, ha, signedAccount, hg]
  have hnet : ∀ m, (u.modifySat n fun e => e.post g).pendingNet m = s.pendingNet m + if n = m then signedAmount g else 0 :=
    fun m => by
      rw [← hpend m, ← pendingNet_append]
      exact pendingNet_congr (t := u.modifySat n fun e => e.post g)
        (s := s.onJnc (Jnc.append (x.record .standIn .advicePending))) (by simp [hjnc]) m
  refine ⟨journal_congr (s := s.onJnc (Jnc.append (x.record .standIn .advicePending))) (by simp [hjnc]) (by simp [hjnc]) hnum,
    ?_, fun e he => ?_, fun hd => ?_⟩
  · show ((modifyKey SatEntry.account n _ u.siu.sat).map SatEntry.account).Pairwise (· < ·)
    rw [modifyKey_map_key fun e he => (e.post_account g).trans he, hsat]
    exact hsorted
  · obtain ⟨z, hz, rfl⟩ := List.mem_map.1 he
    have hold := hnets z (hsat ▸ hz)
    by_cases hk : z.account = n
    · rw [if_pos hk, SatEntry.post_net z (accountLeg_kind hg), SatEntry.post_account, hnet, if_pos hk.symm, hold]
    · rw [if_neg hk, hnet, if_neg fun h => hk h.symm, hold, Int.add_zero]
  · have hd' : s.dyc.day = .noDay ∨ s.dyc.day = .loading := hday ▸ hd
    rcases hd' with hd' | hd' <;> rw [hd'] at ho <;> cases ho

end Sys2Proof.Machine
end

section
/-! SUPPORT. The transaction path and the requests of a teller keep the work items and the cash in order (R33 to R36,
R44 to R53, R112 to R115). -/

namespace Sys2Proof.Machine

variable {p q : Prop} {r s t : State} {a b n : Nat} {y z : Txn} {d : Definition}

/-! ### What a transaction in hand brings -/

theorem State.Alike.funds (g : s.Alike t) (h : s.Funds y) : t.Funds y := funds_congr g.staff g.cash h

theorem State.Alike.undrained (g : s.Alike t) (h : drainedDay s.dyc.day = false) : drainedDay t.dyc.day = false :=
  g.day ▸ h

/-- A transaction that is undecided stands in a day that lets it be decided (R164). -/
theorem State.Orderly.undrained (h : s.Orderly p q) (hy : s.txnAt a = some y) (hs : y.stage ≠ .answered) (hq : q) :
    drainedDay s.dyc.day = false := by
  by_contra hd
  exact hs ((h.covered hq).drained (by simpa using hd) a y hy)

theorem Txn.waits_unanswered (h : y.waits = true) : y.stage ≠ .answered := fun hs => by
  rw [Txn.waits, hs] at h
  cases h

/-- A waiting transaction is covered. -/
theorem State.Orderly.funds (h : s.Orderly p q) (hy : s.txnAt a = some y) (hw : y.waits = true) (hq : q) : s.Funds y :=
  (h.covered hq).funded a y nofun hy hw

/-! ### Decisions -/

theorem State.InHand.postLocal (h : s.InHand p q y) (hf : q → s.Funds y) (ho : q → drainedDay s.dyc.day = false) :
    (s.postLocal y).Orderly p q := by
  simp only [State.postLocal]
  split
  · have hw : s.Alike (s.writeRecord (y.record .localMode .done)) := State.Alike.writeRecord (.refl s) nofun
    exact ((h.alike hw).applyCash (fun hq => hw.funds (hf hq)) fun hq => hw.undrained (ho hq)).reachOutcome rfl rfl
  · exact h.refuse rfl rfl

theorem State.InHand.completeLocal (h : s.InHand p q y) (hf : q → y.training = false → s.Funds y)
    (ho : q → drainedDay s.dyc.day = false) : (s.completeLocal y d).Orderly p q := by
  unfold State.completeLocal
  split
  · exact h.trainingOk rfl rfl
  · next ht =>
    have hfund : q → s.Funds y := fun hq => hf hq (by simpa using ht)
    split
    · dsimp only
      split
      · exact h.refuse rfl rfl
      · have hb : s.Alike (s.modifyBook (y.account.getD 0) fun b => b.renew s.poolFree s.dyc.date) :=
          State.Alike.modifyBook (.refl s)
        exact (h.alike hb).postLocal (fun hq => hb.funds (hfund hq)) fun hq => hb.undrained (ho hq)
    · exact h.postLocal hfund ho

theorem State.InHand.postStandIn {g : Leg} (h : s.InHand p q y) (hf : q → s.Funds y)
    (ho : q → drainedDay s.dyc.day = false) (ht : s.journalTakes (y.record .standIn .advicePending).body = true)
    (ha : y.account = some n) (hg : accountLeg y.legs = some g) : (s.postStandIn y d n g).Orderly p q := by
  have hp := State.Alike.postedStandIn ht (open_of_attended h.attended h.keeper) ha hg
  exact (((h.alike hp).applyCash (fun hq => hp.funds (hf hq)) fun hq => hp.undrained (ho hq)).alike
    (State.Alike.appendTxnLine (.refl _))).reachOutcome rfl rfl

theorem State.InHand.standIn (h : s.InHand p q y) (hf : q → y.training = false → s.Funds y)
    (ho : q → drainedDay s.dyc.day = false) : (s.standIn y d).Orderly p q := by
  unfold State.standIn
  split
  · next ha hg =>
    split
    · exact h.refuse rfl rfl
    · split
      · exact h.trainingOk rfl rfl
      · next htr =>
        split
        · next ht => exact h.postStandIn (fun hq => hf hq (by simpa using htr)) ho ht ha hg
        · exact h.refuse rfl rfl
  · exact h.completeLocal hf ho

/-- A transaction that is not answered is put into the table, and may wait. -/
theorem State.InHand.putReady (h : s.InHand p q y) (hn : q → y.stage ≠ .answered) (hf : q → s.Funds y)
    (ho : q → drainedDay s.dyc.day = false) : (s.putTxn y).Ready p q y.drop :=
  (h.putTxn rfl rfl fun hq => .inr (ho hq)).ready (by rw [txnAt_putTxn, if_pos rfl]) hn
    (fun hq => funds_congr rfl rfl (hf hq)) ho

theorem State.InHand.route (h : s.InHand p q y) (hn : q → y.stage ≠ .answered) (hf : q → y.training = false → s.Funds y)
    (ho : q → drainedDay s.dyc.day = false) : (s.route y d).Orderly p q := by
  unfold State.route
  split
  · exact h.completeLocal hf ho
  · split
    · exact h.trainingOk rfl rfl
    · next ht => exact (h.putReady hn (fun hq => hf hq (by simpa using ht)) ho).forward
  · split
    · exact h.trainingOk rfl rfl
    · next ht => exact (h.putReady hn (fun hq => hf hq (by simpa using ht)) ho).joinWaitList
  · exact h.refuse rfl rfl
  · exact h.standIn hf ho

theorem State.InHand.decideAgain (h : s.InHand p q y) (hf : q → s.Funds y) (ho : q → drainedDay s.dyc.day = false) :
    (s.decideAgain y).Orderly p q := by
  unfold State.decideAgain
  split
  · split
    · exact h.standIn (fun hq _ => hf hq) ho
    · exact h.refuse rfl rfl
  · exact h.refuse rfl rfl

/-! ### The checks of a request -/

theorem State.InHand.fromDrawer (h : s.InHand p q y) (hn : q → y.stage ≠ .answered) (hl : LegsApart y.legs)
    (ho : q → drainedDay s.dyc.day = false) : (s.fromDrawer y d).Orderly p q := by
  unfold State.fromDrawer
  split
  · next ht => exact h.route hn (fun _ hno => by rw [ht] at hno; cases hno) ho
  · split
    · dsimp only
      split
      · exact h.refuse rfl rfl
      · next hd =>
        split
        · exact State.InHand.route (h.as rfl rfl) hn (fun hq _ => funds_of_tests hl (h.covered hq).solvent hd) ho
        · exact h.refuse rfl rfl
    · split
      · exact State.InHand.route (h.as rfl rfl) hn (fun _ _ _ hno => nomatch hno) ho
      · exact h.refuse rfl rfl

/-- A transaction is held for override, with nothing of it decided (R33). -/
theorem State.InHand.holdTxn {x : HoldReason} (h : s.InHand p q y) (ho : q → drainedDay s.dyc.day = false) :
    (s.holdTxn y x).Orderly p q :=
  ((h.putTxn (z := { y with
      stage := .held, reason := some x, compared := amountCompared y.legs
      holdTimer := .running Config.holdSeconds }) rfl rfl fun hq => .inr (ho hq)).rest
    (by rw [txnAt_putTxn, if_pos rfl]) fun _ => rfl).alike (.queueSupervisors (.handOver (.refl _) rfl))

theorem State.InHand.fromOverride (h : s.InHand p q y) (hn : q → y.stage ≠ .answered) (hl : LegsApart y.legs)
    (ho : q → drainedDay s.dyc.day = false) : (s.fromOverride y d).Orderly p q := by
  unfold State.fromOverride
  dsimp only
  split
  · split
    · exact State.InHand.fromDrawer (h.as rfl rfl) hn hl ho
    · exact h.holdTxn ho
  · exact h.fromDrawer hn hl ho

theorem State.InHand.fromRoute (h : s.InHand p q y) (hn : q → y.stage ≠ .answered) (hl : LegsApart y.legs)
    (ho : q → drainedDay s.dyc.day = false) : (s.fromRoute y d).Orderly p q := by
  unfold State.fromRoute
  split
  · split
    · exact h.refuse rfl rfl
    · split
      · exact h.refuse rfl rfl
      · exact State.InHand.fromOverride (h.as rfl rfl) hn hl ho
  · exact State.InHand.fromOverride (h.as rfl rfl) hn hl ho

theorem State.InHand.fromMask (h : s.InHand p q y) (hn : q → y.stage ≠ .answered) (ho : q → drainedDay s.dyc.day = false) :
    (s.fromMask y d).Orderly p q := by
  unfold State.fromMask
  split
  · exact h.refuse rfl rfl
  · split
    · exact h.refuse rfl rfl
    · split
      · exact h.refuse rfl rfl
      · next hl => exact State.InHand.fromRoute (h.as rfl rfl) hn (amounts_apart hl) ho

/-! ### Holds -/

/-- The transaction held on a drop comes into hand. -/
theorem State.Orderly.takeHeld (h : s.Orderly p q) (hy : s.heldAt a = some y) :
    s.InHand p q y ∧ (q → drainedDay s.dyc.day = false) := by
  obtain ⟨hat, hst⟩ := heldAt_some hy
  have hno : y.stage ≠ .answered := by rw [hst]; decide
  exact ⟨h.take hat (fun hq => (h.placed hq).idle_txn hat (by rw [Txn.waits, hst]; rfl)) fun _ => hno, h.undrained hat hno⟩

theorem State.InHand.endHold (h : s.InHand p q y) (ho : q → drainedDay s.dyc.day = false) :
    (s.endHold y).InHand p q { y with stage := .checking, holdTimer := .stopped } :=
  (h.putTxn (z := { y with stage := .checking, holdTimer := .stopped }) rfl rfl fun hq => .inr (ho hq)).alike
    (.queueSupervisors (.refl _))

theorem State.Orderly.endHoldWith {x : Result} (h : s.Orderly p q) (hy : s.heldAt a = some y) :
    (s.endHoldWith y x).Orderly p q := by
  obtain ⟨g, ho⟩ := h.takeHeld hy
  exact (g.endHold ho).refuse rfl rfl

theorem State.Orderly.acceptGrant {x : Teller} (h : s.Orderly p q) (hy : s.heldAt b = some y) :
    (s.acceptGrant a x y).Orderly p q := by
  unfold State.acceptGrant
  split
  · exact h
  · next d _ =>
    obtain ⟨g, ho⟩ := h.takeHeld hy
    have hgrant : (s.endHold y).Alike (((s.endHold y).modifyTeller y.teller fun x => x.grant d.cls).answer a .done) :=
      State.Alike.answer (State.Alike.modifyTeller (.refl _) fun _ => rfl)
    have hday : q → drainedDay (((s.endHold y).modifyTeller y.teller fun x => x.grant d.cls).answer a .done).dyc.day = false :=
      fun hq => hgrant.undrained (by rw [show (s.endHold y).dyc = s.dyc by simp]; exact ho hq)
    exact State.InHand.fromMask (((g.endHold ho).alike hgrant).putTxn (z := { y with
      stage := .checking, holdTimer := .stopped, limit := some x.cashLimit
      supervisor := some x.number }) rfl rfl fun hq => .inr (hday hq)) (fun _ => by simp) hday

theorem State.Orderly.holdExpiry (h : s.Orderly p q) : (s.holdExpiry a).Orderly p q := by
  unfold State.holdExpiry
  split
  · next hy =>
    split
    · exact h
    · exact h.endHoldWith hy
  · exact h

/-! ### Requests -/

theorem State.Orderly.answer {x : Result} (h : s.Orderly p q) : (s.answer a x).Orderly p q :=
  h.alike (.answer (.refl s))

theorem State.Orderly.asTeller {f : Teller → State} (h : s.Orderly p q)
    (hf : ∀ x, s.tellerAt a = some x → (f x).Orderly p q) : (s.asTeller a f).Orderly p q := by
  unfold State.asTeller
  split
  · split
    · next x hx => exact hf x hx
    · exact h.answer
  · exact h.answer

theorem State.Orderly.asSupervisor {f : Teller → State} (h : s.Orderly p q)
    (hf : ∀ x, s.tellerAt a = some x → (f x).Orderly p q) : (s.asSupervisor a f).Orderly p q := by
  refine h.asTeller fun x hx => ?_
  split
  · exact h.answer
  · split
    · exact h.answer
    · exact hf x hx

theorem State.Orderly.asCashier {f : Teller → State} (h : s.Orderly p q)
    (hf : ∀ x, s.tellerAt a = some x → s.hasWork a = false → (f x).Orderly p q) : (s.asCashier a f).Orderly p q := by
  refine h.asTeller fun x hx => ?_
  split
  · exact h.answer
  · split
    · exact h.answer
    · split
      · exact h.answer
      · next hw => exact hf x hx (by simpa using hw)

/-- A teller found signed on at a drop. -/
theorem tellerAt_on {x : Teller} (h : s.tellerAt a = some x) : x ∈ s.rqu.tellers ∧ x.signedOn = true ∧ x.station = some a := by
  have hx := List.find?_some h
  simp only [Bool.and_eq_true, beq_iff_eq] at hx
  exact ⟨List.mem_of_find?_eq_some h, hx⟩

/-- A transaction of a drop that nothing names, and that no final reply answers, comes into hand. -/
theorem State.Orderly.bring (h : s.Orderly p q) (hk : s.Attended y) (hi : q → s.Idle y.drop)
    (hf : q → s.fetchAt y.drop = none) (hr : q → s.answeredAt y.drop = false) : s.InHand p q y := by
  refine ⟨h.attended, hk, h.nets, h.placed, hi, hf, fun hq => ?_, fun hq => (h.covered hq).opened _⟩
  obtain ⟨hle, hone⟩ := (h.placed hq).replied y.drop
  by_contra hne
  have hans := hone (by omega)
  rw [hr hq] at hans
  cases hans

/-- A new transaction of a drop without work comes into hand (R44, R45). -/
theorem State.Orderly.begin (h : s.Orderly p q) (hk : s.Attended y) (hw : s.hasWork y.drop = false) : s.InHand p q y := by
  have hno := hw
  simp only [State.hasWork, Bool.or_eq_false_iff, Option.isSome_eq_false_iff, Option.isNone_iff_eq_none] at hno
  exact h.bring hk (fun hq => (h.placed hq).idle_none (placeOf_none hw)) (fun _ => hno.2) fun _ => by
    rw [State.answeredAt, hno.1]; rfl

/-- Serving the wait list leaves a drop alone that nothing names. -/
structure State.LeavesAt (s : State) (a : Nat) (t : State) : Prop where
  idle : t.Idle a
  txn : t.txnAt a = s.txnAt a
  fetch : t.fetchAt a = s.fetchAt a
  staff : t.rqu.tellers = s.rqu.tellers

theorem leavesAt_serveOne (hi : s.Idle a) : s.LeavesAt a s.serveOne := by
  obtain ⟨hw, hs⟩ := hi
  unfold State.serveOne
  split
  · split
    · next b rest i hl _ =>
      have hne : a ≠ b := fun he => hw (he ▸ hl ▸ List.mem_cons_self)
      refine ⟨⟨fun ha => hw (hl ▸ List.mem_cons_of_mem b ha), fun x hx hn hd => ?_⟩, ?_, ?_, rfl⟩
      · obtain ⟨z, hz, rfl⟩ := List.mem_map.1 hx
        by_cases hk : z.number = i
        · rw [if_pos hk] at hd
          exact hne hd.symm
        · rw [if_neg hk] at hn hd
          exact hs z hz hn hd
      · exact txnAt_staged_other hne
      · exact fetchAt_staged_other hne
    · exact ⟨⟨hw, hs⟩, rfl, rfl, rfl⟩
  · exact ⟨⟨hw, hs⟩, rfl, rfl, rfl⟩

theorem leavesAt_serveWaitList (hi : s.Idle a) : s.LeavesAt a s.serveWaitList := by
  have hnext : ∀ t, s.LeavesAt a t → s.LeavesAt a t.serveOne := fun t h => by
    have g := leavesAt_serveOne h.idle
    exact ⟨g.idle, g.txn.trans h.txn, g.fetch.trans h.fetch, g.staff.trans h.staff⟩
  exact hnext _ (hnext _ (hnext _ (hnext _ (hnext _ (leavesAt_serveOne hi)))))

theorem staff_serveOne (s : State) : s.serveOne.rqu.tellers = s.rqu.tellers := by
  unfold State.serveOne
  split
  · split <;> rfl
  · rfl

theorem staff_serveWaitList (s : State) : s.serveWaitList.rqu.tellers = s.rqu.tellers := by
  simp only [State.serveWaitList, staff_serveOne]

/-- A transaction whose slot is freed, and offered, comes into hand. -/
theorem State.Orderly.takeFreed (h : s.Orderly p q) (hy : s.txnAt a = some y)
    (hs : y.slot = some n ∧ (y.stage = .queued ∨ y.stage = .onTrunk)) : (s.freeAndOffer n).InHand p q y := by
  have hd := txnAt_drop hy
  have hidle : q → (s.freeSlotAt n).Idle y.drop := fun hq => hd.symm ▸ (h.placed hq).idle_freed (by
    rw [placeOf_txn hy, hs.1]
    exact hs.2.imp (fun hst => by rw [hst]) fun hst => by rw [hst])
  refine h.freeAndOffer.bring ?_ (fun hq => (leavesAt_serveWaitList (hidle hq)).idle) (fun hq => ?_) fun hq => ?_
  · exact attended_of_staff (s := s) (congrArg _ (staff_serveWaitList _)) (h.attended.keeper hy)
  · exact (leavesAt_serveWaitList (hidle hq)).fetch.trans (hd.symm ▸ (h.placed hq).alone a y hy)
  · refine (answeredAt_congr (leavesAt_serveWaitList (hidle hq)).txn).trans ?_
    rw [hd]
    show s.answeredAt a = false
    rw [State.answeredAt, hy]
    rcases hs.2 with hst | hst <;> simp [hst]

theorem State.InHand.checkRequest (h : s.InHand p q y) (hn : y.stage ≠ .answered) : (s.checkRequest y).Orderly p q := by
  unfold State.checkRequest
  split
  · exact h.refuse rfl rfl
  · next hday =>
    have ho : drainedDay s.dyc.day = false := by
      generalize s.dyc.day = x at hday
      revert hday
      cases x <;> simp [requestDay, drainedDay, closedDay]
    split
    · exact h.refuse rfl rfl
    · dsimp only
      split
      · exact h.refuse rfl rfl
      · exact State.InHand.fromMask (h.as rfl rfl) (fun _ => hn) fun _ => ho

theorem State.Orderly.takeRequest {x : TxnFields} (h : s.Orderly p q) : (s.takeRequest a x).Orderly p q := by
  refine h.asTeller fun t ht => ?_
  obtain ⟨hin, hon, hat⟩ := tellerAt_on ht
  split
  · exact h.answer
  · split
    · exact h.answer
    · next hw =>
      exact State.InHand.checkRequest (h.begin (y := newTxn a t x) ⟨t, hin, rfl, hon, hat⟩ (by simpa [newTxn] using hw)) (by simp [newTxn])

theorem State.Orderly.cancel (h : s.Orderly p q) : (s.cancel a).Orderly p q := by
  refine h.asTeller fun t ht => ?_
  split
  · exact h.answer
  · next y hy =>
    split
    · next hst => exact h.endHoldWith (a := a) (by rw [State.heldAt, hy]; simp [hst])
    · next hst =>
      exact ((h.leaveWaitList (a := a)).take hy (fun hq => (h.placed hq).idle_left (by rw [placeOf_txn hy, hst]))
        fun _ => by rw [hst]; decide).refuse rfl rfl
    · next i hst hsl =>
      exact (h.takeFreed hy ⟨hsl, .inl hst⟩).refuse rfl rfl
    · exact h.answer

theorem State.Orderly.onHold {f : Txn → State} {x : Teller} (h : s.Orderly p q)
    (hf : ∀ y, s.heldAt b = some y → (f y).Orderly p q) : (s.onHold a b x f).Orderly p q := by
  unfold State.onHold
  split
  · exact h.answer
  · split
    · exact h.answer
    · next y hy =>
      split
      · exact h.answer
      · exact hf y hy

theorem State.Orderly.overrideGrant (h : s.Orderly p q) : (s.overrideGrant a b).Orderly p q :=
  h.asSupervisor fun _ _ => h.onHold fun y hy => by
    split
    · exact h.answer
    · exact h.acceptGrant hy

theorem State.Orderly.overrideDeny (h : s.Orderly p q) : (s.overrideDeny a b).Orderly p q :=
  h.asSupervisor fun _ _ => h.onHold fun _ hy => (h.endHoldWith hy).answer

end Sys2Proof.Machine
end

section
/-! SUPPORT. The passbook fetches and the second decisions keep the work items and the cash in order (R51, R58, R144,
R145, R150). -/

namespace Sys2Proof.Machine

variable {p q : Prop} {r s t : State} {a b n i : Nat} {y z : Txn} {f : Fetch}

/-! ### A drop's fetch changes while nothing names it -/

/-- What happens to the fetch of an idle drop leaves the work placed. -/
theorem State.Placed.atFetch {g : Rqu → Rqu} (h : s.Placed) (hi : s.Idle a) (hx : (g s.rqu).txns = s.rqu.txns)
    (hw : (g s.rqu).waitList = s.rqu.waitList) (hs : ((g s.rqu).fetches.map Fetch.drop).Pairwise (· < ·))
    (hf : ∀ b, b ≠ a → (s.onRqu g).fetchAt b = s.fetchAt b)
    (ha : ∀ y, s.txnAt a = some y → (s.onRqu g).fetchAt a = none) : (s.onRqu g).Placed := by
  have htxn : ∀ b, (s.onRqu g).txnAt b = s.txnAt b := fun b => by rw [State.txnAt, State.onRqu_rqu, hx]; rfl
  refine ⟨hs, h.addrs, h.slots, hw.symm ▸ h.once, fun b y hy => ?_, fun b hb => ?_, fun x hx' => ?_, fun b => ?_⟩
  · have hy' := (htxn b).symm.trans hy
    by_cases hb : b = a
    · exact hb ▸ ha y (hb ▸ hy')
    · rw [hf b hb]
      exact h.alone b y hy'
  · have hb' : b ∈ s.rqu.waitList := hw ▸ hb
    have hne : b ≠ a := fun he => hi.1 (he ▸ hb')
    rw [workKind_congr (htxn b), standsAt_congr (htxn b) (hf b hne)]
    exact h.listed b hb'
  · by_cases hd : x.drop = a
    · have hfree : x.state = .free := by
        by_contra hne
        exact hi.2 x hx' hne hd
      refine ⟨(h.carried x hx').1, fun hst => ?_, fun hst => ?_⟩
      · rw [hfree] at hst; cases hst
      · rw [hfree] at hst; rcases hst with hst | hst <;> cases hst
    · exact slotCarried_congr (htxn _) (hf _ hd) (h.carried x hx')
  · rw [answeredAt_congr (htxn b)]
    exact h.replied b

theorem fetchAt_endFetch_other (hb : b ≠ a) : (s.endFetch a).fetchAt b = s.fetchAt b := by
  rw [fetchAt_endFetch, if_neg hb]

theorem State.Orderly.endFetch (h : s.Orderly p q) (hi : q → s.Idle a) : (s.endFetch a).Orderly p q :=
  ⟨h.attended.onQueue rfl rfl, h.nets, fun hq => (h.placed hq).atFetch (hi hq) rfl rfl
    (eraseKey_sorted (h.placed hq).fetches) (fun _ hb => fetchAt_endFetch_other hb) fun _ _ => by
      refine (fetchAt_endFetch (s := s) (a := a)).trans (if_pos rfl), fun hq => (h.covered hq).onQueue rfl rfl⟩

/-- A fetch of a drop without work is put into its table, and may wait (R58). -/
theorem State.Orderly.putFetch (h : s.Orderly p q) (hw : s.hasWork f.drop = false) : (s.putFetch f).Ready p q f.drop := by
  have hno := hw
  simp only [State.hasWork, Bool.or_eq_false_iff, Option.isSome_eq_false_iff, Option.isNone_iff_eq_none] at hno
  have hidle : q → s.Idle f.drop := fun hq => (h.placed hq).idle_none (placeOf_none hw)
  have htxn : (s.putFetch f).txnAt f.drop = none := hno.1
  refine ⟨h.attended.onQueue rfl rfl, h.nets, fun hq => ?_, hidle, fun _ => ?_, fun _ => ?_, fun hq =>
    ((h.covered hq).opened _).onQueue rfl rfl, fun _ y hy => ?_⟩
  · refine (h.placed hq).atFetch (hidle hq) rfl rfl (putKey_sorted (h.placed hq).fetches) (fun b hb => ?_) fun y hy => ?_
    · exact (fetchAt_putFetch (s := s)).trans (if_neg fun he => hb he.symm)
    · rw [hno.1] at hy; cases hy
  · rw [State.hasWork, fetchAt_putFetch, if_pos rfl, Option.isSome_some, Bool.or_true]
  · rw [State.answeredAt, htxn]; rfl
  · rw [htxn] at hy; cases hy

theorem State.Orderly.requestFetch (h : s.Orderly p q) : (s.requestFetch a n).Orderly p q := by
  unfold State.requestFetch
  split
  · exact h.alike (.startPrinting (.refl s))
  · next hno =>
    have hw : s.hasWork a = false := by
      rw [not_or] at hno
      simpa using hno.1
    exact (h.putFetch (f := ⟨a, n, _, .checking, none⟩) hw).forward.alike (.modifySession (.refl _))

/-! ### Sessions that ask for fetches, and their ends -/

theorem State.Placed.no_txn (h : s.Placed) (hf : s.fetchAt a = some f) : s.txnAt a = none := by
  by_contra hne
  obtain ⟨y, hy⟩ := Option.ne_none_iff_exists'.1 hne
  rw [h.alone a y hy] at hf
  cases hf

theorem State.Orderly.fetchOutcome {l : List FetchLine} (h : s.Orderly p q) (hi : q → s.Idle f.drop) :
    (s.fetchOutcome f l).Orderly p q :=
  (h.endFetch hi).alike (.resumeFetching (.foldl (fun _ _ g => g.appendLine) _ (.refl _)))

theorem State.Orderly.withdrawFetch (h : s.Orderly p q) : (s.withdrawFetch a).Orderly p q := by
  unfold State.withdrawFetch
  split
  · next f hf =>
    split
    · next hst =>
      exact (h.leaveWaitList (a := a)).endFetch fun hq => (h.placed hq).idle_left (by
        rw [placeOf_fetch ((h.placed hq).no_txn hf) hf, hst])
    · next i hst hsl =>
      have hswap : (s.endFetch a).freeAndOffer i = ((s.freeSlotAt i).endFetch a).serveWaitList := rfl
      rw [hswap]
      exact ((h.freeSlotAt (i := i)).endFetch fun hq => (h.placed hq).idle_freed (.inl (by
        rw [placeOf_fetch ((h.placed hq).no_txn hf) hf, hst, hsl]))).serveWaitList
    · exact h
  · exact h

theorem State.Orderly.faultSession (h : s.Orderly p q) : (s.faultSession a).Orderly p q :=
  (h.alike (.finishSession (.refl s))).withdrawFetch

theorem State.Orderly.printerFaultAt (h : s.Orderly p q) : (s.printerFaultAt a).Orderly p q := by
  unfold State.printerFaultAt
  split
  · exact h.alike (.refuseBook (.refl s))
  · exact h.faultSession
  · exact h.faultSession
  · exact h.faultSession
  · exact h
  · exact h
  · exact h

theorem State.Orderly.interruptSession (h : s.Orderly p q) : (s.interruptSession a).Orderly p q := by
  have hend : ((s.endSession a).withdrawFetch a).Orderly p q := (h.alike (.endSession (.refl s))).withdrawFetch
  unfold State.interruptSession
  dsimp only
  split
  · exact hend.alike (.modifySession (.refl _))
  · exact hend.alike (.modifySession (.refl _))
  · exact hend.alike (.modifySession (.refl _))
  · exact h.alike (.modifySession (.refl _))
  · exact h.alike (.modifySession (.refl _))
  · exact h.alike (.modifySession (.refl _))
  · exact h.alike (.modifySession (.refl _))

theorem State.Orderly.bookInChanged {on : Bool} (h : s.Orderly p q) : (s.bookInChanged a on).Orderly p q := by
  unfold State.bookInChanged
  split
  · exact h.alike (.startIdentify (.refl s))
  · exact h.interruptSession

theorem State.Orderly.proceedSession {m : Nat} (h : s.Orderly p q) : (s.proceedSession a n m).Orderly p q := by
  have hstart : s.Alike ((s.modifyBook n fun b =>
      { b.convertIfRoom s.poolFree with session := some a }).modifySession a fun x =>
        { x with account := some n, printed := m, command := none, timer := .stopped }) :=
    State.Alike.modifySession (State.Alike.modifyBook (.refl s))
  unfold State.proceedSession
  dsimp only
  split
  · exact h.alike hstart.finishSession
  · exact (h.alike hstart).requestFetch

theorem State.Orderly.reconcile {x : BookPos} {k : Passbook} (h : s.Orderly p q) : (s.reconcile a n x k).Orderly p q := by
  unfold State.reconcile
  split
  · exact h.alike (.refuseBook (.refl s))
  · split
    · exact (h.alike (.modifyBook (.refl s))).proceedSession
    · split
      · exact (h.alike (.modifyBook (.refl s))).proceedSession
      · split
        · exact h.alike (.refuseBook (.refl s))
        · exact h.alike (.refuseBook (.refl s))

theorem State.Orderly.checkBook {x : Stripe} (h : s.Orderly p q) : (s.checkBook a x).Orderly p q := by
  unfold State.checkBook
  split
  · exact h.alike (.refuseBook (.refl s))
  · split
    · exact h.alike (.refuseBook (.refl s))
    · split
      · exact h.alike (.refuseBook (.refl s))
      · split
        · exact h.alike (.refuseBook (.refl s))
        · exact h.reconcile

theorem State.Orderly.bookPresent {x : Stripe} (h : s.Orderly p q) : (s.bookPresent a x).Orderly p q := by
  unfold State.bookPresent
  split
  · exact (h.alike (.modifySession (.refl s))).checkBook
  · exact h.printerFaultAt

theorem State.Orderly.lineDone {m k : Nat} (h : s.Orderly p q) : (s.lineDone a m k).Orderly p q := by
  unfold State.lineDone
  split
  · split
    · split
      · exact h.alike (.lineConfirmed (.refl s))
      · exact h.printerFaultAt
    · exact h.printerFaultAt
  · exact h

theorem State.Orderly.pageReady (h : s.Orderly p q) : (s.pageReady a).Orderly p q := by
  unfold State.pageReady
  split
  · split
    · exact h.alike (.startPrinting (.refl s))
    · exact h.printerFaultAt
  · exact h

theorem State.Orderly.answerTimerExpiry (h : s.Orderly p q) : (s.answerTimerExpiry a).Orderly p q := by
  unfold State.answerTimerExpiry
  split
  · exact h.printerFaultAt
  · exact h

/-! ### Second decisions (R51, R56) -/

/-- A drop's work item that nothing names any more is decided again. -/
theorem State.Orderly.redecide (h : s.Orderly p q) (hi : q → s.Idle a)
    (hw : q → ∀ y, s.txnAt a = some y → y.waits = true) : (s.redecide a).Orderly p q := by
  unfold State.redecide
  split
  · next y hy =>
    exact (h.take hy hi fun hq => Txn.waits_unanswered (hw hq y hy)).decideAgain (fun hq => h.funds hy (hw hq y hy) hq)
      fun hq => h.undrained hy (Txn.waits_unanswered (hw hq y hy)) hq
  · split
    · next f hf => exact h.fetchOutcome fun hq => (fetchAt_drop hf).symm ▸ hi hq
    · exact h

theorem waitList_reachOutcome {x : FinalReply} : (s.reachOutcome y x).rqu.waitList = s.rqu.waitList := by
  simp [State.reachOutcome, State.putTxn, State.modifyTeller]

theorem waitList_completeLocal {d : Definition} : (s.completeLocal y d).rqu.waitList = s.rqu.waitList := by
  have hpost : ∀ u : State, (u.postLocal y).rqu.waitList = u.rqu.waitList := fun u => by
    simp only [State.postLocal]
    split
    · rw [waitList_reachOutcome]; simp
    · exact waitList_reachOutcome
  unfold State.completeLocal
  split
  · exact waitList_reachOutcome
  · split
    · dsimp only
      split
      · exact waitList_reachOutcome
      · rw [hpost]; simp
    · exact hpost s

theorem waitList_standIn {d : Definition} : (s.standIn y d).rqu.waitList = s.rqu.waitList := by
  unfold State.standIn
  split
  · split
    · exact waitList_reachOutcome
    · split
      · exact waitList_reachOutcome
      · split
        · simp only [State.postStandIn]
          rw [waitList_reachOutcome]
          simp
        · exact waitList_reachOutcome
  · exact waitList_completeLocal

/-- A second decision leaves the wait list alone. -/
theorem waitList_redecide : (s.redecide a).rqu.waitList = s.rqu.waitList := by
  have hagain : ∀ y, (s.decideAgain y).rqu.waitList = s.rqu.waitList := fun y => by
    unfold State.decideAgain
    split
    · split
      · exact waitList_standIn
      · exact waitList_reachOutcome
    · exact waitList_reachOutcome
  unfold State.redecide
  split
  · exact hagain _
  · split
    · have hlines : ∀ (l : List Line) (n : Nat) (u : State), (l.foldl (fun s l => s.appendLine n l) u).rqu = u.rqu :=
        fun l n u => foldl_fixed (by simp) _ _
      simp only [State.fetchOutcome, State.resumeFetching_frame, hlines]
      rfl
    · rfl

/-- The entries of the wait list are decided again, oldest first. -/
theorem State.Orderly.redecideListed {l : List Nat} (h : s.Orderly p q) (hl : q → s.rqu.waitList = l) :
    (l.foldl (fun s a => (s.leaveWaitList a).redecide a) s).Orderly p q := by
  induction l generalizing s with
  | nil => exact h
  | cons a l ih =>
    have hplace : q → s.placeOf a = some (.waitListed, none) := fun hq =>
      (h.placed hq).listed_place (hl hq ▸ List.mem_cons_self)
    refine ih ((h.leaveWaitList (a := a)).redecide (fun hq => (h.placed hq).idle_left (hplace hq)) fun hq y hy => ?_) fun hq => ?_
    · have := hplace hq
      have hy' : s.txnAt a = some y := hy
      rw [placeOf_txn hy', Option.some.injEq, Prod.mk.injEq] at this
      rw [Txn.waits, this.1]
      rfl
    · rw [waitList_redecide]
      show s.rqu.waitList.filter (· != a) = l
      have hnodup := hl hq ▸ (h.placed hq).once
      rw [hl hq, List.filter_cons_of_neg (by simp), List.filter_eq_self]
      exact fun b hb => by simpa using fun he : b = a => (List.nodup_cons.1 hnodup).1 (he ▸ hb)

/-- The items of some QUEUED slots are decided again. -/
theorem State.Orderly.redecideQueued {l : List OnlineSlot} (h : s.Orderly p q)
    (hl : q → ∀ x ∈ l, x ∈ s.tkc.slots ∧ x.state = .queued) (hn : q → (l.map OnlineSlot.number).Nodup) :
    (l.foldl (fun s x => (s.freeSlotAt x.number).redecide x.drop) s).Orderly p q := by
  induction l generalizing s with
  | nil => exact h
  | cons x l ih =>
    have hplace : q → s.placeOf x.drop = some (.queued, some x.number) := fun hq => by
      obtain ⟨hx, hst⟩ := hl hq x List.mem_cons_self
      exact ((h.placed hq).place (((h.placed hq).carried x hx).2.1 hst)).1
    refine ih (h.freeSlotAt.redecide (fun hq => (h.placed hq).idle_freed (.inl (hplace hq))) fun hq y hy => ?_)
      (fun hq z hz => ?_) fun hq => (List.nodup_cons.1 (hn hq)).2
    · have := hplace hq
      have hy' : s.txnAt x.drop = some y := hy
      rw [placeOf_txn hy', Option.some.injEq, Prod.mk.injEq] at this
      rw [Txn.waits, this.1]
      rfl
    · obtain ⟨hzs, hst⟩ := hl hq z (List.mem_cons_of_mem x hz)
      refine ⟨?_, hst⟩
      rw [(trails_redecide (s := s.freeSlotAt x.number)).slots]
      have hne : z.number ≠ x.number := fun he =>
        (List.nodup_cons.1 (hn hq)).1 (List.mem_map.2 ⟨z, hz, he⟩)
      exact List.mem_map.2 ⟨z, hzs, if_neg hne⟩

theorem State.Orderly.redecideAll (h : s.Orderly p q) : s.redecideAll.Orderly p q := by
  have hslots : (s.rqu.waitList.foldl (fun s a => (s.leaveWaitList a).redecide a) s).tkc.slots = s.tkc.slots :=
    (trails_foldl (fun s a => (State.Trails.of_eq (s := s) (t := s.leaveWaitList a) rfl rfl).trans trails_redecide) _ _).slots
  refine State.Orderly.redecideQueued (h.redecideListed fun _ => rfl) (fun _ x hx => ?_) fun hq => ?_
  · obtain ⟨hin, hst⟩ := List.mem_filter.1 hx
    exact ⟨hslots ▸ hin, by simpa using hst⟩
  · have hsub : (s.queuedSlots.map OnlineSlot.number).Sublist (s.tkc.slots.map OnlineSlot.number) :=
      List.filter_sublist.map _
    exact ((h.placed hq).slots ▸ hsub).nodup List.nodup_range

end Sys2Proof.Machine
end

section
/-! SUPPORT. Transfers, counts and the roll to the new day keep the cash in order (R79 to R81, R84 to R88). -/

namespace Sys2Proof.Machine

variable {p q : Prop} {r s t : State} {a b n m i : Nat} {y z : Txn} {e : Option Nat} {w : Drawer} {c : Currency}

/-! ### One drawer and the transit list change -/

/-- A declaration accounts for a drawer's positions (R69, R70). -/
def Declaration.Closes (x : Declaration) (w : Drawer) : Prop :=
  w.home.position + x.diffHome = x.declaredHome ∧ w.foreign.position + x.diffForeign = x.declaredForeign

/-- One drawer changes, and the transit list with it, so that no other HELD drawer is named anew. -/
theorem State.Covered.moveCash {F : Csu → Csu} {f : Drawer → Drawer} (h : s.Covered e)
    (hd : (F s.csu).drawers = modifyKey Drawer.number n f s.csu.drawers) (hn : ∀ w, (f w).number = w.number)
    (hpos : ∀ w, s.drawerAt n = some w → 0 ≤ (f w).home.position ∧ 0 ≤ (f w).foreign.position)
    (hfund : ∀ a y, some a ≠ e → s.txnAt a = some y → y.waits = true → y.drawer = some n → ∀ w, s.drawerAt n = some w →
      ∀ c, y.owed c ≤ ((f w).sums c).position)
    (htr : ∀ w ∈ s.csu.drawers, w.balance = .held → w.number ≠ n → (s.onCsu F).transitNames w.number = false)
    (hdec : ∀ w, s.drawerAt n = some w → (s.onCsu F).Declared (f w)) : (s.onCsu F).Covered e := by
  have hat : ∀ w ∈ s.csu.drawers, w.number = n → s.drawerAt n = some w := fun w hw hwn =>
    hwn ▸ findKey_of_mem (drawers_nodup h.drawers) hw
  have hlook : ∀ m, (s.onCsu F).drawerAt m = (s.drawerAt m).map fun w => if m = n then f w else w := fun m => by
    rw [State.drawerAt, State.onCsu_csu, hd]
    exact findKey_modifyKey fun w hw => (hn w).trans hw
  refine ⟨?_, fun w hw => ?_, h.holders, h.drained, fun b x hb hx hwait m hm => ?_, fun w hw => ?_⟩
  · rw [State.onCsu_csu, hd]
    exact (modifyKey_map_key fun w hw => (hn w).trans hw).trans h.drawers
  · rw [State.onCsu_csu, hd] at hw
    obtain ⟨v, hv, rfl⟩ := List.mem_map.1 hw
    by_cases hvn : v.number = n
    · rw [if_pos hvn]
      exact hpos v (hat v hv hvn)
    · rw [if_neg hvn]
      exact h.solvent v hv
  · have hx' : s.txnAt b = some x := hx
    obtain ⟨hheld, hle⟩ := h.funded b x hb hx' hwait m hm
    refine ⟨hheld, fun w hw c => ?_⟩
    obtain ⟨v, hv, rfl⟩ := Option.map_eq_some_iff.1 ((hlook m).symm.trans hw)
    by_cases hmn : m = n
    · rw [if_pos hmn]
      exact hfund b x hb hx' hwait (hmn ▸ hm) v (hmn ▸ hv) c
    · rw [if_neg hmn]
      exact hle v hv c
  · rw [State.onCsu_csu, hd] at hw
    obtain ⟨v, hv, rfl⟩ := List.mem_map.1 hw
    by_cases hvn : v.number = n
    · rw [if_pos hvn]
      exact hdec v (hat v hv hvn)
    · rw [if_neg hvn]
      intro hbal
      obtain ⟨h1, -, h3⟩ := h.declared v hv hbal
      exact ⟨h1, htr v hv hbal hvn, h3⟩

theorem onSums_sums (w : Drawer) (c k : Currency) (f : Sums → Sums) :
    (w.onSums c f).sums k = if c = k then f (w.sums c) else w.sums k := by
  cases c <;> cases k <;> rfl

theorem onSums_balance (w : Drawer) (c : Currency) (f : Sums → Sums) : (w.onSums c f).balance = w.balance := by
  cases c <;> rfl

/-- The positions of a drawer whose transfer sums move. -/
theorem solvent_onSums {f : Sums → Sums} (hw : 0 ≤ w.home.position ∧ 0 ≤ w.foreign.position)
    (hf : 0 ≤ (f (w.sums c)).position) :
    0 ≤ (w.onSums c f).home.position ∧ 0 ≤ (w.onSums c f).foreign.position := by
  cases c
  · exact ⟨hf, hw.2⟩
  · exact ⟨hw.1, hf⟩

theorem transitNames_erase {f : Csu → Csu} (hf : (f s.csu).transit = eraseKey TransitEntry.number i s.csu.transit)
    (h : s.transitNames m = false) : (s.onCsu f).transitNames m = false := by
  unfold State.transitNames at h ⊢
  rw [State.onCsu_csu, hf]
  simp only [List.any_eq_false] at h ⊢
  exact fun x hx => h x (List.mem_of_mem_filter hx)

theorem transitNames_of_mem {x : TransitEntry} (hx : x ∈ s.csu.transit) (hn : x.source = m ∨ x.target = m) :
    s.transitNames m = true :=
  List.any_eq_true.2 ⟨x, hx, by simpa using hn⟩

/-- A drawer that the transit list names is not HELD. -/
theorem State.Covered.not_held (h : s.Covered e) (hw : s.drawerAt n = some w) (ht : s.transitNames n = true) :
    w.balance ≠ .held := fun hb => by
  obtain ⟨-, hno, -⟩ := h.declared w (findKey_mem hw) hb
  rw [drawerAt_number hw, ht] at hno
  cases hno

/-- Cash comes back from the transit list to a drawer that the entry names (R80, R81). -/
theorem State.Orderly.takeTransit {F : Csu → Csu} {g : Sums → Sums} {x : TransitEntry} (h : s.Orderly p q)
    (hx : s.transitAt i = some x) (hn : x.source = n ∨ x.target = n)
    (hd : (F s.csu).drawers = modifyKey Drawer.number n (fun w => w.onSums c g) s.csu.drawers)
    (ht : (F s.csu).transit = eraseKey TransitEntry.number i s.csu.transit)
    (hg : ∀ u, u.position ≤ (g u).position) : (s.onCsu F).Orderly p q := by
  have hnames : s.transitNames n = true := transitNames_of_mem (findKey_mem hx) hn
  refine h.onCsu fun _ hc => hc.moveCash hd (fun w => onSums_number w c g) (fun w hw => ?_) (fun b z hb hz hwait hzn w hw k => ?_)
    (fun w hw hbal hne => ?_) fun w hw hbal => ?_
  · have hpos := hc.solvent w (findKey_mem hw)
    refine solvent_onSums hpos (le_trans ?_ (hg _))
    cases c
    · exact hpos.1
    · exact hpos.2
  · have hle := (hc.funded b z hb hz hwait n hzn).2 w hw k
    rw [onSums_sums]
    split
    · next hck => exact hle.trans (hck ▸ hg _)
    · exact hle
  · exact transitNames_erase ht (hc.declared w hw hbal).2.1
  · rw [onSums_balance] at hbal
    exact absurd hbal (hc.not_held hw hnames)

/-! ### Transfers -/

/-- The giving step takes no more than the position, of a drawer that is not HELD (R79). -/
theorem State.Orderly.give {x : Teller} (h : s.Orderly p q) (hx : s.tellerAt a = some x) (hwork : s.hasWork a = false)
    (hw : x.heldDrawer.bind s.drawerAt = some w) (hr : s.giveRefusal w m (some c) n = none) :
    (s.give a x w m c n).Orderly p q := by
  obtain ⟨hin, hon, hat⟩ := tellerAt_on hx
  obtain ⟨k, hheld, hwk⟩ := Option.bind_eq_some_iff.1 hw
  have hwn : w.number = k := drawerAt_number hwk
  subst hwn
  unfold State.giveRefusal at hr
  split at hr
  · cases hr
  · next v hv =>
    obtain ⟨hv, hvp⟩ := Option.filter_eq_some_iff.1 hv
    have hvm : v.number = m := drawerAt_number hv
    simp only at hr
    split at hr
    · cases hr
    · next hsettled =>
      split at hr
      · cases hr
      · split at hr
        · cases hr
        · split at hr
          · cases hr
          · next hshort =>
            have hfree : q → w.balance ≠ .held ∧ v.balance ≠ .held := fun hq => by
              have hbal : w.balance = .held ∨ v.balance = .held → s.dyc.day = .balancing := by
                rintro (hb | hb)
                · exact ((h.covered hq).declared w (findKey_mem hwk) hb).1
                · exact ((h.covered hq).declared v (findKey_mem hv) hb).1
              constructor
              · exact fun hb => hsettled (by simp [hbal (.inl hb), hb])
              · exact fun hb => hsettled (by simp [hbal (.inr hb), hb])
            have hmoved : ((s.addTransferOut w.number c n).onCsu fun u => { u with
                transit := u.transit ++ [⟨s.freeEntry, w.number, m, c, n, x.number, s.nextSeq⟩]
                transitCounter := entryAfter s.freeEntry }).Orderly p q := by
              refine h.onCsu (f := fun u => { u with
                  drawers := modifyKey Drawer.number w.number
                    (fun v => v.onSums c fun y => { y with transferOut := y.transferOut + (n : Int) }) u.drawers
                  transit := u.transit ++ [⟨s.freeEntry, w.number, m, c, n, x.number, s.nextSeq⟩]
                  transitCounter := entryAfter s.freeEntry })
                fun hq hc => hc.moveCash (n := w.number)
                  (f := fun v => v.onSums c fun y => { y with transferOut := y.transferOut + (n : Int) }) rfl
                  (fun v => onSums_number v c _) (fun v hv => ?_)
                (fun b z hb hz hwait hzn v hv k => ?_) (fun v' hv' hbal hne => ?_) fun v hv hbal => ?_
              · obtain rfl : w = v := Option.some.inj (hwk.symm.trans hv)
                refine solvent_onSums (hc.solvent w (findKey_mem hwk)) ?_
                simp only [Sums.position] at hshort ⊢
                omega
              · have hholder := (hc.funded b z hb hz hwait _ hzn).1
                obtain ⟨u, hu, hun, -, hus⟩ := h.attended.keeper hz
                have hof : s.tellerOf u.number = some u := findKey_of_mem (pairwise_lt_nodup h.attended.1) hu
                rw [← hun, hof, Option.bind_some] at hholder
                have hnum := hc.holders u hu x hin (by rw [hholder]; rfl) (hholder.trans hheld.symm)
                have hof' : s.tellerOf x.number = some x := findKey_of_mem (pairwise_lt_nodup h.attended.1) hin
                obtain rfl : u = x := Option.some.inj (hof.symm.trans (hnum ▸ hof'))
                rw [hus, txnAt_drop hz] at hat
                obtain rfl : b = a := Option.some.inj hat
                simp only [State.hasWork, Bool.or_eq_false_iff, Option.isSome_eq_false_iff, Option.isNone_iff_eq_none] at hwork
                rw [hwork.1] at hz
                cases hz
              · have hno := (hc.declared v' hv' hbal).2.1
                have hne' : v'.number ≠ m := fun he => by
                  have : s.drawerAt m = some v' := he ▸ findKey_of_mem (drawers_nodup hc.drawers) hv'
                  exact (hfree hq).2 ((Option.some.inj (this.symm.trans hv)) ▸ hbal)
                unfold State.transitNames at hno ⊢
                simp only [List.any_eq_false] at hno ⊢
                intro u hu
                rcases List.mem_append.1 hu with hu | hu
                · exact hno u hu
                · rw [List.mem_singleton.1 hu]
                  simp [Ne.symm hne, Ne.symm hne']
              · obtain rfl : w = v := Option.some.inj (hwk.symm.trans hv)
                rw [onSums_balance] at hbal
                exact absurd hbal (hfree hq).1
            exact hmoved.alike (.handOver (.queueHolder (.judgeCashHigh (.setRelease (.writeRecord (.refl _) (by nofun))))) rfl)

theorem State.Orderly.asHolder {f : Teller → Drawer → State} (h : s.Orderly p q)
    (hf : ∀ x w, s.tellerAt a = some x → s.hasWork a = false → x.heldDrawer.bind s.drawerAt = some w → (f x w).Orderly p q) :
    (s.asHolder a f).Orderly p q := by
  refine h.asCashier fun x hx hwork => ?_
  split
  · next w hw => exact hf x w hx hwork hw
  · exact h.answer

theorem State.Orderly.transferOut {o : Option Currency} (h : s.Orderly p q) : (s.transferOut a m o n).Orderly p q := by
  refine h.asHolder fun x w hx hwork hw => ?_
  split
  · exact h.answer
  · next hr => exact h.give hx hwork hw hr
  · exact h.answer

theorem State.Orderly.transferAccept (h : s.Orderly p q) : (s.transferAccept a n).Orderly p q := by
  refine h.asHolder fun x w _ _ hw => ?_
  split
  · exact h.answer
  · next e he =>
    split
    · exact h.answer
    · next hne =>
      split
      · exact h.answer
      · have hmoved : ((s.addTransferIn w.number e.currency e.amount).removeTransit n).Orderly p q :=
          h.takeTransit (F := fun c => { c with
              drawers := modifyKey Drawer.number w.number
                (fun v => v.onSums e.currency fun y => { y with transferIn := y.transferIn + (e.amount : Int) }) c.drawers
              transit := eraseKey TransitEntry.number n c.transit }) he (.inr (not_not.1 hne)) rfl rfl fun u => by
            simp only [Sums.position]
            omega
        exact (hmoved.alike (.answer (.queueHolder (.judgeCashHigh (.setRelease (.writeRecord (.refl _) (by nofun))))))).judgeExit

theorem State.Orderly.transferRecall (h : s.Orderly p q) : (s.transferRecall a n).Orderly p q := by
  refine h.asCashier fun x _ _ => ?_
  split
  · exact h.answer
  · next e he =>
    split
    · exact h.answer
    · split
      · exact h.answer
      · have hmoved : ((s.addTransferOut e.source e.currency (-(e.amount : Int))).removeTransit n).Orderly p q :=
          h.takeTransit (F := fun c => { c with
              drawers := modifyKey Drawer.number e.source
                (fun v => v.onSums e.currency fun y => { y with transferOut := y.transferOut + -(e.amount : Int) }) c.drawers
              transit := eraseKey TransitEntry.number n c.transit }) he (.inl rfl) rfl rfl fun u => by
            simp only [Sums.position]
            omega
        have hrec := hmoved.alike (t := (((s.addTransferOut e.source e.currency (-(e.amount : Int))).removeTransit n).writeRecord
          (transferRecord .recall e a x.number (some e.seq)))) (.writeRecord (.refl _) (by nofun))
        dsimp only
        split
        · exact (hrec.alike (.answer (.queueHolder (.judgeCashHigh (.setRelease (.refl _)))))).judgeExit
        · exact (hrec.alike (.answer (.queueHolder (.judgeCashHigh (.refl _))))).judgeExit

/-! ### Counts -/

/-- In BALANCING no transaction waits (R164). -/
theorem State.Covered.none_waits (h : s.Covered e) (hd : s.dyc.day = .balancing) (hy : s.txnAt a = some y) :
    y.waits = false := by
  rw [Txn.waits, h.drained (by rw [hd]; rfl) a y hy]
  rfl

/-- A drawer whose differences have been taken (R71). -/
def Drawer.adjusted (home foreign : Int) (w : Drawer) : Drawer :=
  { w with
    home := { w.home with overShort := w.home.overShort + home }
    foreign := { w.foreign with overShort := w.foreign.overShort + foreign }
    balance := .balanced }

/-- The differences of a declaration bring a drawer to the declared amounts (R71). -/
theorem State.Orderly.takeDifferences {x : Declaration} (h : s.Orderly p q) (hday : q → s.dyc.day = .balancing)
    (hx : q → ∀ w, s.drawerAt n = some w → x.Closes w) : (s.takeDifferences n x.diffHome x.diffForeign).Orderly p q := by
  have hmoved : (s.onCsu fun c => { c with
      drawers := modifyKey Drawer.number n (Drawer.adjusted x.diffHome x.diffForeign) c.drawers
      netHome := c.netHome + x.diffHome, netForeign := c.netForeign + x.diffForeign }).Orderly p q := by
    refine h.onCsu fun hq hc => hc.moveCash (n := n) (f := Drawer.adjusted x.diffHome x.diffForeign) rfl (fun w => rfl)
      (fun w hw => ?_) (fun b z _ hz hwait _ w hw k => ?_) (fun w hw hbal _ => (hc.declared w hw hbal).2.1) fun w hw hbal => by cases hbal
    · obtain ⟨h1, h2⟩ := hx hq w hw
      simp only [Sums.position, Drawer.adjusted] at h1 h2 ⊢
      omega
    · rw [hc.none_waits (hday hq) hz] at hwait
      cases hwait
  exact hmoved.alike (.judgeCashHigh (.refl _))

/-- A declaration that accounts for a drawer's positions becomes its last one, the drawer DUE or HELD still (R84). -/
theorem State.Orderly.modifyDeclared {x : Declaration} {f : Drawer → Drawer} (h : s.Orderly p q)
    (hday : q → s.dyc.day = .balancing) (ht : q → s.transitNames n = false)
    (hx : q → ∀ w, s.drawerAt n = some w → x.Closes w)
    (hf : ∀ w, (f w).number = w.number ∧ (f w).home = w.home ∧ (f w).foreign = w.foreign)
    (hd : ∀ w, s.drawerAt n = some w → (f w).declaration = some x) : (s.modifyDrawer n f).Orderly p q := by
  refine h.onCsu fun hq hc => hc.modifyDrawer (fun w => (hf w).1) (fun w hw c => ?_) fun w hw _ _ => ⟨hday hq, ?_, fun z hz => ?_⟩
  · obtain ⟨-, hh, hfo⟩ := hf w
    cases c
    · exact (congrArg Sums.position hh).ge
    · exact (congrArg Sums.position hfo).ge
  · rw [(hf w).1, drawerAt_number hw]
    exact ht hq
  · obtain ⟨-, hh, hfo⟩ := hf w
    obtain rfl : x = z := Option.some.inj ((hd w hw).symm.trans hz)
    rw [hh, hfo]
    exact hx hq w hw

theorem drawerAt_modified {f : Drawer → Drawer} (hf : ∀ v, (f v).number = v.number) (hw : s.drawerAt n = some w) :
    (s.modifyDrawer n f).drawerAt n = some (f w) := by
  rw [drawerAt_modifyDrawer fun v hv => (hf v).trans hv, hw, Option.map_some, if_pos rfl]

/-- An accepted declaration balances its drawer, or holds it (R84). -/
theorem State.Orderly.acceptCount {x : Declaration} (h : s.Orderly p q) (hw : s.drawerAt w.number = some w)
    (hday : s.dyc.day = .balancing) (ht : s.transitNames w.number = false) (hx : x.Closes w) :
    (s.acceptCount a w x).Orderly p q := by
  have hdecl : (s.modifyDrawer w.number fun w => { w with declaration := some x }).Orderly p q :=
    h.modifyDeclared (fun _ => hday) (fun _ => ht)
      (fun _ v hv => (Option.some.inj (hw.symm.trans hv)) ▸ hx) (fun _ => ⟨rfl, rfl, rfl⟩) fun _ _ => rfl
  have hat : (s.modifyDrawer w.number fun w => { w with declaration := some x }).drawerAt w.number =
      some { w with declaration := some x } := drawerAt_modified (fun _ => rfl) hw
  unfold State.acceptCount
  dsimp only
  split
  · have hclosed := hdecl.takeDifferences (n := w.number) (x := x) (fun _ => hday) fun _ v hv => by
      obtain rfl := Option.some.inj (hat.symm.trans hv)
      exact hx
    exact (hclosed.alike (.handOver (.writeRecord (.refl _) (by nofun)) rfl)).judgeExit
  · have hheld := hdecl.modifyDeclared (n := w.number) (x := x) (f := fun w => { w with balance := .held }) (fun _ => hday)
      (fun _ => ht) (fun _ v hv => ?_) (fun _ => ⟨rfl, rfl, rfl⟩) fun v hv => ?_
    · exact hheld.alike (.handOver (.refl _) rfl)
    · obtain rfl := Option.some.inj (hat.symm.trans hv)
      exact hx
    · obtain rfl := Option.some.inj (hat.symm.trans hv)
      rfl

theorem State.Orderly.countDeclare {x : Counts} (h : s.Orderly p q) : (s.countDeclare a x).Orderly p q := by
  refine h.asHolder fun t w _ _ hw => ?_
  obtain ⟨k, -, hwk⟩ := Option.bind_eq_some_iff.1 hw
  obtain rfl : w.number = k := drawerAt_number hwk
  split
  · exact h.answer
  · next hr =>
    unfold State.countRefusal at hr
    split at hr
    · cases hr
    · next hday =>
      rw [not_or, not_not] at hday
      split at hr
      · cases hr
      · next htr =>
        refine h.acceptCount hwk hday.1 (by simpa using htr) ?_
        constructor <;> simp only [State.declare] <;> omega

theorem State.Orderly.acceptDifference (h : s.Orderly p q) : (s.acceptDifference a n).Orderly p q := by
  refine h.asSupervisor fun x _ => ?_
  split
  · exact h.answer
  · next w y hw =>
    split
    · exact h.answer
    · split
      · exact h.answer
      · split
        · exact h.answer
        · obtain ⟨v, hv, hmap⟩ := Option.bind_eq_some_iff.1 hw
          obtain ⟨hat, hbal⟩ := Option.filter_eq_some_iff.1 hv
          obtain ⟨z, hz, heq⟩ := Option.map_eq_some_iff.1 hmap
          obtain ⟨rfl, rfl⟩ := Prod.mk.injEq .. ▸ heq
          have hheld : v.balance = .held := by simpa using hbal
          have hmoved := h.takeDifferences (n := n) (x := z) (fun hq => ((h.covered hq).declared v (findKey_mem hat) hheld).1)
            fun hq w hw => by
              obtain rfl : v = w := Option.some.inj (hat.symm.trans hw)
              exact ((h.covered hq).declared v (findKey_mem hat) hheld).2.2 z hz
          exact (hmoved.alike (.answer (.writeRecord (.refl _) (by nofun)))).judgeExit

theorem State.Orderly.forceBalance (h : s.Orderly p q) : (s.forceBalance a n).Orderly p q := by
  refine h.asSupervisor fun x _ => ?_
  split
  · exact h.answer
  · have hmoved : (s.modifyDrawer n fun w => { w with balance := .balanced }).Orderly p q :=
      h.onCsu fun _ hc => hc.modifyDrawer (fun _ => rfl) (fun w _ c => by cases c <;> exact le_rfl) fun _ _ _ hbal => by cases hbal
    exact (hmoved.alike (.answer (.writeRecord (.refl _) (by nofun)))).judgeExit

/-! ### The roll to the new day -/

theorem roll_position (x : Sums) : x.roll.position = x.position := by
  simp only [Sums.roll, Sums.position]
  omega

theorem State.Orderly.rollDrawers (h : s.Orderly p q) : s.rollDrawers.Orderly p q := by
  have hmoved : (s.onCsu fun c => { c with drawers := c.drawers.map Drawer.roll, netHome := 0, netForeign := 0 }).Orderly p q :=
    h.onCsu fun _ hc => hc.onDrawers rfl (fun _ => rfl) (fun w _ c => by
      cases c
      · exact (roll_position w.home).ge
      · exact (roll_position w.foreign).ge) fun _ _ _ hbal => by cases hbal
  exact hmoved.alike (.foldl (fun _ _ g => g.judgeCashHigh) _ (.refl _))

end Sys2Proof.Machine
end

section
/-! SUPPORT. Sessions and the close of the counter keep the work items and the cash in order (R22 to R30, R161 to R166). -/

namespace Sys2Proof.Machine

variable {p q : Prop} {r s t : State} {a b n m i : Nat} {x y : Teller} {z : Txn} {e : Option Nat}

/-! ### One teller changes -/

theorem tellerOf_mem (h : s.WorkAttended) (hx : x ∈ s.rqu.tellers) : s.tellerOf x.number = some x :=
  findKey_of_mem (pairwise_lt_nodup h.1) hx

/-- The one teller of a number changes, with no duty changed. -/
theorem State.Orderly.modifyTellerOf {f : Teller → Teller} (h : s.Orderly p q) (hx : s.tellerOf n = some x)
    (hf : (f x).duty = x.duty) : (s.modifyTeller n f).Orderly p q := by
  refine h.alike (State.Alike.onRqu (.refl s) ?_ rfl rfl rfl)
  show (modifyKey Teller.number n f s.rqu.tellers).map Teller.duty = _
  rw [modifyKey, List.map_map]
  refine List.map_congr_left fun v hv => ?_
  by_cases hn : v.number = n
  · have hsame : x = v := Option.some.inj (hx.symm.trans (hn ▸ tellerOf_mem h.attended hv))
    simp [hn, hsame ▸ hf]
  · simp [hn]

/-- One teller changes who attends no transaction and takes no drawer that another holds. -/
theorem State.Orderly.changeTeller {f : Teller → Teller} (h : s.Orderly p q) (hx : s.tellerOf n = some x)
    (hn : ∀ v, (f v).number = v.number) (hfree : ∀ b z, s.txnAt b = some z → z.teller ≠ n)
    (hc : closedDay s.dyc.day = true → (f x).signedOn = false)
    (hd : q → (f x).heldDrawer.isSome = true → ∀ v ∈ s.rqu.tellers, v.heldDrawer = (f x).heldDrawer → v.number = n) :
    (s.modifyTeller n f).Orderly p q := by
  have hsame : ∀ v ∈ s.rqu.tellers, v.number = n → v = x := fun v hv hvn =>
    Option.some.inj ((hvn ▸ tellerOf_mem h.attended hv).symm.trans hx)
  have hother : ∀ k, k ≠ n → (s.modifyTeller n f).tellerOf k = s.tellerOf k := fun k hk => by
    rw [tellerOf_modifyTeller fun v hv => (hn v).trans hv]
    cases s.tellerOf k <;> simp [hk]
  have hmem : ∀ v ∈ (s.modifyTeller n f).rqu.tellers, (v ∈ s.rqu.tellers ∧ v.number ≠ n) ∨ v = f x := fun v hv => by
    obtain ⟨u, hu, rfl⟩ := List.mem_map.1 hv
    by_cases hun : u.number = n
    · exact .inr (by rw [if_pos hun, hsame u hu hun])
    · exact .inl (by rw [if_neg hun]; exact ⟨hu, hun⟩)
  refine ⟨⟨?_, h.attended.2.1, fun z hz => ?_, fun hday => ?_, h.attended.2.2.2.2⟩, h.nets, fun hq => ?_, fun hq => ?_⟩
  · show ((modifyKey Teller.number n f s.rqu.tellers).map Teller.number).Pairwise _
    rw [modifyKey_map_key fun v hv => (hn v).trans hv]
    exact h.attended.1
  · obtain ⟨v, hv, h1, h2, h3⟩ := h.attended.2.2.1 z hz
    have hne : v.number ≠ n := h1 ▸ hfree z.drop z ((txnAt_iff h.attended).2 ⟨hz, rfl⟩)
    exact ⟨v, List.mem_map.2 ⟨v, hv, if_neg hne⟩, h1, h2, h3⟩
  · have hnobody := nobody_of_closed h.attended hday
    simp only [State.nobodySignedOn, List.all_eq_true, Bool.not_eq_true'] at hnobody ⊢
    intro v hv
    rcases hmem v hv with ⟨hv, -⟩ | rfl
    · exact hnobody v hv
    · exact hc hday
  · obtain ⟨h1, h2, h3, h4, h5, h6, h7, h8⟩ := h.placed hq
    exact ⟨h1, h2, h3, h4, h5, h6, h7, h8⟩
  · have g := h.covered hq
    have hxn : (f x).number = n := (hn x).trans (tellerOf_number hx)
    refine ⟨g.drawers, g.solvent, fun u hu v hv hsome heq => ?_, g.drained, fun b z hb hz hwait k hk => ?_, g.declared⟩
    · rcases hmem u hu with ⟨hu, hun⟩ | rfl
      · rcases hmem v hv with ⟨hv, -⟩ | rfl
        · exact g.holders u hu v hv hsome heq
        · exact (hd hq (heq ▸ hsome) u hu heq).trans hxn.symm
      · rcases hmem v hv with ⟨hv, -⟩ | rfl
        · exact hxn.trans (hd hq hsome v hv heq.symm).symm
        · rfl
    · obtain ⟨h1, h2⟩ := g.funded b z hb hz hwait k hk
      refine ⟨?_, h2⟩
      rw [hother z.teller (hfree b z hz)]
      exact h1

theorem State.Alike.sessionRecord {body : RecordBody} {o : Option Nat} (h : r.Alike s) : r.Alike (s.sessionRecord x body a o) := by
  unfold State.sessionRecord
  split
  · exact h
  · exact h.writeRecord nofun

theorem State.Alike.assignDrawer (h : r.Alike s) : r.Alike (s.assignDrawer x) := by
  unfold State.assignDrawer
  split
  · exact h
  · split
    · exact h.modifyDrawer fun _ => rfl
    · exact h

/-! ### Sign-on -/

/-- A teller who is not signed on attends no transaction. -/
theorem unattended_of_off (h : s.WorkAttended) (hx : s.tellerOf n = some x) (hoff : x.signedOn = false) {z : Txn}
    (hz : s.txnAt b = some z) : z.teller ≠ n := by
  obtain ⟨v, hv, h1, h2, -⟩ := h.keeper hz
  intro he
  have hsame : x = v := Option.some.inj (hx.symm.trans ((h1.trans he) ▸ tellerOf_mem h hv))
  rw [← hsame, hoff] at h2
  cases h2

theorem State.Orderly.beginSession (h : s.Orderly p q) (hx : s.tellerOf n = some x) (hoff : x.signedOn = false)
    (hday : closedDay s.dyc.day = false) (ht : s.drawerTaken x = false) : (s.beginSession a x).Orderly p q := by
  have hxn := tellerOf_number hx
  have hbegun : (s.modifyTeller x.number fun v => v.begin a).Orderly p q := by
    rw [hxn]
    refine h.changeTeller hx (fun _ => rfl) (fun b z hz => unattended_of_off h.attended hx hoff hz) (fun hc => ?_)
      fun _ hsome v hv hheld => ?_
    · rw [hday] at hc; cases hc
    · have hheld' : (x.begin a).heldDrawer = if x.training then none else x.drawer := by
        cases htr : x.training <;> simp [Teller.heldDrawer, Teller.begin, Teller.signedOn, htr]
      rw [hheld'] at hsome hheld
      cases htr : x.training with
      | true => simp [htr] at hsome
      | false =>
        simp only [htr, Bool.false_eq_true, if_false] at hsome hheld
        obtain ⟨d, hdr⟩ := Option.isSome_iff_exists.1 hsome
        have htaken : (s.holderOf d).any (fun x' => x'.number != x.number) = false := by
          simpa [State.drawerTaken, htr, hdr] using ht
        obtain ⟨u, hu⟩ : ∃ u, s.holderOf d = some u := by
          by_contra hno
          have hnone := Option.eq_none_iff_forall_ne_some.2 fun u hu => hno ⟨u, hu⟩
          have := List.find?_eq_none.1 hnone v hv
          simp [hheld, hdr] at this
        have hun : u.number = x.number := by simpa [hu] using htaken
        have hufound := List.find?_some hu
        have huin : u ∈ s.rqu.tellers := List.mem_of_find?_eq_some hu
        have hsame : x = u := Option.some.inj (hx.symm.trans ((hun.trans hxn) ▸ tellerOf_mem h.attended huin))
        rw [← hsame] at hufound
        simp [Teller.heldDrawer, hoff] at hufound
  exact hbegun.alike (.handOver (.queueStatus (.assignDrawer (.sessionRecord (.refl _)))) rfl)

theorem State.Orderly.checkSignOn (h : s.Orderly p q) (hx : s.tellerOf n = some x) (hday : closedDay s.dyc.day = false) :
    (s.checkSignOn a x m).Orderly p q := by
  unfold State.checkSignOn
  split
  · exact h.answer
  · split
    · exact h.answer
    · next hoff =>
      have hoff' : x.signedOn = false := by simpa using hoff
      split
      · have hxn := tellerOf_number hx
        have hfail : x.fail.duty = x.duty := by
          have hno : x.fail.signedOn = false := by
            unfold Teller.fail Teller.signedOn
            dsimp only
            split
            · rfl
            · exact hoff'
          simp only [Teller.duty, Teller.heldDrawer, hno, hoff', Bool.false_and, Bool.false_eq_true, if_false]
          rfl
        rw [hxn]
        exact (h.modifyTellerOf hx hfail).answer
      · split
        · exact h.answer
        · next ht =>
          split
          · exact h.beginSession hx hoff' hday (by simpa using ht)
          · exact h.answer

theorem State.Orderly.signOn (h : s.Orderly p q) : (s.signOn a n m).Orderly p q := by
  unfold State.signOn
  split
  · exact h.answer
  · split
    · exact h.answer
    · next hday =>
      split
      · exact h.answer
      · split
        · exact h.answer
        · next hx =>
          refine h.checkSignOn hx ?_
          generalize s.dyc.day = d at hday
          revert hday
          cases d <;> simp [signOnDay, closedDay]

/-! ### Sign-off -/

/-- A session ends whose drop has no transaction (R26, R29). -/
theorem State.Orderly.endTellerSession {o : Option Nat} (h : s.Orderly p q) (hx : s.tellerOf n = some x)
    (hfree : ∀ b, x.station = some b → s.txnAt b = none) : (s.endTellerSession a x o).Orderly p q := by
  have hxn := tellerOf_number hx
  have g := h.alike (t := s.sessionRecord x .signOff a o) (.sessionRecord (.refl s))
  have hrqu : (s.sessionRecord x .signOff a o).rqu = s.rqu := by simp
  have hx' : (s.sessionRecord x .signOff a o).tellerOf n = some x := (tellerOf_congr hrqu).trans hx
  have hended : ((s.sessionRecord x .signOff a o).modifyTeller x.number Teller.finish).Orderly p q := by
    rw [hxn]
    refine g.changeTeller hx' (fun _ => rfl) (fun b z hz he => ?_) (fun _ => rfl) fun _ hsome => ?_
    · obtain ⟨v, hv, h1, -, h3⟩ := g.attended.keeper hz
      have hsame : x = v := Option.some.inj (hx'.symm.trans ((h1.trans he) ▸ tellerOf_mem g.attended hv))
      rw [← hsame, txnAt_drop hz] at h3
      rw [txnAt_congr hrqu, hfree b h3] at hz
      cases hz
    · cases hsome
  exact hended.alike (.queueStatus (.clearRelease (.refl _)))

theorem State.Orderly.signOff (h : s.Orderly p q) : (s.signOff a).Orderly p q := by
  refine h.asTeller fun x hx => ?_
  obtain ⟨hin, -, hat⟩ := tellerAt_on hx
  split
  · exact h.answer
  · next hw =>
    split
    · exact h.answer
    · split
      · have hno : s.txnAt a = none := by
          simp only [State.hasWork, Bool.or_eq_true, not_or, Option.isSome_iff_ne_none, not_not] at hw
          exact hw.1
        have hended : (s.endTellerSession a x none).Orderly p q :=
          h.endTellerSession (tellerOf_mem h.attended hin) fun b hb => by
            rw [hat] at hb
            exact Option.some.inj hb ▸ hno
        exact hended.answer.judgeExit
      · exact h.answer

/-- The transaction of an idle drop ends, with no final reply of it left (R8, R29). -/
theorem State.Orderly.endTxnAt (h : s.Orderly p q) (hi : q → s.Idle a) (hz : q → s.finalsAt a = 0) :
    (s.endTxn a).Orderly p q := by
  have hother : ∀ b, b ≠ a → (s.endTxn a).txnAt b = s.txnAt b := fun b hb => by rw [txnAt_endTxn, if_neg hb]
  have hgone : (s.endTxn a).txnAt a = none := by rw [txnAt_endTxn, if_pos rfl]
  refine ⟨h.attended.endTxn, h.nets, fun hq => ?_, fun hq => ?_⟩
  · by_cases hf : s.fetchAt a = none
    · refine (h.placed hq).atDrop (hi hq) hf rfl rfl rfl rfl hother (fun _ _ => le_rfl) ?_
      have hzero : (s.endTxn a).finalsAt a = 0 := hz hq
      rw [hzero]
      exact ⟨Nat.zero_le _, nofun⟩
    · have hnone : s.txnAt a = none := by
        by_contra hne
        obtain ⟨y, hy⟩ := Option.ne_none_iff_exists'.1 hne
        exact hf ((h.placed hq).alone a y hy)
      have hsame : s.endTxn a = s := by
        have herase : eraseKey Txn.drop a s.rqu.txns = s.rqu.txns := eraseKey_absent hnone
        unfold State.endTxn
        rw [State.onRqu, herase]
      exact hsame.symm ▸ h.placed hq
  · refine State.Covered.closed (a := a) (((h.covered hq).opened a).atDrop (f := fun r => { r with
      txns := eraseKey Txn.drop a r.txns }) rfl hother fun _ y hy => ?_) fun y hy => ?_
    · cases hgone.symm.trans hy
    · cases hgone.symm.trans hy

theorem Drop.discardFinal_finals (d : Drop) : d.discardFinal.finals = 0 := by
  have hb : (d.begun.filter fun b => !isFinal b.msg).map Begun.msg = (d.begun.map Begun.msg).filter fun m => !isFinal m := by
    rw [List.filter_map]; rfl
  have hno : ∀ l : List DownMessage, (l.filter fun m => !isFinal m).countP isFinal = 0 := fun l => by
    rw [List.countP_eq_zero]
    exact fun m hm => by simpa using (List.mem_filter.1 hm).2
  unfold Drop.finals Drop.discardFinal
  dsimp only
  rw [hb, hno, hno]
  rfl

theorem finalsAt_discard : (s.modifyDrop a Drop.discardFinal).finalsAt a = 0 := by
  unfold State.finalsAt
  rw [dropAt_modifyDrop (f := Drop.discardFinal) fun _ h => h]
  cases s.dropAt a with
  | none => rfl
  | some d => simpa using d.discardFinal_finals

theorem State.Alike.discardFinal (h : r.Alike s) : r.Alike (s.modifyDrop a Drop.discardFinal) :=
  h.modifyDrop fun d => ⟨rfl, d.discardFinal_finals.trans_le (Nat.zero_le _)⟩

/-- A decided work item's reply is discarded, and the work item ends (R29). -/
theorem State.Orderly.discardReply (h : s.Orderly p q) (hd : ∀ y, s.txnAt a = some y → y.stage = .answered) :
    (s.discardReply a).Orderly p q := by
  unfold State.discardReply
  split
  · next hsome =>
    obtain ⟨y, hy⟩ := Option.isSome_iff_exists.1 hsome
    have g := h.alike (.discardFinal (a := a) (.refl s))
    refine g.endTxnAt (fun hq => (g.placed hq).idle_txn (y := y) hy ?_) fun _ => finalsAt_discard
    rw [Txn.waits, hd y hy]
    rfl
  · exact h

theorem txnAt_discardReply : (s.discardReply a).txnAt a = none := by
  unfold State.discardReply
  split
  · rw [txnAt_endTxn, if_pos rfl]
  · next h => simpa using h

theorem State.Orderly.forceSignOff (h : s.Orderly p q) : (s.forceSignOff a n).Orderly p q := by
  refine h.asSupervisor fun sup _ => ?_
  split
  · exact h.answer
  · next x hx =>
    obtain ⟨hof, -⟩ := Option.filter_eq_some_iff.1 hx
    dsimp only
    split
    · exact h.answer
    · split
      · exact h.answer
      · next hdec =>
        split
        · have g : (s.discardReply (x.station.getD 0)).Orderly p q := h.discardReply fun y hy => by
            rw [hy] at hdec
            simpa using hdec
          have hstaff : (s.discardReply (x.station.getD 0)).rqu.tellers = s.rqu.tellers := by
            unfold State.discardReply
            split <;> rfl
          have hof' : (s.discardReply (x.station.getD 0)).tellerOf n = some x := by
            rw [State.tellerOf, hstaff]; exact hof
          have hended : ((s.discardReply (x.station.getD 0)).endTellerSession (x.station.getD 0) x
              (some sup.number)).Orderly p q := g.endTellerSession hof' fun b hb => by
            rw [hb, Option.getD_some]
            exact txnAt_discardReply
          exact hended.answer.judgeExit
        · exact h.answer

theorem State.Orderly.unlock (h : s.Orderly p q) : (s.unlock a n).Orderly p q := by
  refine h.asSupervisor fun _ _ => ?_
  split
  · next hl =>
    obtain ⟨x, hx, hlock⟩ := (Option.any_eq_true _ _).1 hl
    have hoff : x.session = .lockedOut := by simpa using hlock
    exact (h.modifyTellerOf hx (by simp [Teller.duty, Teller.heldDrawer, Teller.signedOn, hoff]; rfl)).answer
  · exact h.answer

/-! ### Suspension -/

theorem State.Alike.onSessionsAt {f : Teller → Teller} (h : r.Alike s) (hf : ∀ x, (f x).duty = x.duty) :
    r.Alike (s.onSessionsAt a f) := by
  refine h.onRqu ?_ rfl rfl rfl
  show (s.rqu.tellers.map fun x => if x.station = some a then f x else x).map Teller.duty = _
  rw [List.map_map]
  refine List.map_congr_left fun x _ => ?_
  by_cases hx : x.station = some a <;> simp [hx, hf]

theorem State.Alike.suspendAt (h : r.Alike s) : r.Alike (s.suspendAt a) := h.onSessionsAt fun x => by
  split
  · next hs => simp [Teller.duty, Teller.heldDrawer, Teller.signedOn, hs]
  · rfl

theorem State.Alike.resumeAt (h : r.Alike s) : r.Alike (s.resumeAt a) := h.onSessionsAt fun x => by
  split
  · next hs => simp [Teller.duty, Teller.heldDrawer, Teller.signedOn, hs]
  · rfl

/-! ### The close -/

theorem State.Orderly.onProposal {f : Dyc → Dyc} (h : s.Orderly p q) (hd : (f s.dyc).day = s.dyc.day)
    (hb : (f s.dyc).blockTimer = s.dyc.blockTimer) : (s.onDyc f).Orderly p q := h.alike (.onDyc (.refl s) hd hb)

theorem State.Orderly.abandonClose (h : s.Orderly p q) (hd : s.dyc.day = .closeProposed) : s.abandonClose.Orderly p q := by
  have g : (s.onDyc fun y => { y with proposal := none }).Orderly p q := h.onProposal rfl rfl
  exact g.setOpenDay (by simp [hd]) rfl

theorem State.Orderly.drainHold (h : s.Orderly p q) : (s.drainHold a).Orderly p q := by
  unfold State.drainHold
  split
  · next hy => exact h.endHoldWith hy
  · exact h

theorem State.Orderly.foldl {α : Type} {f : State → α → State} (hf : ∀ s x, s.Orderly p q → (f s x).Orderly p q)
    (l : List α) (h : s.Orderly p q) : (l.foldl f s).Orderly p q := by
  induction l generalizing s with
  | nil => exact h
  | cons x xs ih => exact ih (hf s x h)

theorem State.Orderly.enterDrain (h : s.Orderly p q) (hd : s.dyc.day = .closeProposed) : (s.enterDrain n).Orderly p q := by
  have g : (s.onDyc fun y => { y with
      proposal := y.proposal.map fun p => { p with confirmer := some n, window := .stopped } }).Orderly p q :=
    h.onProposal rfl rfl
  exact ((g.setOpenDay (by simp [hd]) rfl : (State.setDay _ .closeDrain).Orderly p q).foldl
    (fun _ _ k => k.drainHold) _).judgeDrain

theorem State.Orderly.closePropose (h : s.Orderly p q) : (s.closePropose a).Orderly p q := by
  refine h.asSupervisor fun x _ => ?_
  split
  · next hd =>
    have g : (s.onDyc fun y => { y with proposal := some ⟨x.number, none, .running Config.holdSeconds⟩ }).Orderly p q :=
      h.onProposal rfl rfl
    exact (g.setOpenDay (by simp [hd]) rfl).answer
  · exact h.answer

theorem State.Orderly.closeConfirm (h : s.Orderly p q) : (s.closeConfirm a).Orderly p q := by
  refine h.asSupervisor fun x _ => ?_
  split
  · exact h.answer
  · next hd =>
    rw [not_not] at hd
    split
    · exact (h.abandonClose hd).answer
    · exact h.answer.enterDrain (by simpa using hd)

theorem State.Orderly.closeWithdraw (h : s.Orderly p q) : (s.closeWithdraw a).Orderly p q := by
  refine h.asSupervisor fun x _ => ?_
  split
  · next hd => exact (h.abandonClose hd).answer
  · exact h.answer

theorem State.Orderly.windowExpiry (h : s.Orderly p q) : s.windowExpiry.Orderly p q := by
  unfold State.windowExpiry
  split
  · next hd => exact h.abandonClose hd.1
  · exact h

end Sys2Proof.Machine
end

section
/-! SUPPORT. Link supervision, the frames of the trunk and its replies keep the work items and the cash in order (R50,
R54 to R58, R89 to R106, R116 to R125). -/

namespace Sys2Proof.Machine

variable {p q : Prop} {r s t : State} {a b n m i : Nat} {y z : Txn} {f : Fetch} {x : OnlineSlot}

/-! ### Link supervision -/

theorem State.Orderly.resumeBatch {k : Bool} (h : s.Orderly p q) (hc : closedDay s.dyc.day = true) :
    (s.resumeBatch m n k).Orderly p q := by
  unfold State.resumeBatch
  split
  · next b _ =>
    have g : (s.onDyc fun y => { y with
        batch := some { b with oldest := m, next := n, attempts := 0, trailer := k }
        resumed := decide (n ≤ b.blocks + 1) }).Orderly p q := h.onProposal rfl rfl
    exact g.setClosedDay hc rfl (.inr rfl) fun _ hday => by rcases hday with hday | hday <;> cases hday
  · exact h

theorem State.Orderly.resumeOnline (h : s.Orderly p q) : s.resumeOnline.Orderly p q := by
  unfold State.resumeOnline
  split
  · next hd _ => exact h.resumeBatch (by rw [hd]; rfl)
  · exact h

theorem State.Orderly.reportOnline (h : s.Orderly p q) : s.reportOnline.Orderly p q :=
  h.serveWaitList.resumeOnline.alike (.reportLost (.refl _))

theorem State.Orderly.reportOffline (h : s.Orderly p q) : s.reportOffline.Orderly p q := by
  unfold State.reportOffline
  split
  · next hd => exact h.stall (by rw [hd]; rfl)
  · exact h

theorem State.Orderly.enterLink {l : LinkState} (h : s.Orderly p q) : (s.enterLink l).Orderly p q := by
  have h1 : (s.onTkc fun t => { t with link := l }).Orderly p q := h.alike (.onTkc (.refl s) rfl)
  have h2 : (if shownLink s.tkc.link = shownLink l then s.onTkc fun t => { t with link := l }
      else (s.onTkc fun t => { t with link := l }).queueStatusAll).Orderly p q := by
    split
    · exact h1
    · exact h1.alike (.queueStatusAll (.refl _))
  unfold State.enterLink
  dsimp only
  generalize (if shownLink s.tkc.link = shownLink l then s.onTkc fun t => { t with link := l }
      else (s.onTkc fun t => { t with link := l }).queueStatusAll) = u at h2 ⊢
  have h3 : (if l = .online ∧ s.tkc.link ≠ .online then u.reportOnline else u).Orderly p q := by
    split
    · exact h2.reportOnline
    · exact h2
  generalize (if l = .online ∧ s.tkc.link ≠ .online then u.reportOnline else u) = v at h3 ⊢
  have h4 : (if s.tkc.link = .online ∧ l ≠ .online then v.reportOffline else v).Orderly p q := by
    split
    · exact h3.reportOffline
    · exact h3
  split
  · exact h4.redecideAll
  · exact h4

theorem State.Orderly.seeFrame (h : s.Orderly p q) : s.seeFrame.Orderly p q := by
  unfold State.seeFrame
  split
  · exact h.alike (.restartSupervision (.refl s))
  · exact h.enterLink.alike (.restartSupervision (.refl _))
  · exact h
  · exact h

theorem State.Orderly.setRun {o : Option Nat} (h : s.Orderly p q) : (s.setRun o n).Orderly p q := h.alike (.setRun (.refl s))

theorem State.Orderly.restartSupervision (h : s.Orderly p q) : s.restartSupervision.Orderly p q :=
  h.alike (.restartSupervision (.refl s))

theorem State.Orderly.countRun (h : s.Orderly p q) : (s.countRun n).Orderly p q := by
  unfold State.countRun
  split
  · split
    · exact h.setRun.enterLink.restartSupervision
    · exact h.setRun.restartSupervision
  · exact h.setRun.restartSupervision

theorem State.Orderly.startRun (h : s.Orderly p q) : (s.startRun n).Orderly p q := h.enterLink.setRun.restartSupervision

theorem State.Orderly.seeLineCheck (h : s.Orderly p q) : (s.seeLineCheck n).Orderly p q := by
  unfold State.seeLineCheck
  split
  · exact h.startRun
  · exact h.countRun
  · split
    · exact h.setRun.restartSupervision
    · exact h.startRun
  · split
    · exact h.setRun.enterLink.restartSupervision
    · exact h.startRun

theorem State.Orderly.onStats {g : LinkStats → LinkStats} (h : s.Orderly p q) : (s.onStats g).Orderly p q :=
  h.alike (.onStats (.refl s))

theorem State.Orderly.fallOffline (h : s.Orderly p q) : s.fallOffline.Orderly p q := by
  have g : ((s.enterLink .offline).stopSupervision.onTkc fun t => { t with runCount := 0 }).Orderly p q :=
    h.enterLink.alike (.onTkc (.onTkc (.refl _) rfl) rfl)
  exact g.onStats

theorem State.Orderly.supervisionExpiry (h : s.Orderly p q) : s.supervisionExpiry.Orderly p q := by
  unfold State.supervisionExpiry
  split
  · exact h
  · split
    · exact h.enterLink.restartSupervision
    · exact h.fallOffline
    · exact h.fallOffline
    · exact h

theorem State.Orderly.onFrame {k : FrameHeader} {g : State → State} (h : s.Orderly p q)
    (hg : ∀ u : State, u.Orderly p q → (g u).Orderly p q) : (s.onFrame k g).Orderly p q := by
  unfold State.onFrame
  split
  · exact hg _ h.seeFrame
  · exact h.onStats

theorem State.Orderly.onAnswered {k : FrameHeader} {g : State → State} (h : s.Orderly p q)
    (hg : ∀ u : State, u.Orderly p q → (g u).Orderly p q) : (s.onAnswered k g).Orderly p q := by
  unfold State.onAnswered
  split
  · split
    · exact hg _ h.seeFrame
    · exact h.seeFrame.onStats
  · exact h.onStats

theorem State.Orderly.pushNode {k : NodeEntry} (h : s.Orderly p q) : (s.pushNode k).Orderly p q := h.alike (.pushNode (.refl s))

theorem State.Orderly.lineCheck {k : FrameHeader} (h : s.Orderly p q) : (s.lineCheck k n).Orderly p q := by
  unfold State.lineCheck
  split
  · split
    · exact h.pushNode.seeLineCheck
    · exact h.seeFrame.onStats
  · exact h.onStats

/-! ### Frames start -/

/-- A transaction changes in what no invariant reads. -/
theorem State.Orderly.modifyTxn {f : Txn → Txn} (h : s.Orderly p q) (hd : ∀ y, (f y).drop = y.drop)
    (ht : ∀ y, (f y).teller = y.teller) (hs : ∀ y, (f y).stage = y.stage ∧ (f y).slot = y.slot)
    (hl : ∀ y, (f y).drawer = y.drawer ∧ (f y).legs = y.legs) : (s.modifyTxn a f).Orderly p q := by
  have hat : ∀ b, (s.modifyTxn a f).txnAt b = (s.txnAt b).map fun y => if b = a then f y else y := fun b =>
    txnAt_modifyTxn fun y hy => (hd y).trans hy
  have hview : ∀ (α : Type) (g : Txn → α), (∀ y, g (f y) = g y) → ∀ b,
      ((s.modifyTxn a f).txnAt b).map g = (s.txnAt b).map g := fun α g hg b => by
    rw [hat, Option.map_map]
    cases s.txnAt b with
    | none => rfl
    | some y =>
      by_cases hb : b = a <;> simp [hb, hg]
  have hany : ∀ (o : Option Txn) (g : Txn → Bool), o.any g = (o.map g).getD false := fun o g => by cases o <;> rfl
  have hstands : ∀ k b g o, (s.modifyTxn a f).standsAt k b g o = s.standsAt k b g o := fun k b g o => by
    cases k with
    | txnForward =>
      simp only [State.standsAt, hany]
      rw [hview Bool (fun y => y.stage == g && y.slot == o) fun y => by rw [(hs y).1, (hs y).2]]
    | passbookFetch => rfl
  have hanswered : ∀ b, (s.modifyTxn a f).answeredAt b = s.answeredAt b := fun b => by
    simp only [State.answeredAt, hany]
    rw [hview Bool (fun y => y.stage == .answered) fun y => by rw [(hs y).1]]
  have hkind : ∀ b, (s.modifyTxn a f).workKind b = s.workKind b := fun b => by
    have := hview Unit (fun _ => ()) (fun _ => rfl) b
    unfold State.workKind
    rw [show ((s.modifyTxn a f).txnAt b).isSome = (s.txnAt b).isSome by rw [hat, Option.isSome_map]]
  have hpre : ∀ b z, (s.modifyTxn a f).txnAt b = some z → ∃ y, s.txnAt b = some y ∧ z.stage = y.stage ∧ z.waits = y.waits ∧
      z.drawer = y.drawer ∧ z.legs = y.legs ∧ z.teller = y.teller := fun b z hz => by
    rw [hat] at hz
    obtain ⟨y, hy, rfl⟩ := Option.map_eq_some_iff.1 hz
    by_cases hb : b = a
    · refine ⟨y, hy, ?_⟩
      rw [if_pos hb, Txn.waits, Txn.waits, (hs y).1]
      exact ⟨rfl, rfl, (hl y).1, (hl y).2, ht y⟩
    · exact ⟨y, hy, by rw [if_neg hb]; exact ⟨rfl, rfl, rfl, rfl, rfl⟩⟩
  refine ⟨h.attended.modifyTxn fun y => ⟨hd y, ht y⟩, h.nets, fun hq => ?_, fun hq => ?_⟩
  · have g := h.placed hq
    refine ⟨g.fetches, g.addrs, g.slots, g.once, fun b z hz => ?_, fun b hb => ?_, fun x hx => ?_, fun b => ?_⟩
    · obtain ⟨y, hy, -⟩ := hpre b z hz
      exact g.alone b y hy
    · rw [hkind, hstands]
      exact g.listed b hb
    · unfold State.SlotCarried
      rw [hstands, hstands]
      exact g.carried x hx
    · rw [hanswered]
      exact g.replied b
  · have g := h.covered hq
    refine ⟨g.drawers, g.solvent, g.holders, fun hday b z hz => ?_, fun b z hb hz hwait => ?_, g.declared⟩
    · obtain ⟨y, hy, hst, -⟩ := hpre b z hz
      exact hst.trans (g.drained hday b y hy)
    · obtain ⟨y, hy, -, hw, hdr, hlegs, hte⟩ := hpre b z hz
      have hfund := g.funded b y hb hy (hw ▸ hwait)
      intro k hk
      obtain ⟨h1, h2⟩ := hfund k (hdr ▸ hk)
      refine ⟨hte ▸ h1, fun w hw c => ?_⟩
      have := h2 w hw c
      rw [owed_eq] at this ⊢
      rw [hlegs]
      exact this

/-- A QUEUED slot becomes SENDING, and its work item ON-TRUNK (R99, R101). -/
theorem State.Orderly.startSlot (h : s.Orderly p q) (hx : q → x ∈ s.tkc.slots ∧ x.state = .queued) :
    (s.startSlot x n).Orderly p q := by
  have hplace : q → s.placeOf x.drop = some (.queued, some x.number) := fun hq => by
    obtain ⟨hin, hst⟩ := hx hq
    exact ((h.placed hq).place (((h.placed hq).carried x hin).2.1 hst)).1
  have hwaits : q → ∀ y, s.txnAt x.drop = some y → y.waits = true := fun hq y hy => by
    have := hplace hq
    rw [placeOf_txn hy, Option.some.injEq, Prod.mk.injEq] at this
    rw [Txn.waits, this.1]
    rfl
  refine ⟨State.WorkAttended.setStage (s := s.modifySlot x.number _) h.attended, h.nets, fun hq => ?_, fun hq => ?_⟩
  · obtain ⟨hin, hst⟩ := hx hq
    have g := h.placed hq
    have hkind : x.kind = s.workKind x.drop := (g.place ((g.carried x hin).2.1 hst)).2
    refine g.occupy ?_ ?_ (fun hl => ?_) (fun z hz hn hne hd => ?_) fun z hz hzn => ?_
    · by_contra hno
      have := hplace hq
      rw [placeOf_none (by simpa using hno)] at this
      cases this
    · unfold State.answeredAt
      cases hy : s.txnAt x.drop with
      | none => rfl
      | some y => simpa using Txn.waits_unanswered (hwaits hq y hy)
    · have := g.listed_place hl
      rw [hplace hq] at this
      cases this
    · obtain ⟨hpl | hpl, -⟩ := g.slot_place hz hne
      all_goals
        rw [hd, hplace hq, Option.some.injEq, Prod.mk.injEq] at hpl
        exact hn (Option.some.inj hpl.2).symm
    · have hnodup : (s.tkc.slots.map OnlineSlot.number).Nodup := g.slots ▸ List.nodup_range
      have hsame : z = x := Option.some.inj
        ((hzn ▸ findKey_of_mem hnodup hz).symm.trans (findKey_of_mem hnodup hin))
      rw [hsame]
      exact ⟨rfl, rfl, hkind, .inr ⟨rfl, rfl⟩⟩
  · have g := (h.covered hq).opened x.drop
    refine State.Covered.setStage (s := s.modifySlot x.number _) ?_ fun y hy => ?_
    · obtain ⟨h1, h2, h3, h4, h5, h6⟩ := g
      exact ⟨h1, h2, h3, h4, h5, h6⟩
    · have hw := hwaits hq y hy
      exact ⟨h.funds hy hw hq, h.undrained hy (Txn.waits_unanswered hw) hq⟩

/-- The slot that the arbiter grants is QUEUED (R100). -/
theorem granted_online (h : s.granted = some (.online x)) : x ∈ s.tkc.slots ∧ x.state = .queued := by
  have hready : s.lowestReady = some (.online x) := by
    unfold State.granted at h
    split at h
    · exact h
    · cases h
  unfold State.lowestReady at hready
  split at hready
  · next z hz =>
    split at hz
    · obtain rfl : z = x := by simpa using hready
      have := List.mem_of_head? hz
      obtain ⟨hin, hst⟩ := List.mem_filter.1 this
      exact ⟨hin, by simpa using hst⟩
    · cases hz
  · split at hready
    · cases hready
    · split at hready
      · cases hready
      · split at hready <;> cases hready

theorem State.Orderly.send {k : FrameBody} {c : Bool} (h : s.Orderly p q) : (s.send n m k c).Orderly p q :=
  h.alike (.send (.refl s))

theorem State.Orderly.startForward (h : s.Orderly p q) (hx : x ∈ s.tkc.slots ∧ x.state = .queued)
    (hy : s.txnAt x.drop = some y) : (s.startForward x y).Orderly p q := by
  unfold State.startForward
  dsimp only
  split
  · have hrec : s.Alike (s.writeRecord (y.record .online .awaiting)) := .writeRecord (.refl s) (by nofun)
    have g := (h.alike hrec).startSlot (x := x) (n := s.nextSeq) fun _ => ⟨hrec.slots ▸ hx.1, hx.2⟩
    exact (g.modifyTxn (f := fun t => { t with seq := some s.nextSeq }) (fun _ => rfl) (fun _ => rfl) (fun _ => ⟨rfl, rfl⟩)
      fun _ => ⟨rfl, rfl⟩).send
  · have hplace : q → s.placeOf x.drop = some (.queued, some x.number) := fun hq =>
      ((h.placed hq).place (((h.placed hq).carried x hx.1).2.1 hx.2)).1
    refine ((h.freeSlotAt.take hy (fun hq => (h.placed hq).idle_freed (.inl (hplace hq))) fun hq => ?_).refuse rfl
      rfl).serveWaitList
    have := hplace hq
    rw [placeOf_txn hy, Option.some.injEq, Prod.mk.injEq] at this
    rw [this.1]
    decide

theorem State.Orderly.startFetch (h : s.Orderly p q) (hx : x ∈ s.tkc.slots ∧ x.state = .queued) :
    (s.startFetch x f).Orderly p q := by
  have g := h.startSlot (x := x) (n := s.tkc.fetchCounter) fun _ => hx
  unfold State.startFetch
  dsimp only
  exact (g.alike (.onTkc (.refl _) rfl)).send

theorem State.Orderly.forwardStart (h : s.Orderly p q) : s.forwardStart.Orderly p q := by
  unfold State.forwardStart
  split
  · next x hg =>
    split
    · cases hy : s.txnAt x.drop with
      | none => exact h
      | some y => exact h.startForward (granted_online hg) hy
    · exact h
  · exact h

theorem State.Orderly.fetchStart (h : s.Orderly p q) : s.fetchStart.Orderly p q := by
  unfold State.fetchStart
  split
  · next x hg =>
    split
    · cases hy : s.fetchAt x.drop with
      | none => exact h
      | some f => exact h.startFetch (granted_online hg)
    · exact h
  · exact h

/-! ### Frames end -/

theorem State.Orderly.blockEnd {k : Bool} (h : s.Orderly p q) : (s.blockEnd n k).Orderly p q := by
  unfold State.blockEnd
  split
  · next hd => exact h.onTimer (f := fun y => { y with blockTimer := .running y.params.blockTimer }) rfl (.inr hd.1)
  · exact h

/-- A slot that is SENDING becomes AWAIT (R101). -/
theorem State.Orderly.awaitSlot {g : OnlineSlot → OnlineSlot} (h : s.Orderly p q)
    (hg : ∀ x, g x = x ∨ (x.state = .sending ∧ g x = { x with state := .await })) : (s.modifySlot i g).Orderly p q := by
  refine h.onSlots fun _ hp => ⟨hp.fetches, hp.addrs, ?_, hp.once, hp.alone, hp.listed, fun x hx => ?_, hp.replied⟩
  · show (modifyKey OnlineSlot.number i g s.tkc.slots).map OnlineSlot.number = _
    rw [modifyKey_map_key fun x hx => by rcases hg x with he | ⟨-, he⟩ <;> rw [he] <;> exact hx]
    exact hp.slots
  · obtain ⟨z, hz, rfl⟩ := List.mem_map.1 hx
    have hc := hp.carried z hz
    by_cases hn : z.number = i
    · rw [if_pos hn]
      rcases hg z with he | ⟨hst, he⟩
      · rw [he]; exact hc
      · rw [he]
        exact ⟨nofun, nofun, fun _ => hc.2.2 (.inl hst)⟩
    · rw [if_neg hn]; exact hc

theorem State.Orderly.frameEnd (h : s.Orderly p q) : s.frameEnd.Orderly p q := by
  have hidle : (s.onTkc fun t => { t with transmitter := none }).Orderly p q := h.alike (.onTkc (.refl s) rfl)
  have hawait : ∀ (k : Nat) (x : OnlineSlot), (if x.state = .sending ∧ x.tag = k then { x with state := .await } else x) = x ∨
      (x.state = .sending ∧ (if x.state = .sending ∧ x.tag = k then { x with state := .await } else x) =
        { x with state := .await }) := fun k x => by
    by_cases hx : x.state = .sending ∧ x.tag = k
    · exact .inr ⟨hx.1, if_pos hx⟩
    · exact .inl (if_neg hx)
  unfold State.frameEnd
  split
  · exact h
  · dsimp only
    split
    · exact hidle.awaitSlot (hawait _)
    · exact hidle.awaitSlot (hawait _)
    · exact hidle.alike (.onTkc (.refl _) (by split <;> rfl))
    · exact hidle.alike (.onTkc (.refl _) rfl)
    · exact hidle.blockEnd
    · exact hidle.blockEnd

/-! ### Replies -/

/-- The slot that a reply matches carries its ON-TRUNK item (R102). -/
theorem State.Placed.matched {k : FrameHeader} {o : OnlineKind} (h : s.Placed) (hx : s.matchedSlot k o = some x) :
    s.placeOf x.drop = some (.onTrunk, some x.number) := by
  obtain ⟨hat, hm⟩ := Option.filter_eq_some_iff.1 hx
  simp only [Bool.and_eq_true, Bool.or_eq_true, beq_iff_eq] at hm
  obtain ⟨⟨hst, -⟩, -⟩ := hm
  exact (h.place ((h.carried x (findKey_mem hat)).2.2 hst)).1

theorem State.InHand.approve {k : Nat} {o : ReplyBalance} (h : s.InHand p q y) (hf : q → s.Funds y)
    (ho : q → drainedDay s.dyc.day = false) : (s.approve y n k o).Orderly p q := by
  have hrec : s.Alike (s.changeDisposition n .awaiting .approved (some k)) := .changeDisposition (.refl s) nofun nofun
  have g := (h.alike hrec).applyCash (fun hq => hrec.funds (hf hq)) fun hq => hrec.undrained (ho hq)
  exact (g.alike (.approvedLine (.refreshSnapshot (.refl _)))).reachOutcome rfl rfl

theorem State.InHand.decline (h : s.InHand p q y) : (s.decline y n m).Orderly p q :=
  (h.alike (t := s.changeDisposition n .awaiting .declined (some m))
    (.changeDisposition (.refl s) nofun nofun)).reachOutcome rfl rfl

theorem State.Orderly.txnReply {k : FrameHeader} {o : ReplyAnswer} (h : s.Orderly p q) : (s.txnReply k o).Orderly p q := by
  unfold State.txnReply
  split
  · next x hx =>
    dsimp only
    refine State.Orderly.serveWaitList ?_
    have g := h.freeSlotAt (i := x.number)
    cases hy : (s.freeSlotAt x.number).txnAt x.drop with
    | none => exact g
    | some y =>
      have hy' : s.txnAt x.drop = some y := hy
      have hstage : q → y.stage = .onTrunk := fun hq => by
        have := (h.placed hq).matched hx
        rw [placeOf_txn hy', Option.some.injEq, Prod.mk.injEq] at this
        exact this.1
      have hwaits : q → y.waits = true := fun hq => by rw [Txn.waits, hstage hq]; rfl
      have hin : (s.freeSlotAt x.number).InHand p q y :=
        g.take hy (fun hq => (h.placed hq).idle_freed (.inr ((h.placed hq).matched hx))) fun hq =>
          Txn.waits_unanswered (hwaits hq)
      show ((s.freeSlotAt x.number).completeOnline y x.tag o).Orderly p q
      unfold State.completeOnline
      split
      · split
        · exact hin.approve (fun hq => g.funds hy (hwaits hq) hq) fun hq =>
            g.undrained hy (Txn.waits_unanswered (hwaits hq)) hq
        · exact hin.decline
        · exact hin.decline
      · exact g
  · exact h.onStats

theorem State.Orderly.fetchReply {k : FrameHeader} {l : List FetchLine} (h : s.Orderly p q) :
    (s.fetchReply k l).Orderly p q := by
  unfold State.fetchReply
  split
  · next x hx =>
    dsimp only
    refine State.Orderly.serveWaitList ?_
    have g := h.freeSlotAt (i := x.number)
    cases hf : (s.freeSlotAt x.number).fetchAt x.drop with
    | none => exact g
    | some f =>
      exact g.fetchOutcome fun hq => (fetchAt_drop hf).symm ▸ (h.placed hq).idle_freed (.inr ((h.placed hq).matched hx))
  · exact h.onStats

/-! ### Reply timers -/

/-- The slot whose reply timer runs carries its item (R101). -/
theorem State.Placed.timed (h : s.Placed) (hx : s.slotAt i = some x) (ht : x.timer ≠ .stopped) :
    s.placeOf x.drop = some (.queued, some i) ∨ s.placeOf x.drop = some (.onTrunk, some i) := by
  have hin := findKey_mem hx
  have hne : x.state ≠ .free := fun hst => ht ((h.carried x hin).1 hst)
  have := (h.slot_place hin hne).1
  rwa [slotAt_number hx] at this

theorem State.Orderly.replyExpiry (h : s.Orderly p q) : (s.replyExpiry i).Orderly p q := by
  unfold State.replyExpiry
  split
  · exact h
  · next x hx =>
    obtain ⟨hat, htimer⟩ := Option.filter_eq_some_iff.1 hx
    have ht : x.timer ≠ .stopped := by simpa using htimer
    have hc : s.countTimeout.Orderly p q := h.onStats
    have hplace : q → s.countTimeout.placeOf x.drop = some (.queued, some i) ∨
        s.countTimeout.placeOf x.drop = some (.onTrunk, some i) := fun hq => (h.placed hq).timed hat ht
    have g := hc.freeSlotAt (i := i)
    have hidle : q → (s.countTimeout.freeSlotAt i).Idle x.drop := fun hq => (hc.placed hq).idle_freed (hplace hq)
    dsimp only
    split
    · refine State.Orderly.serveWaitList ?_
      have hout : (s.countTimeout.freeSlotAt i).Alike ((s.countTimeout.freeSlotAt i).timeOut x.tag) := .timeOut (.refl _)
      unfold State.secondDecision
      split
      · next y hy =>
        have hy' : s.countTimeout.txnAt x.drop = some y := (hout.txnAt x.drop).symm.trans hy
        have hwaits : q → y.waits = true := fun hq => by
          have := hplace hq
          rw [placeOf_txn hy'] at this
          rcases this with this | this <;>
            (rw [Option.some.injEq, Prod.mk.injEq] at this; rw [Txn.waits, this.1]; rfl)
        have hin := ((g.alike hout).take hy (fun hq => (hidle hq).alike hout) fun hq =>
          Txn.waits_unanswered (hwaits hq)).as (z := { y with timedOut := some x.tag, slot := none }) rfl rfl
        have hfunds : q → ((s.countTimeout.freeSlotAt i).timeOut x.tag).Funds y := fun hq =>
          (g.alike hout).funds hy (hwaits hq) hq
        exact hin.decideAgain hfunds fun hq => (g.alike hout).undrained hy (Txn.waits_unanswered (hwaits hq)) hq
      · exact g.alike hout
    · refine State.Orderly.serveWaitList ?_
      cases hf : (s.countTimeout.freeSlotAt i).fetchAt x.drop with
      | none => exact g
      | some f => exact g.fetchOutcome fun hq => (fetchAt_drop hf).symm ▸ hidle hq

/-! ### Advices -/

theorem State.Alike.settlePosting {d : Disposition} {o : Option Nat} (hd : d ≠ .advicePending) :
    s.Alike (s.settlePosting n d o) := by
  have hrelease : ∀ (k : Posting) (u : State), (u.releaseNet k).rqu = u.rqu ∧ (u.releaseNet k).csu = u.csu ∧
      (u.releaseNet k).tkc = u.tkc ∧ (u.releaseNet k).lpc = u.lpc ∧ (u.releaseNet k).dyc = u.dyc := fun k u => by
    unfold State.releaseNet
    split <;> exact ⟨rfl, rfl, rfl, rfl, rfl⟩
  have hchange : ∀ e, (s.changeDisposition n e d o).rqu = s.rqu ∧ (s.changeDisposition n e d o).csu = s.csu ∧
      (s.changeDisposition n e d o).tkc = s.tkc ∧ (s.changeDisposition n e d o).lpc = s.lpc ∧
      (s.changeDisposition n e d o).dyc = s.dyc := fun e => by
    unfold State.changeDisposition
    split <;> exact ⟨rfl, rfl, rfl, rfl, rfl⟩
  have hframe : (s.settlePosting n d o).rqu = s.rqu ∧ (s.settlePosting n d o).csu = s.csu ∧
      (s.settlePosting n d o).tkc = s.tkc ∧ (s.settlePosting n d o).lpc = s.lpc ∧ (s.settlePosting n d o).dyc = s.dyc := by
    unfold State.settlePosting
    split
    · dsimp only
      obtain ⟨h1, h2, h3, h4, h5⟩ := hchange .advicePending
      split
      · next k _ =>
        obtain ⟨g1, g2, g3, g4, g5⟩ := hrelease k (s.changeDisposition n .advicePending d o)
        exact ⟨g1.trans h1, g2.trans h2, g3.trans h3, g4.trans h4, g5.trans h5⟩
      · exact ⟨h1, h2, h3, h4, h5⟩
    · exact ⟨rfl, rfl, rfl, rfl, rfl⟩
  obtain ⟨h1, h2, h3, h4, h5⟩ := hframe
  exact ⟨by rw [h1], by rw [h1], by rw [h1], by rw [h1], by rw [h3], by rw [h4],
    fun a => (finalsAt_congr (by rw [h4]) a).le, by rw [h2], by rw [h2], by rw [h5], by rw [h5], nets_settlePosting hd⟩

theorem State.Orderly.adviceOutcome {k : FrameHeader} {d : Disposition} {o : Option Nat} (h : s.Orderly p q)
    (hd : d ≠ .advicePending) : (s.adviceOutcome k d o).Orderly p q := by
  unfold State.adviceOutcome
  split
  · have hfreed : s.Alike (s.onTkc fun t => { t with slot6 := freeAdviceSlot }) := .onTkc (.refl s) rfl
    unfold State.settleAdvice
    dsimp only
    split
    · exact h.alike hfreed
    · next e rest _ =>
      have hleft : s.Alike ((s.onTkc fun t => { t with slot6 := freeAdviceSlot }).onSiu fun u => { u with sfq := rest }) :=
        hfreed.onSiu rfl
      split
      · exact (h.alike hleft).alike (.settlePosting hd)
      · exact h.alike (hleft.changeDisposition nofun nofun)
  · exact h.onStats

end Sys2Proof.Machine
end

section
/-! SUPPORT. The loads, the start, the opening and the end of the day, and the batch keep the work items and the cash in
order (R107, R155 to R160, R172 to R179). -/

namespace Sys2Proof.Machine

variable {p q p' : Prop} {r s t : State} {a b n m i : Nat} {x : Teller} {k : FrameHeader}

/-! ### Changes of the journal and the accounts -/

theorem State.Orderly.onJnc {f : Jnc → Jnc} (h : s.Orderly p' q) (hn : p → (s.onJnc f).NetsSettled) :
    (s.onJnc f).Orderly p q := by
  refine ⟨h.attended, hn, fun hq => ?_, fun hq => ?_⟩
  · obtain ⟨h1, h2, h3, h4, h5, h6, h7, h8⟩ := h.placed hq
    exact ⟨h1, h2, h3, h4, h5, h6, h7, h8⟩
  · obtain ⟨h1, h2, h3, h4, h5, h6⟩ := h.covered hq
    exact ⟨h1, h2, h3, h4, h5, h6⟩

theorem State.Orderly.onSiu {f : Siu → Siu} (h : s.Orderly p' q) (hn : p → (s.onSiu f).NetsSettled) :
    (s.onSiu f).Orderly p q := by
  refine ⟨h.attended, hn, fun hq => ?_, fun hq => ?_⟩
  · obtain ⟨h1, h2, h3, h4, h5, h6, h7, h8⟩ := h.placed hq
    exact ⟨h1, h2, h3, h4, h5, h6, h7, h8⟩
  · obtain ⟨h1, h2, h3, h4, h5, h6⟩ := h.covered hq
    exact ⟨h1, h2, h3, h4, h5, h6⟩

theorem State.Orderly.nodeStatus {c : Condition} (h : s.Orderly p q) : (s.nodeStatus k c).Orderly p q := h.pushNode

/-- With no posting to be advised the pending postings come to nothing. -/
theorem pendingNet_zero (h : s.NothingPending) (n : Nat) : s.pendingNet n = 0 := by
  rw [pendingNet_eq, sumOf_congr (g := fun _ => 0) fun x hx => pendingOf_other (h x hx) n]
  generalize s.jnc.records = l
  induction l with
  | nil => rfl
  | cons x xs ih => rw [sumOf_cons, ih]; rfl

/-- In NO-DAY and LOADING every unconfirmed net is 0 (R110, R158). -/
theorem nets_zero (h : s.NetsSettled) (hd : s.dyc.day = .noDay ∨ s.dyc.day = .loading) : ∀ e ∈ s.siu.sat, e.net = 0 :=
  fun e he => by
    obtain ⟨-, -, hnets, hnone⟩ := h
    rw [hnets e he, pendingNet_zero (hnone hd)]

/-! ### Loads (R156 to R158) -/

theorem State.Orderly.load {α : Type} {r : LoadRule α} {l : List (Option α)} (h : s.Orderly p q)
    (hr : ∀ u : State, u.Orderly p q → u.loadFault r l = none → ((readEntries l).foldl (State.loadEntry r) u).Orderly p q) :
    (s.load k r l).Orderly p q := by
  refine h.onAnswered fun u hu => ?_
  split
  · exact hu.pushNode
  · next hf => exact (hr u hu hf).pushNode

theorem State.Alike.loadEntry {α : Type} {r : LoadRule α} {e : α} (hr : ∀ u : State, u.Alike (r.apply u e)) :
    s.Alike (State.loadEntry r s e) := State.Alike.onDyc (hr s) rfl rfl

/-- A load whose entries change nothing that is read. -/
theorem State.Orderly.loadAlike {α : Type} {r : LoadRule α} {l : List (Option α)} (h : s.Orderly p q)
    (hr : ∀ (u : State) e, u.Alike (r.apply u e)) : (s.load k r l).Orderly p q :=
  h.load fun _ hu _ => State.Orderly.foldl (fun _ e hv => hv.alike (.loadEntry fun w => hr w e)) _ hu

theorem alike_applyCode (s : State) (e : CodeEntry) : s.Alike (s.applyCode e) := .onRqu (.refl s) rfl rfl rfl rfl
theorem alike_applyDefinition (s : State) (e : DefinitionEntry) : s.Alike (s.applyDefinition e) := .onRqu (.refl s) rfl rfl rfl rfl
theorem alike_applyRoute (s : State) (e : RouteEntry) : s.Alike (s.applyRoute e) := .onRqu (.refl s) rfl rfl rfl rfl
theorem alike_applyRates (s : State) (e : RateLoad) : s.Alike (s.applyRates e) := .onSiu (.refl s) rfl
theorem alike_applyLayout (s : State) (e : Layout) : s.Alike (s.applyLayout e) := .onPbu (.refl s)

theorem alike_applyDenominations (s : State) (e : DenominationEntry) : s.Alike (s.applyDenominations e) := by
  refine .onCsu (.refl s) ?_ ?_ <;> cases e.currency <;> rfl

theorem alike_applyParams (s : State) (e : Params) : s.Alike (s.applyParams e) := by
  refine .foldl (fun _ _ g => g.judgeCashHigh) _ (.onCsu (.onDyc (.refl s) rfl rfl) ?_ rfl)
  rw [List.map_map]
  exact List.map_congr_left fun _ _ => rfl

/-- A change of the one entry of a teller number that is not signed on, before and after. -/
theorem State.Orderly.changeOff {l : List Teller} (h : s.Orderly p q)
    (hoff : ∀ x, s.tellerOf n = some x → x.signedOn = false) (hs : (l.map Teller.number).Pairwise (· < ·))
    (hl : ∀ v ∈ l, v ∈ s.rqu.tellers ∨ (v.number = n ∧ v.signedOn = false))
    (hk : ∀ v ∈ s.rqu.tellers, v.number ≠ n → v ∈ l) : (s.onRqu fun r => { r with tellers := l }).Orderly p q := by
  have hon : ∀ v ∈ s.rqu.tellers, v.signedOn = true → v.number ≠ n ∧ v ∈ l := fun v hv hsigned => by
    have hne : v.number ≠ n := fun he => by
      have := hoff v (he ▸ tellerOf_mem h.attended hv)
      rw [hsigned] at this
      cases this
    exact ⟨hne, hk v hv hne⟩
  have hof : ∀ v ∈ s.rqu.tellers, v.signedOn = true →
      (s.onRqu fun r => { r with tellers := l }).tellerOf v.number = some v := fun v hv hsigned =>
    findKey_of_mem (pairwise_lt_nodup hs) (hon v hv hsigned).2
  refine ⟨⟨hs, h.attended.2.1, fun z hz => ?_, fun hday => ?_, h.attended.2.2.2.2⟩, h.nets, fun hq => ?_, fun hq => ?_⟩
  · obtain ⟨v, hv, h1, h2, h3⟩ := h.attended.2.2.1 z hz
    exact ⟨v, (hon v hv h2).2, h1, h2, h3⟩
  · have hnobody := nobody_of_closed h.attended hday
    simp only [State.nobodySignedOn, List.all_eq_true, Bool.not_eq_true'] at hnobody ⊢
    intro v hv
    rcases hl v hv with hv | ⟨-, hoffv⟩
    · exact hnobody v hv
    · exact hoffv
  · obtain ⟨h1, h2, h3, h4, h5, h6, h7, h8⟩ := h.placed hq
    exact ⟨h1, h2, h3, h4, h5, h6, h7, h8⟩
  · have g := h.covered hq
    have hholds : ∀ v ∈ l, v.heldDrawer.isSome = true → v ∈ s.rqu.tellers := fun v hv hsome => by
      rcases hl v hv with hv | ⟨-, hoffv⟩
      · exact hv
      · simp [Teller.heldDrawer, hoffv] at hsome
    refine ⟨g.drawers, g.solvent, fun u hu v hv hsome heq => ?_, g.drained, fun b z hb hz hwait k hk' => ?_, g.declared⟩
    · exact g.holders u (hholds u hu hsome) v (hholds v hv (heq ▸ hsome)) hsome heq
    · obtain ⟨h1, h2⟩ := g.funded b z hb hz hwait k hk'
      refine ⟨?_, h2⟩
      obtain ⟨v, hv, hvn, hsigned, -⟩ := h.attended.keeper (show s.txnAt b = some z from hz)
      rw [← hvn, hof v hv hsigned, Option.bind_some]
      rw [← hvn, tellerOf_mem h.attended hv, Option.bind_some] at h1
      exact h1

/-- The entry of a teller number that a TELLERS entry leaves. -/
theorem tellerOf_applyTeller (e : TellerEntry) (m : Nat) (x : Teller) (hx : (s.applyTeller e).tellerOf m = some x)
    (hoff : ∀ x, s.tellerOf (tellerKey e) = some x → x.signedOn = false) :
    (m = tellerKey e ∧ x.signedOn = false) ∨ s.tellerOf m = some x := by
  cases e with
  | load n role training check limit restriction drawer =>
    have hlook := (findKey_putKey (key := Teller.number) (k := m) (l := s.rqu.tellers)).symm.trans hx
    by_cases hm : n = m
    · refine .inl ⟨hm.symm, ?_⟩
      rw [if_pos hm] at hlook
      rw [← Option.some.inj hlook]
      cases hold : findKey Teller.number n s.rqu.tellers with
      | none => rfl
      | some y => exact hoff y hold
    · rw [if_neg hm] at hlook
      exact .inr hlook
  | remove n =>
    have hlook := (findKey_eraseKey (key := Teller.number) (j := m) (l := s.rqu.tellers)).symm.trans hx
    by_cases hm : m = n
    · rw [if_pos hm] at hlook; cases hlook
    · rw [if_neg hm] at hlook
      exact .inr hlook

theorem mem_putKey_other {α : Type} {key : α → Nat} {x y : α} {l : List α} (h : y ∈ l) (hk : key y ≠ key x) :
    y ∈ putKey key x l := by
  induction l with
  | nil => cases h
  | cons z zs ih =>
    rw [putKey]
    split
    · exact List.mem_cons_of_mem _ h
    · split
      · next hkey =>
        rcases List.mem_cons.1 h with rfl | hm
        · exact absurd hkey (Ne.symm hk)
        · exact List.mem_cons_of_mem _ hm
      · rcases List.mem_cons.1 h with rfl | hm
        · exact List.mem_cons_self
        · exact List.mem_cons_of_mem _ (ih hm)

theorem State.Orderly.applyTeller {e : TellerEntry} (h : s.Orderly p q)
    (hoff : ∀ x, s.tellerOf (tellerKey e) = some x → x.signedOn = false) : (s.applyTeller e).Orderly p q := by
  cases e with
  | load n role training check limit restriction drawer =>
    refine h.changeOff (n := n) hoff (putKey_sorted h.attended.1) (fun v hv => ?_) fun v hv hne => mem_putKey_other hv hne
    rcases mem_putKey hv with rfl | hv
    · refine .inr ⟨rfl, ?_⟩
      cases hold : findKey Teller.number n s.rqu.tellers with
      | none => rfl
      | some y => exact hoff y hold
    · exact .inl hv
  | remove n =>
    exact h.changeOff (n := n) hoff (eraseKey_sorted h.attended.1) (fun v hv => .inl (List.mem_of_mem_filter hv))
      fun v hv hne => List.mem_filter.2 ⟨hv, by simpa using hne⟩

theorem State.Orderly.loadTellers {l : List (Option TellerEntry)} (h : s.Orderly p q) : (s.load k tellersRule l).Orderly p q := by
  refine h.load fun u hu hf => ?_
  have hoff : ∀ e ∈ readEntries l, ∀ x, u.tellerOf (tellerKey e) = some x → x.signedOn = false := fun e he x hx => by
    unfold State.loadFault at hf
    split at hf
    · cases hf
    · next hday =>
      split at hf
      · cases hf
      · cases hf
      · split at hf
        · cases hf
        · next hidx =>
          by_cases hopen : u.dyc.day = .opened
          · rw [if_pos hopen] at hidx
            have := List.findIdx?_eq_none_iff.1 hidx e he
            simpa [tellersRule, hx] using this
          · have hload : u.dyc.day = .loading := by
              simpa [tellersRule, kindAccepted, hopen] using hday
            have hnobody := nobody_of_closed hu.attended (by rw [hload]; rfl)
            simp only [State.nobodySignedOn, List.all_eq_true, Bool.not_eq_true'] at hnobody
            exact hnobody x (findKey_mem hx)
  clear hf
  generalize readEntries l = es at hoff ⊢
  induction es generalizing u with
  | nil => exact hu
  | cons e es ih =>
    have hfirst := hoff e List.mem_cons_self
    refine ih _ ((hu.applyTeller hfirst).onProposal rfl rfl) fun e' he' x hx => ?_
    rcases tellerOf_applyTeller e _ x hx hfirst with ⟨-, hno⟩ | hold
    · exact hno
    · exact hoff e' (List.mem_cons_of_mem e he') x hold

/-- An SAT entry is merged in LOADING, where no posting waits to be advised (R110, R158). -/
theorem State.Orderly.applySat {e : SatLoad} (h : s.Orderly p q) (hd : s.dyc.day = .loading) : (s.applySat e).Orderly p q := by
  unfold State.applySat
  dsimp only
  refine h.onSiu fun hp => ?_
  obtain ⟨hj, hsorted, hnets, hnone⟩ := h.nets hp
  refine ⟨hj, putKey_sorted hsorted, fun x hx => ?_, hnone⟩
  rcases mem_putKey hx with rfl | hx
  · exact (pendingNet_zero (hnone (.inr hd)) _).symm
  · exact hnets x hx

theorem State.Orderly.loadSat {l : List (Option SatLoad)} (h : s.Orderly p q) : (s.load k satRule l).Orderly p q := by
  refine h.load fun u hu hf => ?_
  have hday : u.dyc.day = .loading := by
    unfold State.loadFault at hf
    split at hf
    · cases hf
    · next hday => simpa [satRule, kindAccepted] using hday
  clear hf
  generalize readEntries l = es
  induction es generalizing u with
  | nil => exact hu
  | cons e es ih => exact ih _ ((hu.applySat hday).onProposal rfl rfl) hday

/-! ### The start and the opening of the day -/

/-- The journal is emptied, with every unconfirmed net at 0. -/
theorem State.Orderly.emptyJournal (h : s.Orderly p' q) (hn : p → s.NetsSettled ∧ ∀ e ∈ s.siu.sat, e.net = 0) :
    s.emptyJournal.Orderly p q := by
  have g : (s.onJnc fun j => { j with records := [], counter := 0, postingsClosed := false }).Orderly p q :=
    h.onJnc fun hp => by
      obtain ⟨⟨-, hsorted, -, -⟩, hzero⟩ := hn hp
      exact ⟨⟨rfl, Nat.zero_le _⟩, hsorted, fun e he => hzero e he, fun _ _ hx => nomatch hx⟩
  unfold State.emptyJournal
  dsimp only
  split
  · exact g.alike (.queueStatusAll (.refl _))
  · exact g

theorem records_emptyJournal (s : State) : s.emptyJournal.jnc.records = [] ∧ s.emptyJournal.jnc.counter = 0 := by
  unfold State.emptyJournal
  dsimp only
  split <;> simp

theorem State.Orderly.startDay {x : Date} {y : TimeOfDay} {z : PerKind Nat} (h : s.Orderly p q)
    (hd : startable s.dyc.day = true) : (s.startDay x y z).Orderly p q := by
  have hday : s.dyc.day = .noDay ∨ s.dyc.day = .loading := by simpa [startable] using hd
  have hempty : s.emptyJournal.Orderly p q := h.emptyJournal fun hp => ⟨h.nets hp, nets_zero (h.nets hp) hday⟩
  have hclock : s.emptyJournal.startClock.Orderly p q :=
    hempty.alike (.onJnc (.refl _) (nets_congr rfl rfl rfl rfl))
  have hstart := hclock.alike (t := (((s.emptyJournal.startClock.onSiu fun u => { u with rate := none }).onRqu fun r =>
      { r with classMask := 0 }).onStats fun _ => freshStats).onDyc fun v =>
    { v with
      date := some x, time := some y, expected := z, loaded := noKeys
      cutoff := none, batch := none })
    (.onDyc (.onStats (.onRqu (.onSiu (.refl _) rfl) rfl rfl rfl rfl)) rfl rfl)
  have hdyc : s.emptyJournal.dyc = s.dyc := by simp
  have hrec : s.emptyJournal.jnc.records = [] := (records_emptyJournal s).1
  refine hstart.setClosedDay ?_ rfl (.inl ?_) fun _ _ r hr => ?_
  · show closedDay s.emptyJournal.dyc.day = true
    rw [hdyc]
    rcases hday with hday | hday <;> rw [hday] <;> rfl
  · show s.emptyJournal.dyc.blockTimer = .stopped
    rw [hdyc]
    refine timer_stopped h.attended ?_
    rcases hday with hday | hday <;> rw [hday] <;> decide
  · have hr' : r ∈ s.emptyJournal.jnc.records := hr
    rw [hrec] at hr'
    cases hr'

theorem State.Orderly.dayStart {x : Date} {y : TimeOfDay} {z : PerKind Nat} (h : s.Orderly p q) :
    (s.dayStart k x y z).Orderly p q := by
  refine h.onAnswered fun u hu => ?_
  split
  · exact hu.nodeStatus
  · next hd =>
    split
    · exact (hu.startDay (by simpa using hd)).nodeStatus
    · exact hu.nodeStatus

theorem State.Orderly.sweepSat (h : s.Orderly p q) : s.sweepSat.Orderly p q := by
  refine h.onSiu fun hp => ?_
  obtain ⟨hj, hsorted, hnets, hnone⟩ := h.nets hp
  have hkeep : ∀ e x : SatEntry, (if (kindGet s.dyc.loaded .sat).contains e.account then some e
      else if e.book.any Passbook.hasWork then some { e with kind := .pendingOnly } else none) = some x →
      x.account = e.account ∧ x.net = e.net := fun e x hx => by
    split at hx
    · cases hx; exact ⟨rfl, rfl⟩
    · split at hx
      · cases hx; exact ⟨rfl, rfl⟩
      · cases hx
  refine ⟨hj, ?_, fun x hx => ?_, hnone⟩
  · rw [List.pairwise_map] at hsorted ⊢
    refine List.Pairwise.filterMap _ (fun e e' hlt x hx x' hx' => ?_) hsorted
    rw [(hkeep e x hx).1, (hkeep e' x' hx').1]
    exact hlt
  · obtain ⟨e, he, hx⟩ := List.mem_filterMap.1 hx
    rw [(hkeep e x hx).1, (hkeep e x hx).2]
    exact hnets e he

theorem State.Orderly.dayOpen (h : s.Orderly p q) : (s.dayOpen k).Orderly p q := by
  refine h.onAnswered fun u hu => ?_
  split
  · exact hu.nodeStatus
  · next hd =>
    split
    · exact hu.nodeStatus
    · have hday : u.sweepSat.dyc.day = .loading := by
        rw [not_not] at hd
        exact hd
      exact (hu.sweepSat.setOpenDay (by rw [hday]; decide) rfl).nodeStatus

theorem State.Orderly.maskSet {x : ClassMask} (h : s.Orderly p q) : (s.maskSet k x).Orderly p q := by
  refine h.onAnswered fun u hu => ?_
  split
  · exact hu.nodeStatus
  · exact (hu.alike (.onRqu (.refl u) rfl rfl rfl rfl)).nodeStatus

theorem State.Orderly.notice {x : BitVec 8} {y : Text} (h : s.Orderly p q) : (s.notice k x y).Orderly p q := by
  refine h.onAnswered fun u hu => ?_
  split
  · exact hu.nodeStatus
  · split
    · exact hu.nodeStatus
    · exact hu.alike (.queueUnseen (.onRing (.refl u) rfl))

/-! ### The batch -/

theorem State.Orderly.onBatch {f : Batch → Batch} (h : s.Orderly p q) : (s.onBatch f).Orderly p q := h.onProposal rfl rfl

theorem State.Orderly.stopBlockTimer (h : s.Orderly p q) : s.stopBlockTimer.Orderly p q := h.onTimer rfl (.inl rfl)

theorem State.Orderly.blockAck (h : s.Orderly p q) : (s.blockAck n).Orderly p q := by
  unfold State.blockAck
  split
  · exact h
  · split
    · dsimp only
      split
      · next hd =>
        split
        · exact h.onBatch.onTimer rfl (.inr hd)
        · exact h.onBatch.stopBlockTimer
      · exact h.onBatch
      · exact h
    · exact h

theorem State.Orderly.stallAttempts (h : s.Orderly p q) (hc : closedDay s.dyc.day = true) : (s.stallAttempts n).Orderly p q :=
  (h.stall hc).alike (.raise (.refl _))

theorem State.Orderly.blockNak (h : s.Orderly p q) : (s.blockNak n).Orderly p q := by
  unfold State.blockNak
  split
  · next hd _ =>
    split
    · dsimp only
      split
      · exact h.onBatch.stopBlockTimer.stallAttempts (by
          show closedDay s.dyc.day = true
          rw [hd]; rfl)
      · exact h.onBatch.stopBlockTimer
    · exact h
  · exact h

theorem State.Orderly.blockExpiry (h : s.Orderly p q) : s.blockExpiry.Orderly p q := by
  unfold State.blockExpiry
  split
  · exact h
  · next ht =>
    split
    · exact h
    · dsimp only
      split
      · exact h.onBatch.stopBlockTimer.stallAttempts (by
          show closedDay s.dyc.day = true
          rw [h.attended.2.2.2.2 ht]; rfl)
      · exact h.onBatch.stopBlockTimer.onBatch

theorem State.Orderly.batchResume (h : s.Orderly p q) : (s.batchResume k n).Orderly p q := by
  refine h.onAnswered fun u hu => ?_
  split
  · next hd _ _ =>
    split
    · exact hu.resumeBatch (by rw [hd]; rfl)
    · exact hu.onBatch.nodeStatus
  · exact hu.nodeStatus

theorem State.Orderly.takeVerdict {v : Verdict} (h : s.Orderly p q) (hc : closedDay s.dyc.day = true) :
    (s.takeVerdict v).Orderly p q := by
  have g : (s.onBatch fun b => { b with verdict := some v }).stopBlockTimer.Orderly p q := h.onBatch.stopBlockTimer
  exact (g.setClosedDay (d := .sent) hc rfl (.inl rfl) fun _ hday => by
    rcases hday with hday | hday <;> cases hday).alike (.onSiu (.refl _) rfl)

theorem State.Orderly.batchVerdict {x : Totals} (h : s.Orderly p q) : (s.batchVerdict k x).Orderly p q := by
  refine h.onAnswered fun u hu => ?_
  split
  · exact hu.nodeStatus
  · split
    · next hv =>
      have hc : closedDay u.dyc.day = true := by
        have : awaitsVerdict u.dyc.day = true := (Bool.and_eq_true _ _ ▸ hv).1
        generalize u.dyc.day = d at this
        revert this
        cases d <;> simp [awaitsVerdict, closedDay]
      exact (hu.takeVerdict hc).nodeStatus
    · split
      · exact hu.nodeStatus
      · exact hu.nodeStatus

theorem State.Orderly.resendBatch (h : s.Orderly p q) : (s.resendBatch k).Orderly p q := by
  refine h.onAnswered fun u hu => ?_
  split
  · next hd =>
    have hfill : ((u.onBatch Batch.again).onSiu fun v => { v with
        sfq := refillSfq u.jnc.records ((u.dyc.batch.map (·.records)).getD 0) }).Orderly p q :=
      hu.onBatch.alike (.onSiu (.refl _) rfl)
    have hagain := (hfill.onProposal (f := fun y => { y with resumed := false }) rfl rfl).setClosedDay (d := .sending)
      (by show closedDay u.dyc.day = true; rw [hd]; rfl) rfl (.inr rfl) fun _ hday => by
        rcases hday with hday | hday <;> cases hday
    exact hagain.stallUnlessOnline (by rw [setDay_day]; rfl)
  · exact hu.nodeStatus

theorem State.Alike.emptyNotices (h : r.Alike s) : r.Alike s.emptyNotices :=
  State.Alike.queueUnseen (h.onDrops (g := fun d => { d with nextNotice := 1 }) rfl fun _ => ⟨rfl, le_rfl⟩)

/-- A DAY-END that is taken empties the journal and clears every unconfirmed net together (R179). -/
theorem State.Orderly.endDay (h : s.Orderly p q) (hd : s.dyc.day = .sent) : s.endDay.Orderly p q := by
  have hempty : s.emptyJournal.Orderly False q := h.emptyJournal False.elim
  have hsiu : s.emptyJournal.rollDrawers.siu = s.siu := by simp
  have hjnc : s.emptyJournal.rollDrawers.jnc = s.emptyJournal.jnc := by simp
  have hdyc : s.emptyJournal.rollDrawers.dyc = s.dyc := by simp
  have hrec := records_emptyJournal s
  have hroll : s.emptyJournal.rollDrawers.Orderly False q := hempty.rollDrawers
  unfold State.endDay
  dsimp only
  generalize s.emptyJournal.rollDrawers = u at hsiu hjnc hdyc hroll ⊢
  rw [← hjnc] at hrec
  have hclear : (u.onSiu fun u => { u with sat := u.sat.map fun e => { e with net := 0 } }).Orderly p q := hroll.onSiu fun hp => by
    obtain ⟨-, hsorted, -, -⟩ := h.nets hp
    refine ⟨⟨?_, ?_⟩, ?_, fun e he => ?_, fun _ r hr => ?_⟩
    · show u.jnc.records.map Record.seq = List.range' 1 u.jnc.counter
      rw [hrec.1, hrec.2]; rfl
    · show u.jnc.counter ≤ _
      rw [hrec.2]; exact Nat.zero_le _
    · show ((u.siu.sat.map fun e => { e with net := 0 }).map SatEntry.account).Pairwise _
      rw [hsiu, List.map_map]
      exact hsorted
    · obtain ⟨z, -, rfl⟩ := List.mem_map.1 he
      rw [pendingNet_eq]
      show (0 : Int) = sumOf _ u.jnc.records
      rw [hrec.1]; rfl
    · have hr' : r ∈ u.jnc.records := hr
      rw [hrec.1] at hr'
      cases hr'
  have hnotice := hclear.alike (.emptyNotices (.refl _))
  have hsent : (u.onSiu fun u => { u with sat := u.sat.map fun e => { e with net := 0 } }).emptyNotices.dyc.day = .sent := by
    have halike := State.Alike.emptyNotices (.refl (u.onSiu fun u => { u with sat := u.sat.map fun e => { e with net := 0 } }))
    rw [halike.day]
    show u.dyc.day = .sent
    rw [hdyc, hd]
  have hjnc' : (u.onSiu fun u => { u with sat := u.sat.map fun e => { e with net := 0 } }).emptyNotices.jnc.records = [] := by
    simpa [State.emptyNotices] using hrec.1
  generalize (u.onSiu fun u => { u with sat := u.sat.map fun e => { e with net := 0 } }).emptyNotices = v
    at hnotice hsent hjnc' ⊢
  refine (hnotice.onProposal (f := fun y => { y with batch := none, cutoff := none, date := none, time := none }) rfl
    rfl).setClosedDay ?_ rfl (.inl ?_) fun _ _ r hr => ?_
  · show closedDay v.dyc.day = true
    rw [hsent]; rfl
  · show v.dyc.blockTimer = .stopped
    exact timer_stopped hnotice.attended (by rw [hsent]; decide)
  · have hr' : r ∈ v.jnc.records := hr
    rw [hjnc'] at hr'
    cases hr'

theorem State.Orderly.dayEnd (h : s.Orderly p q) : (s.dayEnd k).Orderly p q := by
  refine h.onAnswered fun u hu => ?_
  split
  · next hd => exact (hu.endDay hd).nodeStatus
  · exact hu.nodeStatus

end Sys2Proof.Machine
end

section
/-! SUPPORT. The station loop keeps the work items and the cash in order, and no drop gains a final reply by it (R2 to
R15). -/

namespace Sys2Proof.Machine

variable {p q : Prop} {r s t : State} {a b n m i : Nat} {d e : Drop}

/-! ### Confirmed changes and notices (R14, R15, R21) -/

theorem State.Alike.drawerChanged {on : Bool} (h : r.Alike s) : r.Alike (s.drawerChanged a on) := by
  unfold State.drawerChanged
  split
  · split
    · exact h.clearRelease
    · exact State.Alike.writeRecord h.clearRelease.setAlert nofun
  · exact h.setAlert

theorem State.Orderly.passBook {on : Bool} (h : s.Orderly p q) : (s.passBook a on).Orderly p q := by
  unfold State.passBook
  split
  · exact h.bookInChanged
  · exact h

theorem State.Orderly.passChanges {x y : DropSigs} (h : s.Orderly p q) : (s.passChanges a x y).Orderly p q := by
  have h1 : (if x.drawerOpen.confirmed = y.drawerOpen.confirmed then s
      else s.drawerChanged a y.drawerOpen.confirmed).Orderly p q := by
    split
    · exact h
    · exact h.alike (.drawerChanged (.refl s))
  unfold State.passChanges
  dsimp only
  split
  · exact h1
  · exact h1.passBook

theorem State.Orderly.setSignals {x : DropSigs} (h : s.Orderly p q) : (s.setSignals a x).Orderly p q := by
  unfold State.setSignals
  split
  · exact State.Orderly.passChanges (h.alike (.modifyDrop (.refl s) fun _ => ⟨rfl, le_rfl⟩))
  · exact h

/-- A drop that asks for the next notice is handed a message that is no final reply (R21). -/
theorem noticeNext_eq (s : State) (hd : s.dropAt a = some d) : ∃ k x, isFinal x = false ∧ s.noticeNext a =
    ((s.modifyDrop a fun d => { d with nextNotice := k }).handOver a x).queueUnseen s := by
  unfold State.noticeNext
  rw [hd]
  dsimp only
  generalize s.noticeFrom d (max d.nextNotice (s.oldestNotice.getD d.nextNotice)) = o
  cases o with
  | none => exact ⟨_, _, rfl, rfl⟩
  | some n => exact ⟨_, _, rfl, rfl⟩

theorem State.Alike.noticeNext (h : r.Alike s) : r.Alike (s.noticeNext a) := by
  cases hd : s.dropAt a with
  | none => rwa [State.noticeNext, hd]
  | some d =>
    obtain ⟨k, x, hx, heq⟩ := noticeNext_eq s hd
    rw [heq]
    exact .queueUnseen (.handOver (.modifyDrop h fun _ => ⟨rfl, le_rfl⟩) hx)

/-! ### ANNOUNCE (R10, R11) -/

/-- A list's members that meet a condition are at least one where one is found. -/
theorem countP_of_find? {α : Type} {f : α → Bool} {l : List α} {x : α} (h : l.find? f = some x) : 1 ≤ l.countP f :=
  List.countP_pos_iff.2 ⟨x, List.mem_of_find?_eq_some h, List.find?_some h⟩

theorem Drop.abandon_lessens (d : Drop) : d.Lessens d.abandon := by
  have hone : ∀ o : Option DownMessage, o.toList.countP isFinal ≤ 1 := fun o =>
    List.countP_le_length.trans (by cases o <;> simp)
  have hsum : d.finalReply.toList.countP isFinal ≤ d.finals := by
    cases hh : d.held with
    | some m =>
      have hr : d.finalReply = some m := by simp [Drop.finalReply, hh]
      rw [hr, Drop.finals, hh]
      omega
    | none =>
      cases hb : (d.begun.map Begun.msg).find? isFinal with
      | some m =>
        have hr := countP_of_find? hb
        have := hone d.finalReply
        unfold Drop.finals
        omega
      | none =>
        cases ho : d.outbound.find? isFinal with
        | some m =>
          have hr := countP_of_find? ho
          have := hone d.finalReply
          unfold Drop.finals
          omega
        | none =>
          have hr : d.finalReply = none := by
            rw [Drop.finalReply, hh, ho, show (d.begun.map (·.msg)).find? isFinal = none from hb]; rfl
          rw [hr]
          exact Nat.zero_le _
  refine ⟨rfl, ?_⟩
  show d.finalReply.toList.countP isFinal + 0 + 0 ≤ d.finals
  exact hsum

theorem State.Orderly.identifyIfBook (h : s.Orderly p q) : (s.identifyIfBook a).Orderly p q := by
  unfold State.identifyIfBook
  split
  · exact h.alike (.startIdentify (.refl s))
  · exact h

theorem State.Orderly.announceAgain {k : DropType} (h : s.Orderly p q) : (s.announceAgain a k).Orderly p q := by
  have g : ((s.modifyDrop a Drop.abandon).queueStatus a).Orderly p q :=
    h.alike (.queueStatus (.modifyDrop (.refl s) Drop.abandon_lessens))
  unfold State.announceAgain
  cases k with
  | teller => exact g
  | printer => exact g.interruptSession.identifyIfBook

theorem State.Orderly.announceAbsent {x : Signals} (h : s.Orderly p q) : (s.announceAbsent a x).Orderly p q := by
  have g : (s.modifyDrop a fun d => d.join (s.oldestNotice.getD s.lpc.noticeCounter)).Orderly p q :=
    h.alike (.modifyDrop (.refl s) fun _ => ⟨rfl, le_rfl⟩)
  exact g.setSignals.alike (.queueStatus (.refl _))

theorem State.Orderly.announce {k : DropType} {x : Signals} (h : s.Orderly p q) : (s.announce a k x).Orderly p q := by
  unfold State.announce
  split
  · split
    · exact h
    · split
      · split
        · exact h.announceAbsent
        · exact h
      · exact h.announceAgain
      · exact h.announceAgain
      · exact h
  · exact h

/-! ### New tables and a new cycle (R2 to R4) -/

theorem Drop.adopt_lessens (d : Drop) (l m : List Nat) (k : DropType) (g : Nat) : d.Lessens (d.adopt l m k g) := by
  refine ⟨d.adopt_addr l m k g, ?_⟩
  unfold Drop.adopt
  dsimp only
  split
  · exact Nat.zero_le _
  · have hsame : ∀ e : Drop, e.finals = d.finals → e.queueStatus.finals ≤ d.finals := fun e he =>
      e.queueStatus_lessens.2.trans he.le
    split <;> split
    · exact le_rfl
    · exact le_rfl
    · exact hsame _ rfl
    · exact hsame _ rfl

theorem State.Orderly.adoptTables (h : s.Orderly p q) : s.adoptTables.Orderly p q := by
  have g : (s.interruptRemoved s.dyc.params).Orderly p q := h.foldl (fun _ _ x => x.interruptSession) _
  unfold State.adoptTables
  dsimp only
  exact g.alike (.onDrops (g := fun d => d.adopt (mappedSlots _ d.addr) (mappedSlots _ d.addr) _ _) (.onPbu (.refl _)) rfl
    fun d => d.adopt_lessens _ _ _ _)

/-- Taking its next message a drop keeps its final replies. -/
theorem nextMessage_finals {x : DownMessage} (h : s.nextMessage d = some (x, e)) :
    e.addr = d.addr ∧ e.begun = d.begun ∧ e.finals + [x].countP isFinal ≤ d.finals := by
  unfold State.nextMessage at h
  split at h
  · next hh =>
    cases h
    refine ⟨rfl, rfl, ?_⟩
    rw [Drop.finals, Drop.finals, hh]
    simp only [Option.toList_none, Option.toList_some, List.countP_nil]
    omega
  · next hh hf =>
    cases h
    refine ⟨rfl, rfl, ?_⟩
    have hin := List.mem_of_find?_eq_some hf
    have hperm := (List.perm_cons_erase hin).countP_eq isFinal
    have hcons : (x :: d.outbound.erase x).countP isFinal = (d.outbound.erase x).countP isFinal + [x].countP isFinal := by
      rw [List.countP_cons, List.countP_cons, List.countP_nil]
      omega
    show (d.held.toList.countP isFinal + (d.begun.map Begun.msg).countP isFinal + (d.outbound.erase x).countP isFinal) +
      [x].countP isFinal ≤ d.held.toList.countP isFinal + (d.begun.map Begun.msg).countP isFinal + d.outbound.countP isFinal
    omega
  · next hh hf ho =>
    cases h
    refine ⟨rfl, rfl, ?_⟩
    rw [Drop.finals, Drop.finals, ho]
    simp only [List.countP_cons, List.countP_nil]
    omega
  · split at h
    · cases h
      exact ⟨rfl, rfl, le_rfl⟩
    · cases h

theorem withMessage_lessens (s : State) (d : Drop) : d.Lessens (s.withMessage d) := by
  unfold State.withMessage
  split
  · exact ⟨rfl, le_rfl⟩
  · split
    · next x e he =>
      obtain ⟨ha, -, hf⟩ := nextMessage_finals he
      refine ⟨ha, ?_⟩
      have happ : ((e.begun ++ [(⟨x, 0, false⟩ : Begun)]).map Begun.msg).countP isFinal =
          (e.begun.map Begun.msg).countP isFinal + [x].countP isFinal := by
        rw [List.map_append, List.countP_append]; rfl
      show e.held.toList.countP isFinal + ((e.begun ++ [(⟨x, 0, false⟩ : Begun)]).map Begun.msg).countP isFinal +
        e.outbound.countP isFinal ≤ d.finals
      rw [happ]
      unfold Drop.finals at hf
      unfold Drop.finals
      omega
    · exact ⟨rfl, le_rfl⟩

theorem advanceBegun_msgs (l : List Begun) : (advanceBegun l).map Begun.msg = l.map Begun.msg := by
  induction l with
  | nil => rfl
  | cons b l ih =>
    rw [advanceBegun]
    split
    · rfl
    · rw [List.map_cons, ih, List.map_cons]

theorem State.Orderly.sendSegment (h : s.Orderly p q) (hd : s.dropAt a = some d) : (s.sendSegment d n).2.Orderly p q := by
  obtain ⟨ha, hf⟩ := withMessage_lessens s d
  have had := dropAt_addr hd
  refine h.alike (.putDrop (.refl s) (had.symm ▸ hd) ha ?_)
  have hsame : ({ s.withMessage d with begun := advanceBegun (s.withMessage d).begun } : Drop).finals = (s.withMessage d).finals := by
    simp only [Drop.finals, advanceBegun_msgs]
  exact hsame.trans_le hf

theorem State.Orderly.composeSlot (h : s.Orderly p q) : (s.composeSlot n).2.Orderly p q := by
  unfold State.composeSlot
  split
  · next d hd =>
    obtain ⟨a, -, ha⟩ := Option.bind_eq_some_iff.1 hd
    unfold State.ownedSlot
    dsimp only
    split
    · exact h
    · exact h
    · split
      · exact h.sendSegment ha
      · exact h
    · split
      · exact h.sendSegment ha
      · exact h
  · exact h

theorem State.Orderly.composeSlots (l : List Nat) (h : s.Orderly p q) : (State.composeSlots l s).2.Orderly p q := by
  induction l generalizing s with
  | nil => exact h
  | cons n l ih => exact ih h.composeSlot

theorem State.Orderly.sendCycle (h : s.Orderly p q) : s.sendCycle.Orderly p q := by
  have h1 := h.composeSlots (List.range' 1 31)
  unfold State.sendCycle
  generalize State.composeSlots (List.range' 1 31) s = x at h1 ⊢
  exact h1.alike (.onRing (.refl _) rfl)

theorem State.Orderly.cycleStart (h : s.Orderly p q) : s.cycleStart.Orderly p q := by
  unfold State.cycleStart
  split
  · exact h
  · split
    · exact h.adoptTables.sendCycle
    · exact h.sendCycle

/-! ### Upstream messages (R6) -/

theorem State.Orderly.admitted {f : State → State} (h : s.Orderly p q) (hf : (f s).Orderly p q) :
    (s.admitted a f).Orderly p q := by
  unfold State.admitted
  split
  · exact hf
  · exact h.alike (.modifyDrop (.refl s) fun _ => ⟨rfl, le_rfl⟩)

theorem State.Orderly.fromTeller {f : State → State} (h : s.Orderly p q) (hf : (f s).Orderly p q) :
    (s.fromTeller a f).Orderly p q := by
  unfold State.fromTeller
  split
  · exact h.admitted hf
  · exact h

theorem State.Orderly.fromPrinter {f : State → State} (h : s.Orderly p q) (hf : (f s).Orderly p q) :
    (s.fromPrinter a f).Orderly p q := by
  unfold State.fromPrinter
  split
  · exact h.admitted hf
  · exact h

theorem State.Orderly.misdirected (h : s.Orderly p q) : (s.misdirected a).Orderly p q := by
  unfold State.misdirected
  split
  · exact h.admitted h
  · exact h

theorem State.Orderly.noticeNext (h : s.Orderly p q) : (s.noticeNext a).Orderly p q := h.alike (.noticeNext (.refl s))

theorem State.Orderly.takeFromTeller (x : UpMessage) (h : s.Orderly p q) : (s.takeFromTeller a x).Orderly p q := by
  cases x with
  | announce => exact h.announce
  | noticeNext => exact h.fromTeller h.noticeNext
  | txnRequest => exact h.fromTeller h.takeRequest
  | cancel => exact h.fromTeller h.cancel
  | signOn => exact h.fromTeller h.signOn
  | signOff => exact h.fromTeller h.signOff
  | unlock => exact h.fromTeller h.unlock
  | forceSignOff => exact h.fromTeller h.forceSignOff
  | overrideGrant => exact h.fromTeller h.overrideGrant
  | overrideDeny => exact h.fromTeller h.overrideDeny
  | transferOut => exact h.fromTeller h.transferOut
  | transferAccept => exact h.fromTeller h.transferAccept
  | transferRecall => exact h.fromTeller h.transferRecall
  | countDeclare => exact h.fromTeller h.countDeclare
  | acceptDifference => exact h.fromTeller h.acceptDifference
  | forceBalance => exact h.fromTeller h.forceBalance
  | closePropose => exact h.fromTeller h.closePropose
  | closeConfirm => exact h.fromTeller h.closeConfirm
  | closeWithdraw => exact h.fromTeller h.closeWithdraw
  | bookPresent => exact h.misdirected
  | lineDone => exact h.misdirected
  | pageReady => exact h.misdirected
  | printerFault => exact h.misdirected
  | other => exact h.misdirected

theorem State.Orderly.takeFromPrinter (x : UpMessage) (h : s.Orderly p q) : (s.takeFromPrinter a x).Orderly p q := by
  unfold State.takeFromPrinter
  split
  · exact h.announce
  · exact h
  · exact h.fromPrinter h.bookPresent
  · exact h.fromPrinter h.lineDone
  · exact h.fromPrinter h.pageReady
  · exact h.fromPrinter h.printerFaultAt
  · exact h.misdirected

theorem State.Orderly.takeMessage {l : List Byte} (h : s.Orderly p q) : (s.takeMessage a l).Orderly p q := by
  unfold State.takeMessage
  split
  · exact h.takeFromTeller _
  · exact h.takeFromPrinter _
  · exact h

/-! ### The halves of a good cycle (R5, R6, R9, R14) -/

theorem Drop.assemble_lessens (d : Drop) (x y : Bool) (l : List Byte) : d.Lessens (d.assemble x y l).drop := by
  unfold Drop.assemble
  dsimp only
  split_ifs <;> exact ⟨rfl, le_rfl⟩

theorem State.Orderly.sampleFirst {l : List Byte} (h : s.Orderly p q) : (s.sampleFirst a n l).Orderly p q := by
  unfold State.sampleFirst
  split
  · exact h.setSignals
  · exact h

theorem State.Orderly.scoreSlot {x : Bool} {l : List Byte} (h : s.Orderly p q) (hd : s.dropAt a = some d) :
    (s.scoreSlot d n x l).Orderly p q := by
  unfold State.scoreSlot
  dsimp only
  obtain ⟨y, hy⟩ : ∃ y : Assembled,
      y = if cleanHalf n l then d.assemble (upFirst l) (upLast l) (upBytes l) else ⟨true, d, none⟩ := ⟨_, rfl⟩
  have hless : d.Lessens y.drop := by
    rw [hy]
    split
    · exact d.assemble_lessens _ _ _
    · exact ⟨rfl, le_rfl⟩
  rw [← hy]
  have h1 : (s.modifyDrop d.addr fun _ => { y.drop with score := scored y.error d.score }).Orderly p q :=
    h.alike (.putDrop (.refl s) ((dropAt_addr hd).symm ▸ hd) hless.1 hless.2)
  have h2 : (if x = true then (s.modifyDrop d.addr fun _ => { y.drop with score := scored y.error d.score }).sampleFirst
      d.addr n l else s.modifyDrop d.addr fun _ => { y.drop with score := scored y.error d.score }).Orderly p q := by
    split
    · exact h1.sampleFirst
    · exact h1
  split
  · exact h2.takeMessage
  · exact h2

theorem State.Orderly.probeSlot {l : List Byte} (h : s.Orderly p q) : (s.probeSlot d n l).Orderly p q := by
  unfold State.probeSlot
  split
  · refine State.Orderly.setSignals ?_
    exact h.alike (.modifyDrop (.refl s) fun _ => ⟨rfl, le_rfl⟩)
  · refine State.Orderly.setSignals ?_
    exact h.alike (.modifyDrop (.refl s) fun _ => ⟨rfl, le_rfl⟩)

theorem State.Orderly.offerSlot {l : List Byte} (h : s.Orderly p q) : (s.offerSlot a n l).Orderly p q := by
  unfold State.offerSlot
  split
  · split
    · exact h.announce
    · exact h
  · exact h

theorem State.Orderly.handleSlot {before : State} {l : List Byte} (h : s.Orderly p q) :
    (before.handleSlot s n l).Orderly p q := by
  unfold State.handleSlot
  split
  · exact h
  · next old d hod =>
    obtain ⟨a, -, h1⟩ := Option.bind_eq_some_iff.1 hod
    obtain ⟨old', -, h2⟩ := Option.bind_eq_some_iff.1 h1
    obtain ⟨d', hd, heq⟩ := Option.map_eq_some_iff.1 h2
    cases heq
    dsimp only
    split
    · exact h.scoreSlot hd
    · split
      · exact h.scoreSlot hd
      · exact h
    · split
      · exact h.probeSlot
      · exact h
    · split
      · exact h.offerSlot
      · exact h

/-! ### The end of the cycle (R4, R7 to R9) -/

theorem State.Orderly.evaluateUsed (h : s.Orderly p q) : (s.evaluateUsed d).Orderly p q := by
  unfold State.evaluateUsed
  split
  · have g : (s.modifyDrop d.addr Drop.fence).Orderly p q :=
      h.alike (.modifyDrop (.refl s) fun e => ⟨rfl, e.abandon_lessens.2⟩)
    unfold State.tellFenced
    split
    · exact g.alike (.suspendAt (.refl _))
    · exact g.interruptSession
  · dsimp only
    have g : ∀ x : DropState, (s.modifyDrop d.addr fun d => { d with state := x }).Orderly p q := fun x =>
      h.alike (.modifyDrop (.refl s) fun _ => ⟨rfl, le_rfl⟩)
    generalize (if Config.degradedScore ≤ d.score then DropState.degraded else .active) = x
    split
    · exact g _
    · exact (g _).alike (.queueStatus (.refl _))

theorem State.Orderly.evaluateFenced (h : s.Orderly p q) : (s.evaluateFenced d).Orderly p q := by
  unfold State.evaluateFenced
  split
  · have g : (s.modifyDrop d.addr fun d =>
        { d with state := .active, score := 0, probeRun := 0, outOfStep := true }).Orderly p q :=
      h.alike (.modifyDrop (.refl s) fun _ => ⟨rfl, le_rfl⟩)
    unfold State.tellRecovered
    split
    · exact g.alike (.queueStatus (.resumeAt (.refl _)))
    · exact g.identifyIfBook
  · exact h

theorem State.Orderly.evaluate (h : s.Orderly p q) : (s.evaluate a).Orderly p q := by
  unfold State.evaluate
  split
  · exact h
  · split
    · exact h.evaluateUsed
    · exact h.evaluateUsed
    · exact h.evaluateFenced
    · exact h

/-- Settling its begun messages a drop loses the final reply that is complete. -/
theorem Drop.settleBegun_finals (d : Drop) :
    d.settleBegun.finals + (d.begun.countP fun b => b.complete && isFinal b.msg) = d.finals := by
  have hmap : d.settleBegun.begun.map Begun.msg = (d.begun.filter fun b => !b.complete).map Begun.msg := by
    rw [Drop.settleBegun, List.map_map]
    rfl
  have hcount : ∀ l : List Begun, ((l.filter fun b => !b.complete).map Begun.msg).countP isFinal +
      (l.countP fun b => b.complete && isFinal b.msg) = (l.map Begun.msg).countP isFinal := fun l => by
    induction l with
    | nil => rfl
    | cons b l ih =>
      rw [List.map_cons, List.countP_cons, List.countP_cons, ← ih]
      cases hb : b.complete with
      | true =>
        rw [List.filter_cons_of_neg (by simp [hb])]
        simp only [Bool.true_and]
        omega
      | false =>
        rw [List.filter_cons_of_pos (by simp [hb]), List.map_cons, List.countP_cons]
        simp only [Bool.false_and, Bool.false_eq_true, if_false]
        omega
  have := hcount d.begun
  unfold Drop.finals
  rw [hmap]
  show d.held.toList.countP isFinal + _ + d.outbound.countP isFinal + _ = _
  omega

/-- A delivered final reply ends the one ANSWERED item of its drop (R4, R44). -/
theorem State.Orderly.deliver (h : s.Orderly p q) : (s.deliver a).Orderly p q := by
  unfold State.deliver
  split
  · exact h
  · next d hd =>
    have hsettle : s.Alike (s.modifyDrop a Drop.settleBegun) := .modifyDrop (.refl s) fun e =>
      ⟨rfl, by have := e.settleBegun_finals; omega⟩
    have g := h.alike hsettle
    dsimp only
    split
    · next hc =>
      have hone : 1 ≤ d.begun.countP fun b => b.complete && isFinal b.msg := by
        obtain ⟨x, hx, hf⟩ := List.any_eq_true.1 hc
        exact List.countP_pos_iff.2 ⟨x, hx, hf⟩
      have hfin : s.finalsAt a = d.finals := by rw [State.finalsAt, hd]; rfl
      have hsum := d.settleBegun_finals
      refine g.endTxnAt (fun hq => ?_) fun hq => ?_
      · have hans := ((h.placed hq).replied a).2 (by have := ((h.placed hq).replied a).1; omega)
        obtain ⟨y, hy, hst⟩ := (Option.any_eq_true _ _).1 hans
        have hst' : y.stage = .answered := by simpa using hst
        exact (g.placed hq).idle_txn (y := y) hy (by rw [Txn.waits, hst']; rfl)
      · have hle := ((h.placed hq).replied a).1
        unfold State.finalsAt
        rw [dropAt_modifyDrop (f := Drop.settleBegun) fun _ h => h, hd]
        simp only [Option.map_some, if_true, Option.getD_some]
        omega
    · exact g

theorem State.Orderly.goodCycle {l : List (List Byte)} (h : s.Orderly p q) : (s.goodCycle l).Orderly p q := by
  have g : (s.onLpc fun l => { l with slipRun := 0, drops := l.drops.map Drop.unsampled }).Orderly p q :=
    h.alike (.onDrops (.refl s) rfl fun d => by
      unfold Drop.unsampled
      split <;> exact ⟨rfl, le_rfl⟩)
  exact ((g.foldl (fun _ _ k => k.handleSlot) _ : (State.handleSlots _ l).Orderly p q).foldl (fun _ _ k => k.evaluate)
    _).foldl (fun _ _ k => k.deliver) _

/-! ### Slips and LOOP-FAULT (R12, R13) -/

theorem Drop.slip_lessens (d : Drop) : d.Lessens d.slip := by
  refine ⟨rfl, ?_⟩
  have hmsgs : d.slip.begun.map Begun.msg = d.begun.map Begun.msg := by
    rw [Drop.slip, List.map_map]
    refine List.map_congr_left fun b _ => ?_
    simp only [Function.comp_apply]
    split <;> rfl
  unfold Drop.finals
  rw [hmsgs]
  exact le_rfl

theorem State.Orderly.slippedCycle (h : s.Orderly p q) : s.slippedCycle.Orderly p q := by
  have g : s.Alike (s.onLpc fun l => { l with slips := countUp Config.maxCount l.slips, goodRun := 0 }) :=
    .onRing (.refl s) rfl
  have gs : s.Alike ((s.onLpc fun l => { l with slips := countUp Config.maxCount l.slips, goodRun := 0 }).onLpc fun l =>
      { l with slipRun := l.slipRun + 1, drops := l.drops.map Drop.slip }) := g.onDrops rfl Drop.slip_lessens
  unfold State.slippedCycle
  dsimp only
  split
  · exact h.alike g
  · split
    · exact h.alike (gs.onDrops (g := fun d => { d.abandon with assembly := [] }) rfl fun d =>
        ⟨rfl, d.abandon_lessens.2⟩)
    · exact h.alike gs

theorem State.Orderly.faultCycle (h : s.Orderly p q) : s.faultCycle.Orderly p q := by
  unfold State.faultCycle
  split
  · refine h.alike (.onDrops (g := fun d => if d.canReceive then ({ d with outOfStep := true } : Drop).queueStatus
      else { d with outOfStep := true }) (.refl s) rfl fun d => ?_)
    split
    · exact ({ d with outOfStep := true } : Drop).queueStatus_lessens
    · exact ⟨rfl, le_rfl⟩
  · exact h.alike (.onRing (.refl s) rfl)

theorem State.Orderly.clearCycle (h : s.Orderly p q) : s.clearCycle.Orderly p q := h.alike (.onRing (.refl s) rfl)

theorem State.Orderly.cycleReturn {c : ReturnedCycle} (h : s.Orderly p q) : (s.cycleReturn c).Orderly p q := by
  unfold State.cycleReturn
  split
  · dsimp only
    split
    · split
      · exact h.clearCycle.goodCycle
      · exact h.clearCycle.faultCycle
    · exact h.clearCycle.slippedCycle
  · exact h

theorem State.Orderly.cycleLost (h : s.Orderly p q) : s.cycleLost.Orderly p q := by
  unfold State.cycleLost
  split
  · exact h.clearCycle.slippedCycle
  · exact h

end Sys2Proof.Machine
end

section
/-! SUPPORT. Start-up and recovery keep the work items and the cash in order: nobody is signed on, no work item is left,
and the restored day takes cash back to drawers alone that no count holds (R180 to R184). -/

namespace Sys2Proof.Machine

variable {p q : Prop} {r s t : State} {a n m i : Nat} {w : Drawer} {e : TransitEntry}

/-! ### A stop and a lost store (R180, R181) -/

/-- The supply, the pins, the waiting RESTART and the marks of the store are read by no invariant. -/
theorem State.Alike.pins {x : Option (Nat × Straps)} {y : Straps} {on low valid : Bool} :
    s.Alike { s with restarting := x, straps := y, supply := on, resetLow := low, storeValid := valid } :=
  ⟨rfl, rfl, rfl, rfl, rfl, rfl, fun _ => le_rfl, rfl, rfl, rfl, rfl, nets_congr rfl rfl rfl rfl⟩

theorem nobody_recovered (s : State) : s.clearVolatile.nobodySignedOn = true := by
  rw [State.nobodySignedOn, List.all_eq_true]
  intro x hx
  obtain ⟨y, -, rfl⟩ := List.mem_map.1 hx
  rw [Teller.recover_signedOn]; rfl

theorem Teller.recover_heldDrawer (x : Teller) : x.recover.heldDrawer = none := by
  rw [Teller.heldDrawer, Teller.recover_signedOn]; rfl

/-- Fresh drops and a fresh trunk with no work item: nothing is placed wrongly. -/
theorem placed_fresh {l : List (DropType × Nat)} (hd : s.lpc.drops = freshDrops l) (ht : s.tkc = freshTkc)
    (hx : s.rqu.txns = []) (hf : s.rqu.fetches = []) (hw : s.rqu.waitList = []) : s.Placed where
  fetches := hf ▸ List.Pairwise.nil
  addrs := hd ▸ freshDrops_addr l
  slots := ht ▸ freshTkc_fits
  once := hw ▸ List.nodup_nil
  alone a y hy := by rw [State.txnAt, hx] at hy; cases hy
  listed a ha := by rw [hw] at ha; cases ha
  carried x hin := by
    rw [ht] at hin
    obtain ⟨i, -, rfl⟩ := List.mem_map.1 hin
    exact ⟨fun _ => rfl, nofun, by rintro (h | h) <;> cases h⟩
  replied a := by
    have hzero : s.finalsAt a = 0 := by
      unfold State.finalsAt
      cases hdrop : s.dropAt a with
      | none => rfl
      | some d =>
        have hin : d ∈ freshDrops l := hd ▸ findKey_mem hdrop
        rw [mem_freshDrops hin]
        rfl
    rw [hzero]
    exact ⟨Nat.zero_le _, nofun⟩

theorem State.Orderly.clearVolatile (h : s.Orderly p q) : s.clearVolatile.Orderly p q where
  attended := by
    refine ⟨?_, List.Pairwise.nil, fun y hy => (nomatch hy), fun _ => nobody_recovered s, fun hne => absurd rfl hne⟩
    show ((s.rqu.tellers.map Teller.recover).map Teller.number).Pairwise _
    rw [List.map_map]
    exact h.attended.1
  nets hp := by
    refine nets_congr (s := s) rfl rfl ?_ rfl (h.nets hp)
    exact List.map_map
  placed _ := placed_fresh rfl rfl rfl rfl rfl
  covered hq := by
    obtain ⟨hnum, hpos, -, -, -, hdec⟩ := h.covered hq
    refine ⟨hnum, hpos, fun x hx y _ hs => ?_, fun _ a y hy => (nomatch hy), fun a y _ hy => (nomatch hy), hdec⟩
    obtain ⟨z, -, rfl⟩ := List.mem_map.1 hx
    rw [Teller.recover_heldDrawer] at hs
    cases hs

/-- A fresh store is in order, whatever went before (R181). -/
theorem orderly_clearStore (ht : s.tkc = freshTkc) : s.clearStore.Orderly p q where
  attended := ⟨List.Pairwise.nil, List.Pairwise.nil, fun y hy => (nomatch hy), fun _ => rfl, fun hne => absurd rfl hne⟩
  nets _ := ⟨⟨rfl, Nat.zero_le _⟩, List.Pairwise.nil, fun y hy => (nomatch hy), fun _ y hy => (nomatch hy)⟩
  placed _ := placed_fresh rfl ht rfl rfl rfl
  covered _ := by
    have hfresh : ∀ w ∈ s.clearStore.csu.drawers, w = freshDrawer w.number := fun w hw => by
      obtain ⟨i, -, rfl⟩ := List.mem_map.1 hw
      rfl
    refine ⟨rfl, fun w hw => ?_, fun x hx => (nomatch hx), fun _ a y hy => (nomatch hy), fun a y _ hy => (nomatch hy),
      fun w hw hb => ?_⟩
    · rw [hfresh w hw]; exact ⟨le_rfl, le_rfl⟩
    · rw [hfresh w hw] at hb; cases hb

/-! ### The settled day (R182, R183) -/

theorem State.Alike.resolveWork {c : Cause} (h : r.Alike s) : r.Alike (s.resolveWork c) :=
  State.Alike.writeRecord (.foldl (fun _ _ g => g.timeOut) _ h) nofun

/-- None of the drawers that transit entries came from is HELD. -/
def State.SourcesFree (s : State) (l : List TransitEntry) : Prop :=
  ∀ e ∈ l, ∀ w ∈ s.csu.drawers, w.number = e.source → w.balance ≠ .held

/-- In a state with covered cash the transit list comes from no HELD drawer. -/
theorem State.Covered.sourcesFree {o : Option Nat} (h : s.Covered o) : s.SourcesFree s.csu.transit :=
  fun e he w hw hn hb => by
    obtain ⟨-, hno, -⟩ := h.declared w hw hb
    rw [transitNames_of_mem he (.inl hn.symm)] at hno
    cases hno

theorem sourcesFree_congr {l : List TransitEntry} (h : t.csu.drawers.map (fun w => (w.number, w.balance)) =
    s.csu.drawers.map fun w => (w.number, w.balance)) (hs : s.SourcesFree l) : t.SourcesFree l := fun e he w hw hn => by
  obtain ⟨v, hv, heq⟩ := mem_of_view h hw
  obtain ⟨hnum, hbal⟩ := Prod.mk.injEq .. ▸ heq
  exact hbal ▸ hs e he v hv (hnum.trans hn)

theorem State.Alike.balances (h : s.Alike t) : t.csu.drawers.map (fun w => (w.number, w.balance)) =
    s.csu.drawers.map fun w => (w.number, w.balance) := by
  have := congrArg (List.map fun d : Nat × Sums × Sums × BalanceState × Option Declaration => (d.1, d.2.2.2.1)) h.cash
  rw [List.map_map, List.map_map] at this
  exact this

/-- The cash of a transit entry is back with its from-drawer, and the entry is off the list. -/
def State.takeBack (s : State) (e : TransitEntry) : State :=
  (s.addTransferOut e.source e.currency (-(e.amount : Int))).removeTransit e.number

theorem alike_returnTransit (s : State) (e : TransitEntry) : (s.takeBack e).Alike (s.returnTransit e) :=
  .writeRecord (.judgeCashHigh (.refl _)) nofun

theorem takeBack_balances (s : State) (e : TransitEntry) : (s.takeBack e).csu.drawers.map (fun w => (w.number, w.balance)) =
    s.csu.drawers.map fun w => (w.number, w.balance) := by
  show (modifyKey Drawer.number e.source _ s.csu.drawers).map _ = _
  rw [modifyKey, List.map_map]
  refine List.map_congr_left fun w _ => ?_
  rw [Function.comp_apply]
  split
  · rw [onSums_number, onSums_balance]
  · rfl

theorem State.Orderly.takeBack (h : s.Orderly p q)
    (hfree : q → ∀ w ∈ s.csu.drawers, w.number = e.source → w.balance ≠ .held) : (s.takeBack e).Orderly p q := by
  have hup : ∀ u : Sums, u.position ≤ ({ u with transferOut := u.transferOut + -(e.amount : Int) } : Sums).position :=
    fun u => by simp only [Sums.position]; omega
  refine h.onCsu (f := fun c => { c with
      drawers := modifyKey Drawer.number e.source
        (fun v => v.onSums e.currency fun y => { y with transferOut := y.transferOut + -(e.amount : Int) }) c.drawers
      transit := eraseKey TransitEntry.number e.number c.transit })
    fun hq hc => hc.moveCash (n := e.source)
      (f := fun v => v.onSums e.currency fun y => { y with transferOut := y.transferOut + -(e.amount : Int) }) rfl
      (fun w => onSums_number w _ _) (fun w hw => ?_) (fun b z hb hz hwait hzn w hw k => ?_) (fun w hw hbal hne => ?_)
      fun w hw hbal => ?_
  · have hpos := hc.solvent w (findKey_mem hw)
    refine solvent_onSums hpos (le_trans ?_ (hup _))
    cases e.currency
    · exact hpos.1
    · exact hpos.2
  · have hle := (hc.funded b z hb hz hwait _ hzn).2 w hw k
    rw [onSums_sums]
    split
    · next hck => exact hle.trans (hck ▸ hup _)
    · exact hle
  · exact transitNames_erase rfl (hc.declared w hw hbal).2.1
  · rw [onSums_balance] at hbal
    exact absurd hbal (hfree hq w (findKey_mem hw) (drawerAt_number hw))

theorem State.Orderly.returnAll (l : List TransitEntry) (h : s.Orderly p q) (hl : q → s.SourcesFree l) :
    (l.foldl State.returnTransit s).Orderly p q := by
  induction l generalizing s with
  | nil => exact h
  | cons e l ih =>
    refine ih ((h.takeBack fun hq => hl hq e List.mem_cons_self).alike (alike_returnTransit s e)) fun hq => ?_
    refine sourcesFree_congr (s := s) ?_ fun e he => hl hq e (List.mem_cons_of_mem _ he)
    exact (alike_returnTransit s e).balances.trans (takeBack_balances s e)

theorem State.Orderly.settleDrawer (h : s.Orderly p q) : (s.settleDrawer n).Orderly p q := by
  unfold State.settleDrawer
  split
  · split
    · have hmoved : (s.modifyDrawer n fun w => { w with balance := .balanced }).Orderly p q :=
        h.onCsu fun _ hc => hc.modifyDrawer (fun _ => rfl) (fun w _ c => by cases c <;> exact le_rfl)
          fun _ _ _ hbal => by cases hbal
      exact hmoved.alike (.writeRecord (.refl _) nofun)
    · exact h
  · exact h

theorem State.Orderly.settleBalancing (h : s.Orderly p q) : s.settleBalancing.Orderly p q :=
  State.Orderly.judgeExit (State.Orderly.foldl (fun _ _ g => g.settleDrawer) _
    (h.returnAll _ fun hq => (h.covered hq).sourcesFree))

theorem State.Orderly.restoreDrain (h : s.Orderly p q) (hd : s.dyc.day = .closeDrain) (hn : s.nobodySignedOn = true) :
    s.restoreDrain.Orderly p q := by
  have hmark : s.Alike (s.captureCutoff.writeRecord (closeMark s.captureCutoff)) :=
    .writeRecord (.captureCutoff (.refl s)) nofun
  have g := h.alike hmark
  have hnone := txnAt_of_nobody g.attended (nobody_of_staff hmark.staff hn)
  refine State.Orderly.settleBalancing (State.Orderly.drawersDue (g.setDay nofun (fun hne => ?_) ?_ (fun _ _ a y hy => ?_) ?_))
  · exact absurd (timer_stopped g.attended (by rw [hmark.day, hd]; decide)) hne
  · exact fun _ hday => by rcases hday with hday | hday <;> cases hday
  · rw [hnone a] at hy
    cases hy
  · exact fun _ hne => absurd rfl hne

theorem State.Orderly.restoreDay (h : s.Orderly p q) (hn : s.nobodySignedOn = true) (hb : s.dyc.blockTimer = .stopped) :
    s.restoreDay.Orderly p q := by
  have hstall : closedDay s.dyc.day = true → (s.setDay .sendStalled).Orderly p q := fun hc =>
    h.setClosedDay hc rfl (.inl hb) fun _ hday => by rcases hday with hday | hday <;> cases hday
  unfold State.restoreDay
  split
  · exact h
  · exact h
  · exact h
  · exact h
  · next hd => exact h.setOpenDay (by rw [hd]; decide) rfl
  · next hd => exact h.restoreDrain hd hn
  · exact h.settleBalancing
  · next hd => exact hstall (by rw [hd]; rfl)
  · next hd => exact hstall (by rw [hd]; rfl)

/-! ### Recovery (R182 to R184) -/

theorem State.Alike.clearMarks (h : r.Alike s) : r.Alike s.clearMarks := h.modifyDrops fun _ => ⟨rfl, le_rfl⟩

theorem State.Orderly.recoverKept {c : Cause} (h : s.Orderly p q) (hn : s.nobodySignedOn = true)
    (hb : s.dyc.blockTimer = .stopped) : (s.recoverKept c n).Orderly p q := by
  have hwork : s.Alike (s.resolveWork c) := .resolveWork (.refl s)
  have g := (h.alike hwork).restoreDay (nobody_of_staff hwork.staff hn) (hwork.timer.trans hb)
  exact g.alike (.clearMarks (.raiseTagged (.refl _)))

theorem State.Orderly.recover {c : Cause} {x : Straps} (h : s.Orderly p q) : (s.recover c x n).Orderly p q := by
  have g : ({ s.clearVolatile with straps := x } : State).Orderly p q := h.clearVolatile.alike .pins
  unfold State.recover
  dsimp only
  split
  · exact State.Orderly.sendCycle (g.recoverKept (nobody_recovered s) rfl)
  · have hfresh : ({ s.clearVolatile with straps := x } : State).clearStore.Orderly p q := orderly_clearStore rfl
    exact State.Orderly.sendCycle (hfresh.alike (.raiseTagged (.refl _)))

/-! ### Supply, reset pin, RESTART and the day clock (R127, R180) -/

theorem State.Orderly.powerOn {x : Straps} {held : Bool} (h : s.Orderly p q) : (s.powerOn x held).Orderly p q := by
  have g : ({ s with supply := true, storeValid := s.storeValid && held } : State).Orderly p q := h.alike .pins
  unfold State.powerOn
  dsimp only
  split
  · exact h
  · split
    · exact g
    · exact g.recover

theorem State.Orderly.powerLoss (h : s.Orderly p q) : s.powerLoss.Orderly p q := by
  unfold State.powerLoss
  split
  · exact h.clearVolatile.alike .pins
  · exact h

theorem State.Orderly.resetAssert (h : s.Orderly p q) : s.resetAssert.Orderly p q := by
  unfold State.resetAssert
  split
  · exact h
  · exact h.clearVolatile.alike .pins

theorem State.Orderly.resetRelease {x : Straps} (h : s.Orderly p q) : (s.resetRelease x).Orderly p q := by
  have g : ({ s with resetLow := false } : State).Orderly p q := h.alike .pins
  unfold State.resetRelease
  dsimp only
  split
  · split
    · exact g.recover
    · exact g
  · exact h

theorem State.Orderly.restart {k : FrameHeader} {x : Straps} (h : s.Orderly p q) : (s.restart k x).Orderly p q := by
  unfold State.restart
  split
  · exact h
  · split
    · exact h.alike .pins
    · exact h.recover

theorem State.Orderly.frameEndOrRestart (h : s.Orderly p q) : s.frameEndOrRestart.Orderly p q := by
  unfold State.frameEndOrRestart
  split
  · split
    · exact h.frameEnd.recover
    · exact h.frameEnd
  · exact h

theorem State.Orderly.tick (h : s.Orderly p q) : s.tick.Orderly p q := by
  unfold State.tick
  split
  · exact h.alike (.onJnc (.refl s) (nets_congr rfl rfl rfl rfl))
  · exact h

end Sys2Proof.Machine
end

section
/-! SUPPORT. Every command keeps the work items and the cash in order, and with it the second halves of O56 and O57. -/

namespace Sys2Proof.Machine

variable {p q : Prop} {s t : State}

theorem State.Orderly.whileRunning {f : State → State} (h : s.Orderly p q) (hf : (f s).Orderly p q) :
    (s.whileRunning f).Orderly p q := by
  unfold State.whileRunning
  split
  · exact hf
  · exact h

/-- An inquiry puts its answer in the node queue, and nothing else. -/
theorem State.Orderly.inquire {k : FrameHeader} {f : State → InquiryAnswer} (h : s.Orderly p q) :
    (s.inquire k f).Orderly p q := h.onAnswered fun _ g => g.pushNode

theorem State.Orderly.loadParams {k : FrameHeader} {l : List (Option Params)} (h : s.Orderly p q) :
    (s.load k paramsRule l).Orderly p q := by
  have happly : paramsRule.apply = State.applyParams := by rw [paramsRule, plainRule]
  refine h.loadAlike fun u e => ?_
  rw [happly]
  exact alike_applyParams u e

/-- Every command completes, and leaves the work items and the cash in order. -/
theorem exec_orderly (c : Instr) (s : State) : ∃ t, exec c s = .next t ∧ (s.Orderly p q → t.Orderly p q) := by
  cases c with
  | powerOn => exact ⟨_, rfl, fun h => h.powerOn⟩
  | powerLoss => exact ⟨_, rfl, fun h => h.powerLoss⟩
  | resetPinAssert => exact ⟨_, rfl, fun h => h.resetAssert⟩
  | resetPinRelease => exact ⟨_, rfl, fun h => h.resetRelease⟩
  | restart => exact ⟨_, rfl, fun h => h.whileRunning (h.onFrame fun _ x => x.restart)⟩
  | dayClockTick =>
    refine ⟨_, rfl, fun h => ?_⟩
    split
    · exact h.tick
    · exact h
  | cycleStart => exact ⟨_, rfl, fun h => h.whileRunning h.cycleStart⟩
  | cycleReturn => exact ⟨_, rfl, fun h => h.whileRunning h.cycleReturn⟩
  | cycleNotBackAtPeriodEnd => exact ⟨_, rfl, fun h => h.whileRunning h.cycleLost⟩
  | announce => exact ⟨_, rfl, fun h => h.whileRunning h.announce⟩
  | noticeNext => exact ⟨_, rfl, fun h => h.whileRunning (h.fromTeller h.noticeNext)⟩
  | txnRequest => exact ⟨_, rfl, fun h => h.whileRunning (h.fromTeller h.takeRequest)⟩
  | cancel => exact ⟨_, rfl, fun h => h.whileRunning (h.fromTeller h.cancel)⟩
  | signOn => exact ⟨_, rfl, fun h => h.whileRunning (h.fromTeller h.signOn)⟩
  | signOff => exact ⟨_, rfl, fun h => h.whileRunning (h.fromTeller h.signOff)⟩
  | unlock => exact ⟨_, rfl, fun h => h.whileRunning (h.fromTeller h.unlock)⟩
  | forceSignOff => exact ⟨_, rfl, fun h => h.whileRunning (h.fromTeller h.forceSignOff)⟩
  | overrideGrant => exact ⟨_, rfl, fun h => h.whileRunning (h.fromTeller h.overrideGrant)⟩
  | overrideDeny => exact ⟨_, rfl, fun h => h.whileRunning (h.fromTeller h.overrideDeny)⟩
  | holdTimerExpiry => exact ⟨_, rfl, fun h => h.whileRunning h.holdExpiry⟩
  | transferOut => exact ⟨_, rfl, fun h => h.whileRunning (h.fromTeller h.transferOut)⟩
  | transferAccept => exact ⟨_, rfl, fun h => h.whileRunning (h.fromTeller h.transferAccept)⟩
  | transferRecall => exact ⟨_, rfl, fun h => h.whileRunning (h.fromTeller h.transferRecall)⟩
  | countDeclare => exact ⟨_, rfl, fun h => h.whileRunning (h.fromTeller h.countDeclare)⟩
  | acceptDifference => exact ⟨_, rfl, fun h => h.whileRunning (h.fromTeller h.acceptDifference)⟩
  | forceBalance => exact ⟨_, rfl, fun h => h.whileRunning (h.fromTeller h.forceBalance)⟩
  | closePropose => exact ⟨_, rfl, fun h => h.whileRunning (h.fromTeller h.closePropose)⟩
  | closeConfirm => exact ⟨_, rfl, fun h => h.whileRunning (h.fromTeller h.closeConfirm)⟩
  | closeWithdraw => exact ⟨_, rfl, fun h => h.whileRunning (h.fromTeller h.closeWithdraw)⟩
  | closeWindowExpiry => exact ⟨_, rfl, fun h => h.whileRunning h.windowExpiry⟩
  | drainEnd => exact ⟨_, rfl, fun h => h.whileRunning h.judgeDrain⟩
  | balancingExit => exact ⟨_, rfl, fun h => h.whileRunning h.judgeExit⟩
  | badFrame =>
    refine ⟨_, rfl, fun h => h.whileRunning ?_⟩
    split
    · exact h
    · exact h.alike (.countBad (.refl _))
  | lineCheck => exact ⟨_, rfl, fun h => h.whileRunning h.lineCheck⟩
  | supervisionTimerExpiry => exact ⟨_, rfl, fun h => h.whileRunning h.supervisionExpiry⟩
  | waitListServing => exact ⟨_, rfl, fun h => h.whileRunning h.serveWaitList⟩
  | txnForwardStart => exact ⟨_, rfl, fun h => h.whileRunning h.forwardStart⟩
  | passbookFetchStart => exact ⟨_, rfl, fun h => h.whileRunning h.fetchStart⟩
  | adviceStart => exact ⟨_, rfl, fun h => h.whileRunning (h.alike (.adviceStart (.refl _)))⟩
  | nodeAnswerStart => exact ⟨_, rfl, fun h => h.whileRunning (h.alike (.answerStart (.refl _)))⟩
  | waitingReportJoin => exact ⟨_, rfl, fun h => h.whileRunning (h.alike (.joinWaiting (.refl _)))⟩
  | batchBlockStart => exact ⟨_, rfl, fun h => h.whileRunning (h.alike (.blockStart (.refl _)))⟩
  | trunkFrameEnd => exact ⟨_, rfl, fun h => h.whileRunning h.frameEndOrRestart⟩
  | txnReply => exact ⟨_, rfl, fun h => h.whileRunning (h.onFrame fun _ x => x.txnReply)⟩
  | fetchReply => exact ⟨_, rfl, fun h => h.whileRunning (h.onFrame fun _ x => x.fetchReply)⟩
  | replyTimerExpiry => exact ⟨_, rfl, fun h => h.whileRunning h.replyExpiry⟩
  | adviceAck => exact ⟨_, rfl, fun h => h.whileRunning (h.onFrame fun _ x => x.adviceOutcome nofun)⟩
  | adviceException => exact ⟨_, rfl, fun h => h.whileRunning (h.onFrame fun _ x => x.adviceOutcome nofun)⟩
  | adviceReplyTimerExpiry => exact ⟨_, rfl, fun h => h.whileRunning (h.alike (.adviceExpiry (.refl _)))⟩
  | inquiryDrawers => exact ⟨_, rfl, fun h => h.whileRunning h.inquire⟩
  | inquiryLink => exact ⟨_, rfl, fun h => h.whileRunning h.inquire⟩
  | inquiryQueues => exact ⟨_, rfl, fun h => h.whileRunning h.inquire⟩
  | inquiryJournal => exact ⟨_, rfl, fun h => h.whileRunning h.inquire⟩
  | inquiryDay => exact ⟨_, rfl, fun h => h.whileRunning h.inquire⟩
  | inquiryDrops => exact ⟨_, rfl, fun h => h.whileRunning h.inquire⟩
  | inquiryPassbook => exact ⟨_, rfl, fun h => h.whileRunning h.inquire⟩
  | inquiryUnknownKind => exact ⟨_, rfl, fun h => h.whileRunning (h.onAnswered fun _ x => x.nodeStatus)⟩
  | maskSet => exact ⟨_, rfl, fun h => h.whileRunning h.maskSet⟩
  | notice => exact ⟨_, rfl, fun h => h.whileRunning h.notice⟩
  | dayStart => exact ⟨_, rfl, fun h => h.whileRunning h.dayStart⟩
  | loadTellers => exact ⟨_, rfl, fun h => h.whileRunning h.loadTellers⟩
  | loadCodes => exact ⟨_, rfl, fun h => h.whileRunning (h.loadAlike alike_applyCode)⟩
  | loadDefinitions => exact ⟨_, rfl, fun h => h.whileRunning (h.loadAlike alike_applyDefinition)⟩
  | loadRoutes => exact ⟨_, rfl, fun h => h.whileRunning (h.loadAlike alike_applyRoute)⟩
  | loadSat => exact ⟨_, rfl, fun h => h.whileRunning h.loadSat⟩
  | loadRates => exact ⟨_, rfl, fun h => h.whileRunning (h.loadAlike alike_applyRates)⟩
  | loadDenominations => exact ⟨_, rfl, fun h => h.whileRunning (h.loadAlike alike_applyDenominations)⟩
  | loadLayout => exact ⟨_, rfl, fun h => h.whileRunning (h.loadAlike alike_applyLayout)⟩
  | loadParameters => exact ⟨_, rfl, fun h => h.whileRunning h.loadParams⟩
  | dayOpen => exact ⟨_, rfl, fun h => h.whileRunning h.dayOpen⟩
  | blockAck => exact ⟨_, rfl, fun h => h.whileRunning (h.onFrame fun _ x => x.blockAck)⟩
  | blockNak => exact ⟨_, rfl, fun h => h.whileRunning (h.onFrame fun _ x => x.blockNak)⟩
  | blockTimerExpiry => exact ⟨_, rfl, fun h => h.whileRunning h.blockExpiry⟩
  | batchResume => exact ⟨_, rfl, fun h => h.whileRunning h.batchResume⟩
  | batchVerdict => exact ⟨_, rfl, fun h => h.whileRunning h.batchVerdict⟩
  | resendBatch => exact ⟨_, rfl, fun h => h.whileRunning h.resendBatch⟩
  | dayEnd => exact ⟨_, rfl, fun h => h.whileRunning h.dayEnd⟩
  | bookPresent => exact ⟨_, rfl, fun h => h.whileRunning (h.fromPrinter h.bookPresent)⟩
  | lineDone => exact ⟨_, rfl, fun h => h.whileRunning (h.fromPrinter h.lineDone)⟩
  | pageReady => exact ⟨_, rfl, fun h => h.whileRunning (h.fromPrinter h.pageReady)⟩
  | printerFault => exact ⟨_, rfl, fun h => h.whileRunning (h.fromPrinter h.printerFaultAt)⟩
  | answerTimerExpiry => exact ⟨_, rfl, fun h => h.whileRunning h.answerTimerExpiry⟩

/-- The queue of waiting commands is read by no invariant, so a step leaves in order what its command does. -/
theorem step_orderly (hs : s.Orderly p q) (h : step s = .next t) : t.Orderly p q := by
  have hpending : ∀ l : List Instr, ({ s with pending := l } : State).Orderly p q := fun l =>
    hs.alike ⟨rfl, rfl, rfl, rfl, rfl, rfl, fun _ => le_rfl, rfl, rfl, rfl, rfl, nets_congr rfl rfl rfl rfl⟩
  unfold step at h
  split at h
  · cases h
    exact hs
  · next c rest _ =>
    obtain ⟨v, hv, hk⟩ := exec_orderly (p := p) (q := q) c { s with pending := rest }
    obtain rfl : v = t := by rw [hv] at h; cases h; rfl
    exact hk (hpending rest)

/-- Settles O56: the journal's numbering is kept by `Keeps`; the nets, with the attended work they rest on, are kept by
every command's rule of `Orderly`. -/
theorem stepKeepsTheJournalNumbered : Obligations.StepKeepsTheJournalNumbered := by
  unfold Obligations.StepKeepsTheJournalNumbered
  refine ⟨fun s t hs h => step_keeps_journal hs h, fun s t hj hw hn h => ?_⟩
  have hs : s.Orderly True False := ⟨hw, fun _ => ⟨hj, hn⟩, False.elim, False.elim⟩
  have ht := step_orderly hs h
  obtain ⟨hjournal, hnets⟩ := ht.nets trivial
  exact ⟨hjournal, ht.attended, hnets⟩

/-- Settles O57: the cash is accounted for by `Keeps`; the covered cash, with the work placed and attended that it rests
on, is kept by every command's rule of `Orderly`. -/
theorem stepConservesCash : Obligations.StepConservesCash := by
  unfold Obligations.StepConservesCash
  refine ⟨fun s t hs h => step_keeps_cash hs h, fun s t hw hp hc h => ?_⟩
  have hs : s.Orderly False True := ⟨hw, False.elim, fun _ => (placed_iff hw).1 hp, fun _ => (covered_iff hw).1 hc⟩
  have ht := step_orderly hs h
  exact ⟨ht.attended, (placed_iff ht.attended).2 (ht.placed trivial), (covered_iff ht.attended).2 (ht.covered trivial)⟩

end Sys2Proof.Machine
end
